-- ==== Sys2Proof/Word.lean ====
section
/-! DEFINITION. The word types of the PW8 model, its plainest bit arithmetic, and the sparse map in canonical form
that holds registers, memory and contexts. -/

namespace Sys2Proof

/-- A register word (R10: every register is 32 bits wide). -/
abbrev Word := BitVec 32

/-- A byte of memory. -/
abbrev Byte := BitVec 8

/-- A sparse map: (key, value) pairs with keys strictly rising and no entry equal to the value an unlisted key reads
as. Equal maps are equal lists. -/
abbrev SMap (α : Type) := List (Nat × α)

/-- The value at `k`; an unlisted key reads as `d k`. -/
def SMap.get {α : Type} (d : Nat → α) : SMap α → Nat → α
  | [], k => d k
  | (j, v) :: r, k => if j = k then v else SMap.get d r k

/-- The map with every entry at `k` removed. -/
def SMap.del {α : Type} (k : Nat) : SMap α → SMap α
  | [] => []
  | (j, v) :: r => if j = k then SMap.del k r else (j, v) :: SMap.del k r

/-- The map with `v` listed at `k`, whatever an unlisted key reads as. -/
def SMap.ins {α : Type} (k : Nat) (v : α) : SMap α → SMap α
  | [] => [(k, v)]
  | (j, w) :: r =>
    if j = k then (k, v) :: r else if k < j then (k, v) :: (j, w) :: r else (j, w) :: SMap.ins k v r

/-- Write `v` at `k`, keeping the canonical form: the value an unlisted key reads as removes the entry. -/
def SMap.set {α : Type} [DecidableEq α] (d : Nat → α) (m : SMap α) (k : Nat) (v : α) : SMap α :=
  if v = d k then SMap.del k m else SMap.ins k v m

/-- Every key of the map is above `lo` and the keys rise strictly. -/
def SMap.rising {α : Type} : Option Nat → SMap α → Bool
  | _, [] => true
  | none, (j, _) :: r => SMap.rising (some j) r
  | some i, (j, _) :: r => decide (i < j) && SMap.rising (some j) r

/-- The canonical form: keys strictly rising, and no entry equal to what an unlisted key reads as. -/
def SMap.wf {α : Type} [DecidableEq α] (d : Nat → α) (m : SMap α) : Bool :=
  SMap.rising none m && m.all (fun p => decide (p.2 ≠ d p.1))

/-- Bits `lo` to `lo + w - 1` of a number. -/
def bitsOf (v lo w : Nat) : Nat := v / 2 ^ lo % 2 ^ w

/-- `v` with bits `lo` to `lo + w - 1` replaced by the low `w` bits of `x`. -/
def setBits (v lo w x : Nat) : Nat :=
  v - bitsOf v lo w * 2 ^ lo + x % 2 ^ w * 2 ^ lo

/-- Two's complement reading of the low `w` bits of `v`. -/
def signed (w v : Nat) : Int :=
  if v % 2 ^ w < 2 ^ (w - 1) then (v % 2 ^ w : Nat) else (v % 2 ^ w : Nat) - (2 ^ w : Nat)

/-- The low `w` bits of the two's complement of an integer. -/
def unsigned (w : Nat) (v : Int) : Nat := (v % (2 ^ w : Nat)).toNat

/-- Ceiling of a quotient of naturals. -/
def ceilDiv (a b : Nat) : Nat := (a + b - 1) / b

/-- `n` bytes of a natural, least significant first (R9). -/
def bytesLE : Nat → Nat → List Byte
  | 0, _ => []
  | n + 1, v => BitVec.ofNat 8 v :: bytesLE n (v / 256)

/-- The natural that a little-endian byte list spells (R9). -/
def ofBytesLE : List Byte → Nat
  | [] => 0
  | b :: r => b.toNat + 256 * ofBytesLE r

/-- `n` bytes of a natural, most significant first (R8). -/
def bytesBE (n v : Nat) : List Byte := (bytesLE n v).reverse

/-- The natural that a big-endian byte list spells (R8). -/
def ofBytesBE (bs : List Byte) : Nat := ofBytesLE bs.reverse

/-- Bytes `off` to `off + n - 1` of a list. -/
def slice (bs : List Byte) (off n : Nat) : List Byte := (bs.drop off).take n

/-- A rational number as numerator over a positive denominator, not reduced. Every comparison is exact. -/
structure Q where
  num : Int
  den : Nat
  deriving DecidableEq, Repr

def Q.ofNat (n : Nat) : Q := ⟨n, 1⟩
/-- A quotient of naturals; a zero denominator counts as 1. -/
def Q.frac (a b : Nat) : Q := ⟨a, if b = 0 then 1 else b⟩
def Q.plus (a b : Q) : Q := ⟨a.num * b.den + b.num * a.den, a.den * b.den⟩
def Q.minus (a b : Q) : Q := ⟨a.num * b.den - b.num * a.den, a.den * b.den⟩
def Q.times (a b : Q) : Q := ⟨a.num * b.num, a.den * b.den⟩
/-- Division by a natural; by zero counts as by 1. -/
def Q.over (a : Q) (k : Nat) : Q := ⟨a.num, a.den * (if k = 0 then 1 else k)⟩
def Q.le (a b : Q) : Bool := decide (a.num * b.den ≤ b.num * a.den)
def Q.lt (a b : Q) : Bool := decide (a.num * b.den < b.num * a.den)
def Q.max (a b : Q) : Q := if a.le b then b else a
def Q.min (a b : Q) : Q := if a.le b then a else b
def Q.floor (a : Q) : Int := a.num / (a.den : Int)
/-- The same rational in lowest terms. -/
def Q.norm (a : Q) : Q :=
  let g := Nat.gcd a.num.natAbs a.den
  if g = 0 then a else ⟨a.num / (g : Int), a.den / g⟩
/-- `x` held between two bounds, the lower one winning. -/
def Q.clamp (x lo hi : Q) : Q := Q.max lo (Q.min x hi)
def Q.ceil (a : Q) : Int := -((-a.num) / (a.den : Int))

/-- `x` put into a list before the first element it is `le` of. -/
def insertBy {α : Type} (le : α → α → Bool) (x : α) : List α → List α
  | [] => [x]
  | y :: r => if le x y then x :: y :: r else y :: insertBy le x r

/-- A list sorted by `le`, stable. -/
def sortBy {α : Type} (le : α → α → Bool) : List α → List α
  | [] => []
  | x :: r => insertBy le x (sortBy le r)

/-- `n` rounded up to a multiple of `k`. -/
def roundUp (n k : Nat) : Nat := ceilDiv n k * k

/-- The positions below `n` whose bit is set in `v`, in ascending order. -/
def setBitsOf (n v : Nat) : List Nat := (List.range n).filter (fun k => v.testBit k)

end Sys2Proof
end

