-- ==== Sys2Proof/Syntax.lean ====
section
/-! DEFINITION. The commands of the PW8, one constructor of Instr for each row of spec/opcode_table.json, with the
operands each carries. Every command carries dt: the device time that passes before it, in units of 2^-16 ns (R7). -/

namespace Sys2Proof

/-! ### Control messages (R325 to R341) -/

/-- A host certificate (R319): `body` is bytes 0 to 119, which hold its fields, and `sig` the 96 bytes of OWNER_SIG. -/
structure Cert where
  body : List Byte
  sig  : List Byte
  deriving DecidableEq, Repr

/-- One staged register-write entry or image register-write record (R336, R476). -/
structure RegEntry where
  off  : Nat
  mask : Nat
  val  : Nat
  deriving DecidableEq, Repr

/-- The body of one control request (R330 to R341). `app` gives what an APP partner answers in each data cycle of an
access to the APP window (none: APP_ACK times out, R392). -/
inductive Msg where
  | close
  | read (addr count : Nat) (app : List (Option Nat))
  | write (addr : Nat) (words : List Nat) (app : List (Option Nat))
  | maskedWrite (addr mask val : Nat)
  | ringWrite (ring index : Nat) (entries : List (List Byte))
  | doorbell (ring tail : Nat)
  | lock (leaseMs : Nat)
  | stage (entries : List RegEntry)
  | commit (lantern : Option (List Byte))
  | unlock
  | persist (kind record : Nat) (data : List Byte)
  | attest (nonce : List Byte)
  | badType (type : Nat)
  | badLength (type : Nat)
  deriving DecidableEq, Repr

/-- Why a protected message is no request of R325: its TYPE is unknown or the device's own, or its body's length disagrees
with its type. -/
inductive Malformed where
  | type (code : Nat)
  | length (code : Nat)
  deriving DecidableEq, Repr

/-- Where a control message comes from: address family, address, UDP port and link-layer source, and the address of the PW8
that it was sent to (R319). -/
structure Peer where
  ipv6 : Bool
  ip   : Nat
  udp  : Nat
  mac  : Nat
  dst  : Nat
  deriving DecidableEq, Repr

/-- The body of a member's KEEPALIVE (R521). -/
structure KaBody where
  timState : Nat
  fltState : Nat
  live     : Bool
  offset   : Int
  warmResets : Nat
  bootSeq  : Nat
  deriving DecidableEq, Repr

/-- A request with its gang addressing: a plain request, or a GANG_RELAY to a member (R341). -/
inductive Req where
  | own (m : Msg)
  | relay (device : Nat) (m : Msg)
  deriving DecidableEq, Repr

/-! ### Coded pictures (R74 to R77, R103) -/

/-- A rectangle of luma samples. -/
structure Rect where
  x : Nat
  y : Nat
  w : Nat
  h : Nat
  deriving DecidableEq, Repr

/-- What the syntax sequencer reads of a coded sequence (R74 to R77): profile 0 Main, 1 Main 10, 2 Main 4:2:2 10,
3 Main 4:4:4 10 (HEVC); 0 Main, 1 High (AV1); other values are not supported. `depth` counts bits and `level` tenths; `ops` holds
operating_point_idc of each AV1 operating point. -/
structure Sequence where
  profile : Nat
  chroma : Nat
  depth : Nat
  badTool : Bool
  level : Nat
  dpb : Nat
  ops : List Nat
  deriving DecidableEq, Repr

/-- One reference the bitstream names: its position where the bitstream gives one, and its AV1 reference slot. -/
structure RefUse where
  pos : Option Int
  slot : Nat
  deriving DecidableEq, Repr

/-- The parallel units of a picture (R86): CTU rows of HEVC with WPP, or tiles with the CTUs or superblocks of each, in tile-scan
order; a picture without parallel tools is one tile. -/
inductive PicParts where
  | rows (n : Nat)
  | tiles (sizes : List Nat)
  deriving DecidableEq, Repr

/-- What the syntax sequencer reads of one coded picture, and the damage it meets in it (R76, R84, R98, R103). -/
structure Pic where
  /-- A sequence activated or received with this picture. -/
  seq : Option Sequence
  /-- The picture starts a coded video sequence (HEVC) or is an AV1 key frame. -/
  newSeq : Bool
  /-- A random access point of R111: IDR, BLA, CRA, or a key frame with show_frame = 1. -/
  rap : Bool
  /-- A CRA picture; a RASL picture. -/
  cra : Bool
  rasl : Bool
  /-- Not a non-reference picture of R88. -/
  isRef : Bool
  /-- PicOrderCntVal or order hint; none when an AV1 sequence has enable_order_hint = 0. -/
  pos : Option Int
  /-- Bits of an AV1 order hint, for the wrap rule of R104. -/
  hintBits : Nat
  refs : List RefUse
  /-- HEVC: positions the reference picture set keeps. -/
  keep : List Int
  /-- AV1: reference slots the frame refreshes. -/
  refresh : List Nat
  /-- AV1 show_existing_frame: the slot shown. -/
  showExisting : Option Nat
  /-- The picture is output, and how many pictures may wait for output after it. -/
  shown : Bool
  reorder : Nat
  /-- AV1: temporal and spatial layer (R76). The record holds another picture after this one. -/
  temporal : Nat
  spatial : Nat
  more : Bool
  /-- Coded width, before AV1 superres; decoded size, and output window. -/
  coded : Nat
  width : Nat
  height : Nat
  outW : Nat
  outH : Nat
  cropX : Nat
  cropY : Nat
  primaries : Nat
  transfer : Nat
  matrix : Nat
  fullRange : Bool
  field : Bool
  grain : Bool
  parts : PicParts
  /-- Regions wholly lost, regions with corrupt syntax, and corrupt picture-level data, of which the headers can be recovered or
  not (R103, R107). -/
  lost : List Rect
  corrupt : List Rect
  badHeader : Bool
  recovered : Bool
  deriving DecidableEq, Repr

/-- A motion vector of a prediction block: the reference (0 the newest picture, 1 the one before), the vector in quarter samples, and
the block in luma samples (R138, R139). -/
structure MotionVec where
  ref : Nat
  dx : Int
  dy : Int
  x : Nat
  y : Nat
  w : Nat
  h : Nat
  deriving DecidableEq, Repr

/-- A skip, merge or inter candidate of a coding unit: its cost, its vectors, the merge and AMVP vectors it was searched around, and
its bits (R138, R140). -/
structure InterCand where
  cost : Nat
  vectors : List MotionVec
  around : List (Int × Int)
  bits : List Bool
  deriving DecidableEq, Repr

/-- An intra candidate of a coding unit: its mode (0 planar, 1 DC, 2 to 34 angular), its SATD, its rate-distortion cost, and its bits
(R140). -/
structure IntraCand where
  mode : Nat
  satd : Nat
  cost : Nat
  bits : List Bool
  deriving DecidableEq, Repr

/-- What an encode engine evaluates for one coding unit: its size, its candidates at the QP of its CTU, and which of equal ones it
takes (R140). -/
structure CuCode where
  size : Nat
  skip : Option InterCand
  merge : Option InterCand
  inter : Option InterCand
  intra : List IntraCand
  pick : Nat
  deriving DecidableEq, Repr

/-- The result of a replayed picture: its context, and the EPOCH it carries (R91, R116). -/
structure Replayed where
  ctx : Fin 256
  epoch : BitVec 8
  deriving DecidableEq, Repr

/-- One CTU: its coding units, and its bits in a fallback row (R146). -/
structure CtuCode where
  cus : List CuCode
  fallback : List Bool
  deriving DecidableEq, Repr

/-- What an encode engine evaluates for one tile, by CTU rows: the candidates that the rules of R139 to R146 choose from. -/
structure TileCode where
  rows : List (List CtuCode)
  deriving DecidableEq, Repr

/-- Header fields of a received PTP message (R227 to R232): version, domain, transport (TIM_CTL.TRANSPORT coding),
whether its other fields are those of the profile, sequence number, correction in units of 2^-16 ns, source, twoStepFlag and
logMessageInterval. -/
structure PtpHdr where
  version : Nat
  domain : Nat
  transport : Nat
  ok : Bool
  seq : Nat
  corr : Int
  srcId : Nat
  srcPort : Nat
  twoStep : Bool
  log : Int
  deriving DecidableEq, Repr

/-- The grandmaster data of an Announce (R229). -/
structure AnnounceBody where
  prio1 : Nat
  cls : Nat
  acc : Nat
  var : Nat
  prio2 : Nat
  gmId : Nat
  steps : Nat
  utc : Nat
  deriving DecidableEq, Repr

/-- The commands: one constructor for each row of spec/opcode_table.json, in its order. `dt` is the device time that
passes before the command, in units of 2^-16 ns. What only the world outside the block decides (the bytes of a frame, the
outcome of an engine, a reading, the result of a tag check) is an operand. -/
inductive Instr where
  | porstNRelease (dt : Nat)
  | sysrstNLow (dt : Nat)
  | warm (dt : Nat)
  | warmResetDelayExpiry (dt : Nat)
  | vaonLow (dt : Nat)
  | railOutOfRange (dt : Nat) (rail : Fin 7)
  | railBackInRange (dt : Nat) (rail : Fin 7)
  | refclkEthLost (dt : Nat) (p : Fin 4)
  | refclkEthReturn (dt : Nat) (p : Fin 4)
  | refclkMemLost (dt : Nat)
  | fusesRead (dt : Nat)
  | selectDone (dt : Nat) (cs0 cs1 : Option (Nat × Nat))
  | verifyDone (dt : Nat) (readOk fuseOk : Bool)
  | loadDone (dt : Nat) (readOk : Bool)
  | dramTrainingDone (dt : Nat) (pass : BitVec 8)
  | blobsDone (dt : Nat) (readOk : Bool) (badCurves : List Nat)
  | runEntry (dt : Nat)
  | rxFrame (dt : Nat) (l : Fin 16) (frame : List Byte) (fcsOk both : Bool)
  | pause (dt : Nat) (l : Fin 16) (quanta : BitVec 16)
  | pauseExpiry (dt : Nat) (l : Fin 16)
  | arpRequest (dt : Nat) (l : Fin 16) (src : List Byte) (senderIp targetIp : Nat)
  | neighbourSolicitation (dt : Nat) (l : Fin 16) (src : List Byte) (senderIp targetIp : Nat) (conflict : Bool)
  | echoRequest (dt : Nat) (l : Fin 16) (src : List Byte) (ipv6 : Bool) (senderIp targetIp : Nat) (body : List Byte)
  | membershipQuery (dt : Nat) (l : Fin 16) (ipv6 : Bool) (group : Option Nat) (sources : List Nat) (version : Nat)
  | unsolicitedReport (dt : Nat)
  | linkChange (dt : Nat) (l : Fin 16) (up : Bool)
  | fecUncorrectable (dt : Nat) (p : Fin 4) (lane : Fin 4)
  | portEnable (dt : Nat) (l : Fin 16)
  | portDisable (dt : Nat) (l : Fin 16)
  | portIdle (dt : Nat) (l : Fin 16)
  | ingestItem (dt : Nat) (n : Fin 256) (stray : Bool) (ptr : BitVec 64) (before after : Bool)
  | bankDrainStart (dt : Nat) (n : Fin 256)
  | drainResume (dt : Nat) (n : Fin 256)
  | bankDrained (dt : Nat) (n : Fin 256)
  | bufferWaitResume (dt : Nat) (t : Fin 4096)
  | pictureDispatch (dt : Nat) (n : Fin 256) (pic : Pic)
  | picturePartDone (dt : Nat) (n : Fin 256) (e : Fin 16) (epoch : BitVec 8)
  | engineFailure (dt : Nat) (n : Fin 256) (e : Fin 16)
  | engineCompletionTimeout (dt : Nat) (n : Fin 256) (e : Fin 16)
  | decEngineReturn (dt : Nat) (e : Fin 16)
  | storeCheckDone (dt : Nat) (store : Fin 20) (ok : Bool)
  | forecastRefresh (dt : Nat)
  | decRateWindow (dt : Nat)
  | rewindTrigger (dt : Nat) (n : Fin 256) (slot : Option Nat)
  | replayPictureDone (dt : Nat) (r : Replayed)
  | encSourcePicture (dt : Nat) (n : Fin 64)
  | encSourceCopyDone (dt : Nat) (n : Fin 64)
  | encPictureDispatch (dt : Nat) (n : Fin 64) (leading : Bool)
  | encTileDone (dt : Nat) (n : Fin 64) (e : Fin 4) (epoch : BitVec 8) (tile : Nat) (code : TileCode)
  | encEngineFailure (dt : Nat) (n : Fin 64) (e : Fin 4)
  | encEngineTimeout (dt : Nat) (n : Fin 64) (e : Fin 4)
  | encRtpPacket (dt : Nat) (n : Fin 64)
  | forceIdr (dt : Nat) (n : Fin 64)
  | encBsbRdWrite (dt : Nat) (n : Fin 64) (val : Word)
  | encEngineReturn (dt : Nat) (e : Fin 4)
  | canvasLatch (dt : Nat) (c : Fin 4)
  | canvasFrameStart (dt : Nat) (c : Fin 4)
  | tilePieceComposed (dt : Nat) (c : Fin 4) (badBrick : Bool)
  | dirty (dt : Nat) (g : Fin 48)
  | lanternNChange (dt : Nat) (low : Bool)
  | lanternAlarmFilter (dt : Nat)
  | lanternHashCheckDone (dt : Nat)
  | pieceCalibrated (dt : Nat) (badUnits : List Nat)
  | curveReadsDone (dt : Nat) (readOk : Bool)
  | frameBoundary (dt : Nat) (g : Fin 64)
  | sync (dt : Nat) (l : Fin 16) (hdr : PtpHdr) (origin : Nat)
  | followUp (dt : Nat) (l : Fin 16) (hdr : PtpHdr) (origin : Nat)
  | delayReq (dt : Nat) (l : Fin 16) (hdr : PtpHdr)
  | delayResp (dt : Nat) (l : Fin 16) (hdr : PtpHdr) (receive : Nat) (reqId reqPort : Nat)
  | announce (dt : Nat) (l : Fin 16) (hdr : PtpHdr) (body : AnnounceBody)
  | announceReceiptTimeout (dt : Nat) (l : Fin 16)
  | syncInterval (dt : Nat) (l : Fin 16)
  | announceInterval (dt : Nat) (l : Fin 16)
  | delayReqInterval (dt : Nat) (l : Fin 16)
  | ppsEdge (dt : Nat)
  | ppsTimeout (dt : Nat)
  | timeRefChange (dt : Nat) (freq : Nat)
  | holdoverExpiry (dt : Nat)
  | timSnap (dt : Nat)
  | timSet (dt : Nat)
  | tpoCtlWrite (dt : Nat) (i : Fin 8) (val : Word)
  | tpoEnableTakesEffect (dt : Nat) (i : Fin 8)
  | tpoEdge (dt : Nat) (i : Fin 8)
  | tpoPulseEnd (dt : Nat) (i : Fin 8)
  | tciEdge (dt : Nat) (i : Fin 8) (rising : Bool)
  | pop (dt : Nat) (i : Fin 8)
  | segmentIdle (dt : Nat) (g : Fin 64)
  | acceptWindowOpen (dt : Nat) (t : Fin 4096)
  | calendarWheelRelease (dt : Nat) (slot : Fin 8192)
  | overflowListMove (dt : Nat)
  | framePassesToPort (dt : Nat) (l : Fin 16) (badBuffer : Bool)
  | segmentDeadline (dt : Nat) (g : Fin 64)
  | tileConfigRepeat (dt : Nat) (t : Fin 4096)
  | tileConfigResend (dt : Nat) (t : Fin 4096)
  | tileStatus (dt : Nat) (l : Fin 16) (packet : List Byte) (srcMac : Nat) (srcIp : Nat)
  | receiverSilent (dt : Nat) (t : Fin 4096)
  | dramRequest (dt : Nat) (owner : Fin 29) (addr : Nat) (data : Option (List Byte))
  | dramIssue (dt : Nat) (ch : Fin 8) (ready : BitVec 32)
  | dramReadReturn (dt : Nat) (ch : Fin 8) (error : Fin 3) (link : Bool)
  | panicChange (dt : Nat) (owner : Fin 29) (fill : Fin 65)
  | refreshDue (dt : Nat) (ch : Fin 8)
  | retrainDue (dt : Nat) (ch : Fin 8) (temp : Int)
  | retrainStepDone (dt : Nat)
  | retrainOverdue (dt : Nat) (ch : Fin 8)
  | arbGrant (dt : Nat) (a : Fin 25) (requests : BitVec 32)
  | arbHoldCutoff (dt : Nat) (a : Fin 25) (requests : BitVec 32)
  | freeze (dt : Nat) (a : Fin 25) (on : Bool)
  | hello (dt : Nat) (port : Fin 16) (peer : Peer) (nonce eph : List Byte) (cert : Cert)
  | finish (dt : Nat) (slot : Fin 16) (sig : List Byte)
  | setupTimeout (dt : Nat) (slot : Fin 16)
  | close (dt : Nat) (slot : Fin 16) (seq : Nat) (auth : Bool) (malformed : Option Malformed)
  | sessionCloseCmd (dt : Nat) (slot : Fin 16)
  | sessionIdleTimeout (dt : Nat) (slot : Fin 16)
  | read (dt : Nat) (slot : Fin 16) (seq : Nat) (auth : Bool) (addr count : Nat) (app : List (Option Nat))
  | write (dt : Nat) (slot : Fin 16) (seq : Nat) (auth : Bool) (addr : Nat) (words : List Word) (app : List (Option Nat))
  | registerWrite (dt : Nat) (off : Nat) (mask val : Word)
  | maskedWrite (dt : Nat) (slot : Fin 16) (seq : Nat) (auth : Bool) (addr : Nat) (mask val : Word)
  | ringWrite (dt : Nat) (slot : Fin 16) (seq : Nat) (auth : Bool) (ring index : Nat) (entries : List (List Byte))
  | doorbell (dt : Nat) (slot : Fin 16) (seq : Nat) (auth : Bool) (ring tail : Nat)
  | lock (dt : Nat) (slot : Fin 16) (seq : Nat) (auth : Bool) (leaseMs : Nat)
  | stage (dt : Nat) (slot : Fin 16) (seq : Nat) (auth : Bool) (entries : List RegEntry)
  | commit (dt : Nat) (slot : Fin 16) (seq : Nat) (auth : Bool) (lantern : Option (List Byte))
  | unlock (dt : Nat) (slot : Fin 16) (seq : Nat) (auth : Bool)
  | leaseExpiry (dt : Nat)
  | seqGapTimer (dt : Nat) (slot : Fin 16)
  | persist (dt : Nat) (slot : Fin 16) (seq : Nat) (auth : Bool) (kind record : Nat) (data : List Byte)
  | recordWriteStart (dt : Nat)
  | recordWriteDone (dt : Nat) (ok : Bool)
  | logWriteStart (dt : Nat)
  | attest (dt : Nat) (slot : Fin 16) (seq : Nat) (auth : Bool) (nonce : List Byte)
  | attestReportReady (dt : Nat)
  | gangRelay (dt : Nat) (slot : Fin 16) (seq : Nat) (auth : Bool) (device : Nat) (msg : Msg)
  | eventMessage (dt : Nat) (sink : Fin 16)
  | ringEnable (dt : Nat) (r : Fin 1024)
  | ringDisable (dt : Nat) (r : Fin 1024)
  | ringHeadWrite (dt : Nat) (r : Fin 1024) (val : Word)
  | ringNop (dt : Nat) (r : Fin 1024) (readOk : Bool)
  | runInline (dt : Nat) (r : Fin 1024) (readOk : Bool)
  | runChain (dt : Nat) (r : Fin 1024) (readOk : Bool)
  | dmaEnable (dt : Nat) (n : Fin 4096)
  | dmaDisable (dt : Nat) (n : Fin 4096)
  | halt (dt : Nat) (n : Fin 4096)
  | resume (dt : Nat) (n : Fin 4096)
  | arm (dt : Nat) (n : Fin 4096)
  | descriptorFetched (dt : Nat) (n : Fin 4096) (readOk : Bool) (bad : Option Nat)
  | descriptorRetired (dt : Nat) (n : Fin 4096)
  | requestLine (dt : Nat) (line : Fin 272)
  | dmaFrameBuilt (dt : Nat) (n : Fin 4096)
  | dmaChannelIdle (dt : Nat) (n : Fin 4096)
  | appTransaction (dt : Nat) (n : Fin 4096) (data : List Word)
  | appTimeout (dt : Nat) (n : Fin 4096)
  | appDreq (dt : Nat) (k : Fin 16)
  | appDreqFall (dt : Nat) (k : Fin 16)
  | almEnable (dt : Nat) (q : Fin 4)
  | almDisable (dt : Nat) (q : Fin 4)
  | almStoreWrite (dt : Nat) (store : Fin 4) (word : Fin 8192) (i : Fin 4) (val : Word)
  | nop (dt : Nat) (q : Fin 4)
  | wri (dt : Nat) (q : Fin 4)
  | wrg (dt : Nat) (q : Fin 4)
  | rdg (dt : Nat) (q : Fin 4)
  | ldi (dt : Nat) (q : Fin 4)
  | addi (dt : Nat) (q : Fin 4)
  | addg (dt : Nat) (q : Fin 4)
  | andi (dt : Nat) (q : Fin 4)
  | cmp (dt : Nat) (q : Fin 4)
  | tnow (dt : Nat) (q : Fin 4)
  | tset (dt : Nat) (q : Fin 4)
  | tadd (dt : Nat) (q : Fin 4)
  | tseg (dt : Nat) (q : Fin 4)
  | post (dt : Nat) (q : Fin 4)
  | cqpop (dt : Nat) (q : Fin 4)
  | raise (dt : Nat) (q : Fin 4)
  | dreq (dt : Nat) (q : Fin 4)
  | almTimeWaitEnd (dt : Nat) (q : Fin 4)
  | almHsSet (dt : Nat) (mask : Word)
  | almHsClr (dt : Nat) (mask : Word)
  | storeScrub (dt : Nat) (store : Fin 20) (word : Fin 8192) (double : Bool)
  | deliveryAttempt (dt : Nat)
  | eventRingWrite (dt : Nat) (tgt : Fin 8)
  | eventRingHeadWrite (dt : Nat) (tgt : Fin 8) (val : Word)
  | eventRouteWrite (dt : Nat) (n : Fin 1024) (val : Word)
  | faultStatusClear (dt : Nat) (n : Fin 256)
  | returnPipe (dt : Nat) (c : Fin 4)
  | returnPort (dt : Nat) (l : Fin 16)
  | returnMover (dt : Nat) (m : Fin 32)
  | sramError (dt : Nat) (double : Bool) (unit : BitVec 16)
  | paceMeasurement (dt : Nat) (periods : List (Option Nat))
  | paceMonitorStale (dt : Nat)
  | avsDecision (dt : Nat)
  | avsFrameDone (dt : Nat) (ok : Bool)
  | avsReadback (dt : Nat) (volts amps : Nat) (ok : Bool)
  | avsCeiling (dt : Nat)
  | paceBelowRating (dt : Nat)
  | tempUpdate (dt : Nat) (temps : List (Option Int))
  | tempSensorStale (dt : Nat)
  | erase (dt : Nat)
  | program (dt : Nat)
  | nvmRead (dt : Nat)
  | nvmCommit (dt : Nat)
  | nvmOpDone (dt : Nat) (ok : Bool)
  | recordRead (dt : Nat)
  | recordReadDone (dt : Nat) (ok : Bool)
  | keyLoad (dt : Nat)
  | advance (dt : Nat)
  | fuseStepDone (dt : Nat) (ok : Bool)
  | openDebug (dt : Nat)
  | debugAccessOpened (dt : Nat)
  | extest (dt : Nat) (shiftIn : List Bool)
  | samplePreload (dt : Nat) (pins : List Bool) (shiftIn : List Bool)
  | idcode (dt : Nat)
  | highz (dt : Nat)
  | clamp (dt : Nat)
  | secreg (dt : Nat) (shiftIn : BitVec 49)
  | bypass (dt : Nat) (bit : Bool)
  | gangAccept (dt : Nat) (peer : Fin 64) (linkId : Nat) (nonce eph idPub sig : List Byte)
  | gangAcceptSend (dt : Nat) (peer : Fin 64)
  | relayReq (dt : Nat) (peer : Fin 64) (seq reqId : Nat) (auth : Bool) (hostId slot : Nat) (msg : Msg)
  | relayReply (dt : Nat) (peer : Fin 64) (seq reqId : Nat) (auth : Bool) (status done : Nat) (data : List Byte)
  | relayRetry (dt : Nat) (peer : Fin 64)
  | sessionEnd (dt : Nat) (peer : Fin 64) (seq : Nat) (auth : Bool) (slot : Nat)
  | keepalive (dt : Nat) (peer : Fin 64) (seq : Nat) (auth : Bool) (body : KaBody)
  | keepaliveSend (dt : Nat) (peer : Fin 64)
  | peerLost (dt : Nat) (peer : Fin 64)
  | gpioEdge (dt : Nat) (g : Fin 16) (high : Bool)
  | porstNLow (dt : Nat)
  | sysrstNHigh (dt : Nat)
  | refclkMemReturn (dt : Nat)
  | testLogicReset (dt : Nat)
  deriving DecidableEq, Repr

end Sys2Proof
end

