-- ==== Sys2Proof/Decode.lean ====
section
/-! DEFINITION. The commands that words spell. Every row of spec/opcode_table.json has an empty list of bit fields: the
commands come from outside the block, and no word spells one. -/

namespace Sys2Proof

/-- The command that the table's bits spell: none, as no row gives any bits. -/
def decodeTableWord (_nbits _w : Nat) : Option Instr := none

end Sys2Proof
end

