-- ==== Sys2Proof/Config.lean ====
section
/-! DEFINITION. What the spec leaves open, as opaque constants (free values), the cryptographic functions the spec
names by their standards, and the constants an implementation fixes. Nothing in Lean can evaluate an opaque constant,
so a statement about one holds whatever it is. -/

namespace Sys2Proof

/-! ### Free values: applied to a counter of State, so that each use is a fresh value -/

/-- A free byte of memory (R2, R384, R387, R463: bytes the spec leaves undefined). Log entry 4. -/
opaque Config.freeByte : Nat → Byte

/-- The free contents of DRAM after a warm reset (R463): reset number and device address. Log entry 4. -/
opaque Config.freeMemory : Nat → Nat → Byte

/-- A free natural number, used where a result is undefined (R2). Log entry 4. -/
opaque Config.freeNat : Nat → Nat

/-- A free bit (R2). Log entry 4. -/
opaque Config.freeBool : Nat → Bool

/-- The bytes the on-die random source gives at a draw: nonces, ephemeral keys, challenges (R321, R334, R505, R517).
Log entry 5. -/
opaque Config.random : Nat → Nat → List Byte

/-! ### Cryptographic functions, named by the spec and defined by their standards (log entry 6) -/

/-- SHA-384. -/
opaque Config.sha384 : List Byte → List Byte

/-- ECDSA P-384 with SHA-384: does the signature (third) over the bytes (second) verify with the public key (first)? -/
opaque Config.ecdsaVerify : List Byte → List Byte → List Byte → Bool

/-- ECDSA P-384 signature with the device's identity scalar over the bytes. -/
opaque Config.identitySign : List Byte → List Byte

/-- HKDF-SHA-384 of an ECDH shared secret: device draw, peer public key, salt, info, output length (R322, R517). -/
opaque Config.hkdfEcdh : Nat → List Byte → List Byte → List Byte → Nat → List Byte

/-- R499 steps 1 to 3: the plaintext of a wrapped-key record, or none when its tag fails. -/
opaque Config.unwrapKey : List Byte → Option (List Byte)

/-- R416, R475: what a Spadouk microcode container holds when its signature verifies under the Spadouk microcode key: codec
(0 HEVC, 1 AV1), base word, version, and its 96-bit microwords. The container's layout is not documented. -/
opaque Config.ucode : List Byte → Option (Nat × Nat × Nat × List Nat)

/-- R150: an RTP payload protected by SRTP with AEAD AES-GCM: key and salt, packet index, RTP header, payload. -/
opaque Config.srtpProtect : List Byte → Nat → List Byte → List Byte → List Byte

/-- R48: the RTP payload that a protected one stands for, or none when its tag fails: key and salt, packet index, RTP header,
protected payload. -/
opaque Config.srtpOpen : List Byte → Nat → List Byte → List Byte → Option (List Byte)

/-- R323: AES-256-GCM of a body: key, 12-byte nonce, additional data, body; the result ends in the 16-byte tag. -/
opaque Config.gcmSeal : List Byte → List Byte → List Byte → List Byte → List Byte

/-! ### Arithmetic the spec bounds but does not fix -/

/-- The PI servo's frequency adjustment in ppb (R220: damping factor 1, bandwidth TIM_SERVO_BW): the previous
adjustment, the sum of the offsets since the PI state was cleared, the newest offset, both in nanoseconds, and the
bandwidth. The step limits it to the bounds of R220. Log entry 7. -/
opaque Config.servoAdjust : Int → Int → Int → Nat → Int

/-- Which value within 2 FP16 units in the last place of the exact one the transfer stage gives (R174, R176): transfer function,
primaries, R', G', B' in units of 2^-16, channel. The value counts units of 2^-64, and the stage takes it within those bounds. Log
entry 8. -/
opaque Config.transfer : Nat → Nat → Nat → Nat → Nat → Nat → Nat

/-- The sample a picture's coded data stands for (R74, R76: the decoding process of H.265 and AV1): payload bytes, the picture of
them (0 the first), the bytes of the store slots it references, with none for MID_GREY (R105), the concealed regions, inside and
across whose edges no loop filter runs (R106: x, y, width and height in luma samples), plane (0 luma, 1 Cb, 2 Cr), x and y. Log
entry 15. -/
opaque Config.decodeSample : List Byte → Nat → List (Option (List Byte)) → List (Nat × Nat × Nat × Nat) → Nat → Nat → Nat → Nat

/-- What the parameter sets of an encoded stream declare (R125, R129, R130): profile (0 Main, 1 Main 10, 2 Main 4:2:2 10), tier,
general_level_idc, luma size, picture rate, tile columns and rows, reference pictures, and the VUI's colour description; the other
fields hold the fixed choices of R130. -/
structure EncParams where
  profile : Nat
  highTier : Bool
  levelIdc : Nat
  width : Nat
  height : Nat
  rateNum : Nat
  rateDen : Nat
  cols : Nat
  rows : Nat
  refs : Nat
  primaries : Nat
  transfer : Nat
  matrix : Nat
  fullRange : Bool
  ctuSize : Nat := 64
  minCu : Nat := 8
  minTu : Nat := 4
  maxTu : Nat := 32
  loopFilterAcrossTiles : Bool := true
  deblocking : Bool := true
  sao : Bool := true
  signHiding : Bool := true
  temporalMvp : Bool := true
  transformSkip : Bool := true
  wpp : Bool := false
  amp : Bool := false
  scalingLists : Bool := false
  pcm : Bool := false
  longTermRefs : Bool := false
  deriving DecidableEq, Repr

/-- What H.265 lets an encoder choose in parameter sets and slice headers and R130 does not fix. Log entry 99. -/
opaque Config.encChoice : Nat → Nat

/-- The bits that an encode engine counts for a motion vector: the merge and AMVP candidates of its block, and the vector in quarter
samples (R138 names the bits and gives no count). Log entry 99. -/
opaque Config.vectorBits : List (Int × Int) → Int × Int → Nat

/-- The intra SATD of a block of a level-2 plane (R145 gives no prediction for it): the 16 × 16 block with 16 samples around it on
every side, row after row. Log entry 99. -/
opaque Config.intraSatd : List Nat → Nat

/-- The IPv4 TTL or IPv6 hop limit of the UDP frames whose value the spec does not give (TFP, control, Rilsar and PTP over
UDP). Log entry 4. -/
opaque Config.ttl : Nat

/-! ### Constants of time: device time and durations are counted in units of 2^-16 ns (R7) -/

/-- Units of 2^-16 ns in one nanosecond. -/
def Config.ns : Nat := 65536

/-- Units in one microsecond. -/
def Config.us : Nat := 65536 * 1000

/-- Units in one millisecond. -/
def Config.ms : Nat := 65536 * 1000000

/-- Units in one second. -/
def Config.sec : Nat := 65536 * 1000000000

end Sys2Proof
end

