-- ==== Sys2Proof/Machine/RegNames.lean ====
section
/-! DEFINITION. The register offsets (R.<REGISTER>) and fields (F.<REGISTER>_<FIELD>) of the spec's register tables,
 by the names the spec gives them. Offsets are byte offsets in the register window (R10). -/

namespace Sys2Proof.Machine

/-- A register field: the register's offset, its lowest bit and its width. -/
structure Fld where
  off : Nat
  lo : Nat
  width : Nat
  deriving DecidableEq, Repr

/-! ### Registers of spec/02_ingest.md (R73) -/

def R.NET_PHY_CTL (i : Nat) : Nat := 0x100000 + i * 0x100
def F.NET_PHY_CTL_MODE (i : Nat) : Fld := ⟨R.NET_PHY_CTL i, 0, 2⟩
def F.NET_PHY_CTL_FEC_EN (i : Nat) : Fld := ⟨R.NET_PHY_CTL i, 2, 1⟩
def R.NET_PHY_STAT (i : Nat) : Nat := 0x100004 + i * 0x100
def F.NET_PHY_STAT_LANE_LOCK (i : Nat) : Fld := ⟨R.NET_PHY_STAT i, 0, 4⟩
def F.NET_PHY_STAT_ALIGNED (i : Nat) : Fld := ⟨R.NET_PHY_STAT i, 4, 1⟩
def F.NET_PHY_STAT_FEC_LOCKED (i : Nat) : Fld := ⟨R.NET_PHY_STAT i, 5, 1⟩
def F.NET_PHY_STAT_HI_SER (i : Nat) : Fld := ⟨R.NET_PHY_STAT i, 6, 1⟩
def R.NET_LP_CTL (i : Nat) : Nat := 0x101000 + i * 0x100
def F.NET_LP_CTL_EN (i : Nat) : Fld := ⟨R.NET_LP_CTL i, 0, 1⟩
def F.NET_LP_CTL_PAUSE_RX (i : Nat) : Fld := ⟨R.NET_LP_CTL i, 1, 1⟩
def F.NET_LP_CTL_PAUSE_TX (i : Nat) : Fld := ⟨R.NET_LP_CTL i, 2, 1⟩
def F.NET_LP_CTL_VLAN_MODE (i : Nat) : Fld := ⟨R.NET_LP_CTL i, 3, 1⟩
def F.NET_LP_CTL_IPV6_EN (i : Nat) : Fld := ⟨R.NET_LP_CTL i, 4, 1⟩
def F.NET_LP_CTL_ICMP_ECHO (i : Nat) : Fld := ⟨R.NET_LP_CTL i, 5, 1⟩
def R.NET_LP_STAT (i : Nat) : Nat := 0x101004 + i * 0x100
def F.NET_LP_STAT_LINK (i : Nat) : Fld := ⟨R.NET_LP_STAT i, 0, 1⟩
def F.NET_LP_STAT_IDLE (i : Nat) : Fld := ⟨R.NET_LP_STAT i, 1, 1⟩
def F.NET_LP_STAT_PAUSED (i : Nat) : Fld := ⟨R.NET_LP_STAT i, 2, 1⟩
def F.NET_LP_STAT_DAD_FAIL (i : Nat) : Fld := ⟨R.NET_LP_STAT i, 3, 1⟩
def F.NET_LP_STAT_REENABLE_REFUSED (i : Nat) : Fld := ⟨R.NET_LP_STAT i, 8, 1⟩
def R.NET_LP_MAC_HI (i : Nat) : Nat := 0x101008 + i * 0x100
def F.NET_LP_MAC_HI (i : Nat) : Fld := ⟨R.NET_LP_MAC_HI i, 0, 16⟩
def R.NET_LP_MAC_LO (i : Nat) : Nat := 0x10100C + i * 0x100
def F.NET_LP_MAC_LO (i : Nat) : Fld := ⟨R.NET_LP_MAC_LO i, 0, 32⟩
def R.NET_LP_VLAN (i : Nat) : Nat := 0x101010 + i * 0x100
def F.NET_LP_VLAN_VID (i : Nat) : Fld := ⟨R.NET_LP_VLAN i, 0, 12⟩
def F.NET_LP_VLAN_PCP (i : Nat) : Fld := ⟨R.NET_LP_VLAN i, 12, 3⟩
def R.NET_LP_PAUSE (i : Nat) : Nat := 0x101014 + i * 0x100
def F.NET_LP_PAUSE_QUANTA (i : Nat) : Fld := ⟨R.NET_LP_PAUSE i, 0, 16⟩
def R.NET_LP_IPV4 (i : Nat) : Nat := 0x101018 + i * 0x100
def F.NET_LP_IPV4 (i : Nat) : Fld := ⟨R.NET_LP_IPV4 i, 0, 32⟩
def R.NET_LP_IPV4_PREFIX (i : Nat) : Nat := 0x10101C + i * 0x100
def F.NET_LP_IPV4_PREFIX (i : Nat) : Fld := ⟨R.NET_LP_IPV4_PREFIX i, 0, 6⟩
def R.NET_LP_IPV6 (i : Nat) (j : Nat) : Nat := 0x101020 + i * 0x100 + j * 0x4
def F.NET_LP_IPV6 (i : Nat) (j : Nat) : Fld := ⟨R.NET_LP_IPV6 i j, 0, 32⟩
def R.NET_LP_IPV6_PREFIX (i : Nat) : Nat := 0x101030 + i * 0x100
def F.NET_LP_IPV6_PREFIX (i : Nat) : Fld := ⟨R.NET_LP_IPV6_PREFIX i, 0, 8⟩
def R.NET_LP_GROUPS (i : Nat) : Nat := 0x101034 + i * 0x100
def F.NET_LP_GROUPS (i : Nat) : Fld := ⟨R.NET_LP_GROUPS i, 0, 11⟩
def R.NET_LP_RX_FRAMES (i : Nat) : Nat := 0x101040 + i * 0x100
def F.NET_LP_RX_FRAMES (i : Nat) : Fld := ⟨R.NET_LP_RX_FRAMES i, 0, 32⟩
def R.NET_LP_RX_DROP_FCS (i : Nat) : Nat := 0x101044 + i * 0x100
def F.NET_LP_RX_DROP_FCS (i : Nat) : Fld := ⟨R.NET_LP_RX_DROP_FCS i, 0, 32⟩
def R.NET_LP_RX_DROP_LEN (i : Nat) : Nat := 0x101048 + i * 0x100
def F.NET_LP_RX_DROP_LEN (i : Nat) : Fld := ⟨R.NET_LP_RX_DROP_LEN i, 0, 32⟩
def R.NET_LP_RX_DROP_FRAG (i : Nat) : Nat := 0x10104C + i * 0x100
def F.NET_LP_RX_DROP_FRAG (i : Nat) : Fld := ⟨R.NET_LP_RX_DROP_FRAG i, 0, 32⟩
def R.NET_LP_RX_DROP_NOMATCH (i : Nat) : Nat := 0x101050 + i * 0x100
def F.NET_LP_RX_DROP_NOMATCH (i : Nat) : Fld := ⟨R.NET_LP_RX_DROP_NOMATCH i, 0, 32⟩
def R.NET_LP_RX_DROP_CSUM (i : Nat) : Nat := 0x101054 + i * 0x100
def F.NET_LP_RX_DROP_CSUM (i : Nat) : Fld := ⟨R.NET_LP_RX_DROP_CSUM i, 0, 32⟩
def R.NET_LP_RX_DROP_ALLOC (i : Nat) : Nat := 0x101058 + i * 0x100
def F.NET_LP_RX_DROP_ALLOC (i : Nat) : Fld := ⟨R.NET_LP_RX_DROP_ALLOC i, 0, 32⟩
def R.NET_LP_RX_PAUSE (i : Nat) : Nat := 0x10105C + i * 0x100
def F.NET_LP_RX_PAUSE (i : Nat) : Fld := ⟨R.NET_LP_RX_PAUSE i, 0, 32⟩
def R.NET_LP_TX_FRAMES (i : Nat) : Nat := 0x101060 + i * 0x100
def F.NET_LP_TX_FRAMES (i : Nat) : Fld := ⟨R.NET_LP_TX_FRAMES i, 0, 32⟩
def R.NET_LP_TX_PAUSE (i : Nat) : Nat := 0x101064 + i * 0x100
def F.NET_LP_TX_PAUSE (i : Nat) : Fld := ⟨R.NET_LP_TX_PAUSE i, 0, 32⟩
def R.NET_IGMP_CTL : Nat := 0x102000
def F.NET_IGMP_CTL_ROBUSTNESS : Fld := ⟨R.NET_IGMP_CTL, 0, 4⟩
def F.NET_IGMP_CTL_UNSOL_INTERVAL : Fld := ⟨R.NET_IGMP_CTL, 8, 8⟩
def F.NET_IGMP_CTL_GRP_TOTAL : Fld := ⟨R.NET_IGMP_CTL, 16, 11⟩
def R.ING_CTX_CTL (i : Nat) : Nat := 0x1C0000 + i * 0x80
def F.ING_CTX_CTL_EN (i : Nat) : Fld := ⟨R.ING_CTX_CTL i, 0, 1⟩
def F.ING_CTX_CTL_KIND (i : Nat) : Fld := ⟨R.ING_CTX_CTL i, 1, 3⟩
def F.ING_CTX_CTL_PORT (i : Nat) : Fld := ⟨R.ING_CTX_CTL i, 4, 4⟩
def F.ING_CTX_CTL_IPV6 (i : Nat) : Fld := ⟨R.ING_CTX_CTL i, 8, 1⟩
def F.ING_CTX_CTL_SRTP_EN (i : Nat) : Fld := ⟨R.ING_CTX_CTL i, 9, 1⟩
def F.ING_CTX_CTL_DEST (i : Nat) : Fld := ⟨R.ING_CTX_CTL i, 16, 8⟩
def F.ING_CTX_CTL_KEY_SLOT (i : Nat) : Fld := ⟨R.ING_CTX_CTL i, 24, 8⟩
def R.ING_CTX_DADDR (i : Nat) (j : Nat) : Nat := 0x1C0004 + i * 0x80 + j * 0x4
def F.ING_CTX_DADDR (i : Nat) (j : Nat) : Fld := ⟨R.ING_CTX_DADDR i j, 0, 32⟩
def R.ING_CTX_SADDR (i : Nat) (j : Nat) : Nat := 0x1C0014 + i * 0x80 + j * 0x4
def F.ING_CTX_SADDR (i : Nat) (j : Nat) : Fld := ⟨R.ING_CTX_SADDR i j, 0, 32⟩
def R.ING_CTX_UDP (i : Nat) : Nat := 0x1C0024 + i * 0x80
def F.ING_CTX_UDP_DPORT (i : Nat) : Fld := ⟨R.ING_CTX_UDP i, 0, 16⟩
def F.ING_CTX_UDP_SPORT (i : Nat) : Fld := ⟨R.ING_CTX_UDP i, 16, 16⟩
def R.ING_CTX_SEL (i : Nat) : Nat := 0x1C0028 + i * 0x80
def F.ING_CTX_SEL_PID (i : Nat) : Fld := ⟨R.ING_CTX_SEL i, 0, 13⟩
def F.ING_CTX_SEL_PT (i : Nat) : Fld := ⟨R.ING_CTX_SEL i, 13, 7⟩
def F.ING_CTX_SEL_PT_EN (i : Nat) : Fld := ⟨R.ING_CTX_SEL i, 20, 1⟩
def F.ING_CTX_SEL_SSRC_EN (i : Nat) : Fld := ⟨R.ING_CTX_SEL i, 21, 1⟩
def R.ING_CTX_SSRC (i : Nat) : Nat := 0x1C002C + i * 0x80
def F.ING_CTX_SSRC (i : Nat) : Fld := ⟨R.ING_CTX_SSRC i, 0, 32⟩
def R.ING_CTX_FIFO (i : Nat) : Nat := 0x1C0030 + i * 0x80
def F.ING_CTX_FIFO_BASE (i : Nat) : Fld := ⟨R.ING_CTX_FIFO i, 0, 12⟩
def F.ING_CTX_FIFO_BANK (i : Nat) : Fld := ⟨R.ING_CTX_FIFO i, 12, 3⟩
def R.ING_CTX_ESB_LO (i : Nat) : Nat := 0x1C0034 + i * 0x80
def F.ING_CTX_ESB_LO (i : Nat) : Fld := ⟨R.ING_CTX_ESB_LO i, 12, 20⟩
def R.ING_CTX_ESB_HI (i : Nat) : Nat := 0x1C0038 + i * 0x80
def F.ING_CTX_ESB_HI (i : Nat) : Fld := ⟨R.ING_CTX_ESB_HI i, 0, 4⟩
def R.ING_CTX_ESB_SIZE (i : Nat) : Nat := 0x1C003C + i * 0x80
def F.ING_CTX_ESB_SIZE (i : Nat) : Fld := ⟨R.ING_CTX_ESB_SIZE i, 0, 17⟩
def R.ING_CTX_AU_MAX (i : Nat) : Nat := 0x1C0040 + i * 0x80
def F.ING_CTX_AU_MAX (i : Nat) : Fld := ⟨R.ING_CTX_AU_MAX i, 0, 28⟩
def R.ING_CTX_RAW (i : Nat) : Nat := 0x1C0044 + i * 0x80
def F.ING_CTX_RAW_WIDTH (i : Nat) : Fld := ⟨R.ING_CTX_RAW i, 0, 14⟩
def F.ING_CTX_RAW_HEIGHT (i : Nat) : Fld := ⟨R.ING_CTX_RAW i, 14, 14⟩
def F.ING_CTX_RAW_SAMPLING (i : Nat) : Fld := ⟨R.ING_CTX_RAW i, 28, 1⟩
def R.ING_CTX_STAT (i : Nat) : Nat := 0x1C0048 + i * 0x80
def F.ING_CTX_STAT_IDLE (i : Nat) : Fld := ⟨R.ING_CTX_STAT i, 0, 1⟩
def F.ING_CTX_STAT_STATE (i : Nat) : Fld := ⟨R.ING_CTX_STAT i, 1, 3⟩
def F.ING_CTX_STAT_REENABLE_REFUSED (i : Nat) : Fld := ⟨R.ING_CTX_STAT i, 8, 1⟩
def F.ING_CTX_STAT_ESB_STALLED (i : Nat) : Fld := ⟨R.ING_CTX_STAT i, 9, 1⟩
def R.ING_CTX_ESB_WR (i : Nat) : Nat := 0x1C004C + i * 0x80
def F.ING_CTX_ESB_WR (i : Nat) : Fld := ⟨R.ING_CTX_ESB_WR i, 0, 28⟩
def R.ING_CTX_PKTS (i : Nat) : Nat := 0x1C0050 + i * 0x80
def F.ING_CTX_PKTS (i : Nat) : Fld := ⟨R.ING_CTX_PKTS i, 0, 32⟩
def R.ING_CTX_AUS (i : Nat) : Nat := 0x1C0054 + i * 0x80
def F.ING_CTX_AUS (i : Nat) : Fld := ⟨R.ING_CTX_AUS i, 0, 32⟩
def R.ING_CTX_GAPS (i : Nat) : Nat := 0x1C0058 + i * 0x80
def F.ING_CTX_GAPS (i : Nat) : Fld := ⟨R.ING_CTX_GAPS i, 0, 32⟩
def R.ING_CTX_DROP_ITEMS (i : Nat) : Nat := 0x1C005C + i * 0x80
def F.ING_CTX_DROP_ITEMS (i : Nat) : Fld := ⟨R.ING_CTX_DROP_ITEMS i, 0, 32⟩
def R.ING_CTX_SRTP_FAIL (i : Nat) : Nat := 0x1C0060 + i * 0x80
def F.ING_CTX_SRTP_FAIL (i : Nat) : Fld := ⟨R.ING_CTX_SRTP_FAIL i, 0, 32⟩
def R.ING_CTX_RESETS (i : Nat) : Nat := 0x1C0064 + i * 0x80
def F.ING_CTX_RESETS (i : Nat) : Fld := ⟨R.ING_CTX_RESETS i, 0, 32⟩
def R.BPM_POOL_BASE_LO (i : Nat) : Nat := 0x180000 + i * 0x20
def F.BPM_POOL_BASE_LO (i : Nat) : Fld := ⟨R.BPM_POOL_BASE_LO i, 0, 32⟩
def R.BPM_POOL_BASE_HI (i : Nat) : Nat := 0x180004 + i * 0x20
def F.BPM_POOL_BASE_HI (i : Nat) : Fld := ⟨R.BPM_POOL_BASE_HI i, 0, 16⟩
def R.BPM_POOL_COUNT (i : Nat) : Nat := 0x180008 + i * 0x20
def F.BPM_POOL_COUNT (i : Nat) : Fld := ⟨R.BPM_POOL_COUNT i, 0, 20⟩
def R.BPM_POOL_FREE (i : Nat) : Nat := 0x18000C + i * 0x20
def F.BPM_POOL_FREE (i : Nat) : Fld := ⟨R.BPM_POOL_FREE i, 0, 20⟩
def R.BPM_POOL_LOWEST (i : Nat) : Nat := 0x180010 + i * 0x20
def F.BPM_POOL_LOWEST (i : Nat) : Fld := ⟨R.BPM_POOL_LOWEST i, 0, 20⟩
def R.BPM_POOL_LOWMARK (i : Nat) : Nat := 0x180014 + i * 0x20
def F.BPM_POOL_LOWMARK (i : Nat) : Fld := ⟨R.BPM_POOL_LOWMARK i, 0, 20⟩
def R.BPM_POOL_FAILS (i : Nat) : Nat := 0x180018 + i * 0x20
def F.BPM_POOL_FAILS (i : Nat) : Fld := ⟨R.BPM_POOL_FAILS i, 0, 32⟩
def R.BPM_OWN (i : Nat) (j : Nat) : Nat := 0x181000 + i * 0x20 + j * 0x4
def F.BPM_OWN_MIN (i : Nat) (j : Nat) : Fld := ⟨R.BPM_OWN i j, 0, 16⟩
def F.BPM_OWN_USED (i : Nat) (j : Nat) : Fld := ⟨R.BPM_OWN i j, 16, 16⟩
def R.BPM_CHK_FAILS : Nat := 0x188000
def F.BPM_CHK_FAILS : Fld := ⟨R.BPM_CHK_FAILS, 0, 32⟩
def R.BPM_CHK_ADDR_LO : Nat := 0x188004
def F.BPM_CHK_ADDR_LO : Fld := ⟨R.BPM_CHK_ADDR_LO, 0, 32⟩
def R.BPM_CHK_ADDR_HI : Nat := 0x188008
def F.BPM_CHK_ADDR_HI_ADDR : Fld := ⟨R.BPM_CHK_ADDR_HI, 0, 16⟩
def F.BPM_CHK_ADDR_HI_OWNER : Fld := ⟨R.BPM_CHK_ADDR_HI, 16, 9⟩
def R.NET_PHY_FEC_CORR (i : Nat) : Nat := 0x100008 + i * 0x100
def F.NET_PHY_FEC_CORR (i : Nat) : Fld := ⟨R.NET_PHY_FEC_CORR i, 0, 32⟩
def R.NET_PHY_FEC_UNCORR (i : Nat) : Nat := 0x10000C + i * 0x100
def F.NET_PHY_FEC_UNCORR (i : Nat) : Fld := ⟨R.NET_PHY_FEC_UNCORR i, 0, 32⟩
def R.ING_FIFO_USED : Nat := 0x1D0000
def F.ING_FIFO_USED : Fld := ⟨R.ING_FIFO_USED, 0, 13⟩
def R.ING_DRAINING : Nat := 0x1D0004
def F.ING_DRAINING : Fld := ⟨R.ING_DRAINING, 0, 9⟩

/-! ### Registers of spec/03_decoding.md (R102) -/

def R.DEC_GLB_CAP : Nat := 0x400000
def F.DEC_GLB_CAP_SAMPLES : Fld := ⟨R.DEC_GLB_CAP, 0, 14⟩
def R.DEC_GLB_MARGIN : Nat := 0x400004
def F.DEC_GLB_MARGIN : Fld := ⟨R.DEC_GLB_MARGIN, 0, 16⟩
def R.DEC_GLB_ADMIT : Nat := 0x400008
def F.DEC_GLB_ADMIT_LOAD : Fld := ⟨R.DEC_GLB_ADMIT, 0, 14⟩
def F.DEC_GLB_ADMIT_ENGINES : Fld := ⟨R.DEC_GLB_ADMIT, 16, 5⟩
def R.DEC_GLB_SLACK : Nat := 0x40000C
def F.DEC_GLB_SLACK : Fld := ⟨R.DEC_GLB_SLACK, 0, 32⟩
def R.DEC_GLB_SHED : Nat := 0x400010
def F.DEC_GLB_SHED : Fld := ⟨R.DEC_GLB_SHED, 0, 9⟩
def R.DEC_ENG_STAT (i : Nat) : Nat := 0x401004 + i * 0x40
def F.DEC_ENG_STAT_IN_SERVICE (i : Nat) : Fld := ⟨R.DEC_ENG_STAT i, 0, 1⟩
def F.DEC_ENG_STAT_BUSY (i : Nat) : Fld := ⟨R.DEC_ENG_STAT i, 1, 1⟩
def F.DEC_ENG_STAT_SUSPECT (i : Nat) : Fld := ⟨R.DEC_ENG_STAT i, 2, 1⟩
def F.DEC_ENG_STAT_RETIRED_FAULT (i : Nat) : Fld := ⟨R.DEC_ENG_STAT i, 3, 1⟩
def F.DEC_ENG_STAT_REENABLE_REFUSED (i : Nat) : Fld := ⟨R.DEC_ENG_STAT i, 4, 1⟩
def F.DEC_ENG_STAT_CTX (i : Nat) : Fld := ⟨R.DEC_ENG_STAT i, 8, 8⟩
def F.DEC_ENG_STAT_EPOCH (i : Nat) : Fld := ⟨R.DEC_ENG_STAT i, 16, 8⟩
def R.DEC_ENG_CTL (i : Nat) : Nat := 0x401000 + i * 0x40
def F.DEC_ENG_CTL_RETIRE (i : Nat) : Fld := ⟨R.DEC_ENG_CTL i, 0, 1⟩
def R.DEC_ENG_LOAD (i : Nat) : Nat := 0x401008 + i * 0x40
def F.DEC_ENG_LOAD_SAMPLES (i : Nat) : Fld := ⟨R.DEC_ENG_LOAD i, 0, 10⟩
def F.DEC_ENG_LOAD_BITS (i : Nat) : Fld := ⟨R.DEC_ENG_LOAD i, 16, 10⟩
def R.DEC_ENG_PICS (i : Nat) : Nat := 0x40100C + i * 0x40
def F.DEC_ENG_PICS (i : Nat) : Fld := ⟨R.DEC_ENG_PICS i, 0, 32⟩
def R.DEC_ENG_RETRIES (i : Nat) : Nat := 0x401010 + i * 0x40
def F.DEC_ENG_RETRIES (i : Nat) : Fld := ⟨R.DEC_ENG_RETRIES i, 0, 32⟩
def R.DEC_ENG_UCODE (i : Nat) : Nat := 0x401014 + i * 0x40
def F.DEC_ENG_UCODE_HEVC_VER (i : Nat) : Fld := ⟨R.DEC_ENG_UCODE i, 0, 16⟩
def F.DEC_ENG_UCODE_AV1_VER (i : Nat) : Fld := ⟨R.DEC_ENG_UCODE i, 16, 16⟩
def R.DEC_CTX_CTL (i : Nat) : Nat := 0x410000 + i * 0x100
def F.DEC_CTX_CTL_EN (i : Nat) : Fld := ⟨R.DEC_CTX_CTL i, 0, 1⟩
def F.DEC_CTX_CTL_CODEC (i : Nat) : Fld := ⟨R.DEC_CTX_CTL i, 1, 1⟩
def F.DEC_CTX_CTL_PAR (i : Nat) : Fld := ⟨R.DEC_CTX_CTL i, 2, 1⟩
def F.DEC_CTX_CTL_DL_MODE (i : Nat) : Fld := ⟨R.DEC_CTX_CTL i, 3, 1⟩
def F.DEC_CTX_CTL_LATE_SKIP (i : Nat) : Fld := ⟨R.DEC_CTX_CTL i, 4, 1⟩
def F.DEC_CTX_CTL_PRIO (i : Nat) : Fld := ⟨R.DEC_CTX_CTL i, 5, 3⟩
def F.DEC_CTX_CTL_SRC_ING (i : Nat) : Fld := ⟨R.DEC_CTX_CTL i, 8, 8⟩
def F.DEC_CTX_CTL_OP (i : Nat) : Fld := ⟨R.DEC_CTX_CTL i, 16, 5⟩
def R.DEC_CTX_STAT (i : Nat) : Nat := 0x410040 + i * 0x100
def F.DEC_CTX_STAT_IDLE (i : Nat) : Fld := ⟨R.DEC_CTX_STAT i, 0, 1⟩
def F.DEC_CTX_STAT_STATE (i : Nat) : Fld := ⟨R.DEC_CTX_STAT i, 1, 3⟩
def F.DEC_CTX_STAT_REENABLE_REFUSED (i : Nat) : Fld := ⟨R.DEC_CTX_STAT i, 4, 1⟩
def F.DEC_CTX_STAT_EPOCH (i : Nat) : Fld := ⟨R.DEC_CTX_STAT i, 8, 8⟩
def F.DEC_CTX_STAT_NENG (i : Nat) : Fld := ⟨R.DEC_CTX_STAT i, 16, 3⟩
def R.DEC_CTX_DIM (i : Nat) : Nat := 0x410004 + i * 0x100
def F.DEC_CTX_DIM_MAX_W (i : Nat) : Fld := ⟨R.DEC_CTX_DIM i, 0, 14⟩
def F.DEC_CTX_DIM_MAX_H (i : Nat) : Fld := ⟨R.DEC_CTX_DIM i, 16, 14⟩
def R.DEC_CTX_FMT (i : Nat) : Nat := 0x410008 + i * 0x100
def F.DEC_CTX_FMT_CHROMA (i : Nat) : Fld := ⟨R.DEC_CTX_FMT i, 0, 2⟩
def F.DEC_CTX_FMT_DEPTH (i : Nat) : Fld := ⟨R.DEC_CTX_FMT i, 2, 1⟩
def F.DEC_CTX_FMT_SLOTS (i : Nat) : Fld := ⟨R.DEC_CTX_FMT i, 8, 5⟩
def F.DEC_CTX_FMT_REC_LOG2 (i : Nat) : Fld := ⟨R.DEC_CTX_FMT i, 16, 4⟩
def R.DEC_CTX_RATE (i : Nat) : Nat := 0x41000C + i * 0x100
def F.DEC_CTX_RATE_NUM (i : Nat) : Fld := ⟨R.DEC_CTX_RATE i, 0, 16⟩
def F.DEC_CTX_RATE_DEN (i : Nat) : Fld := ⟨R.DEC_CTX_RATE i, 16, 16⟩
def R.DEC_CTX_BITRATE (i : Nat) : Nat := 0x410010 + i * 0x100
def F.DEC_CTX_BITRATE (i : Nat) : Fld := ⟨R.DEC_CTX_BITRATE i, 0, 16⟩
def R.DEC_CTX_DPS_LO (i : Nat) : Nat := 0x410014 + i * 0x100
def F.DEC_CTX_DPS_LO (i : Nat) : Fld := ⟨R.DEC_CTX_DPS_LO i, 12, 20⟩
def R.DEC_CTX_DPS_HI (i : Nat) : Nat := 0x410018 + i * 0x100
def F.DEC_CTX_DPS_HI (i : Nat) : Fld := ⟨R.DEC_CTX_DPS_HI i, 0, 4⟩
def R.DEC_CTX_REC_LO (i : Nat) : Nat := 0x41001C + i * 0x100
def F.DEC_CTX_REC_LO (i : Nat) : Fld := ⟨R.DEC_CTX_REC_LO i, 6, 26⟩
def R.DEC_CTX_REC_HI (i : Nat) : Nat := 0x410020 + i * 0x100
def F.DEC_CTX_REC_HI (i : Nat) : Fld := ⟨R.DEC_CTX_REC_HI i, 0, 4⟩
def R.DEC_CTX_LATENCY (i : Nat) : Nat := 0x410024 + i * 0x100
def F.DEC_CTX_LATENCY (i : Nat) : Fld := ⟨R.DEC_CTX_LATENCY i, 0, 24⟩
def R.DEC_CTX_ENGS (i : Nat) : Nat := 0x410044 + i * 0x100
def F.DEC_CTX_ENGS (i : Nat) : Fld := ⟨R.DEC_CTX_ENGS i, 0, 16⟩
def R.DEC_CTX_ESB_RD (i : Nat) : Nat := 0x410048 + i * 0x100
def F.DEC_CTX_ESB_RD (i : Nat) : Fld := ⟨R.DEC_CTX_ESB_RD i, 0, 28⟩
def R.DEC_CTX_LAST_OUT (i : Nat) : Nat := 0x41004C + i * 0x100
def F.DEC_CTX_LAST_OUT_OUT_NUM (i : Nat) : Fld := ⟨R.DEC_CTX_LAST_OUT i, 0, 24⟩
def F.DEC_CTX_LAST_OUT_SLOT (i : Nat) : Fld := ⟨R.DEC_CTX_LAST_OUT i, 24, 5⟩
def F.DEC_CTX_LAST_OUT_VALID (i : Nat) : Fld := ⟨R.DEC_CTX_LAST_OUT i, 31, 1⟩
def R.DEC_CTX_SLOT_BYTES (i : Nat) : Nat := 0x410050 + i * 0x100
def F.DEC_CTX_SLOT_BYTES (i : Nat) : Fld := ⟨R.DEC_CTX_SLOT_BYTES i, 0, 32⟩
def R.DEC_CTX_LOAD (i : Nat) : Nat := 0x410054 + i * 0x100
def F.DEC_CTX_LOAD (i : Nat) : Fld := ⟨R.DEC_CTX_LOAD i, 0, 14⟩
def R.DEC_CTX_PICS (i : Nat) : Nat := 0x410058 + i * 0x100
def F.DEC_CTX_PICS (i : Nat) : Fld := ⟨R.DEC_CTX_PICS i, 0, 32⟩
def R.DEC_CTX_LATE (i : Nat) : Nat := 0x41005C + i * 0x100
def F.DEC_CTX_LATE (i : Nat) : Fld := ⟨R.DEC_CTX_LATE i, 0, 32⟩
def R.DEC_CTX_SKIPPED (i : Nat) : Nat := 0x410060 + i * 0x100
def F.DEC_CTX_SKIPPED (i : Nat) : Fld := ⟨R.DEC_CTX_SKIPPED i, 0, 32⟩
def R.DEC_CTX_CONCEALED (i : Nat) : Nat := 0x410064 + i * 0x100
def F.DEC_CTX_CONCEALED (i : Nat) : Fld := ⟨R.DEC_CTX_CONCEALED i, 0, 32⟩
def R.DEC_CTX_STALE (i : Nat) : Nat := 0x410068 + i * 0x100
def F.DEC_CTX_STALE (i : Nat) : Fld := ⟨R.DEC_CTX_STALE i, 0, 32⟩
def R.DEC_CTX_MIGRATIONS (i : Nat) : Nat := 0x41006C + i * 0x100
def F.DEC_CTX_MIGRATIONS (i : Nat) : Fld := ⟨R.DEC_CTX_MIGRATIONS i, 0, 32⟩
def R.DEC_CTX_SLACK (i : Nat) : Nat := 0x410070 + i * 0x100
def F.DEC_CTX_SLACK (i : Nat) : Fld := ⟨R.DEC_CTX_SLACK i, 0, 32⟩
def R.DEC_CTX_RATE_EXCESS (i : Nat) : Nat := 0x410074 + i * 0x100
def F.DEC_CTX_RATE_EXCESS (i : Nat) : Fld := ⟨R.DEC_CTX_RATE_EXCESS i, 0, 32⟩

/-! ### Registers of spec/04_concealment.md (R122) -/

def R.DEC_CTX_CONC_CTL (i : Nat) : Nat := 0x410080 + i * 0x100
def F.DEC_CTX_CONC_CTL_REWIND_EN (i : Nat) : Fld := ⟨R.DEC_CTX_CONC_CTL i, 0, 1⟩
def F.DEC_CTX_CONC_CTL_REWIND_MAX (i : Nat) : Fld := ⟨R.DEC_CTX_CONC_CTL i, 8, 8⟩
def R.DEC_CTX_CONC_STAT (i : Nat) : Nat := 0x410084 + i * 0x100
def F.DEC_CTX_CONC_STAT_CHAIN (i : Nat) : Fld := ⟨R.DEC_CTX_CONC_STAT i, 0, 1⟩
def F.DEC_CTX_CONC_STAT_REWINDING (i : Nat) : Fld := ⟨R.DEC_CTX_CONC_STAT i, 1, 1⟩
def F.DEC_CTX_CONC_STAT_LAST_CAUSE (i : Nat) : Fld := ⟨R.DEC_CTX_CONC_STAT i, 8, 7⟩
def F.DEC_CTX_CONC_STAT_REJECT (i : Nat) : Fld := ⟨R.DEC_CTX_CONC_STAT i, 16, 3⟩
def R.DEC_CTX_MARK (i : Nat) : Nat := 0x410088 + i * 0x100
def F.DEC_CTX_MARK_OFFSET (i : Nat) : Fld := ⟨R.DEC_CTX_MARK i, 0, 28⟩
def F.DEC_CTX_MARK_VALID (i : Nat) : Fld := ⟨R.DEC_CTX_MARK i, 31, 1⟩
def R.DEC_CTX_MARK_PIC (i : Nat) : Nat := 0x41008C + i * 0x100
def F.DEC_CTX_MARK_PIC (i : Nat) : Fld := ⟨R.DEC_CTX_MARK_PIC i, 0, 32⟩
def R.DEC_CTX_CHAIN_LEN (i : Nat) : Nat := 0x410090 + i * 0x100
def F.DEC_CTX_CHAIN_LEN (i : Nat) : Fld := ⟨R.DEC_CTX_CHAIN_LEN i, 0, 32⟩
def R.DEC_CTX_CONC_AREA (i : Nat) : Nat := 0x410094 + i * 0x100
def F.DEC_CTX_CONC_AREA (i : Nat) : Fld := ⟨R.DEC_CTX_CONC_AREA i, 0, 24⟩
def R.DEC_CTX_CNT_GAP (i : Nat) : Nat := 0x4100A0 + i * 0x100
def F.DEC_CTX_CNT_GAP (i : Nat) : Fld := ⟨R.DEC_CTX_CNT_GAP i, 0, 32⟩
def R.DEC_CTX_CNT_LOST_DATA (i : Nat) : Nat := 0x4100A4 + i * 0x100
def F.DEC_CTX_CNT_LOST_DATA (i : Nat) : Fld := ⟨R.DEC_CTX_CNT_LOST_DATA i, 0, 32⟩
def R.DEC_CTX_CNT_MISSING_REF (i : Nat) : Nat := 0x4100A8 + i * 0x100
def F.DEC_CTX_CNT_MISSING_REF (i : Nat) : Fld := ⟨R.DEC_CTX_CNT_MISSING_REF i, 0, 32⟩
def R.DEC_CTX_CNT_SYNTAX (i : Nat) : Nat := 0x4100AC + i * 0x100
def F.DEC_CTX_CNT_SYNTAX (i : Nat) : Fld := ⟨R.DEC_CTX_CNT_SYNTAX i, 0, 32⟩
def R.DEC_CTX_CNT_INHERITED (i : Nat) : Nat := 0x4100B0 + i * 0x100
def F.DEC_CTX_CNT_INHERITED (i : Nat) : Fld := ⟨R.DEC_CTX_CNT_INHERITED i, 0, 32⟩
def R.DEC_CTX_CNT_MARK_LOST (i : Nat) : Nat := 0x4100B4 + i * 0x100
def F.DEC_CTX_CNT_MARK_LOST (i : Nat) : Fld := ⟨R.DEC_CTX_CNT_MARK_LOST i, 0, 32⟩
def R.DEC_CTX_CNT_SEQ_REJECTED (i : Nat) : Nat := 0x4100B8 + i * 0x100
def F.DEC_CTX_CNT_SEQ_REJECTED (i : Nat) : Fld := ⟨R.DEC_CTX_CNT_SEQ_REJECTED i, 0, 32⟩
def R.DEC_CTX_CNT_GREY (i : Nat) : Nat := 0x4100BC + i * 0x100
def F.DEC_CTX_CNT_GREY (i : Nat) : Fld := ⟨R.DEC_CTX_CNT_GREY i, 0, 32⟩
def R.DEC_CTX_REWINDS (i : Nat) : Nat := 0x4100C0 + i * 0x100
def F.DEC_CTX_REWINDS (i : Nat) : Fld := ⟨R.DEC_CTX_REWINDS i, 0, 32⟩
def R.DEC_CTX_REWIND_REFUSED (i : Nat) : Nat := 0x4100C4 + i * 0x100
def F.DEC_CTX_REWIND_REFUSED (i : Nat) : Fld := ⟨R.DEC_CTX_REWIND_REFUSED i, 0, 32⟩
def R.DEC_CTX_REPLAYED (i : Nat) : Nat := 0x4100C8 + i * 0x100
def F.DEC_CTX_REPLAYED (i : Nat) : Fld := ⟨R.DEC_CTX_REPLAYED i, 0, 32⟩

/-! ### Registers of spec/05_encoding.md (R155) -/

def R.ENC_GLB_CAP : Nat := 0x600000
def F.ENC_GLB_CAP_SAMPLES : Fld := ⟨R.ENC_GLB_CAP, 0, 12⟩
def R.ENC_GLB_ADMIT : Nat := 0x600004
def F.ENC_GLB_ADMIT_LOAD : Fld := ⟨R.ENC_GLB_ADMIT, 0, 12⟩
def F.ENC_GLB_ADMIT_ENGINES : Fld := ⟨R.ENC_GLB_ADMIT, 16, 3⟩
def R.ENC_GLB_SHED : Nat := 0x600008
def F.ENC_GLB_SHED : Fld := ⟨R.ENC_GLB_SHED, 0, 7⟩
def R.ENC_ENG_CTL (i : Nat) : Nat := 0x601000 + i * 0x40
def F.ENC_ENG_CTL_RETIRE (i : Nat) : Fld := ⟨R.ENC_ENG_CTL i, 0, 1⟩
def R.ENC_ENG_LOAD (i : Nat) : Nat := 0x601008 + i * 0x40
def F.ENC_ENG_LOAD_SAMPLES (i : Nat) : Fld := ⟨R.ENC_ENG_LOAD i, 0, 10⟩
def R.ENC_ENG_PICS (i : Nat) : Nat := 0x60100C + i * 0x40
def F.ENC_ENG_PICS (i : Nat) : Fld := ⟨R.ENC_ENG_PICS i, 0, 32⟩
def R.ENC_ENG_RETRIES (i : Nat) : Nat := 0x601010 + i * 0x40
def F.ENC_ENG_RETRIES (i : Nat) : Fld := ⟨R.ENC_ENG_RETRIES i, 0, 32⟩
def R.ENC_ENG_STAT (i : Nat) : Nat := 0x601004 + i * 0x40
def F.ENC_ENG_STAT_IN_SERVICE (i : Nat) : Fld := ⟨R.ENC_ENG_STAT i, 0, 1⟩
def F.ENC_ENG_STAT_BUSY (i : Nat) : Fld := ⟨R.ENC_ENG_STAT i, 1, 1⟩
def F.ENC_ENG_STAT_SUSPECT (i : Nat) : Fld := ⟨R.ENC_ENG_STAT i, 2, 1⟩
def F.ENC_ENG_STAT_RETIRED_FAULT (i : Nat) : Fld := ⟨R.ENC_ENG_STAT i, 3, 1⟩
def F.ENC_ENG_STAT_REENABLE_REFUSED (i : Nat) : Fld := ⟨R.ENC_ENG_STAT i, 4, 1⟩
def F.ENC_ENG_STAT_CTX (i : Nat) : Fld := ⟨R.ENC_ENG_STAT i, 8, 6⟩
def F.ENC_ENG_STAT_EPOCH (i : Nat) : Fld := ⟨R.ENC_ENG_STAT i, 16, 8⟩
def R.ENC_CTX_CTL (i : Nat) : Nat := 0x610000 + i * 0x100
def F.ENC_CTX_CTL_EN (i : Nat) : Fld := ⟨R.ENC_CTX_CTL i, 0, 1⟩
def F.ENC_CTX_CTL_PROFILE (i : Nat) : Fld := ⟨R.ENC_CTX_CTL i, 1, 2⟩
def F.ENC_CTX_CTL_TIER (i : Nat) : Fld := ⟨R.ENC_CTX_CTL i, 3, 1⟩
def F.ENC_CTX_CTL_RC_MODE (i : Nat) : Fld := ⟨R.ENC_CTX_CTL i, 4, 2⟩
def F.ENC_CTX_CTL_OUT (i : Nat) : Fld := ⟨R.ENC_CTX_CTL i, 6, 1⟩
def F.ENC_CTX_CTL_PRIO (i : Nat) : Fld := ⟨R.ENC_CTX_CTL i, 8, 3⟩
def R.ENC_CTX_SRC (i : Nat) : Nat := 0x610004 + i * 0x100
def F.ENC_CTX_SRC_KIND (i : Nat) : Fld := ⟨R.ENC_CTX_SRC i, 0, 2⟩
def F.ENC_CTX_SRC_INDEX (i : Nat) : Fld := ⟨R.ENC_CTX_SRC i, 2, 8⟩
def F.ENC_CTX_SRC_SCALE (i : Nat) : Fld := ⟨R.ENC_CTX_SRC i, 10, 2⟩
def F.ENC_CTX_SRC_DIV (i : Nat) : Fld := ⟨R.ENC_CTX_SRC i, 12, 4⟩
def F.ENC_CTX_SRC_TF (i : Nat) : Fld := ⟨R.ENC_CTX_SRC i, 16, 2⟩
def R.ENC_CTX_STAT (i : Nat) : Nat := 0x610080 + i * 0x100
def F.ENC_CTX_STAT_IDLE (i : Nat) : Fld := ⟨R.ENC_CTX_STAT i, 0, 1⟩
def F.ENC_CTX_STAT_STATE (i : Nat) : Fld := ⟨R.ENC_CTX_STAT i, 1, 3⟩
def F.ENC_CTX_STAT_REENABLE_REFUSED (i : Nat) : Fld := ⟨R.ENC_CTX_STAT i, 4, 1⟩
def F.ENC_CTX_STAT_RD_INVALID (i : Nat) : Fld := ⟨R.ENC_CTX_STAT i, 5, 1⟩
def F.ENC_CTX_STAT_SRC_IDLE (i : Nat) : Fld := ⟨R.ENC_CTX_STAT i, 6, 1⟩
def F.ENC_CTX_STAT_EPOCH (i : Nat) : Fld := ⟨R.ENC_CTX_STAT i, 8, 8⟩
def F.ENC_CTX_STAT_NENG (i : Nat) : Fld := ⟨R.ENC_CTX_STAT i, 16, 3⟩
def R.ENC_CTX_DIM (i : Nat) : Nat := 0x610008 + i * 0x100
def F.ENC_CTX_DIM_W (i : Nat) : Fld := ⟨R.ENC_CTX_DIM i, 0, 14⟩
def F.ENC_CTX_DIM_H (i : Nat) : Fld := ⟨R.ENC_CTX_DIM i, 16, 14⟩
def R.ENC_CTX_RATE (i : Nat) : Nat := 0x61000C + i * 0x100
def F.ENC_CTX_RATE_NUM (i : Nat) : Fld := ⟨R.ENC_CTX_RATE i, 0, 16⟩
def F.ENC_CTX_RATE_DEN (i : Nat) : Fld := ⟨R.ENC_CTX_RATE i, 16, 16⟩
def R.ENC_CTX_GOP (i : Nat) : Nat := 0x610010 + i * 0x100
def F.ENC_CTX_GOP_IDR_PERIOD (i : Nat) : Fld := ⟨R.ENC_CTX_GOP i, 0, 16⟩
def F.ENC_CTX_GOP_NUM_REF (i : Nat) : Fld := ⟨R.ENC_CTX_GOP i, 16, 1⟩
def F.ENC_CTX_GOP_COLS_MIN (i : Nat) : Fld := ⟨R.ENC_CTX_GOP i, 20, 4⟩
def R.ENC_CTX_RC_RATE (i : Nat) : Nat := 0x610014 + i * 0x100
def F.ENC_CTX_RC_RATE_BITRATE (i : Nat) : Fld := ⟨R.ENC_CTX_RC_RATE i, 0, 16⟩
def F.ENC_CTX_RC_RATE_MAXRATE (i : Nat) : Fld := ⟨R.ENC_CTX_RC_RATE i, 16, 16⟩
def R.ENC_CTX_RC_BUF (i : Nat) : Nat := 0x610018 + i * 0x100
def F.ENC_CTX_RC_BUF_BUF_MS (i : Nat) : Fld := ⟨R.ENC_CTX_RC_BUF i, 0, 16⟩
def R.ENC_CTX_RC_QP (i : Nat) : Nat := 0x61001C + i * 0x100
def F.ENC_CTX_RC_QP_QP_MIN (i : Nat) : Fld := ⟨R.ENC_CTX_RC_QP i, 0, 6⟩
def F.ENC_CTX_RC_QP_QP_MAX (i : Nat) : Fld := ⟨R.ENC_CTX_RC_QP i, 8, 6⟩
def F.ENC_CTX_RC_QP_QP_I (i : Nat) : Fld := ⟨R.ENC_CTX_RC_QP i, 16, 6⟩
def F.ENC_CTX_RC_QP_QP_P (i : Nat) : Fld := ⟨R.ENC_CTX_RC_QP i, 24, 6⟩
def R.ENC_CTX_CAP (i : Nat) : Nat := 0x610020 + i * 0x100
def F.ENC_CTX_CAP (i : Nat) : Fld := ⟨R.ENC_CTX_CAP i, 0, 28⟩
def R.ENC_CTX_SRCBUF_LO (i : Nat) : Nat := 0x610024 + i * 0x100
def F.ENC_CTX_SRCBUF_LO (i : Nat) : Fld := ⟨R.ENC_CTX_SRCBUF_LO i, 12, 20⟩
def R.ENC_CTX_SRCBUF_HI (i : Nat) : Nat := 0x610028 + i * 0x100
def F.ENC_CTX_SRCBUF_HI (i : Nat) : Fld := ⟨R.ENC_CTX_SRCBUF_HI i, 0, 4⟩
def R.ENC_CTX_REF_LO (i : Nat) : Nat := 0x61002C + i * 0x100
def F.ENC_CTX_REF_LO (i : Nat) : Fld := ⟨R.ENC_CTX_REF_LO i, 12, 20⟩
def R.ENC_CTX_REF_HI (i : Nat) : Nat := 0x610030 + i * 0x100
def F.ENC_CTX_REF_HI (i : Nat) : Fld := ⟨R.ENC_CTX_REF_HI i, 0, 4⟩
def R.ENC_CTX_BSB_LO (i : Nat) : Nat := 0x610034 + i * 0x100
def F.ENC_CTX_BSB_LO (i : Nat) : Fld := ⟨R.ENC_CTX_BSB_LO i, 12, 20⟩
def R.ENC_CTX_BSB_HI (i : Nat) : Nat := 0x610038 + i * 0x100
def F.ENC_CTX_BSB_HI (i : Nat) : Fld := ⟨R.ENC_CTX_BSB_HI i, 0, 4⟩
def R.ENC_CTX_BSB_SIZE (i : Nat) : Nat := 0x61003C + i * 0x100
def F.ENC_CTX_BSB_SIZE (i : Nat) : Fld := ⟨R.ENC_CTX_BSB_SIZE i, 0, 17⟩
def R.ENC_CTX_ROI_LO (i : Nat) : Nat := 0x610040 + i * 0x100
def F.ENC_CTX_ROI_LO (i : Nat) : Fld := ⟨R.ENC_CTX_ROI_LO i, 10, 22⟩
def R.ENC_CTX_ROI_HI (i : Nat) : Nat := 0x610044 + i * 0x100
def F.ENC_CTX_ROI_HI (i : Nat) : Fld := ⟨R.ENC_CTX_ROI_HI i, 0, 4⟩
def R.ENC_CTX_ROI_SEL (i : Nat) : Nat := 0x610048 + i * 0x100
def F.ENC_CTX_ROI_SEL_SEL (i : Nat) : Fld := ⟨R.ENC_CTX_ROI_SEL i, 0, 1⟩
def F.ENC_CTX_ROI_SEL_COUNT (i : Nat) : Fld := ⟨R.ENC_CTX_ROI_SEL i, 8, 7⟩
def R.ENC_CTX_CMD (i : Nat) : Nat := 0x61004C + i * 0x100
def F.ENC_CTX_CMD_FORCE_IDR (i : Nat) : Fld := ⟨R.ENC_CTX_CMD i, 0, 1⟩
def R.ENC_CTX_TX_CTL (i : Nat) : Nat := 0x610050 + i * 0x100
def F.ENC_CTX_TX_CTL_PORT (i : Nat) : Fld := ⟨R.ENC_CTX_TX_CTL i, 0, 4⟩
def F.ENC_CTX_TX_CTL_IPV6 (i : Nat) : Fld := ⟨R.ENC_CTX_TX_CTL i, 4, 1⟩
def F.ENC_CTX_TX_CTL_SRTP_EN (i : Nat) : Fld := ⟨R.ENC_CTX_TX_CTL i, 5, 1⟩
def F.ENC_CTX_TX_CTL_KEY_SLOT (i : Nat) : Fld := ⟨R.ENC_CTX_TX_CTL i, 8, 8⟩
def F.ENC_CTX_TX_CTL_PT (i : Nat) : Fld := ⟨R.ENC_CTX_TX_CTL i, 16, 7⟩
def F.ENC_CTX_TX_CTL_TTL (i : Nat) : Fld := ⟨R.ENC_CTX_TX_CTL i, 24, 8⟩
def R.ENC_CTX_TX_PAY (i : Nat) : Nat := 0x610054 + i * 0x100
def F.ENC_CTX_TX_PAY (i : Nat) : Fld := ⟨R.ENC_CTX_TX_PAY i, 0, 14⟩
def R.ENC_CTX_TX_RATE (i : Nat) : Nat := 0x610058 + i * 0x100
def F.ENC_CTX_TX_RATE (i : Nat) : Fld := ⟨R.ENC_CTX_TX_RATE i, 0, 16⟩
def R.ENC_CTX_TX_DADDR (i : Nat) (j : Nat) : Nat := 0x61005C + i * 0x100 + j * 0x4
def F.ENC_CTX_TX_DADDR (i : Nat) (j : Nat) : Fld := ⟨R.ENC_CTX_TX_DADDR i j, 0, 32⟩
def R.ENC_CTX_TX_UDP (i : Nat) : Nat := 0x61006C + i * 0x100
def F.ENC_CTX_TX_UDP_DPORT (i : Nat) : Fld := ⟨R.ENC_CTX_TX_UDP i, 0, 16⟩
def F.ENC_CTX_TX_UDP_SPORT (i : Nat) : Fld := ⟨R.ENC_CTX_TX_UDP i, 16, 16⟩
def R.ENC_CTX_TX_DMAC_HI (i : Nat) : Nat := 0x610070 + i * 0x100
def F.ENC_CTX_TX_DMAC_HI (i : Nat) : Fld := ⟨R.ENC_CTX_TX_DMAC_HI i, 0, 16⟩
def R.ENC_CTX_TX_DMAC_LO (i : Nat) : Nat := 0x610074 + i * 0x100
def F.ENC_CTX_TX_DMAC_LO (i : Nat) : Fld := ⟨R.ENC_CTX_TX_DMAC_LO i, 0, 32⟩
def R.ENC_CTX_TX_SSRC (i : Nat) : Nat := 0x610078 + i * 0x100
def F.ENC_CTX_TX_SSRC (i : Nat) : Fld := ⟨R.ENC_CTX_TX_SSRC i, 0, 32⟩
def R.ENC_CTX_TX_SEQ0 (i : Nat) : Nat := 0x61007C + i * 0x100
def F.ENC_CTX_TX_SEQ0 (i : Nat) : Fld := ⟨R.ENC_CTX_TX_SEQ0 i, 0, 16⟩
def R.ENC_CTX_ENGS (i : Nat) : Nat := 0x610084 + i * 0x100
def F.ENC_CTX_ENGS (i : Nat) : Fld := ⟨R.ENC_CTX_ENGS i, 0, 4⟩
def R.ENC_CTX_BSB_WR (i : Nat) : Nat := 0x610088 + i * 0x100
def F.ENC_CTX_BSB_WR (i : Nat) : Fld := ⟨R.ENC_CTX_BSB_WR i, 0, 28⟩
def R.ENC_CTX_BSB_RD (i : Nat) : Nat := 0x61008C + i * 0x100
def F.ENC_CTX_BSB_RD (i : Nat) : Fld := ⟨R.ENC_CTX_BSB_RD i, 0, 28⟩
def R.ENC_CTX_ESB_RD (i : Nat) : Nat := 0x610090 + i * 0x100
def F.ENC_CTX_ESB_RD (i : Nat) : Fld := ⟨R.ENC_CTX_ESB_RD i, 0, 28⟩
def R.ENC_CTX_LOAD (i : Nat) : Nat := 0x610094 + i * 0x100
def F.ENC_CTX_LOAD (i : Nat) : Fld := ⟨R.ENC_CTX_LOAD i, 0, 14⟩
def R.ENC_CTX_FULLNESS (i : Nat) : Nat := 0x610098 + i * 0x100
def F.ENC_CTX_FULLNESS (i : Nat) : Fld := ⟨R.ENC_CTX_FULLNESS i, 0, 32⟩
def R.ENC_CTX_PICS (i : Nat) : Nat := 0x61009C + i * 0x100
def F.ENC_CTX_PICS (i : Nat) : Fld := ⟨R.ENC_CTX_PICS i, 0, 32⟩
def R.ENC_CTX_SKIPPED (i : Nat) : Nat := 0x6100A0 + i * 0x100
def F.ENC_CTX_SKIPPED (i : Nat) : Fld := ⟨R.ENC_CTX_SKIPPED i, 0, 32⟩
def R.ENC_CTX_SKIPPED_FULL (i : Nat) : Nat := 0x6100A4 + i * 0x100
def F.ENC_CTX_SKIPPED_FULL (i : Nat) : Fld := ⟨R.ENC_CTX_SKIPPED_FULL i, 0, 32⟩
def R.ENC_CTX_EXHAUSTED (i : Nat) : Nat := 0x6100A8 + i * 0x100
def F.ENC_CTX_EXHAUSTED (i : Nat) : Fld := ⟨R.ENC_CTX_EXHAUSTED i, 0, 32⟩
def R.ENC_CTX_SKIP_ROWS (i : Nat) : Nat := 0x6100AC + i * 0x100
def F.ENC_CTX_SKIP_ROWS (i : Nat) : Fld := ⟨R.ENC_CTX_SKIP_ROWS i, 0, 32⟩
def R.ENC_CTX_LAST_BITS (i : Nat) : Nat := 0x6100B0 + i * 0x100
def F.ENC_CTX_LAST_BITS (i : Nat) : Fld := ⟨R.ENC_CTX_LAST_BITS i, 0, 32⟩
def R.ENC_CTX_LAST_TARGET (i : Nat) : Nat := 0x6100B4 + i * 0x100
def F.ENC_CTX_LAST_TARGET (i : Nat) : Fld := ⟨R.ENC_CTX_LAST_TARGET i, 0, 32⟩
def R.ENC_CTX_MIGRATIONS (i : Nat) : Nat := 0x6100B8 + i * 0x100
def F.ENC_CTX_MIGRATIONS (i : Nat) : Fld := ⟨R.ENC_CTX_MIGRATIONS i, 0, 32⟩
def R.ENC_CTX_STALE (i : Nat) : Nat := 0x6100BC + i * 0x100
def F.ENC_CTX_STALE (i : Nat) : Fld := ⟨R.ENC_CTX_STALE i, 0, 32⟩
def R.ENC_CTX_PKTS (i : Nat) : Nat := 0x6100C0 + i * 0x100
def F.ENC_CTX_PKTS (i : Nat) : Fld := ⟨R.ENC_CTX_PKTS i, 0, 32⟩
def R.ENC_CTX_LAST_PIC (i : Nat) : Nat := 0x6100C4 + i * 0x100
def F.ENC_CTX_LAST_PIC (i : Nat) : Fld := ⟨R.ENC_CTX_LAST_PIC i, 0, 32⟩
def R.ENC_CTX_REF_BYTES (i : Nat) : Nat := 0x6100C8 + i * 0x100
def F.ENC_CTX_REF_BYTES (i : Nat) : Fld := ⟨R.ENC_CTX_REF_BYTES i, 0, 32⟩

/-! ### Registers of spec/06_composition.md (R197) -/

def R.CMP_GLB_FETCH : Nat := 0x700000
def F.CMP_GLB_FETCH : Fld := ⟨R.CMP_GLB_FETCH, 0, 8⟩
def R.CMP_GLB_LOAD : Nat := 0x700004
def F.CMP_GLB_LOAD : Fld := ⟨R.CMP_GLB_LOAD, 0, 17⟩
def R.CMP_GLB_LT_MASK : Nat := 0x700008
def F.CMP_GLB_LT_MASK : Fld := ⟨R.CMP_GLB_LT_MASK, 0, 4⟩
def R.CMP_GLB_LT_PIN : Nat := 0x70000C
def F.CMP_GLB_LT_PIN_ALARM : Fld := ⟨R.CMP_GLB_LT_PIN, 0, 1⟩
def F.CMP_GLB_LT_PIN_RAW : Fld := ⟨R.CMP_GLB_LT_PIN, 1, 1⟩
def R.CMP_GLB_MARGIN : Nat := 0x700010
def F.CMP_GLB_MARGIN : Fld := ⟨R.CMP_GLB_MARGIN, 0, 16⟩
def R.CMP_TILE_POS (i : Nat) : Nat := 0x740000 + i * 0x8
def F.CMP_TILE_POS_X (i : Nat) : Fld := ⟨R.CMP_TILE_POS i, 0, 14⟩
def F.CMP_TILE_POS_Y (i : Nat) : Fld := ⟨R.CMP_TILE_POS i, 16, 13⟩
def F.CMP_TILE_POS_CANVAS (i : Nat) : Fld := ⟨R.CMP_TILE_POS i, 29, 2⟩
def F.CMP_TILE_POS_EN (i : Nat) : Fld := ⟨R.CMP_TILE_POS i, 31, 1⟩
def R.CMP_TILE_SIZE (i : Nat) : Nat := 0x740004 + i * 0x8
def F.CMP_TILE_SIZE_W (i : Nat) : Fld := ⟨R.CMP_TILE_SIZE i, 0, 10⟩
def F.CMP_TILE_SIZE_H (i : Nat) : Fld := ⟨R.CMP_TILE_SIZE i, 16, 10⟩
def R.CMP_CV_CTL (i : Nat) : Nat := 0x701000 + i * 0x400
def F.CMP_CV_CTL_EN (i : Nat) : Fld := ⟨R.CMP_CV_CTL i, 0, 1⟩
def F.CMP_CV_CTL_SAVE (i : Nat) : Fld := ⟨R.CMP_CV_CTL i, 1, 2⟩
def F.CMP_CV_CTL_ORDER_MODE (i : Nat) : Fld := ⟨R.CMP_CV_CTL i, 3, 1⟩
def F.CMP_CV_CTL_ORDER_SEL (i : Nat) : Fld := ⟨R.CMP_CV_CTL i, 4, 1⟩
def F.CMP_CV_CTL_SEG (i : Nat) : Fld := ⟨R.CMP_CV_CTL i, 8, 6⟩
def R.CMP_CV_STAT (i : Nat) : Nat := 0x701040 + i * 0x400
def F.CMP_CV_STAT_IDLE (i : Nat) : Fld := ⟨R.CMP_CV_STAT i, 0, 1⟩
def F.CMP_CV_STAT_STATE (i : Nat) : Fld := ⟨R.CMP_CV_STAT i, 1, 2⟩
def F.CMP_CV_STAT_REENABLE_REFUSED (i : Nat) : Fld := ⟨R.CMP_CV_STAT i, 3, 1⟩
def F.CMP_CV_STAT_FLAT_SUSPENDED (i : Nat) : Fld := ⟨R.CMP_CV_STAT i, 4, 1⟩
def F.CMP_CV_STAT_ORDER_ACTIVE (i : Nat) : Fld := ⟨R.CMP_CV_STAT i, 5, 1⟩
def R.CMP_CV_SIZE (i : Nat) : Nat := 0x701004 + i * 0x400
def F.CMP_CV_SIZE_W (i : Nat) : Fld := ⟨R.CMP_CV_SIZE i, 0, 15⟩
def F.CMP_CV_SIZE_H (i : Nat) : Fld := ⟨R.CMP_CV_SIZE i, 16, 14⟩
def R.CMP_CV_LEAD (i : Nat) : Nat := 0x701008 + i * 0x400
def F.CMP_CV_LEAD (i : Nat) : Fld := ⟨R.CMP_CV_LEAD i, 0, 24⟩
def R.CMP_CV_BG_RG (i : Nat) : Nat := 0x70100C + i * 0x400
def F.CMP_CV_BG_RG_R (i : Nat) : Fld := ⟨R.CMP_CV_BG_RG i, 0, 16⟩
def F.CMP_CV_BG_RG_G (i : Nat) : Fld := ⟨R.CMP_CV_BG_RG i, 16, 16⟩
def R.CMP_CV_BG_B (i : Nat) : Nat := 0x701010 + i * 0x400
def F.CMP_CV_BG_B_B (i : Nat) : Fld := ⟨R.CMP_CV_BG_B i, 0, 16⟩
def R.CMP_CV_FLAT_LO (i : Nat) : Nat := 0x701014 + i * 0x400
def F.CMP_CV_FLAT_LO (i : Nat) : Fld := ⟨R.CMP_CV_FLAT_LO i, 12, 20⟩
def R.CMP_CV_FLAT_HI (i : Nat) : Nat := 0x701018 + i * 0x400
def F.CMP_CV_FLAT_HI (i : Nat) : Fld := ⟨R.CMP_CV_FLAT_HI i, 0, 4⟩
def R.CMP_CV_FLAT_RANGE (i : Nat) : Nat := 0x70101C + i * 0x400
def F.CMP_CV_FLAT_RANGE_FIRST (i : Nat) : Fld := ⟨R.CMP_CV_FLAT_RANGE i, 0, 6⟩
def F.CMP_CV_FLAT_RANGE_LAST (i : Nat) : Fld := ⟨R.CMP_CV_FLAT_RANGE i, 8, 6⟩
def R.CMP_CV_FRAMES (i : Nat) : Nat := 0x701044 + i * 0x400
def F.CMP_CV_FRAMES (i : Nat) : Fld := ⟨R.CMP_CV_FRAMES i, 0, 32⟩
def R.CMP_CV_DROPPED (i : Nat) : Nat := 0x701048 + i * 0x400
def F.CMP_CV_DROPPED (i : Nat) : Fld := ⟨R.CMP_CV_DROPPED i, 0, 32⟩
def R.CMP_CV_SLACK (i : Nat) : Nat := 0x70104C + i * 0x400
def F.CMP_CV_SLACK (i : Nat) : Fld := ⟨R.CMP_CV_SLACK i, 0, 32⟩
def R.CMP_CV_FLAT_RENDERS (i : Nat) : Nat := 0x701050 + i * 0x400
def F.CMP_CV_FLAT_RENDERS (i : Nat) : Fld := ⟨R.CMP_CV_FLAT_RENDERS i, 0, 32⟩
def R.CMP_CV_CULLED (i : Nat) : Nat := 0x701054 + i * 0x400
def F.CMP_CV_CULLED (i : Nat) : Fld := ⟨R.CMP_CV_CULLED i, 0, 32⟩
def R.CMP_CV_LOAD (i : Nat) : Nat := 0x701058 + i * 0x400
def F.CMP_CV_LOAD (i : Nat) : Fld := ⟨R.CMP_CV_LOAD i, 0, 17⟩
def R.CMP_CV_ORDER_A (i : Nat) (j : Nat) : Nat := 0x701100 + i * 0x400 + j * 0x4
def F.CMP_CV_ORDER_A (i : Nat) (j : Nat) : Fld := ⟨R.CMP_CV_ORDER_A i j, 0, 32⟩
def R.CMP_CV_ORDER_B (i : Nat) (j : Nat) : Nat := 0x701140 + i * 0x400 + j * 0x4
def F.CMP_CV_ORDER_B (i : Nat) (j : Nat) : Fld := ⟨R.CMP_CV_ORDER_B i j, 0, 32⟩
def R.CMP_VL_CTL (i : Nat) : Nat := 0x710000 + i * 0x100
def F.CMP_VL_CTL_EN (i : Nat) : Fld := ⟨R.CMP_VL_CTL i, 0, 1⟩
def F.CMP_VL_CTL_CANVAS (i : Nat) : Fld := ⟨R.CMP_VL_CTL i, 1, 2⟩
def F.CMP_VL_CTL_Z (i : Nat) : Fld := ⟨R.CMP_VL_CTL i, 3, 8⟩
def F.CMP_VL_CTL_SRC_KIND (i : Nat) : Fld := ⟨R.CMP_VL_CTL i, 11, 1⟩
def F.CMP_VL_CTL_SRC (i : Nat) : Fld := ⟨R.CMP_VL_CTL i, 12, 8⟩
def F.CMP_VL_CTL_SEL_MODE (i : Nat) : Fld := ⟨R.CMP_VL_CTL i, 20, 1⟩
def F.CMP_VL_CTL_FREEZE (i : Nat) : Fld := ⟨R.CMP_VL_CTL i, 21, 1⟩
def F.CMP_VL_CTL_AUTO_CSC (i : Nat) : Fld := ⟨R.CMP_VL_CTL i, 22, 1⟩
def F.CMP_VL_CTL_CROP_AUTO (i : Nat) : Fld := ⟨R.CMP_VL_CTL i, 23, 1⟩
def F.CMP_VL_CTL_RGB_SRC (i : Nat) : Fld := ⟨R.CMP_VL_CTL i, 24, 1⟩
def R.CMP_VL_CROP_XY (i : Nat) : Nat := 0x710004 + i * 0x100
def F.CMP_VL_CROP_XY_SX (i : Nat) : Fld := ⟨R.CMP_VL_CROP_XY i, 0, 14⟩
def F.CMP_VL_CROP_XY_SY (i : Nat) : Fld := ⟨R.CMP_VL_CROP_XY i, 16, 13⟩
def R.CMP_VL_CROP_WH (i : Nat) : Nat := 0x710008 + i * 0x100
def F.CMP_VL_CROP_WH_SW (i : Nat) : Fld := ⟨R.CMP_VL_CROP_WH i, 0, 14⟩
def F.CMP_VL_CROP_WH_SH (i : Nat) : Fld := ⟨R.CMP_VL_CROP_WH i, 16, 13⟩
def R.CMP_VL_DST_XY (i : Nat) : Nat := 0x71000C + i * 0x100
def F.CMP_VL_DST_XY_DX (i : Nat) : Fld := ⟨R.CMP_VL_DST_XY i, 0, 16⟩
def F.CMP_VL_DST_XY_DY (i : Nat) : Fld := ⟨R.CMP_VL_DST_XY i, 16, 16⟩
def R.CMP_VL_DST_WH (i : Nat) : Nat := 0x710010 + i * 0x100
def F.CMP_VL_DST_WH_DW (i : Nat) : Fld := ⟨R.CMP_VL_DST_WH i, 0, 15⟩
def F.CMP_VL_DST_WH_DH (i : Nat) : Fld := ⟨R.CMP_VL_DST_WH i, 16, 14⟩
def R.CMP_VL_CSC (i : Nat) : Nat := 0x710014 + i * 0x100
def F.CMP_VL_CSC_TF (i : Nat) : Fld := ⟨R.CMP_VL_CSC i, 0, 3⟩
def F.CMP_VL_CSC_PRIM (i : Nat) : Fld := ⟨R.CMP_VL_CSC i, 3, 2⟩
def F.CMP_VL_CSC_GAIN (i : Nat) : Fld := ⟨R.CMP_VL_CSC i, 16, 16⟩
def R.CMP_VL_GALPHA (i : Nat) : Nat := 0x710018 + i * 0x100
def F.CMP_VL_GALPHA (i : Nat) : Fld := ⟨R.CMP_VL_GALPHA i, 0, 10⟩
def R.CMP_VL_FILT_LO (i : Nat) : Nat := 0x71001C + i * 0x100
def F.CMP_VL_FILT_LO (i : Nat) : Fld := ⟨R.CMP_VL_FILT_LO i, 6, 26⟩
def R.CMP_VL_FILT_HI (i : Nat) : Nat := 0x710020 + i * 0x100
def F.CMP_VL_FILT_HI (i : Nat) : Fld := ⟨R.CMP_VL_FILT_HI i, 0, 4⟩
def R.CMP_VL_OFFSET (i : Nat) : Nat := 0x710024 + i * 0x100
def F.CMP_VL_OFFSET (i : Nat) : Fld := ⟨R.CMP_VL_OFFSET i, 0, 24⟩
def R.CMP_VL_MTX (i : Nat) (j : Nat) : Nat := 0x710030 + i * 0x100 + j * 0x4
def F.CMP_VL_MTX (i : Nat) (j : Nat) : Fld := ⟨R.CMP_VL_MTX i j, 0, 20⟩
def R.CMP_VL_STAT (i : Nat) : Nat := 0x710080 + i * 0x100
def F.CMP_VL_STAT_SHOWING (i : Nat) : Fld := ⟨R.CMP_VL_STAT i, 0, 1⟩
def F.CMP_VL_STAT_FROZEN (i : Nat) : Fld := ⟨R.CMP_VL_STAT i, 1, 1⟩
def F.CMP_VL_STAT_OUT_NUM (i : Nat) : Fld := ⟨R.CMP_VL_STAT i, 8, 24⟩
def R.CMP_VL_MISSES (i : Nat) : Nat := 0x710084 + i * 0x100
def F.CMP_VL_MISSES (i : Nat) : Fld := ⟨R.CMP_VL_MISSES i, 0, 32⟩
def R.CMP_VL_REPEATS (i : Nat) : Nat := 0x710088 + i * 0x100
def F.CMP_VL_REPEATS (i : Nat) : Fld := ⟨R.CMP_VL_REPEATS i, 0, 32⟩
def R.CMP_VL_LOAD (i : Nat) : Nat := 0x71008C + i * 0x100
def F.CMP_VL_LOAD (i : Nat) : Fld := ⟨R.CMP_VL_LOAD i, 0, 17⟩
def R.CMP_GL_CTL (i : Nat) : Nat := 0x720000 + i * 0x100
def F.CMP_GL_CTL_EN (i : Nat) : Fld := ⟨R.CMP_GL_CTL i, 0, 1⟩
def F.CMP_GL_CTL_CANVAS (i : Nat) : Fld := ⟨R.CMP_GL_CTL i, 1, 2⟩
def F.CMP_GL_CTL_Z (i : Nat) : Fld := ⟨R.CMP_GL_CTL i, 3, 8⟩
def F.CMP_GL_CTL_FMT (i : Nat) : Fld := ⟨R.CMP_GL_CTL i, 11, 2⟩
def F.CMP_GL_CTL_TF (i : Nat) : Fld := ⟨R.CMP_GL_CTL i, 13, 3⟩
def F.CMP_GL_CTL_PRIM (i : Nat) : Fld := ⟨R.CMP_GL_CTL i, 16, 2⟩
def F.CMP_GL_CTL_PREMULT (i : Nat) : Fld := ⟨R.CMP_GL_CTL i, 18, 1⟩
def R.CMP_GL_BASE_LO (i : Nat) : Nat := 0x720004 + i * 0x100
def F.CMP_GL_BASE_LO (i : Nat) : Fld := ⟨R.CMP_GL_BASE_LO i, 6, 26⟩
def R.CMP_GL_BASE_HI (i : Nat) : Nat := 0x720008 + i * 0x100
def F.CMP_GL_BASE_HI (i : Nat) : Fld := ⟨R.CMP_GL_BASE_HI i, 0, 4⟩
def R.CMP_GL_PITCH (i : Nat) : Nat := 0x72000C + i * 0x100
def F.CMP_GL_PITCH (i : Nat) : Fld := ⟨R.CMP_GL_PITCH i, 0, 20⟩
def R.CMP_GL_SIZE (i : Nat) : Nat := 0x720010 + i * 0x100
def F.CMP_GL_SIZE_W (i : Nat) : Fld := ⟨R.CMP_GL_SIZE i, 0, 15⟩
def F.CMP_GL_SIZE_H (i : Nat) : Fld := ⟨R.CMP_GL_SIZE i, 16, 14⟩
def R.CMP_GL_POS (i : Nat) : Nat := 0x720014 + i * 0x100
def F.CMP_GL_POS_DX (i : Nat) : Fld := ⟨R.CMP_GL_POS i, 0, 16⟩
def F.CMP_GL_POS_DY (i : Nat) : Fld := ⟨R.CMP_GL_POS i, 16, 16⟩
def R.CMP_GL_GAIN (i : Nat) : Nat := 0x720018 + i * 0x100
def F.CMP_GL_GAIN (i : Nat) : Fld := ⟨R.CMP_GL_GAIN i, 0, 16⟩
def R.CMP_GL_GALPHA (i : Nat) : Nat := 0x72001C + i * 0x100
def F.CMP_GL_GALPHA (i : Nat) : Fld := ⟨R.CMP_GL_GALPHA i, 0, 10⟩
def R.CMP_GL_DIRTY_X (i : Nat) : Nat := 0x720020 + i * 0x100
def F.CMP_GL_DIRTY_X_X0 (i : Nat) : Fld := ⟨R.CMP_GL_DIRTY_X i, 0, 9⟩
def F.CMP_GL_DIRTY_X_X1 (i : Nat) : Fld := ⟨R.CMP_GL_DIRTY_X i, 16, 9⟩
def R.CMP_GL_DIRTY_Y (i : Nat) : Nat := 0x720024 + i * 0x100
def F.CMP_GL_DIRTY_Y_Y0 (i : Nat) : Fld := ⟨R.CMP_GL_DIRTY_Y i, 0, 8⟩
def F.CMP_GL_DIRTY_Y_Y1 (i : Nat) : Fld := ⟨R.CMP_GL_DIRTY_Y i, 16, 8⟩
def R.CMP_GL_CMD (i : Nat) : Nat := 0x720028 + i * 0x100
def F.CMP_GL_CMD_DIRTY (i : Nat) : Fld := ⟨R.CMP_GL_CMD i, 0, 1⟩
def R.CMP_GL_MTX (i : Nat) (j : Nat) : Nat := 0x720030 + i * 0x100 + j * 0x4
def F.CMP_GL_MTX (i : Nat) (j : Nat) : Fld := ⟨R.CMP_GL_MTX i j, 0, 20⟩
def R.CMP_GL_STAT (i : Nat) : Nat := 0x720080 + i * 0x100
def F.CMP_GL_STAT_IN_FLATTEN (i : Nat) : Fld := ⟨R.CMP_GL_STAT i, 0, 1⟩
def R.CMP_GL_LOAD (i : Nat) : Nat := 0x720084 + i * 0x100
def F.CMP_GL_LOAD (i : Nat) : Fld := ⟨R.CMP_GL_LOAD i, 0, 17⟩
def R.CMP_LT_CTL (i : Nat) : Nat := 0x702000 + i * 0x100
def F.CMP_LT_CTL_MODE (i : Nat) : Fld := ⟨R.CMP_LT_CTL i, 0, 2⟩
def F.CMP_LT_CTL_HIDE_BELOW (i : Nat) : Fld := ⟨R.CMP_LT_CTL i, 2, 1⟩
def F.CMP_LT_CTL_LATCH (i : Nat) : Fld := ⟨R.CMP_LT_CTL i, 3, 1⟩
def R.CMP_LT_BASE_LO (i : Nat) : Nat := 0x702004 + i * 0x100
def F.CMP_LT_BASE_LO (i : Nat) : Fld := ⟨R.CMP_LT_BASE_LO i, 6, 26⟩
def R.CMP_LT_BASE_HI (i : Nat) : Nat := 0x702008 + i * 0x100
def F.CMP_LT_BASE_HI (i : Nat) : Fld := ⟨R.CMP_LT_BASE_HI i, 0, 4⟩
def R.CMP_LT_PITCH (i : Nat) : Nat := 0x70200C + i * 0x100
def F.CMP_LT_PITCH (i : Nat) : Fld := ⟨R.CMP_LT_PITCH i, 0, 20⟩
def R.CMP_LT_SIZE (i : Nat) : Nat := 0x702010 + i * 0x100
def F.CMP_LT_SIZE_W (i : Nat) : Fld := ⟨R.CMP_LT_SIZE i, 0, 15⟩
def F.CMP_LT_SIZE_H (i : Nat) : Fld := ⟨R.CMP_LT_SIZE i, 16, 14⟩
def R.CMP_LT_POS (i : Nat) : Nat := 0x702014 + i * 0x100
def F.CMP_LT_POS_X (i : Nat) : Fld := ⟨R.CMP_LT_POS i, 0, 14⟩
def F.CMP_LT_POS_Y (i : Nat) : Fld := ⟨R.CMP_LT_POS i, 16, 13⟩
def R.CMP_LT_GALPHA (i : Nat) : Nat := 0x702018 + i * 0x100
def F.CMP_LT_GALPHA (i : Nat) : Fld := ⟨R.CMP_LT_GALPHA i, 0, 10⟩
def R.CMP_LT_FLOOR (i : Nat) : Nat := 0x70201C + i * 0x100
def F.CMP_LT_FLOOR (i : Nat) : Fld := ⟨R.CMP_LT_FLOOR i, 0, 16⟩
def R.CMP_LT_HASH (i : Nat) (j : Nat) : Nat := 0x702020 + i * 0x100 + j * 0x4
def F.CMP_LT_HASH (i : Nat) (j : Nat) : Fld := ⟨R.CMP_LT_HASH i j, 0, 32⟩
def R.CMP_LT_CMD (i : Nat) : Nat := 0x702050 + i * 0x100
def F.CMP_LT_CMD_UNLATCH (i : Nat) : Fld := ⟨R.CMP_LT_CMD i, 0, 1⟩
def R.CMP_LT_STAT (i : Nat) : Nat := 0x702054 + i * 0x100
def F.CMP_LT_STAT_SHOWN (i : Nat) : Fld := ⟨R.CMP_LT_STAT i, 0, 1⟩
def F.CMP_LT_STAT_LATCHED (i : Nat) : Fld := ⟨R.CMP_LT_STAT i, 1, 1⟩
def F.CMP_LT_STAT_VERIFIED (i : Nat) : Fld := ⟨R.CMP_LT_STAT i, 2, 1⟩
def F.CMP_LT_STAT_VERIFYING (i : Nat) : Fld := ⟨R.CMP_LT_STAT i, 3, 1⟩
def R.CMP_LT_REFUSED (i : Nat) : Nat := 0x702058 + i * 0x100
def F.CMP_LT_REFUSED (i : Nat) : Fld := ⟨R.CMP_LT_REFUSED i, 0, 32⟩

/-! ### Registers of spec/07_lamp_calibration.md (R216) -/

def R.CAL_TILE_CTL (i : Nat) : Nat := 0x780000 + i * 0x20
def F.CAL_TILE_CTL_BANK (i : Nat) : Fld := ⟨R.CAL_TILE_CTL i, 0, 1⟩
def F.CAL_TILE_CTL_MTX_EN (i : Nat) : Fld := ⟨R.CAL_TILE_CTL i, 1, 1⟩
def F.CAL_TILE_CTL_CRV_EN (i : Nat) : Fld := ⟨R.CAL_TILE_CTL i, 2, 1⟩
def F.CAL_TILE_CTL_CRV_SEL (i : Nat) : Fld := ⟨R.CAL_TILE_CTL i, 3, 1⟩
def R.CAL_TILE_STAT (i : Nat) : Nat := 0x780004 + i * 0x20
def F.CAL_TILE_STAT_ACTIVE (i : Nat) : Fld := ⟨R.CAL_TILE_STAT i, 0, 1⟩
def F.CAL_TILE_STAT_OLD_BUSY (i : Nat) : Fld := ⟨R.CAL_TILE_STAT i, 1, 1⟩
def F.CAL_TILE_STAT_PENDING (i : Nat) : Fld := ⟨R.CAL_TILE_STAT i, 2, 1⟩
def F.CAL_TILE_STAT_CRV_ACTIVE (i : Nat) : Fld := ⟨R.CAL_TILE_STAT i, 3, 1⟩
def R.CAL_TILE_MTX_A (i : Nat) : Nat := 0x780008 + i * 0x20
def F.CAL_TILE_MTX_A (i : Nat) : Fld := ⟨R.CAL_TILE_MTX_A i, 0, 30⟩
def R.CAL_TILE_MTX_B (i : Nat) : Nat := 0x78000C + i * 0x20
def F.CAL_TILE_MTX_B (i : Nat) : Fld := ⟨R.CAL_TILE_MTX_B i, 0, 30⟩
def R.CAL_TILE_CRV_A (i : Nat) : Nat := 0x780010 + i * 0x20
def F.CAL_TILE_CRV_A (i : Nat) : Fld := ⟨R.CAL_TILE_CRV_A i, 0, 30⟩
def R.CAL_TILE_CRV_B (i : Nat) : Nat := 0x780014 + i * 0x20
def F.CAL_TILE_CRV_B (i : Nat) : Fld := ⟨R.CAL_TILE_CRV_B i, 0, 30⟩
def R.CAL_TILE_ECC_SUBST (i : Nat) : Nat := 0x780018 + i * 0x20
def F.CAL_TILE_ECC_SUBST (i : Nat) : Fld := ⟨R.CAL_TILE_ECC_SUBST i, 0, 32⟩
def R.CAL_SEG_CTL (i : Nat) : Nat := 0x7A0000 + i * 0x40
def F.CAL_SEG_CTL_FMT (i : Nat) : Fld := ⟨R.CAL_SEG_CTL i, 0, 2⟩
def F.CAL_SEG_CTL_DITHER (i : Nat) : Fld := ⟨R.CAL_SEG_CTL i, 2, 2⟩
def F.CAL_SEG_CTL_SCALE_LOG2 (i : Nat) : Fld := ⟨R.CAL_SEG_CTL i, 4, 3⟩
def R.CAL_SEG_BRIGHT (i : Nat) : Nat := 0x7A0004 + i * 0x40
def F.CAL_SEG_BRIGHT_TARGET (i : Nat) : Fld := ⟨R.CAL_SEG_BRIGHT i, 0, 16⟩
def F.CAL_SEG_BRIGHT_STEP (i : Nat) : Fld := ⟨R.CAL_SEG_BRIGHT i, 16, 16⟩
def R.CAL_SEG_BRIGHT_CUR (i : Nat) : Nat := 0x7A0008 + i * 0x40
def F.CAL_SEG_BRIGHT_CUR_CUR (i : Nat) : Fld := ⟨R.CAL_SEG_BRIGHT_CUR i, 0, 16⟩
def F.CAL_SEG_BRIGHT_CUR_USED (i : Nat) : Fld := ⟨R.CAL_SEG_BRIGHT_CUR i, 16, 16⟩
def R.CAL_SEG_CLIP_LO (i : Nat) : Nat := 0x7A000C + i * 0x40
def F.CAL_SEG_CLIP_LO (i : Nat) : Fld := ⟨R.CAL_SEG_CLIP_LO i, 0, 32⟩
def R.CAL_SEG_CLIP_HI (i : Nat) : Nat := 0x7A0010 + i * 0x40
def F.CAL_SEG_CLIP_HI (i : Nat) : Fld := ⟨R.CAL_SEG_CLIP_HI i, 0, 32⟩
def R.CAL_SEG_FRAMES (i : Nat) : Nat := 0x7A0014 + i * 0x40
def F.CAL_SEG_FRAMES (i : Nat) : Fld := ⟨R.CAL_SEG_FRAMES i, 0, 32⟩
def R.CAL_GLB_CRV_USED : Nat := 0x7B0000
def F.CAL_GLB_CRV_USED : Fld := ⟨R.CAL_GLB_CRV_USED, 0, 12⟩
def R.CAL_GLB_FLIP_PEND : Nat := 0x7B0004
def F.CAL_GLB_FLIP_PEND : Fld := ⟨R.CAL_GLB_FLIP_PEND, 0, 13⟩
def R.CAL_GLB_ECC_SUBST : Nat := 0x7B0008
def F.CAL_GLB_ECC_SUBST : Fld := ⟨R.CAL_GLB_ECC_SUBST, 0, 32⟩

/-! ### Registers of spec/08_time.md (R245) -/

def R.TIM_CTL : Nat := 0x080000
def F.TIM_CTL_ROLE : Fld := ⟨R.TIM_CTL, 0, 2⟩
def F.TIM_CTL_PROFILE : Fld := ⟨R.TIM_CTL, 2, 1⟩
def F.TIM_CTL_TWO_STEP : Fld := ⟨R.TIM_CTL, 3, 1⟩
def F.TIM_CTL_TRANSPORT : Fld := ⟨R.TIM_CTL, 4, 2⟩
def F.TIM_CTL_PPS_EN : Fld := ⟨R.TIM_CTL, 6, 1⟩
def F.TIM_CTL_REF : Fld := ⟨R.TIM_CTL, 7, 2⟩
def F.TIM_CTL_FREERUN_OK : Fld := ⟨R.TIM_CTL, 9, 1⟩
def F.TIM_CTL_DOMAIN : Fld := ⟨R.TIM_CTL, 16, 8⟩
def R.TIM_STAT : Nat := 0x080004
def F.TIM_STAT_STATE : Fld := ⟨R.TIM_STAT, 0, 3⟩
def F.TIM_STAT_REF_OK : Fld := ⟨R.TIM_STAT, 3, 1⟩
def F.TIM_STAT_PPS_OK : Fld := ⟨R.TIM_STAT, 4, 1⟩
def F.TIM_STAT_GM : Fld := ⟨R.TIM_STAT, 5, 1⟩
def F.TIM_STAT_LIVE : Fld := ⟨R.TIM_STAT, 6, 1⟩
def F.TIM_STAT_SLAVE_PORT : Fld := ⟨R.TIM_STAT, 8, 4⟩
def R.TIM_CMD : Nat := 0x080008
def F.TIM_CMD_SNAP : Fld := ⟨R.TIM_CMD, 0, 1⟩
def F.TIM_CMD_SET : Fld := ⟨R.TIM_CMD, 1, 1⟩
def R.TIM_SNAP_S_HI : Nat := 0x08000C
def F.TIM_SNAP_S_HI : Fld := ⟨R.TIM_SNAP_S_HI, 0, 16⟩
def R.TIM_SNAP_S_LO : Nat := 0x080010
def F.TIM_SNAP_S_LO : Fld := ⟨R.TIM_SNAP_S_LO, 0, 32⟩
def R.TIM_SNAP_NS : Nat := 0x080014
def F.TIM_SNAP_NS : Fld := ⟨R.TIM_SNAP_NS, 0, 32⟩
def R.TIM_SNAP_SUBNS : Nat := 0x080018
def F.TIM_SNAP_SUBNS : Fld := ⟨R.TIM_SNAP_SUBNS, 0, 16⟩
def R.TIM_SET_S_HI : Nat := 0x08001C
def F.TIM_SET_S_HI : Fld := ⟨R.TIM_SET_S_HI, 0, 16⟩
def R.TIM_SET_S_LO : Nat := 0x080020
def F.TIM_SET_S_LO : Fld := ⟨R.TIM_SET_S_LO, 0, 32⟩
def R.TIM_SET_NS : Nat := 0x080024
def F.TIM_SET_NS : Fld := ⟨R.TIM_SET_NS, 0, 32⟩
def R.TIM_SERVO : Nat := 0x080028
def F.TIM_SERVO_LOCK_NS : Fld := ⟨R.TIM_SERVO, 0, 16⟩
def F.TIM_SERVO_UNLOCK_NS : Fld := ⟨R.TIM_SERVO, 16, 16⟩
def R.TIM_STEP_NS : Nat := 0x08002C
def F.TIM_STEP_NS : Fld := ⟨R.TIM_STEP_NS, 0, 32⟩
def R.TIM_LIMITS : Nat := 0x080030
def F.TIM_LIMITS_MAX_PPM : Fld := ⟨R.TIM_LIMITS, 0, 10⟩
def F.TIM_LIMITS_HOLDOVER_S : Fld := ⟨R.TIM_LIMITS, 16, 16⟩
def R.TIM_PTP_PRIO : Nat := 0x080034
def F.TIM_PTP_PRIO_PRIORITY1 : Fld := ⟨R.TIM_PTP_PRIO, 0, 8⟩
def F.TIM_PTP_PRIO_PRIORITY2 : Fld := ⟨R.TIM_PTP_PRIO, 8, 8⟩
def F.TIM_PTP_PRIO_CLOCK_CLASS : Fld := ⟨R.TIM_PTP_PRIO, 16, 8⟩
def F.TIM_PTP_PRIO_ACCURACY : Fld := ⟨R.TIM_PTP_PRIO, 24, 8⟩
def R.TIM_PTP_VAR : Nat := 0x080038
def F.TIM_PTP_VAR : Fld := ⟨R.TIM_PTP_VAR, 0, 16⟩
def R.TIM_PTP_INTV : Nat := 0x08003C
def F.TIM_PTP_INTV_LOG_SYNC : Fld := ⟨R.TIM_PTP_INTV, 0, 8⟩
def F.TIM_PTP_INTV_LOG_ANNOUNCE : Fld := ⟨R.TIM_PTP_INTV, 8, 8⟩
def F.TIM_PTP_INTV_LOG_DELAY_REQ : Fld := ⟨R.TIM_PTP_INTV, 16, 8⟩
def F.TIM_PTP_INTV_ANNOUNCE_TIMEOUT : Fld := ⟨R.TIM_PTP_INTV, 24, 4⟩
def R.TIM_UTC : Nat := 0x080040
def F.TIM_UTC_OFFSET : Fld := ⟨R.TIM_UTC, 0, 16⟩
def F.TIM_UTC_VALID : Fld := ⟨R.TIM_UTC, 16, 1⟩
def F.TIM_UTC_LEAP61 : Fld := ⟨R.TIM_UTC, 17, 1⟩
def F.TIM_UTC_LEAP59 : Fld := ⟨R.TIM_UTC, 18, 1⟩
def R.TIM_PARENT_UTC : Nat := 0x080044
def F.TIM_PARENT_UTC_OFFSET : Fld := ⟨R.TIM_PARENT_UTC, 0, 16⟩
def F.TIM_PARENT_UTC_VALID : Fld := ⟨R.TIM_PARENT_UTC, 16, 1⟩
def F.TIM_PARENT_UTC_LEAP61 : Fld := ⟨R.TIM_PARENT_UTC, 17, 1⟩
def F.TIM_PARENT_UTC_LEAP59 : Fld := ⟨R.TIM_PARENT_UTC, 18, 1⟩
def R.TIM_OFFSET : Nat := 0x080048
def F.TIM_OFFSET : Fld := ⟨R.TIM_OFFSET, 0, 32⟩
def R.TIM_PATH_DELAY : Nat := 0x08004C
def F.TIM_PATH_DELAY : Fld := ⟨R.TIM_PATH_DELAY, 0, 32⟩
def R.TIM_FREQ_ADJ : Nat := 0x080050
def F.TIM_FREQ_ADJ : Fld := ⟨R.TIM_FREQ_ADJ, 0, 32⟩
def R.TIM_PARENT_ID_HI : Nat := 0x080054
def F.TIM_PARENT_ID_HI : Fld := ⟨R.TIM_PARENT_ID_HI, 0, 32⟩
def R.TIM_PARENT_ID_LO : Nat := 0x080058
def F.TIM_PARENT_ID_LO : Fld := ⟨R.TIM_PARENT_ID_LO, 0, 32⟩
def R.TIM_PARENT_PORT : Nat := 0x08005C
def F.TIM_PARENT_PORT : Fld := ⟨R.TIM_PARENT_PORT, 0, 16⟩
def R.TIM_GM_ID_HI : Nat := 0x080060
def F.TIM_GM_ID_HI : Fld := ⟨R.TIM_GM_ID_HI, 0, 32⟩
def R.TIM_GM_ID_LO : Nat := 0x080064
def F.TIM_GM_ID_LO : Fld := ⟨R.TIM_GM_ID_LO, 0, 32⟩
def R.TIM_GM_QUAL : Nat := 0x080068
def F.TIM_GM_QUAL_PRIORITY1 : Fld := ⟨R.TIM_GM_QUAL, 0, 8⟩
def F.TIM_GM_QUAL_PRIORITY2 : Fld := ⟨R.TIM_GM_QUAL, 8, 8⟩
def F.TIM_GM_QUAL_CLOCK_CLASS : Fld := ⟨R.TIM_GM_QUAL, 16, 8⟩
def F.TIM_GM_QUAL_ACCURACY : Fld := ⟨R.TIM_GM_QUAL, 24, 8⟩
def R.TIM_STEPS_REMOVED : Nat := 0x08006C
def F.TIM_STEPS_REMOVED : Fld := ⟨R.TIM_STEPS_REMOVED, 0, 16⟩
def R.TIM_STEPS : Nat := 0x080070
def F.TIM_STEPS : Fld := ⟨R.TIM_STEPS, 0, 32⟩
def R.TIM_CLOCK_ID_HI : Nat := 0x080074
def F.TIM_CLOCK_ID_HI : Fld := ⟨R.TIM_CLOCK_ID_HI, 0, 32⟩
def R.TIM_CLOCK_ID_LO : Nat := 0x080078
def F.TIM_CLOCK_ID_LO : Fld := ⟨R.TIM_CLOCK_ID_LO, 0, 32⟩
def R.TIM_LAST_STEP : Nat := 0x08007C
def F.TIM_LAST_STEP : Fld := ⟨R.TIM_LAST_STEP, 0, 32⟩
def R.TIM_PPS_ERR : Nat := 0x080080
def F.TIM_PPS_ERR : Fld := ⟨R.TIM_PPS_ERR, 0, 32⟩
def R.TIM_REF_ERR : Nat := 0x080084
def F.TIM_REF_ERR : Fld := ⟨R.TIM_REF_ERR, 0, 32⟩
def R.TIM_SERVO_BW : Nat := 0x080088
def F.TIM_SERVO_BW : Fld := ⟨R.TIM_SERVO_BW, 0, 10⟩
def R.TIM_PORT_CTL (i : Nat) : Nat := 0x081000 + i * 0x40
def F.TIM_PORT_CTL_EN (i : Nat) : Fld := ⟨R.TIM_PORT_CTL i, 0, 1⟩
def F.TIM_PORT_CTL_MASTER_ONLY (i : Nat) : Fld := ⟨R.TIM_PORT_CTL i, 1, 1⟩
def R.TIM_PORT_STAT (i : Nat) : Nat := 0x081004 + i * 0x40
def F.TIM_PORT_STAT_STATE (i : Nat) : Fld := ⟨R.TIM_PORT_STAT i, 0, 4⟩
def R.TIM_PORT_ING_CORR (i : Nat) : Nat := 0x081008 + i * 0x40
def F.TIM_PORT_ING_CORR (i : Nat) : Fld := ⟨R.TIM_PORT_ING_CORR i, 0, 24⟩
def R.TIM_PORT_EGR_CORR (i : Nat) : Nat := 0x08100C + i * 0x40
def F.TIM_PORT_EGR_CORR (i : Nat) : Fld := ⟨R.TIM_PORT_EGR_CORR i, 0, 24⟩
def R.TIM_PORT_ASYM (i : Nat) : Nat := 0x081010 + i * 0x40
def F.TIM_PORT_ASYM (i : Nat) : Fld := ⟨R.TIM_PORT_ASYM i, 0, 24⟩
def R.TIM_PORT_RX_MSGS (i : Nat) : Nat := 0x081014 + i * 0x40
def F.TIM_PORT_RX_MSGS (i : Nat) : Fld := ⟨R.TIM_PORT_RX_MSGS i, 0, 32⟩
def R.TIM_PORT_TX_MSGS (i : Nat) : Nat := 0x081018 + i * 0x40
def F.TIM_PORT_TX_MSGS (i : Nat) : Fld := ⟨R.TIM_PORT_TX_MSGS i, 0, 32⟩
def R.TIM_PORT_RX_DROP (i : Nat) : Nat := 0x08101C + i * 0x40
def F.TIM_PORT_RX_DROP (i : Nat) : Fld := ⟨R.TIM_PORT_RX_DROP i, 0, 32⟩
def R.TIM_SEG_CTL (i : Nat) : Nat := 0x082000 + i * 0x20
def F.TIM_SEG_CTL_EN (i : Nat) : Fld := ⟨R.TIM_SEG_CTL i, 0, 1⟩
def R.TIM_SEG_RATE (i : Nat) : Nat := 0x082004 + i * 0x20
def F.TIM_SEG_RATE_NUM (i : Nat) : Fld := ⟨R.TIM_SEG_RATE i, 0, 16⟩
def F.TIM_SEG_RATE_DEN (i : Nat) : Fld := ⟨R.TIM_SEG_RATE i, 16, 16⟩
def R.TIM_SEG_DELAY (i : Nat) : Nat := 0x082008 + i * 0x20
def F.TIM_SEG_DELAY (i : Nat) : Fld := ⟨R.TIM_SEG_DELAY i, 0, 30⟩
def R.TIM_SEG_STAT (i : Nat) : Nat := 0x08200C + i * 0x20
def F.TIM_SEG_STAT_IDLE (i : Nat) : Fld := ⟨R.TIM_SEG_STAT i, 0, 1⟩
def F.TIM_SEG_STAT_REENABLE_REFUSED (i : Nat) : Fld := ⟨R.TIM_SEG_STAT i, 1, 1⟩
def R.TIM_SEG_FRAME_LO (i : Nat) : Nat := 0x082010 + i * 0x20
def F.TIM_SEG_FRAME_LO (i : Nat) : Fld := ⟨R.TIM_SEG_FRAME_LO i, 0, 32⟩
def R.TIM_SEG_FRAME_HI (i : Nat) : Nat := 0x082014 + i * 0x20
def F.TIM_SEG_FRAME_HI (i : Nat) : Fld := ⟨R.TIM_SEG_FRAME_HI i, 0, 32⟩
def R.TIM_SEG_SKIPPED (i : Nat) : Nat := 0x082018 + i * 0x20
def F.TIM_SEG_SKIPPED (i : Nat) : Fld := ⟨R.TIM_SEG_SKIPPED i, 0, 32⟩
def R.TIM_SEG_SUPPRESSED (i : Nat) : Nat := 0x08201C + i * 0x20
def F.TIM_SEG_SUPPRESSED (i : Nat) : Fld := ⟨R.TIM_SEG_SUPPRESSED i, 0, 32⟩
def R.TIM_TPO_CTL (i : Nat) : Nat := 0x083000 + i * 0x40
def F.TIM_TPO_CTL_EN (i : Nat) : Fld := ⟨R.TIM_TPO_CTL i, 0, 1⟩
def F.TIM_TPO_CTL_MODE (i : Nat) : Fld := ⟨R.TIM_TPO_CTL i, 1, 2⟩
def F.TIM_TPO_CTL_POL (i : Nat) : Fld := ⟨R.TIM_TPO_CTL i, 3, 1⟩
def F.TIM_TPO_CTL_SEG (i : Nat) : Fld := ⟨R.TIM_TPO_CTL i, 4, 6⟩
def F.TIM_TPO_CTL_COUNT (i : Nat) : Fld := ⟨R.TIM_TPO_CTL i, 16, 16⟩
def R.TIM_TPO_START_S_HI (i : Nat) : Nat := 0x083004 + i * 0x40
def F.TIM_TPO_START_S_HI (i : Nat) : Fld := ⟨R.TIM_TPO_START_S_HI i, 0, 16⟩
def R.TIM_TPO_START_S_LO (i : Nat) : Nat := 0x083008 + i * 0x40
def F.TIM_TPO_START_S_LO (i : Nat) : Fld := ⟨R.TIM_TPO_START_S_LO i, 0, 32⟩
def R.TIM_TPO_START_NS (i : Nat) : Nat := 0x08300C + i * 0x40
def F.TIM_TPO_START_NS (i : Nat) : Fld := ⟨R.TIM_TPO_START_NS i, 0, 32⟩
def R.TIM_TPO_START_SUBNS (i : Nat) : Nat := 0x083010 + i * 0x40
def F.TIM_TPO_START_SUBNS (i : Nat) : Fld := ⟨R.TIM_TPO_START_SUBNS i, 0, 16⟩
def R.TIM_TPO_OFFSET (i : Nat) : Nat := 0x083014 + i * 0x40
def F.TIM_TPO_OFFSET (i : Nat) : Fld := ⟨R.TIM_TPO_OFFSET i, 0, 32⟩
def R.TIM_TPO_PERIOD_NS (i : Nat) : Nat := 0x083018 + i * 0x40
def F.TIM_TPO_PERIOD_NS (i : Nat) : Fld := ⟨R.TIM_TPO_PERIOD_NS i, 0, 32⟩
def R.TIM_TPO_PERIOD_SUBNS (i : Nat) : Nat := 0x08301C + i * 0x40
def F.TIM_TPO_PERIOD_SUBNS (i : Nat) : Fld := ⟨R.TIM_TPO_PERIOD_SUBNS i, 0, 16⟩
def R.TIM_TPO_WIDTH (i : Nat) : Nat := 0x083020 + i * 0x40
def F.TIM_TPO_WIDTH (i : Nat) : Fld := ⟨R.TIM_TPO_WIDTH i, 0, 32⟩
def R.TIM_TPO_STAT (i : Nat) : Nat := 0x083024 + i * 0x40
def F.TIM_TPO_STAT_IDLE (i : Nat) : Fld := ⟨R.TIM_TPO_STAT i, 0, 1⟩
def F.TIM_TPO_STAT_REENABLE_REFUSED (i : Nat) : Fld := ⟨R.TIM_TPO_STAT i, 1, 1⟩
def F.TIM_TPO_STAT_CFG_INVALID (i : Nat) : Fld := ⟨R.TIM_TPO_STAT i, 2, 1⟩
def F.TIM_TPO_STAT_MISSED (i : Nat) : Fld := ⟨R.TIM_TPO_STAT i, 3, 1⟩
def F.TIM_TPO_STAT_BUSY_WRITE (i : Nat) : Fld := ⟨R.TIM_TPO_STAT i, 4, 1⟩
def R.TIM_TPO_PULSES (i : Nat) : Nat := 0x083028 + i * 0x40
def F.TIM_TPO_PULSES (i : Nat) : Fld := ⟨R.TIM_TPO_PULSES i, 0, 32⟩
def R.TIM_TCI_CTL (i : Nat) : Nat := 0x084000 + i * 0x40
def F.TIM_TCI_CTL_EN (i : Nat) : Fld := ⟨R.TIM_TCI_CTL i, 0, 1⟩
def F.TIM_TCI_CTL_EDGE (i : Nat) : Fld := ⟨R.TIM_TCI_CTL i, 1, 2⟩
def F.TIM_TCI_CTL_WIN_EN (i : Nat) : Fld := ⟨R.TIM_TCI_CTL i, 3, 1⟩
def R.TIM_TCI_OPEN_S_HI (i : Nat) : Nat := 0x084004 + i * 0x40
def F.TIM_TCI_OPEN_S_HI (i : Nat) : Fld := ⟨R.TIM_TCI_OPEN_S_HI i, 0, 16⟩
def R.TIM_TCI_OPEN_S_LO (i : Nat) : Nat := 0x084008 + i * 0x40
def F.TIM_TCI_OPEN_S_LO (i : Nat) : Fld := ⟨R.TIM_TCI_OPEN_S_LO i, 0, 32⟩
def R.TIM_TCI_OPEN_NS (i : Nat) : Nat := 0x08400C + i * 0x40
def F.TIM_TCI_OPEN_NS (i : Nat) : Fld := ⟨R.TIM_TCI_OPEN_NS i, 0, 32⟩
def R.TIM_TCI_CLOSE_S_HI (i : Nat) : Nat := 0x084010 + i * 0x40
def F.TIM_TCI_CLOSE_S_HI (i : Nat) : Fld := ⟨R.TIM_TCI_CLOSE_S_HI i, 0, 16⟩
def R.TIM_TCI_CLOSE_S_LO (i : Nat) : Nat := 0x084014 + i * 0x40
def F.TIM_TCI_CLOSE_S_LO (i : Nat) : Fld := ⟨R.TIM_TCI_CLOSE_S_LO i, 0, 32⟩
def R.TIM_TCI_CLOSE_NS (i : Nat) : Nat := 0x084018 + i * 0x40
def F.TIM_TCI_CLOSE_NS (i : Nat) : Fld := ⟨R.TIM_TCI_CLOSE_NS i, 0, 32⟩
def R.TIM_TCI_TS_S_HI (i : Nat) : Nat := 0x08401C + i * 0x40
def F.TIM_TCI_TS_S_HI_SECONDS (i : Nat) : Fld := ⟨R.TIM_TCI_TS_S_HI i, 0, 16⟩
def F.TIM_TCI_TS_S_HI_RISING (i : Nat) : Fld := ⟨R.TIM_TCI_TS_S_HI i, 16, 1⟩
def F.TIM_TCI_TS_S_HI_VALID (i : Nat) : Fld := ⟨R.TIM_TCI_TS_S_HI i, 24, 1⟩
def R.TIM_TCI_TS_S_LO (i : Nat) : Nat := 0x084020 + i * 0x40
def F.TIM_TCI_TS_S_LO (i : Nat) : Fld := ⟨R.TIM_TCI_TS_S_LO i, 0, 32⟩
def R.TIM_TCI_TS_NS (i : Nat) : Nat := 0x084024 + i * 0x40
def F.TIM_TCI_TS_NS (i : Nat) : Fld := ⟨R.TIM_TCI_TS_NS i, 0, 32⟩
def R.TIM_TCI_TS_SUBNS (i : Nat) : Nat := 0x084028 + i * 0x40
def F.TIM_TCI_TS_SUBNS (i : Nat) : Fld := ⟨R.TIM_TCI_TS_SUBNS i, 0, 16⟩
def R.TIM_TCI_CMD (i : Nat) : Nat := 0x08402C + i * 0x40
def F.TIM_TCI_CMD_POP (i : Nat) : Fld := ⟨R.TIM_TCI_CMD i, 0, 1⟩
def R.TIM_TCI_STAT (i : Nat) : Nat := 0x084030 + i * 0x40
def F.TIM_TCI_STAT_COUNT (i : Nat) : Fld := ⟨R.TIM_TCI_STAT i, 0, 5⟩
def R.TIM_TCI_LOST (i : Nat) : Nat := 0x084034 + i * 0x40
def F.TIM_TCI_LOST (i : Nat) : Fld := ⟨R.TIM_TCI_LOST i, 0, 32⟩
def R.TIM_TCI_CAPTURES (i : Nat) : Nat := 0x084038 + i * 0x40
def F.TIM_TCI_CAPTURES (i : Nat) : Fld := ⟨R.TIM_TCI_CAPTURES i, 0, 32⟩

/-! ### Registers of spec/10_output_scheduling.md (R291) -/

def R.OUT_TILE_CTL (i : Nat) : Nat := 0x7C0000 + i * 0x20
def F.OUT_TILE_CTL_SEG (i : Nat) : Fld := ⟨R.OUT_TILE_CTL i, 0, 6⟩
def F.OUT_TILE_CTL_PORT (i : Nat) : Fld := ⟨R.OUT_TILE_CTL i, 8, 4⟩
def F.OUT_TILE_CTL_ENCAP (i : Nat) : Fld := ⟨R.OUT_TILE_CTL i, 12, 2⟩
def R.OUT_TILE_RATE (i : Nat) : Nat := 0x7C0004 + i * 0x20
def F.OUT_TILE_RATE_RATE (i : Nat) : Fld := ⟨R.OUT_TILE_RATE i, 0, 17⟩
def F.OUT_TILE_RATE_BURST (i : Nat) : Fld := ⟨R.OUT_TILE_RATE i, 17, 15⟩
def R.OUT_TILE_SHAPE (i : Nat) : Nat := 0x7C0008 + i * 0x20
def F.OUT_TILE_SHAPE_QUANTUM (i : Nat) : Fld := ⟨R.OUT_TILE_SHAPE i, 0, 16⟩
def F.OUT_TILE_SHAPE_MAX_PAYLOAD (i : Nat) : Fld := ⟨R.OUT_TILE_SHAPE i, 16, 13⟩
def R.OUT_TILE_ACCEPT (i : Nat) : Nat := 0x7C000C + i * 0x20
def F.OUT_TILE_ACCEPT (i : Nat) : Fld := ⟨R.OUT_TILE_ACCEPT i, 0, 24⟩
def R.OUT_TILE_RX_IP (i : Nat) : Nat := 0x7C0010 + i * 0x20
def F.OUT_TILE_RX_IP (i : Nat) : Fld := ⟨R.OUT_TILE_RX_IP i, 0, 32⟩
def R.OUT_TILE_RX_MAC_LO (i : Nat) : Nat := 0x7C0014 + i * 0x20
def F.OUT_TILE_RX_MAC_LO (i : Nat) : Fld := ⟨R.OUT_TILE_RX_MAC_LO i, 0, 32⟩
def R.OUT_TILE_RX_MAC_HI (i : Nat) : Nat := 0x7C0018 + i * 0x20
def F.OUT_TILE_RX_MAC_HI_MAC (i : Nat) : Fld := ⟨R.OUT_TILE_RX_MAC_HI i, 0, 16⟩
def F.OUT_TILE_RX_MAC_HI_UDP (i : Nat) : Fld := ⟨R.OUT_TILE_RX_MAC_HI i, 16, 16⟩
def R.OUT_TILE_STAT (i : Nat) : Nat := 0x7C001C + i * 0x20
def F.OUT_TILE_STAT_IDLE (i : Nat) : Fld := ⟨R.OUT_TILE_STAT i, 0, 1⟩
def F.OUT_TILE_STAT_SILENT (i : Nat) : Fld := ⟨R.OUT_TILE_STAT i, 1, 1⟩
def F.OUT_TILE_STAT_LAST_SENT (i : Nat) : Fld := ⟨R.OUT_TILE_STAT i, 2, 1⟩
def F.OUT_TILE_STAT_LAST_LATE (i : Nat) : Fld := ⟨R.OUT_TILE_STAT i, 3, 1⟩
def F.OUT_TILE_STAT_REENABLE_REFUSED (i : Nat) : Fld := ⟨R.OUT_TILE_STAT i, 4, 1⟩
def F.OUT_TILE_STAT_QUEUED (i : Nat) : Fld := ⟨R.OUT_TILE_STAT i, 16, 16⟩
def R.OUT_TILE_FRAMES (i : Nat) : Nat := 0x7E0000 + i * 0x10
def F.OUT_TILE_FRAMES (i : Nat) : Fld := ⟨R.OUT_TILE_FRAMES i, 0, 32⟩
def R.OUT_TILE_LATE (i : Nat) : Nat := 0x7E0004 + i * 0x10
def F.OUT_TILE_LATE (i : Nat) : Fld := ⟨R.OUT_TILE_LATE i, 0, 32⟩
def R.OUT_TILE_ABORTED (i : Nat) : Nat := 0x7E0008 + i * 0x10
def F.OUT_TILE_ABORTED (i : Nat) : Fld := ⟨R.OUT_TILE_ABORTED i, 0, 32⟩
def R.OUT_TILE_CONFIG_ID (i : Nat) : Nat := 0x7E000C + i * 0x10
def F.OUT_TILE_CONFIG_ID (i : Nat) : Fld := ⟨R.OUT_TILE_CONFIG_ID i, 0, 32⟩
def R.OUT_SEG_CTL (i : Nat) : Nat := 0x7F0000 + i * 0x40
def F.OUT_SEG_CTL_PORTS (i : Nat) : Fld := ⟨R.OUT_SEG_CTL i, 0, 16⟩
def F.OUT_SEG_CTL_EXPRESS (i : Nat) : Fld := ⟨R.OUT_SEG_CTL i, 16, 1⟩
def F.OUT_SEG_CTL_PRESENT_EN (i : Nat) : Fld := ⟨R.OUT_SEG_CTL i, 17, 1⟩
def F.OUT_SEG_CTL_PRES_ENCAP (i : Nat) : Fld := ⟨R.OUT_SEG_CTL i, 18, 2⟩
def R.OUT_SEG_GUARD (i : Nat) : Nat := 0x7F0004 + i * 0x40
def F.OUT_SEG_GUARD_GUARD_US (i : Nat) : Fld := ⟨R.OUT_SEG_GUARD i, 0, 24⟩
def R.OUT_SEG_RX (i : Nat) : Nat := 0x7F0008 + i * 0x40
def F.OUT_SEG_RX_HOLD_MS (i : Nat) : Fld := ⟨R.OUT_SEG_RX i, 0, 16⟩
def F.OUT_SEG_RX_STATUS_MS (i : Nat) : Fld := ⟨R.OUT_SEG_RX i, 16, 16⟩
def R.OUT_SEG_PFX (i : Nat) (j : Nat) : Nat := 0x7F000C + i * 0x40 + j * 0x4
def F.OUT_SEG_PFX (i : Nat) (j : Nat) : Fld := ⟨R.OUT_SEG_PFX i j, 0, 32⟩
def R.OUT_SEG_PRES_IP (i : Nat) (j : Nat) : Nat := 0x7F0018 + i * 0x40 + j * 0x4
def F.OUT_SEG_PRES_IP (i : Nat) (j : Nat) : Fld := ⟨R.OUT_SEG_PRES_IP i j, 0, 32⟩
def R.OUT_SEG_PRES_MAC_HI (i : Nat) : Nat := 0x7F0028 + i * 0x40
def F.OUT_SEG_PRES_MAC_HI_MAC (i : Nat) : Fld := ⟨R.OUT_SEG_PRES_MAC_HI i, 0, 16⟩
def F.OUT_SEG_PRES_MAC_HI_UDP (i : Nat) : Fld := ⟨R.OUT_SEG_PRES_MAC_HI i, 16, 16⟩
def R.OUT_SEG_PRES_MAC_LO (i : Nat) : Nat := 0x7F002C + i * 0x40
def F.OUT_SEG_PRES_MAC_LO (i : Nat) : Fld := ⟨R.OUT_SEG_PRES_MAC_LO i, 0, 32⟩
def R.OUT_SEG_LATE_FRAMES (i : Nat) : Nat := 0x7F0030 + i * 0x40
def F.OUT_SEG_LATE_FRAMES (i : Nat) : Fld := ⟨R.OUT_SEG_LATE_FRAMES i, 0, 32⟩
def R.OUT_SEG_LATE_TILES (i : Nat) : Nat := 0x7F0034 + i * 0x40
def F.OUT_SEG_LATE_TILES (i : Nat) : Fld := ⟨R.OUT_SEG_LATE_TILES i, 0, 32⟩
def R.OUT_SEG_BUF_WAITS (i : Nat) : Nat := 0x7F0038 + i * 0x40
def F.OUT_SEG_BUF_WAITS (i : Nat) : Fld := ⟨R.OUT_SEG_BUF_WAITS i, 0, 32⟩
def R.OUT_SEG_PRES_SENT (i : Nat) : Nat := 0x7F003C + i * 0x40
def F.OUT_SEG_PRES_SENT (i : Nat) : Fld := ⟨R.OUT_SEG_PRES_SENT i, 0, 32⟩
def R.OUT_PORT_CTL (i : Nat) : Nat := 0x7F4000 + i * 0x100
def F.OUT_PORT_CTL_OVERHEAD (i : Nat) : Fld := ⟨R.OUT_PORT_CTL i, 0, 8⟩
def F.OUT_PORT_CTL_COMMON_QUANTUM (i : Nat) : Fld := ⟨R.OUT_PORT_CTL i, 16, 16⟩
def R.OUT_PORT_RESERVE (i : Nat) : Nat := 0x7F4004 + i * 0x100
def F.OUT_PORT_RESERVE (i : Nat) : Fld := ⟨R.OUT_PORT_RESERVE i, 0, 17⟩
def R.OUT_PORT_LOAD (i : Nat) : Nat := 0x7F4008 + i * 0x100
def F.OUT_PORT_LOAD (i : Nat) : Fld := ⟨R.OUT_PORT_LOAD i, 0, 17⟩
def R.OUT_PORT_STAT (i : Nat) : Nat := 0x7F400C + i * 0x100
def F.OUT_PORT_STAT_ELIGIBLE (i : Nat) : Fld := ⟨R.OUT_PORT_STAT i, 0, 13⟩
def R.OUT_PORT_TILE_FRAMES (i : Nat) : Nat := 0x7F4010 + i * 0x100
def F.OUT_PORT_TILE_FRAMES (i : Nat) : Fld := ⟨R.OUT_PORT_TILE_FRAMES i, 0, 32⟩
def R.OUT_PORT_PRIV_FRAMES (i : Nat) : Nat := 0x7F4014 + i * 0x100
def F.OUT_PORT_PRIV_FRAMES (i : Nat) : Fld := ⟨R.OUT_PORT_PRIV_FRAMES i, 0, 32⟩
def R.OUT_PORT_PRIV (i : Nat) (j : Nat) : Nat := 0x7F4040 + i * 0x100 + j * 0x4
def F.OUT_PORT_PRIV_KIND (i : Nat) (j : Nat) : Fld := ⟨R.OUT_PORT_PRIV i j, 0, 3⟩
def F.OUT_PORT_PRIV_INDEX (i : Nat) (j : Nat) : Fld := ⟨R.OUT_PORT_PRIV i j, 8, 12⟩
def F.OUT_PORT_PRIV_WEIGHT (i : Nat) (j : Nat) : Fld := ⟨R.OUT_PORT_PRIV i j, 24, 8⟩
def R.OUT_GLB_TFP : Nat := 0x7FF000
def F.OUT_GLB_TFP_PORT : Fld := ⟨R.OUT_GLB_TFP, 0, 16⟩
def R.OUT_GLB_STATUS_LO : Nat := 0x7FF004
def F.OUT_GLB_STATUS_LO_EN : Fld := ⟨R.OUT_GLB_STATUS_LO, 0, 1⟩
def F.OUT_GLB_STATUS_LO : Fld := ⟨R.OUT_GLB_STATUS_LO, 7, 25⟩
def R.OUT_GLB_STATUS_HI : Nat := 0x7FF008
def F.OUT_GLB_STATUS_HI : Fld := ⟨R.OUT_GLB_STATUS_HI, 0, 4⟩
def R.OUT_GLB_STATUS_DROP : Nat := 0x7FF00C
def F.OUT_GLB_STATUS_DROP : Fld := ⟨R.OUT_GLB_STATUS_DROP, 0, 32⟩
def R.OUT_GLB_OVERFLOW : Nat := 0x7FF010
def F.OUT_GLB_OVERFLOW : Fld := ⟨R.OUT_GLB_OVERFLOW, 0, 13⟩

/-! ### Registers of spec/11_memory_fabric.md (R318) -/

def R.MEM_CFG : Nat := 0x800000
def F.MEM_CFG_RATE : Fld := ⟨R.MEM_CFG, 0, 2⟩
def F.MEM_CFG_CAPACITY : Fld := ⟨R.MEM_CFG, 2, 2⟩
def F.MEM_CFG_INLINE_ECC : Fld := ⟨R.MEM_CFG, 4, 1⟩
def R.MEM_STAT : Nat := 0x800004
def F.MEM_STAT_CH_READY : Fld := ⟨R.MEM_STAT, 0, 8⟩
def F.MEM_STAT_READY : Fld := ⟨R.MEM_STAT, 8, 1⟩
def F.MEM_STAT_TRAIN_CH : Fld := ⟨R.MEM_STAT, 9, 3⟩
def F.MEM_STAT_TRAINING : Fld := ⟨R.MEM_STAT, 12, 1⟩
def F.MEM_STAT_LEAP : Fld := ⟨R.MEM_STAT, 13, 1⟩
def R.MEM_SUPPLY : Nat := 0x800008
def F.MEM_SUPPLY : Fld := ⟨R.MEM_SUPPLY, 0, 16⟩
def R.MEM_NEED : Nat := 0x80000C
def F.MEM_NEED : Fld := ⟨R.MEM_NEED, 0, 16⟩
def R.MEM_BULK_RESERVE : Nat := 0x800010
def F.MEM_BULK_RESERVE : Fld := ⟨R.MEM_BULK_RESERVE, 0, 8⟩
def R.MEM_WM : Nat := 0x800014
def F.MEM_WM_LOW : Fld := ⟨R.MEM_WM, 0, 10⟩
def F.MEM_WM_HIGH : Fld := ⟨R.MEM_WM, 16, 10⟩
def R.MEM_AGE (i : Nat) : Nat := 0x800020 + i * 0x4
def F.MEM_AGE (i : Nat) : Fld := ⟨R.MEM_AGE i, 0, 16⟩
def R.MEM_PANIC (i : Nat) : Nat := 0x800040 + i * 0x4
def F.MEM_PANIC_ON (i : Nat) : Fld := ⟨R.MEM_PANIC i, 0, 6⟩
def F.MEM_PANIC_OFF (i : Nat) : Fld := ⟨R.MEM_PANIC i, 8, 6⟩
def R.MEM_LEAP : Nat := 0x800050
def F.MEM_LEAP_MIN_US : Fld := ⟨R.MEM_LEAP, 0, 16⟩
def R.MEM_TRAIN : Nat := 0x800054
def F.MEM_TRAIN_PERIOD_MS : Fld := ⟨R.MEM_TRAIN, 0, 16⟩
def F.MEM_TRAIN_TEMP_DELTA : Fld := ⟨R.MEM_TRAIN, 16, 8⟩
def R.MEM_TRAIN_LIMIT : Nat := 0x800058
def F.MEM_TRAIN_LIMIT_LIMIT_MS : Fld := ⟨R.MEM_TRAIN_LIMIT, 0, 16⟩
def R.MEM_LEAP_COUNT : Nat := 0x800060
def F.MEM_LEAP_COUNT : Fld := ⟨R.MEM_LEAP_COUNT, 0, 32⟩
def R.MEM_LEAP_TIME : Nat := 0x800064
def F.MEM_LEAP_TIME : Fld := ⟨R.MEM_LEAP_TIME, 0, 32⟩
def R.MEM_CH_STAT (i : Nat) : Nat := 0x801000 + i * 0x40
def F.MEM_CH_STAT_DEBT (i : Nat) : Fld := ⟨R.MEM_CH_STAT i, 0, 4⟩
def F.MEM_CH_STAT_CREDIT (i : Nat) : Fld := ⟨R.MEM_CH_STAT i, 4, 4⟩
def F.MEM_CH_STAT_TRAINING (i : Nat) : Fld := ⟨R.MEM_CH_STAT i, 8, 1⟩
def F.MEM_CH_STAT_PANIC (i : Nat) : Fld := ⟨R.MEM_CH_STAT i, 9, 1⟩
def F.MEM_CH_STAT_QUEUED (i : Nat) : Fld := ⟨R.MEM_CH_STAT i, 16, 11⟩
def R.MEM_CH_CE (i : Nat) : Nat := 0x801004 + i * 0x40
def F.MEM_CH_CE (i : Nat) : Fld := ⟨R.MEM_CH_CE i, 0, 32⟩
def R.MEM_CH_UE (i : Nat) : Nat := 0x801008 + i * 0x40
def F.MEM_CH_UE (i : Nat) : Fld := ⟨R.MEM_CH_UE i, 0, 32⟩
def R.MEM_CH_UE_ADDR_LO (i : Nat) : Nat := 0x80100C + i * 0x40
def F.MEM_CH_UE_ADDR_LO (i : Nat) : Fld := ⟨R.MEM_CH_UE_ADDR_LO i, 6, 26⟩
def R.MEM_CH_UE_ADDR_HI (i : Nat) : Nat := 0x801010 + i * 0x40
def F.MEM_CH_UE_ADDR_HI_ADDR (i : Nat) : Fld := ⟨R.MEM_CH_UE_ADDR_HI i, 0, 4⟩
def F.MEM_CH_UE_ADDR_HI_LINK (i : Nat) : Fld := ⟨R.MEM_CH_UE_ADDR_HI i, 8, 1⟩
def R.MEM_CH_REF_FORCED (i : Nat) : Nat := 0x801014 + i * 0x40
def F.MEM_CH_REF_FORCED (i : Nat) : Fld := ⟨R.MEM_CH_REF_FORCED i, 0, 32⟩
def R.MEM_CH_REF_LEAP (i : Nat) : Nat := 0x801018 + i * 0x40
def F.MEM_CH_REF_LEAP (i : Nat) : Fld := ⟨R.MEM_CH_REF_LEAP i, 0, 32⟩
def R.MEM_CH_TRAIN_STEPS (i : Nat) : Nat := 0x80101C + i * 0x40
def F.MEM_CH_TRAIN_STEPS (i : Nat) : Fld := ⟨R.MEM_CH_TRAIN_STEPS i, 0, 32⟩
def R.MEM_CH_TRAIN_DONE (i : Nat) : Nat := 0x801020 + i * 0x40
def F.MEM_CH_TRAIN_DONE (i : Nat) : Fld := ⟨R.MEM_CH_TRAIN_DONE i, 0, 32⟩
def R.MEM_CH_PANIC_US (i : Nat) : Nat := 0x801024 + i * 0x40
def F.MEM_CH_PANIC_US (i : Nat) : Fld := ⟨R.MEM_CH_PANIC_US i, 0, 32⟩
def R.MEM_CH_INORDER (i : Nat) : Nat := 0x801028 + i * 0x40
def F.MEM_CH_INORDER (i : Nat) : Fld := ⟨R.MEM_CH_INORDER i, 0, 32⟩
def R.MEM_CH_RD_UNITS (i : Nat) : Nat := 0x80102C + i * 0x40
def F.MEM_CH_RD_UNITS (i : Nat) : Fld := ⟨R.MEM_CH_RD_UNITS i, 0, 32⟩
def R.MEM_CH_WR_UNITS (i : Nat) : Nat := 0x801030 + i * 0x40
def F.MEM_CH_WR_UNITS (i : Nat) : Fld := ⟨R.MEM_CH_WR_UNITS i, 0, 32⟩
def R.ARB_CTL (i : Nat) : Nat := 0x900000 + i * 0x100
def F.ARB_CTL_FREEZE (i : Nat) : Fld := ⟨R.ARB_CTL i, 0, 1⟩
def F.ARB_CTL_BURST_LIMIT (i : Nat) : Fld := ⟨R.ARB_CTL i, 8, 8⟩
def F.ARB_CTL_HOLD (i : Nat) : Fld := ⟨R.ARB_CTL i, 16, 16⟩
def R.ARB_STAT (i : Nat) : Nat := 0x900004 + i * 0x100
def F.ARB_STAT_DRAINED (i : Nat) : Fld := ⟨R.ARB_STAT i, 0, 1⟩
def F.ARB_STAT_ACTIVE (i : Nat) : Fld := ⟨R.ARB_STAT i, 1, 1⟩
def F.ARB_STAT_OWNER (i : Nat) : Fld := ⟨R.ARB_STAT i, 4, 12⟩
def F.ARB_STAT_HOG (i : Nat) : Fld := ⟨R.ARB_STAT i, 16, 1⟩
def R.ARB_GRANTS (i : Nat) : Nat := 0x900008 + i * 0x100
def F.ARB_GRANTS (i : Nat) : Fld := ⟨R.ARB_GRANTS i, 0, 32⟩
def R.ARB_HOGS (i : Nat) : Nat := 0x90000C + i * 0x100
def F.ARB_HOGS (i : Nat) : Fld := ⟨R.ARB_HOGS i, 0, 32⟩
def R.ARB_LAST_HOG (i : Nat) : Nat := 0x900010 + i * 0x100
def F.ARB_LAST_HOG (i : Nat) : Fld := ⟨R.ARB_LAST_HOG i, 0, 12⟩
def R.ARB_OWN (i : Nat) (j : Nat) : Nat := 0x900040 + i * 0x100 + j * 0x4
def F.ARB_OWN_PRIO (i : Nat) (j : Nat) : Fld := ⟨R.ARB_OWN i j, 0, 3⟩
def F.ARB_OWN_CLASS (i : Nat) (j : Nat) : Fld := ⟨R.ARB_OWN i j, 4, 3⟩
def F.ARB_OWN_PANIC (i : Nat) (j : Nat) : Fld := ⟨R.ARB_OWN i j, 8, 1⟩

/-! ### Registers of spec/12_control_plane.md (R347) -/

def R.SEC_CP_CFG : Nat := 0x037000
def F.SEC_CP_CFG_PORT : Fld := ⟨R.SEC_CP_CFG, 0, 16⟩
def R.SEC_CP_TIMERS : Nat := 0x037004
def F.SEC_CP_TIMERS_IDLE_S : Fld := ⟨R.SEC_CP_TIMERS, 0, 8⟩
def F.SEC_CP_TIMERS_GAP_MS : Fld := ⟨R.SEC_CP_TIMERS, 8, 8⟩
def F.SEC_CP_TIMERS_SETUP_MS : Fld := ⟨R.SEC_CP_TIMERS, 16, 16⟩
def R.SEC_CP_LEASE : Nat := 0x037008
def F.SEC_CP_LEASE_DEFAULT_MS : Fld := ⟨R.SEC_CP_LEASE, 0, 16⟩
def F.SEC_CP_LEASE_MAX_MS : Fld := ⟨R.SEC_CP_LEASE, 16, 16⟩
def R.SEC_CP_LOCK : Nat := 0x03700C
def F.SEC_CP_LOCK_HELD : Fld := ⟨R.SEC_CP_LOCK, 0, 1⟩
def F.SEC_CP_LOCK_HOLDER : Fld := ⟨R.SEC_CP_LOCK, 1, 4⟩
def F.SEC_CP_LOCK_STAGED : Fld := ⟨R.SEC_CP_LOCK, 16, 14⟩
def R.SEC_CP_LOCK_EXP_S_HI : Nat := 0x037010
def F.SEC_CP_LOCK_EXP_S_HI : Fld := ⟨R.SEC_CP_LOCK_EXP_S_HI, 0, 16⟩
def R.SEC_CP_LOCK_EXP_S_LO : Nat := 0x037014
def F.SEC_CP_LOCK_EXP_S_LO : Fld := ⟨R.SEC_CP_LOCK_EXP_S_LO, 0, 32⟩
def R.SEC_CP_LOCK_EXP_NS : Nat := 0x037018
def F.SEC_CP_LOCK_EXP_NS : Fld := ⟨R.SEC_CP_LOCK_EXP_NS, 0, 32⟩
def R.SEC_CP_LOCK_BROKEN : Nat := 0x03701C
def F.SEC_CP_LOCK_BROKEN : Fld := ⟨R.SEC_CP_LOCK_BROKEN, 0, 32⟩
def R.SEC_CP_COMMITS : Nat := 0x037020
def F.SEC_CP_COMMITS : Fld := ⟨R.SEC_CP_COMMITS, 0, 32⟩
def R.SEC_CP_REFUSED : Nat := 0x037024
def F.SEC_CP_REFUSED : Fld := ⟨R.SEC_CP_REFUSED, 0, 32⟩
def R.SEC_CP_SETUP_FAIL : Nat := 0x037028
def F.SEC_CP_SETUP_FAIL : Fld := ⟨R.SEC_CP_SETUP_FAIL, 0, 32⟩
def R.SEC_CP_LAST_REFUSE : Nat := 0x03702C
def F.SEC_CP_LAST_REFUSE_STATUS : Fld := ⟨R.SEC_CP_LAST_REFUSE, 0, 16⟩
def F.SEC_CP_LAST_REFUSE_SLOT : Fld := ⟨R.SEC_CP_LAST_REFUSE, 16, 4⟩
def R.SEC_CP_DROPPED : Nat := 0x037030
def F.SEC_CP_DROPPED : Fld := ⟨R.SEC_CP_DROPPED, 0, 32⟩
def R.SEC_SESS_STAT (i : Nat) : Nat := 0x038000 + i * 0x40
def F.SEC_SESS_STAT_STATE (i : Nat) : Fld := ⟨R.SEC_SESS_STAT i, 0, 2⟩
def F.SEC_SESS_STAT_PERM (i : Nat) : Fld := ⟨R.SEC_SESS_STAT i, 8, 6⟩
def F.SEC_SESS_STAT_HELD (i : Nat) : Fld := ⟨R.SEC_SESS_STAT i, 16, 6⟩
def F.SEC_SESS_STAT_EVT_HELD (i : Nat) : Fld := ⟨R.SEC_SESS_STAT i, 24, 7⟩
def F.SEC_SESS_STAT_EVT_OVERFLOW (i : Nat) : Fld := ⟨R.SEC_SESS_STAT i, 31, 1⟩
def R.SEC_SESS_HOST_ID (i : Nat) : Nat := 0x038004 + i * 0x40
def F.SEC_SESS_HOST_ID (i : Nat) : Fld := ⟨R.SEC_SESS_HOST_ID i, 0, 32⟩
def R.SEC_SESS_ID (i : Nat) : Nat := 0x038008 + i * 0x40
def F.SEC_SESS_ID (i : Nat) : Fld := ⟨R.SEC_SESS_ID i, 0, 32⟩
def R.SEC_SESS_NEXT_SEQ_HI (i : Nat) : Nat := 0x03800C + i * 0x40
def F.SEC_SESS_NEXT_SEQ_HI (i : Nat) : Fld := ⟨R.SEC_SESS_NEXT_SEQ_HI i, 0, 32⟩
def R.SEC_SESS_NEXT_SEQ_LO (i : Nat) : Nat := 0x038010 + i * 0x40
def F.SEC_SESS_NEXT_SEQ_LO (i : Nat) : Fld := ⟨R.SEC_SESS_NEXT_SEQ_LO i, 0, 32⟩
def R.SEC_SESS_RX_MSGS (i : Nat) : Nat := 0x038014 + i * 0x40
def F.SEC_SESS_RX_MSGS (i : Nat) : Fld := ⟨R.SEC_SESS_RX_MSGS i, 0, 32⟩
def R.SEC_SESS_TX_MSGS (i : Nat) : Nat := 0x038018 + i * 0x40
def F.SEC_SESS_TX_MSGS (i : Nat) : Fld := ⟨R.SEC_SESS_TX_MSGS i, 0, 32⟩
def R.SEC_SESS_AUTH_FAIL (i : Nat) : Nat := 0x03801C + i * 0x40
def F.SEC_SESS_AUTH_FAIL (i : Nat) : Fld := ⟨R.SEC_SESS_AUTH_FAIL i, 0, 32⟩
def R.SEC_SESS_DUP (i : Nat) : Nat := 0x038020 + i * 0x40
def F.SEC_SESS_DUP (i : Nat) : Fld := ⟨R.SEC_SESS_DUP i, 0, 32⟩
def R.SEC_SESS_DROPPED (i : Nat) : Nat := 0x038024 + i * 0x40
def F.SEC_SESS_DROPPED (i : Nat) : Fld := ⟨R.SEC_SESS_DROPPED i, 0, 32⟩
def R.SEC_SESS_CMD (i : Nat) : Nat := 0x038028 + i * 0x40
def F.SEC_SESS_CMD_CLOSE (i : Nat) : Fld := ⟨R.SEC_SESS_CMD i, 0, 1⟩

/-! ### Registers of spec/13_rings_queues.md (R368) -/

def R.RNG_RING_CTL (i : Nat) : Nat := 0x280000 + i * 0x40
def F.RNG_RING_CTL_EN (i : Nat) : Fld := ⟨R.RNG_RING_CTL i, 0, 1⟩
def F.RNG_RING_CTL_DIR (i : Nat) : Fld := ⟨R.RNG_RING_CTL i, 1, 1⟩
def F.RNG_RING_CTL_LOG2SIZE (i : Nat) : Fld := ⟨R.RNG_RING_CTL i, 2, 5⟩
def F.RNG_RING_CTL_NOTIFY (i : Nat) : Fld := ⟨R.RNG_RING_CTL i, 7, 1⟩
def F.RNG_RING_CTL_PROD (i : Nat) : Fld := ⟨R.RNG_RING_CTL i, 8, 2⟩
def F.RNG_RING_CTL_CONS (i : Nat) : Fld := ⟨R.RNG_RING_CTL i, 10, 2⟩
def F.RNG_RING_CTL_PREFETCH (i : Nat) : Fld := ⟨R.RNG_RING_CTL i, 12, 4⟩
def R.RNG_RING_STAT (i : Nat) : Nat := 0x280018 + i * 0x40
def F.RNG_RING_STAT_IDLE (i : Nat) : Fld := ⟨R.RNG_RING_STAT i, 0, 1⟩
def F.RNG_RING_STAT_PARKED (i : Nat) : Fld := ⟨R.RNG_RING_STAT i, 1, 1⟩
def F.RNG_RING_STAT_CQ_FULL (i : Nat) : Fld := ⟨R.RNG_RING_STAT i, 2, 1⟩
def F.RNG_RING_STAT_REENABLE_REFUSED (i : Nat) : Fld := ⟨R.RNG_RING_STAT i, 3, 1⟩
def F.RNG_RING_STAT_CFG_INVALID (i : Nat) : Fld := ⟨R.RNG_RING_STAT i, 4, 1⟩
def F.RNG_RING_STAT_HEAD_INVALID (i : Nat) : Fld := ⟨R.RNG_RING_STAT i, 5, 1⟩
def F.RNG_RING_STAT_HOLD (i : Nat) : Fld := ⟨R.RNG_RING_STAT i, 8, 6⟩
def F.RNG_RING_STAT_INFLIGHT (i : Nat) : Fld := ⟨R.RNG_RING_STAT i, 16, 6⟩
def R.RNG_RING_BIND (i : Nat) : Nat := 0x280004 + i * 0x40
def F.RNG_RING_BIND_CONS_INDEX (i : Nat) : Fld := ⟨R.RNG_RING_BIND i, 0, 12⟩
def F.RNG_RING_BIND_PROD_INDEX (i : Nat) : Fld := ⟨R.RNG_RING_BIND i, 12, 2⟩
def F.RNG_RING_BIND_CQ (i : Nat) : Fld := ⟨R.RNG_RING_BIND i, 16, 10⟩
def R.RNG_RING_BASE_LO (i : Nat) : Nat := 0x280008 + i * 0x40
def F.RNG_RING_BASE_LO (i : Nat) : Fld := ⟨R.RNG_RING_BASE_LO i, 6, 26⟩
def R.RNG_RING_BASE_HI (i : Nat) : Nat := 0x28000C + i * 0x40
def F.RNG_RING_BASE_HI (i : Nat) : Fld := ⟨R.RNG_RING_BASE_HI i, 0, 4⟩
def R.RNG_RING_TAIL (i : Nat) : Nat := 0x280010 + i * 0x40
def F.RNG_RING_TAIL_INDEX (i : Nat) : Fld := ⟨R.RNG_RING_TAIL i, 0, 16⟩
def F.RNG_RING_TAIL_PHASE (i : Nat) : Fld := ⟨R.RNG_RING_TAIL i, 16, 1⟩
def R.RNG_RING_HEAD (i : Nat) : Nat := 0x280014 + i * 0x40
def F.RNG_RING_HEAD_INDEX (i : Nat) : Fld := ⟨R.RNG_RING_HEAD i, 0, 16⟩
def F.RNG_RING_HEAD_PHASE (i : Nat) : Fld := ⟨R.RNG_RING_HEAD i, 16, 1⟩
def R.RNG_RING_ENTRIES (i : Nat) : Nat := 0x28001C + i * 0x40
def F.RNG_RING_ENTRIES (i : Nat) : Fld := ⟨R.RNG_RING_ENTRIES i, 0, 32⟩
def R.RNG_RING_REFETCH (i : Nat) : Nat := 0x280020 + i * 0x40
def F.RNG_RING_REFETCH (i : Nat) : Fld := ⟨R.RNG_RING_REFETCH i, 0, 32⟩
def R.RNG_RING_STALLS (i : Nat) : Nat := 0x280024 + i * 0x40
def F.RNG_RING_STALLS (i : Nat) : Fld := ⟨R.RNG_RING_STALLS i, 0, 32⟩
def R.RNG_RING_ERRORS (i : Nat) : Nat := 0x280028 + i * 0x40
def F.RNG_RING_ERRORS (i : Nat) : Fld := ⟨R.RNG_RING_ERRORS i, 0, 32⟩
def R.RNG_GLB_ENABLED : Nat := 0x290000
def F.RNG_GLB_ENABLED : Fld := ⟨R.RNG_GLB_ENABLED, 0, 11⟩

/-! ### Registers of spec/14_dma.md (R396) -/

def R.DMA_CH_CTL (i : Nat) : Nat := 0x200000 + i * 0x40
def F.DMA_CH_CTL_EN (i : Nat) : Fld := ⟨R.DMA_CH_CTL i, 0, 1⟩
def F.DMA_CH_CTL_PRIO (i : Nat) : Fld := ⟨R.DMA_CH_CTL i, 1, 3⟩
def F.DMA_CH_CTL_MODE (i : Nat) : Fld := ⟨R.DMA_CH_CTL i, 4, 1⟩
def F.DMA_CH_CTL_STOP_ON_ERR (i : Nat) : Fld := ⟨R.DMA_CH_CTL i, 5, 1⟩
def F.DMA_CH_CTL_REQ_EN (i : Nat) : Fld := ⟨R.DMA_CH_CTL i, 6, 1⟩
def F.DMA_CH_CTL_REQ_LINE (i : Nat) : Fld := ⟨R.DMA_CH_CTL i, 8, 9⟩
def R.DMA_CH_STAT (i : Nat) : Nat := 0x200004 + i * 0x40
def F.DMA_CH_STAT_IDLE (i : Nat) : Fld := ⟨R.DMA_CH_STAT i, 0, 1⟩
def F.DMA_CH_STAT_STATE (i : Nat) : Fld := ⟨R.DMA_CH_STAT i, 1, 3⟩
def F.DMA_CH_STAT_SHADOW_BUSY (i : Nat) : Fld := ⟨R.DMA_CH_STAT i, 4, 1⟩
def F.DMA_CH_STAT_GAP (i : Nat) : Fld := ⟨R.DMA_CH_STAT i, 5, 1⟩
def F.DMA_CH_STAT_REENABLE_REFUSED (i : Nat) : Fld := ⟨R.DMA_CH_STAT i, 6, 1⟩
def F.DMA_CH_STAT_CFG_INVALID (i : Nat) : Fld := ⟨R.DMA_CH_STAT i, 7, 1⟩
def F.DMA_CH_STAT_MOVER (i : Nat) : Fld := ⟨R.DMA_CH_STAT i, 8, 1⟩
def F.DMA_CH_STAT_ERR (i : Nat) : Fld := ⟨R.DMA_CH_STAT i, 16, 16⟩
def R.DMA_CH_DESC_LO (i : Nat) : Nat := 0x200008 + i * 0x40
def F.DMA_CH_DESC_LO (i : Nat) : Fld := ⟨R.DMA_CH_DESC_LO i, 5, 27⟩
def R.DMA_CH_DESC_HI (i : Nat) : Nat := 0x20000C + i * 0x40
def F.DMA_CH_DESC_HI (i : Nat) : Fld := ⟨R.DMA_CH_DESC_HI i, 0, 16⟩
def R.DMA_CH_SHD_DESC_LO (i : Nat) : Nat := 0x200010 + i * 0x40
def F.DMA_CH_SHD_DESC_LO (i : Nat) : Fld := ⟨R.DMA_CH_SHD_DESC_LO i, 5, 27⟩
def R.DMA_CH_SHD_DESC_HI (i : Nat) : Nat := 0x200014 + i * 0x40
def F.DMA_CH_SHD_DESC_HI (i : Nat) : Fld := ⟨R.DMA_CH_SHD_DESC_HI i, 0, 16⟩
def R.DMA_CH_SHD_CTL (i : Nat) : Nat := 0x200018 + i * 0x40
def F.DMA_CH_SHD_CTL_ARM (i : Nat) : Fld := ⟨R.DMA_CH_SHD_CTL i, 0, 1⟩
def R.DMA_CH_CMD (i : Nat) : Nat := 0x20001C + i * 0x40
def F.DMA_CH_CMD_HALT (i : Nat) : Fld := ⟨R.DMA_CH_CMD i, 0, 1⟩
def F.DMA_CH_CMD_RESUME (i : Nat) : Fld := ⟨R.DMA_CH_CMD i, 1, 1⟩
def R.DMA_CH_CUR_LO (i : Nat) : Nat := 0x200020 + i * 0x40
def F.DMA_CH_CUR_LO (i : Nat) : Fld := ⟨R.DMA_CH_CUR_LO i, 5, 27⟩
def R.DMA_CH_CUR_HI (i : Nat) : Nat := 0x200024 + i * 0x40
def F.DMA_CH_CUR_HI_ADDR (i : Nat) : Fld := ⟨R.DMA_CH_CUR_HI i, 0, 16⟩
def F.DMA_CH_CUR_HI_END (i : Nat) : Fld := ⟨R.DMA_CH_CUR_HI i, 31, 1⟩
def R.DMA_CH_BYTES (i : Nat) : Nat := 0x200028 + i * 0x40
def F.DMA_CH_BYTES (i : Nat) : Fld := ⟨R.DMA_CH_BYTES i, 0, 32⟩
def R.DMA_CH_DESCS (i : Nat) : Nat := 0x20002C + i * 0x40
def F.DMA_CH_DESCS (i : Nat) : Fld := ⟨R.DMA_CH_DESCS i, 0, 32⟩
def R.DMA_CH_GAPS (i : Nat) : Nat := 0x200030 + i * 0x40
def F.DMA_CH_GAPS (i : Nat) : Fld := ⟨R.DMA_CH_GAPS i, 0, 32⟩
def R.DMA_CH_CHAINS (i : Nat) : Nat := 0x200034 + i * 0x40
def F.DMA_CH_CHAINS (i : Nat) : Fld := ⟨R.DMA_CH_CHAINS i, 0, 32⟩
def R.DMA_CH_ERRORS (i : Nat) : Nat := 0x200038 + i * 0x40
def F.DMA_CH_ERRORS (i : Nat) : Fld := ⟨R.DMA_CH_ERRORS i, 0, 32⟩
def R.DMA_GLB_STAT : Nat := 0x240000
def F.DMA_GLB_STAT_MOVERS_BUSY : Fld := ⟨R.DMA_GLB_STAT, 0, 6⟩
def F.DMA_GLB_STAT_CHANNELS_ON : Fld := ⟨R.DMA_GLB_STAT, 16, 13⟩
def R.DMA_GLB_BYTES_LO : Nat := 0x240004
def F.DMA_GLB_BYTES_LO : Fld := ⟨R.DMA_GLB_BYTES_LO, 0, 32⟩
def R.DMA_GLB_BYTES_HI : Nat := 0x240008
def F.DMA_GLB_BYTES_HI : Fld := ⟨R.DMA_GLB_BYTES_HI, 0, 32⟩
def R.DMA_GLB_FRAMES : Nat := 0x24000C
def F.DMA_GLB_FRAMES : Fld := ⟨R.DMA_GLB_FRAMES, 0, 32⟩
def R.DMA_GLB_REQ_PEND (i : Nat) : Nat := 0x240010 + i * 0x4
def F.DMA_GLB_REQ_PEND (i : Nat) : Fld := ⟨R.DMA_GLB_REQ_PEND i, 0, 32⟩
def R.DMA_GLB_REQ_LOST : Nat := 0x240040
def F.DMA_GLB_REQ_LOST : Fld := ⟨R.DMA_GLB_REQ_LOST, 0, 32⟩
def R.DMA_MOV_STAT (i : Nat) : Nat := 0x241000 + i * 0x4
def F.DMA_MOV_STAT_BUSY (i : Nat) : Fld := ⟨R.DMA_MOV_STAT i, 0, 1⟩
def F.DMA_MOV_STAT_CHANNEL (i : Nat) : Fld := ⟨R.DMA_MOV_STAT i, 16, 12⟩
def R.APP_CTL : Nat := 0x980000
def F.APP_CTL_EN : Fld := ⟨R.APP_CTL, 0, 1⟩
def F.APP_CTL_TIMEOUT : Fld := ⟨R.APP_CTL, 8, 8⟩
def R.APP_STAT : Nat := 0x980004
def F.APP_STAT_IDLE : Fld := ⟨R.APP_STAT, 0, 1⟩
def F.APP_STAT_ACK : Fld := ⟨R.APP_STAT, 1, 1⟩
def R.APP_DREQ : Nat := 0x980008
def F.APP_DREQ_DREQ : Fld := ⟨R.APP_DREQ, 0, 16⟩
def F.APP_DREQ_DACK : Fld := ⟨R.APP_DREQ, 16, 16⟩
def R.APP_TIMEOUTS : Nat := 0x98000C
def F.APP_TIMEOUTS : Fld := ⟨R.APP_TIMEOUTS, 0, 32⟩
def R.APP_LAST_ADDR : Nat := 0x980010
def F.APP_LAST_ADDR : Fld := ⟨R.APP_LAST_ADDR, 0, 32⟩
def R.APP_RD_WORDS : Nat := 0x980014
def F.APP_RD_WORDS : Fld := ⟨R.APP_RD_WORDS, 0, 32⟩
def R.APP_WR_WORDS : Nat := 0x980018
def F.APP_WR_WORDS : Fld := ⟨R.APP_WR_WORDS, 0, 32⟩

/-! ### Registers of spec/15_almanac_control_stores.md (R420) -/

def R.ALM_SEQ_CTL (i : Nat) : Nat := 0x0C0000 + i * 0x100
def F.ALM_SEQ_CTL_EN (i : Nat) : Fld := ⟨R.ALM_SEQ_CTL i, 0, 1⟩
def F.ALM_SEQ_CTL_GATE (i : Nat) : Fld := ⟨R.ALM_SEQ_CTL i, 1, 1⟩
def F.ALM_SEQ_CTL_START (i : Nat) : Fld := ⟨R.ALM_SEQ_CTL i, 16, 13⟩
def R.ALM_SEQ_STAT (i : Nat) : Nat := 0x0C0004 + i * 0x100
def F.ALM_SEQ_STAT_IDLE (i : Nat) : Fld := ⟨R.ALM_SEQ_STAT i, 0, 1⟩
def F.ALM_SEQ_STAT_STATE (i : Nat) : Fld := ⟨R.ALM_SEQ_STAT i, 1, 3⟩
def F.ALM_SEQ_STAT_REENABLE_REFUSED (i : Nat) : Fld := ⟨R.ALM_SEQ_STAT i, 4, 1⟩
def F.ALM_SEQ_STAT_SKIPPED (i : Nat) : Fld := ⟨R.ALM_SEQ_STAT i, 5, 1⟩
def F.ALM_SEQ_STAT_WRITE_REFUSED (i : Nat) : Fld := ⟨R.ALM_SEQ_STAT i, 6, 1⟩
def F.ALM_SEQ_STAT_Z (i : Nat) : Fld := ⟨R.ALM_SEQ_STAT i, 7, 1⟩
def F.ALM_SEQ_STAT_DEPTH (i : Nat) : Fld := ⟨R.ALM_SEQ_STAT i, 8, 4⟩
def F.ALM_SEQ_STAT_PC (i : Nat) : Fld := ⟨R.ALM_SEQ_STAT i, 16, 13⟩
def R.ALM_SEQ_WAIT (i : Nat) : Nat := 0x0C0008 + i * 0x100
def F.ALM_SEQ_WAIT_KIND (i : Nat) : Fld := ⟨R.ALM_SEQ_WAIT i, 0, 2⟩
def F.ALM_SEQ_WAIT_ARG (i : Nat) : Fld := ⟨R.ALM_SEQ_WAIT i, 2, 10⟩
def R.ALM_SEQ_ERR (i : Nat) : Nat := 0x0C000C + i * 0x100
def F.ALM_SEQ_ERR_CODE (i : Nat) : Fld := ⟨R.ALM_SEQ_ERR i, 0, 16⟩
def F.ALM_SEQ_ERR_PC (i : Nat) : Fld := ⟨R.ALM_SEQ_ERR i, 16, 13⟩
def R.ALM_SEQ_LAST_REFUSED (i : Nat) : Nat := 0x0C0010 + i * 0x100
def F.ALM_SEQ_LAST_REFUSED_OFFSET (i : Nat) : Fld := ⟨R.ALM_SEQ_LAST_REFUSED i, 0, 22⟩
def F.ALM_SEQ_LAST_REFUSED_STATUS (i : Nat) : Fld := ⟨R.ALM_SEQ_LAST_REFUSED i, 22, 9⟩
def R.ALM_SEQ_WORDS (i : Nat) : Nat := 0x0C0014 + i * 0x100
def F.ALM_SEQ_WORDS (i : Nat) : Fld := ⟨R.ALM_SEQ_WORDS i, 0, 32⟩
def R.ALM_SEQ_WRITES (i : Nat) : Nat := 0x0C0018 + i * 0x100
def F.ALM_SEQ_WRITES (i : Nat) : Fld := ⟨R.ALM_SEQ_WRITES i, 0, 32⟩
def R.ALM_SEQ_REFUSED (i : Nat) : Nat := 0x0C001C + i * 0x100
def F.ALM_SEQ_REFUSED (i : Nat) : Fld := ⟨R.ALM_SEQ_REFUSED i, 0, 32⟩
def R.ALM_SEQ_POSTS (i : Nat) : Nat := 0x0C0020 + i * 0x100
def F.ALM_SEQ_POSTS (i : Nat) : Fld := ⟨R.ALM_SEQ_POSTS i, 0, 32⟩
def R.ALM_SEQ_RING_FULL (i : Nat) : Nat := 0x0C0024 + i * 0x100
def F.ALM_SEQ_RING_FULL (i : Nat) : Fld := ⟨R.ALM_SEQ_RING_FULL i, 0, 32⟩
def R.ALM_SEQ_SKIPS (i : Nat) : Nat := 0x0C0028 + i * 0x100
def F.ALM_SEQ_SKIPS (i : Nat) : Fld := ⟨R.ALM_SEQ_SKIPS i, 0, 32⟩
def R.ALM_SEQ_G (i : Nat) (j : Nat) : Nat := 0x0C0040 + i * 0x100 + j * 0x4
def F.ALM_SEQ_G (i : Nat) (j : Nat) : Fld := ⟨R.ALM_SEQ_G i j, 0, 32⟩
def R.ALM_SEQ_T_S_HI (i : Nat) (j : Nat) : Nat := 0x0C0080 + i * 0x100 + j * 0x10
def F.ALM_SEQ_T_S_HI (i : Nat) (j : Nat) : Fld := ⟨R.ALM_SEQ_T_S_HI i j, 0, 16⟩
def R.ALM_SEQ_T_S_LO (i : Nat) (j : Nat) : Nat := 0x0C0084 + i * 0x100 + j * 0x10
def F.ALM_SEQ_T_S_LO (i : Nat) (j : Nat) : Fld := ⟨R.ALM_SEQ_T_S_LO i j, 0, 32⟩
def R.ALM_SEQ_T_NS (i : Nat) (j : Nat) : Nat := 0x0C0088 + i * 0x100 + j * 0x10
def F.ALM_SEQ_T_NS (i : Nat) (j : Nat) : Fld := ⟨R.ALM_SEQ_T_NS i j, 0, 32⟩
def R.ALM_HS_SET : Nat := 0x0C1000
def F.ALM_HS_SET : Fld := ⟨R.ALM_HS_SET, 0, 16⟩
def R.ALM_HS_CLR : Nat := 0x0C1004
def F.ALM_HS_CLR : Fld := ⟨R.ALM_HS_CLR, 0, 16⟩
def R.MCS_STORE_STAT (i : Nat) : Nat := 0xF00000 + i * 0x20
def F.MCS_STORE_STAT_LOADED (i : Nat) : Fld := ⟨R.MCS_STORE_STAT i, 0, 1⟩
def F.MCS_STORE_STAT_CHECK_OK (i : Nat) : Fld := ⟨R.MCS_STORE_STAT i, 1, 1⟩
def F.MCS_STORE_STAT_POISONED (i : Nat) : Fld := ⟨R.MCS_STORE_STAT i, 2, 1⟩
def F.MCS_STORE_STAT_POISON_COUNT (i : Nat) : Fld := ⟨R.MCS_STORE_STAT i, 16, 14⟩
def R.MCS_CE (i : Nat) : Nat := 0xF00004 + i * 0x20
def F.MCS_CE (i : Nat) : Fld := ⟨R.MCS_CE i, 0, 32⟩
def R.MCS_UE (i : Nat) : Nat := 0xF00008 + i * 0x20
def F.MCS_UE (i : Nat) : Fld := ⟨R.MCS_UE i, 0, 32⟩
def R.MCS_UE_ADDR (i : Nat) : Nat := 0xF0000C + i * 0x20
def F.MCS_UE_ADDR (i : Nat) : Fld := ⟨R.MCS_UE_ADDR i, 0, 13⟩
def R.MCS_REPAIRS (i : Nat) : Nat := 0xF00010 + i * 0x20
def F.MCS_REPAIRS (i : Nat) : Fld := ⟨R.MCS_REPAIRS i, 0, 32⟩
def R.MCS_SYN_RANGE : Nat := 0xF10000
def F.MCS_SYN_RANGE_HEVC_BASE : Fld := ⟨R.MCS_SYN_RANGE, 0, 13⟩
def F.MCS_SYN_RANGE_AV1_BASE : Fld := ⟨R.MCS_SYN_RANGE, 16, 13⟩

/-! ### Registers of spec/16_events_faults.md (R446) -/

def R.EVT_SRC_CFG (i : Nat) : Nat := 0x020000 + i * 0x10
def F.EVT_SRC_CFG_EN (i : Nat) : Fld := ⟨R.EVT_SRC_CFG i, 0, 1⟩
def F.EVT_SRC_CFG_LEVEL (i : Nat) : Fld := ⟨R.EVT_SRC_CFG i, 1, 1⟩
def F.EVT_SRC_CFG_LINE (i : Nat) : Fld := ⟨R.EVT_SRC_CFG i, 8, 8⟩
def R.EVT_SRC_ROUTE (i : Nat) : Nat := 0x020004 + i * 0x10
def F.EVT_SRC_ROUTE_TARGETS (i : Nat) : Fld := ⟨R.EVT_SRC_ROUTE i, 0, 8⟩
def F.EVT_SRC_ROUTE_SINKS (i : Nat) : Fld := ⟨R.EVT_SRC_ROUTE i, 8, 16⟩
def R.EVT_SRC_STAT (i : Nat) : Nat := 0x020008 + i * 0x10
def F.EVT_SRC_STAT_PENDING (i : Nat) : Fld := ⟨R.EVT_SRC_STAT i, 0, 1⟩
def F.EVT_SRC_STAT_ASSERTED (i : Nat) : Fld := ⟨R.EVT_SRC_STAT i, 1, 1⟩
def R.EVT_SRC_COUNT (i : Nat) : Nat := 0x02000C + i * 0x10
def F.EVT_SRC_COUNT (i : Nat) : Fld := ⟨R.EVT_SRC_COUNT i, 0, 32⟩
def R.EVT_TGT_CTL (i : Nat) : Nat := 0x024000 + i * 0x20
def F.EVT_TGT_CTL_MASK (i : Nat) : Fld := ⟨R.EVT_TGT_CTL i, 0, 1⟩
def R.EVT_TGT_STAT (i : Nat) : Nat := 0x024004 + i * 0x20
def F.EVT_TGT_STAT_QUEUED (i : Nat) : Fld := ⟨R.EVT_TGT_STAT i, 0, 6⟩
def F.EVT_TGT_STAT_WAITING (i : Nat) : Fld := ⟨R.EVT_TGT_STAT i, 8, 1⟩
def R.EVT_TGT_RING_LO (i : Nat) : Nat := 0x024008 + i * 0x20
def F.EVT_TGT_RING_LO_EN (i : Nat) : Fld := ⟨R.EVT_TGT_RING_LO i, 0, 1⟩
def F.EVT_TGT_RING_LO_BASE (i : Nat) : Fld := ⟨R.EVT_TGT_RING_LO i, 6, 26⟩
def R.EVT_TGT_RING_HI (i : Nat) : Nat := 0x02400C + i * 0x20
def F.EVT_TGT_RING_HI_BASE (i : Nat) : Fld := ⟨R.EVT_TGT_RING_HI i, 0, 4⟩
def F.EVT_TGT_RING_HI_LOG2SIZE (i : Nat) : Fld := ⟨R.EVT_TGT_RING_HI i, 8, 5⟩
def R.EVT_TGT_RING_HEAD (i : Nat) : Nat := 0x024010 + i * 0x20
def F.EVT_TGT_RING_HEAD_INDEX (i : Nat) : Fld := ⟨R.EVT_TGT_RING_HEAD i, 0, 16⟩
def F.EVT_TGT_RING_HEAD_PHASE (i : Nat) : Fld := ⟨R.EVT_TGT_RING_HEAD i, 16, 1⟩
def R.EVT_TGT_RING_TAIL (i : Nat) : Nat := 0x024014 + i * 0x20
def F.EVT_TGT_RING_TAIL_INDEX (i : Nat) : Fld := ⟨R.EVT_TGT_RING_TAIL i, 0, 16⟩
def F.EVT_TGT_RING_TAIL_PHASE (i : Nat) : Fld := ⟨R.EVT_TGT_RING_TAIL i, 16, 1⟩
def R.EVT_TGT_DELIVERED (i : Nat) : Nat := 0x024018 + i * 0x20
def F.EVT_TGT_DELIVERED (i : Nat) : Fld := ⟨R.EVT_TGT_DELIVERED i, 0, 32⟩
def R.EVT_SINK_CTL (i : Nat) : Nat := 0x025000 + i * 0x20
def F.EVT_SINK_CTL_MASK (i : Nat) : Fld := ⟨R.EVT_SINK_CTL i, 0, 1⟩
def R.EVT_SINK_MOD (i : Nat) : Nat := 0x025004 + i * 0x20
def F.EVT_SINK_MOD_INTERVAL_US (i : Nat) : Fld := ⟨R.EVT_SINK_MOD i, 0, 16⟩
def F.EVT_SINK_MOD_IDLE_US (i : Nat) : Fld := ⟨R.EVT_SINK_MOD i, 16, 16⟩
def R.EVT_SINK_STAT (i : Nat) : Nat := 0x025008 + i * 0x20
def F.EVT_SINK_STAT_QUEUED (i : Nat) : Fld := ⟨R.EVT_SINK_STAT i, 0, 7⟩
def F.EVT_SINK_STAT_DORMANT (i : Nat) : Fld := ⟨R.EVT_SINK_STAT i, 8, 1⟩
def R.EVT_SINK_MSGS (i : Nat) : Nat := 0x02500C + i * 0x20
def F.EVT_SINK_MSGS (i : Nat) : Fld := ⟨R.EVT_SINK_MSGS i, 0, 32⟩
def R.EVT_SINK_OVERFLOWS (i : Nat) : Nat := 0x025010 + i * 0x20
def F.EVT_SINK_OVERFLOWS (i : Nat) : Fld := ⟨R.EVT_SINK_OVERFLOWS i, 0, 32⟩
def R.EVT_GLB_CTL : Nat := 0x026000
def F.EVT_GLB_CTL_HOLD : Fld := ⟨R.EVT_GLB_CTL, 0, 1⟩
def R.EVT_GLB_STAT : Nat := 0x026004
def F.EVT_GLB_STAT_PENDING_SOURCES : Fld := ⟨R.EVT_GLB_STAT, 0, 11⟩
def R.EVT_GLB_DROPPED : Nat := 0x026008
def F.EVT_GLB_DROPPED : Fld := ⟨R.EVT_GLB_DROPPED, 0, 32⟩
def R.FLT_SRC_CFG (i : Nat) : Nat := 0x010000 + i * 0x10
def F.FLT_SRC_CFG_SEV (i : Nat) : Fld := ⟨R.FLT_SRC_CFG i, 0, 3⟩
def F.FLT_SRC_CFG_PERSIST (i : Nat) : Fld := ⟨R.FLT_SRC_CFG i, 3, 1⟩
def F.FLT_SRC_CFG_CLASS (i : Nat) : Fld := ⟨R.FLT_SRC_CFG i, 8, 5⟩
def R.FLT_SRC_STAT (i : Nat) : Nat := 0x010004 + i * 0x10
def F.FLT_SRC_STAT_STATUS (i : Nat) : Fld := ⟨R.FLT_SRC_STAT i, 0, 1⟩
def F.FLT_SRC_STAT_CAUSE (i : Nat) : Fld := ⟨R.FLT_SRC_STAT i, 1, 1⟩
def F.FLT_SRC_STAT_CLEAR_REFUSED (i : Nat) : Fld := ⟨R.FLT_SRC_STAT i, 2, 1⟩
def F.FLT_SRC_STAT_LEVEL (i : Nat) : Fld := ⟨R.FLT_SRC_STAT i, 4, 3⟩
def F.FLT_SRC_STAT_UNIT (i : Nat) : Fld := ⟨R.FLT_SRC_STAT i, 16, 16⟩
def R.FLT_SRC_COUNT (i : Nat) : Nat := 0x010008 + i * 0x10
def F.FLT_SRC_COUNT (i : Nat) : Fld := ⟨R.FLT_SRC_COUNT i, 0, 32⟩
def R.FLT_SRC_TRANSIENT (i : Nat) : Nat := 0x01000C + i * 0x10
def F.FLT_SRC_TRANSIENT (i : Nat) : Fld := ⟨R.FLT_SRC_TRANSIENT i, 0, 32⟩
def R.FLT_GLB_CTL : Nat := 0x018000
def F.FLT_GLB_CTL_ESC_MAX : Fld := ⟨R.FLT_GLB_CTL, 0, 3⟩
def R.FLT_GLB_STAT : Nat := 0x018004
def F.FLT_GLB_STAT_STATE : Fld := ⟨R.FLT_GLB_STAT, 0, 3⟩
def F.FLT_GLB_STAT_SET : Fld := ⟨R.FLT_GLB_STAT, 8, 9⟩
def R.FLT_RETIRED_PIPES : Nat := 0x018008
def F.FLT_RETIRED_PIPES : Fld := ⟨R.FLT_RETIRED_PIPES, 0, 4⟩
def R.FLT_RETIRED_PORTS : Nat := 0x01800C
def F.FLT_RETIRED_PORTS : Fld := ⟨R.FLT_RETIRED_PORTS, 0, 16⟩
def R.FLT_RETIRED_MOVERS : Nat := 0x018010
def F.FLT_RETIRED_MOVERS : Fld := ⟨R.FLT_RETIRED_MOVERS, 0, 32⟩
def R.FLT_SHED_CANVASES : Nat := 0x018014
def F.FLT_SHED_CANVASES : Fld := ⟨R.FLT_SHED_CANVASES, 0, 4⟩
def R.FLT_LOG_NEXT : Nat := 0x018018
def F.FLT_LOG_NEXT : Fld := ⟨R.FLT_LOG_NEXT, 0, 5⟩
def R.FLT_SRAM_CE : Nat := 0x01801C
def F.FLT_SRAM_CE : Fld := ⟨R.FLT_SRAM_CE, 0, 32⟩
def R.FLT_LOG_SRC (i : Nat) : Nat := 0x019000 + i * 0x10
def F.FLT_LOG_SRC_SOURCE (i : Nat) : Fld := ⟨R.FLT_LOG_SRC i, 0, 8⟩
def F.FLT_LOG_SRC_SEV (i : Nat) : Fld := ⟨R.FLT_LOG_SRC i, 8, 3⟩
def F.FLT_LOG_SRC_ESCALATED (i : Nat) : Fld := ⟨R.FLT_LOG_SRC i, 11, 1⟩
def F.FLT_LOG_SRC_TRANSIENT (i : Nat) : Fld := ⟨R.FLT_LOG_SRC i, 12, 1⟩
def F.FLT_LOG_SRC_UNIT (i : Nat) : Fld := ⟨R.FLT_LOG_SRC i, 16, 16⟩
def R.FLT_LOG_DATA (i : Nat) : Nat := 0x019004 + i * 0x10
def F.FLT_LOG_DATA (i : Nat) : Fld := ⟨R.FLT_LOG_DATA i, 0, 32⟩
def R.FLT_LOG_S (i : Nat) : Nat := 0x019008 + i * 0x10
def F.FLT_LOG_S (i : Nat) : Fld := ⟨R.FLT_LOG_S i, 0, 32⟩
def R.FLT_LOG_NS (i : Nat) : Nat := 0x01900C + i * 0x10
def F.FLT_LOG_NS (i : Nat) : Fld := ⟨R.FLT_LOG_NS i, 0, 32⟩

/-! ### Registers of spec/17_pace_power.md (R461) -/

def R.GLB_AVS_CFG : Nat := 0x001200
def F.GLB_AVS_CFG_VMIN : Fld := ⟨R.GLB_AVS_CFG, 0, 10⟩
def F.GLB_AVS_CFG_VMAX : Fld := ⟨R.GLB_AVS_CFG, 16, 10⟩
def F.GLB_AVS_CFG_RAIL : Fld := ⟨R.GLB_AVS_CFG, 26, 4⟩
def F.GLB_AVS_CFG_CLK : Fld := ⟨R.GLB_AVS_CFG, 30, 2⟩
def R.GLB_AVS_STAT : Nat := 0x001210
def F.GLB_AVS_STAT_VREQ : Fld := ⟨R.GLB_AVS_STAT, 0, 10⟩
def F.GLB_AVS_STAT_VREAD : Fld := ⟨R.GLB_AVS_STAT, 16, 10⟩
def F.GLB_AVS_STAT_AT_MAX : Fld := ⟨R.GLB_AVS_STAT, 26, 1⟩
def F.GLB_AVS_STAT_AT_MIN : Fld := ⟨R.GLB_AVS_STAT, 27, 1⟩
def F.GLB_AVS_STAT_RISK : Fld := ⟨R.GLB_AVS_STAT, 28, 1⟩
def F.GLB_AVS_STAT_BUS_OK : Fld := ⟨R.GLB_AVS_STAT, 29, 1⟩
def F.GLB_AVS_STAT_ACTIVE : Fld := ⟨R.GLB_AVS_STAT, 30, 1⟩
def R.GLB_PACE_STAT : Nat := 0x001000
def F.GLB_PACE_STAT_INDEX : Fld := ⟨R.GLB_PACE_STAT, 0, 16⟩
def F.GLB_PACE_STAT_MON_IN : Fld := ⟨R.GLB_PACE_STAT, 16, 6⟩
def F.GLB_PACE_STAT_SLOWEST : Fld := ⟨R.GLB_PACE_STAT, 24, 5⟩
def R.GLB_PACE_PS : Nat := 0x001004
def F.GLB_PACE_PS_PACE : Fld := ⟨R.GLB_PACE_PS, 0, 16⟩
def F.GLB_PACE_PS_REF : Fld := ⟨R.GLB_PACE_PS, 16, 16⟩
def R.GLB_PACE_MAX : Nat := 0x001008
def F.GLB_PACE_MAX : Fld := ⟨R.GLB_PACE_MAX, 0, 16⟩
def R.GLB_PACE_MON (i : Nat) : Nat := 0x001100 + i * 0x4
def F.GLB_PACE_MON_PACE (i : Nat) : Fld := ⟨R.GLB_PACE_MON i, 0, 16⟩
def F.GLB_PACE_MON_REF (i : Nat) : Fld := ⟨R.GLB_PACE_MON i, 16, 15⟩
def F.GLB_PACE_MON_EXCLUDED (i : Nat) : Fld := ⟨R.GLB_PACE_MON i, 31, 1⟩
def R.GLB_AVS_CTL : Nat := 0x001204
def F.GLB_AVS_CTL_EN : Fld := ⟨R.GLB_AVS_CTL, 0, 1⟩
def F.GLB_AVS_CTL_MARGIN : Fld := ⟨R.GLB_AVS_CTL, 8, 8⟩
def F.GLB_AVS_CTL_HYST : Fld := ⟨R.GLB_AVS_CTL, 16, 8⟩
def F.GLB_AVS_CTL_BOOST : Fld := ⟨R.GLB_AVS_CTL, 24, 8⟩
def R.GLB_AVS_STEP : Nat := 0x001208
def F.GLB_AVS_STEP_UP : Fld := ⟨R.GLB_AVS_STEP, 0, 8⟩
def F.GLB_AVS_STEP_DOWN : Fld := ⟨R.GLB_AVS_STEP, 8, 8⟩
def F.GLB_AVS_STEP_PERIOD_US : Fld := ⟨R.GLB_AVS_STEP, 16, 16⟩
def R.GLB_AVS_TIMING : Nat := 0x00120C
def F.GLB_AVS_TIMING_SETTLE_US : Fld := ⟨R.GLB_AVS_TIMING, 0, 16⟩
def F.GLB_AVS_TIMING_CEIL_MS : Fld := ⟨R.GLB_AVS_TIMING, 16, 16⟩
def R.GLB_AVS_IOUT : Nat := 0x001214
def F.GLB_AVS_IOUT : Fld := ⟨R.GLB_AVS_IOUT, 0, 16⟩
def R.GLB_AVS_UPS : Nat := 0x001218
def F.GLB_AVS_UPS : Fld := ⟨R.GLB_AVS_UPS, 0, 32⟩
def R.GLB_AVS_DOWNS : Nat := 0x00121C
def F.GLB_AVS_DOWNS : Fld := ⟨R.GLB_AVS_DOWNS, 0, 32⟩
def R.GLB_AVS_BUS_ERR : Nat := 0x001220
def F.GLB_AVS_BUS_ERR : Fld := ⟨R.GLB_AVS_BUS_ERR, 0, 32⟩
def R.GLB_AVS_CEIL_TIME : Nat := 0x001224
def F.GLB_AVS_CEIL_TIME : Fld := ⟨R.GLB_AVS_CEIL_TIME, 0, 32⟩
def R.GLB_TEMP_LIMITS : Nat := 0x001300
def F.GLB_TEMP_LIMITS_HIGH : Fld := ⟨R.GLB_TEMP_LIMITS, 0, 8⟩
def F.GLB_TEMP_LIMITS_CRIT : Fld := ⟨R.GLB_TEMP_LIMITS, 8, 8⟩
def F.GLB_TEMP_LIMITS_HYST : Fld := ⟨R.GLB_TEMP_LIMITS, 16, 4⟩
def R.GLB_TEMP_STAT : Nat := 0x001304
def F.GLB_TEMP_STAT_TJ : Fld := ⟨R.GLB_TEMP_STAT, 0, 16⟩
def F.GLB_TEMP_STAT_HOTTEST : Fld := ⟨R.GLB_TEMP_STAT, 16, 5⟩
def F.GLB_TEMP_STAT_SENS_IN : Fld := ⟨R.GLB_TEMP_STAT, 24, 5⟩
def F.GLB_TEMP_STAT_HIGH : Fld := ⟨R.GLB_TEMP_STAT, 29, 1⟩
def F.GLB_TEMP_STAT_CRIT : Fld := ⟨R.GLB_TEMP_STAT, 30, 1⟩
def R.GLB_TEMP_SENS (i : Nat) : Nat := 0x001340 + i * 0x4
def F.GLB_TEMP_SENS_TEMP (i : Nat) : Fld := ⟨R.GLB_TEMP_SENS i, 0, 16⟩
def F.GLB_TEMP_SENS_EXCLUDED (i : Nat) : Fld := ⟨R.GLB_TEMP_SENS i, 31, 1⟩
def R.GLB_TEMP_MAX : Nat := 0x001380
def F.GLB_TEMP_MAX : Fld := ⟨R.GLB_TEMP_MAX, 0, 16⟩

/-! ### Registers of spec/18_startup_image.md (R488) -/

def R.GLB_ID : Nat := 0x000000
def F.GLB_ID_PART : Fld := ⟨R.GLB_ID, 0, 16⟩
def F.GLB_ID_STEPPING : Fld := ⟨R.GLB_ID, 16, 8⟩
def F.GLB_ID_GRADE : Fld := ⟨R.GLB_ID, 24, 1⟩
def R.GLB_RST_CAUSE : Nat := 0x000004
def F.GLB_RST_CAUSE_COLD : Fld := ⟨R.GLB_RST_CAUSE, 0, 1⟩
def F.GLB_RST_CAUSE_PIN : Fld := ⟨R.GLB_RST_CAUSE, 1, 1⟩
def F.GLB_RST_CAUSE_CMD : Fld := ⟨R.GLB_RST_CAUSE, 2, 1⟩
def F.GLB_RST_CAUSE_RELOAD : Fld := ⟨R.GLB_RST_CAUSE, 3, 1⟩
def R.GLB_RST_CMD : Nat := 0x000008
def F.GLB_RST_CMD_WARM : Fld := ⟨R.GLB_RST_CMD, 0, 1⟩
def R.GLB_WARM_RESETS : Nat := 0x00000C
def F.GLB_WARM_RESETS : Fld := ⟨R.GLB_WARM_RESETS, 0, 32⟩
def R.NVM_BOOT_STAT : Nat := 0x040000
def F.NVM_BOOT_STAT_STAGE : Fld := ⟨R.NVM_BOOT_STAT, 0, 4⟩
def F.NVM_BOOT_STAT_SLOT : Fld := ⟨R.NVM_BOOT_STAT, 4, 1⟩
def F.NVM_BOOT_STAT_FALLBACK : Fld := ⟨R.NVM_BOOT_STAT, 5, 1⟩
def F.NVM_BOOT_STAT_SETTINGS_APPLIED : Fld := ⟨R.NVM_BOOT_STAT, 6, 1⟩
def F.NVM_BOOT_STAT_CS1_OK : Fld := ⟨R.NVM_BOOT_STAT, 7, 1⟩
def F.NVM_BOOT_STAT_FAIL_A : Fld := ⟨R.NVM_BOOT_STAT, 8, 4⟩
def F.NVM_BOOT_STAT_FAIL_B : Fld := ⟨R.NVM_BOOT_STAT, 12, 4⟩
def F.NVM_BOOT_STAT_FORCED : Fld := ⟨R.NVM_BOOT_STAT, 16, 1⟩
def F.NVM_BOOT_STAT_SETTING_SKIPPED : Fld := ⟨R.NVM_BOOT_STAT, 17, 1⟩
def R.NVM_BOOT_SEQ : Nat := 0x040004
def F.NVM_BOOT_SEQ : Fld := ⟨R.NVM_BOOT_SEQ, 0, 32⟩
def R.NVM_BOOT_SVN : Nat := 0x040008
def F.NVM_BOOT_SVN : Fld := ⟨R.NVM_BOOT_SVN, 0, 32⟩
def R.NVM_BOOT_CTL : Nat := 0x04000C
def F.NVM_BOOT_CTL_FORCE : Fld := ⟨R.NVM_BOOT_CTL, 0, 1⟩
def F.NVM_BOOT_CTL_FORCE_SLOT : Fld := ⟨R.NVM_BOOT_CTL, 1, 1⟩
def R.NVM_BOOT_MS : Nat := 0x040010
def F.NVM_BOOT_MS : Fld := ⟨R.NVM_BOOT_MS, 0, 32⟩
def R.NVM_GEOM_CS0 : Nat := 0x040020
def F.NVM_GEOM_CS0_SIZE_LOG2 : Fld := ⟨R.NVM_GEOM_CS0, 0, 5⟩
def F.NVM_GEOM_CS0_ERASE_LOG2 : Fld := ⟨R.NVM_GEOM_CS0, 8, 5⟩
def F.NVM_GEOM_CS0_OK : Fld := ⟨R.NVM_GEOM_CS0, 16, 1⟩
def R.NVM_GEOM_CS1 : Nat := 0x040024
def F.NVM_GEOM_CS1_SIZE_LOG2 : Fld := ⟨R.NVM_GEOM_CS1, 0, 5⟩
def F.NVM_GEOM_CS1_ERASE_LOG2 : Fld := ⟨R.NVM_GEOM_CS1, 8, 5⟩
def F.NVM_GEOM_CS1_OK : Fld := ⟨R.NVM_GEOM_CS1, 16, 1⟩
def R.NVM_BOOT_DIGEST (i : Nat) : Nat := 0x040040 + i * 0x4
def F.NVM_BOOT_DIGEST (i : Nat) : Fld := ⟨R.NVM_BOOT_DIGEST i, 0, 32⟩
def R.NVM_OP_CTL : Nat := 0x040100
def F.NVM_OP_CTL_OP : Fld := ⟨R.NVM_OP_CTL, 0, 3⟩
def F.NVM_OP_CTL_SLOT : Fld := ⟨R.NVM_OP_CTL, 8, 1⟩
def R.NVM_OP_OFF : Nat := 0x040104
def F.NVM_OP_OFF : Fld := ⟨R.NVM_OP_OFF, 0, 27⟩
def R.NVM_OP_LEN : Nat := 0x040108
def F.NVM_OP_LEN : Fld := ⟨R.NVM_OP_LEN, 0, 27⟩
def R.NVM_OP_DRAM_LO : Nat := 0x04010C
def F.NVM_OP_DRAM_LO : Fld := ⟨R.NVM_OP_DRAM_LO, 0, 32⟩
def R.NVM_OP_DRAM_HI : Nat := 0x040110
def F.NVM_OP_DRAM_HI : Fld := ⟨R.NVM_OP_DRAM_HI, 0, 4⟩
def R.NVM_OP_CMD : Nat := 0x040114
def F.NVM_OP_CMD_GO : Fld := ⟨R.NVM_OP_CMD, 0, 1⟩
def R.NVM_OP_STAT : Nat := 0x040118
def F.NVM_OP_STAT_BUSY : Fld := ⟨R.NVM_OP_STAT, 0, 1⟩
def F.NVM_OP_STAT_STATUS : Fld := ⟨R.NVM_OP_STAT, 16, 16⟩
def R.NVM_REC_SEL : Nat := 0x040200
def F.NVM_REC_SEL_KIND : Fld := ⟨R.NVM_REC_SEL, 0, 3⟩
def F.NVM_REC_SEL_RECORD : Fld := ⟨R.NVM_REC_SEL, 16, 12⟩
def R.NVM_REC_CMD : Nat := 0x040204
def F.NVM_REC_CMD_READ : Fld := ⟨R.NVM_REC_CMD, 0, 1⟩
def R.NVM_REC_STAT : Nat := 0x040208
def F.NVM_REC_STAT_BUSY : Fld := ⟨R.NVM_REC_STAT, 0, 1⟩
def F.NVM_REC_STAT_VALID : Fld := ⟨R.NVM_REC_STAT, 1, 1⟩
def F.NVM_REC_STAT_COPY : Fld := ⟨R.NVM_REC_STAT, 2, 1⟩
def F.NVM_REC_STAT_STATUS : Fld := ⟨R.NVM_REC_STAT, 16, 16⟩
def R.NVM_LOG_NEXT : Nat := 0x04020C
def F.NVM_LOG_NEXT : Fld := ⟨R.NVM_LOG_NEXT, 0, 12⟩
def R.NVM_REC_WRITES : Nat := 0x040210
def F.NVM_REC_WRITES : Fld := ⟨R.NVM_REC_WRITES, 0, 32⟩
def R.NVM_LOG_DROPPED : Nat := 0x040214
def F.NVM_LOG_DROPPED : Fld := ⟨R.NVM_LOG_DROPPED, 0, 32⟩
def R.NVM_REC_BAD : Nat := 0x040218
def F.NVM_REC_BAD : Fld := ⟨R.NVM_REC_BAD, 0, 32⟩
def R.NVM_REC_DATA (i : Nat) : Nat := 0x040300 + i * 0x4
def F.NVM_REC_DATA (i : Nat) : Fld := ⟨R.NVM_REC_DATA i, 0, 32⟩

/-! ### Registers of spec/19_security.md (R511) -/

def R.SEC_STAT : Nat := 0x030000
def F.SEC_STAT_OWNER_FUSED : Fld := ⟨R.SEC_STAT, 0, 1⟩
def F.SEC_STAT_LANTERN_FUSED : Fld := ⟨R.SEC_STAT, 1, 1⟩
def F.SEC_STAT_LANTERN_KEY : Fld := ⟨R.SEC_STAT, 2, 1⟩
def F.SEC_STAT_DBG_DISABLED : Fld := ⟨R.SEC_STAT, 3, 1⟩
def F.SEC_STAT_DBG_OPEN : Fld := ⟨R.SEC_STAT, 4, 1⟩
def F.SEC_STAT_ID_BLOCKED : Fld := ⟨R.SEC_STAT, 5, 1⟩
def F.SEC_STAT_DBG_FAILS : Fld := ⟨R.SEC_STAT, 6, 2⟩
def R.SEC_ID_PUB (i : Nat) : Nat := 0x030100 + i * 0x4
def F.SEC_ID_PUB (i : Nat) : Fld := ⟨R.SEC_ID_PUB i, 0, 32⟩
def R.SEC_OWNER_HASH (i : Nat) : Nat := 0x030180 + i * 0x4
def F.SEC_OWNER_HASH (i : Nat) : Fld := ⟨R.SEC_OWNER_HASH i, 0, 32⟩
def R.SEC_LANTERN_HASH (i : Nat) : Nat := 0x0301C0 + i * 0x4
def F.SEC_LANTERN_HASH (i : Nat) : Fld := ⟨R.SEC_LANTERN_HASH i, 0, 32⟩
def R.SEC_LANTERN_KEY (i : Nat) : Nat := 0x030200 + i * 0x4
def F.SEC_LANTERN_KEY (i : Nat) : Fld := ⟨R.SEC_LANTERN_KEY i, 0, 32⟩
def R.SEC_ARB_FLOOR : Nat := 0x030300
def F.SEC_ARB_FLOOR : Fld := ⟨R.SEC_ARB_FLOOR, 0, 32⟩
def R.SEC_ARB_FUSE : Nat := 0x030304
def F.SEC_ARB_FUSE : Fld := ⟨R.SEC_ARB_FUSE, 0, 8⟩
def R.SEC_FUSE_CMD : Nat := 0x030308
def F.SEC_FUSE_CMD_ADVANCE : Fld := ⟨R.SEC_FUSE_CMD, 0, 1⟩
def R.SEC_FUSE_STAT : Nat := 0x03030C
def F.SEC_FUSE_STAT_BUSY : Fld := ⟨R.SEC_FUSE_STAT, 0, 1⟩
def F.SEC_FUSE_STAT_STATUS : Fld := ⟨R.SEC_FUSE_STAT, 16, 16⟩
def R.SEC_KEY_WIN (i : Nat) : Nat := 0x031000 + i * 0x4
def F.SEC_KEY_WIN (i : Nat) : Fld := ⟨R.SEC_KEY_WIN i, 0, 32⟩
def R.SEC_KEY_LOAD : Nat := 0x0310E0
def F.SEC_KEY_LOAD_LOAD : Fld := ⟨R.SEC_KEY_LOAD, 0, 1⟩
def R.SEC_KEY_RESULT : Nat := 0x0310E4
def F.SEC_KEY_RESULT_STATUS : Fld := ⟨R.SEC_KEY_RESULT, 0, 16⟩
def F.SEC_KEY_RESULT_SLOT : Fld := ⟨R.SEC_KEY_RESULT, 16, 8⟩
def R.SEC_KEY_LOADS : Nat := 0x0310E8
def F.SEC_KEY_LOADS : Fld := ⟨R.SEC_KEY_LOADS, 0, 32⟩
def R.SEC_KEY_FAILS : Nat := 0x0310EC
def F.SEC_KEY_FAILS : Fld := ⟨R.SEC_KEY_FAILS, 0, 32⟩
def R.SEC_KEY_STAT (i : Nat) : Nat := 0x032000 + i * 0x8
def F.SEC_KEY_STAT_VALID (i : Nat) : Fld := ⟨R.SEC_KEY_STAT i, 0, 1⟩
def F.SEC_KEY_STAT_KIND (i : Nat) : Fld := ⟨R.SEC_KEY_STAT i, 1, 3⟩
def F.SEC_KEY_STAT_IMAGE (i : Nat) : Fld := ⟨R.SEC_KEY_STAT i, 4, 1⟩
def R.SEC_KEY_ID (i : Nat) : Nat := 0x032004 + i * 0x8
def F.SEC_KEY_ID (i : Nat) : Fld := ⟨R.SEC_KEY_ID i, 0, 32⟩
def R.SEC_DBG_CHAL (i : Nat) : Nat := 0x033000 + i * 0x4
def F.SEC_DBG_CHAL (i : Nat) : Fld := ⟨R.SEC_DBG_CHAL i, 0, 32⟩
def R.SEC_DBG_TOKEN (i : Nat) : Nat := 0x033100 + i * 0x4
def F.SEC_DBG_TOKEN (i : Nat) : Fld := ⟨R.SEC_DBG_TOKEN i, 0, 32⟩
def R.SEC_DBG_CMD : Nat := 0x033220
def F.SEC_DBG_CMD_OPEN : Fld := ⟨R.SEC_DBG_CMD, 0, 1⟩
def R.SEC_DBG_STAT : Nat := 0x033224
def F.SEC_DBG_STAT_BUSY : Fld := ⟨R.SEC_DBG_STAT, 0, 1⟩
def F.SEC_DBG_STAT_OPEN : Fld := ⟨R.SEC_DBG_STAT, 1, 1⟩
def F.SEC_DBG_STAT_SCOPE : Fld := ⟨R.SEC_DBG_STAT, 2, 3⟩
def F.SEC_DBG_STAT_STATUS : Fld := ⟨R.SEC_DBG_STAT, 16, 16⟩

/-! ### Registers of spec/20_gang.md (R527) -/

def R.GNG_CFG : Nat := 0x050000
def F.GNG_CFG_DEVICE_ID : Fld := ⟨R.GNG_CFG, 0, 6⟩
def F.GNG_CFG_ROLE : Fld := ⟨R.GNG_CFG, 6, 2⟩
def F.GNG_CFG_HEAD : Fld := ⟨R.GNG_CFG, 8, 6⟩
def F.GNG_CFG_PORT : Fld := ⟨R.GNG_CFG, 16, 16⟩
def R.GNG_CTL : Nat := 0x050004
def F.GNG_CTL_KA_MS : Fld := ⟨R.GNG_CTL, 0, 16⟩
def F.GNG_CTL_RETRY_MS : Fld := ⟨R.GNG_CTL, 16, 16⟩
def R.GNG_SKEW : Nat := 0x050008
def F.GNG_SKEW_SKEW_NS : Fld := ⟨R.GNG_SKEW, 0, 32⟩
def R.GNG_STAT : Nat := 0x05000C
def F.GNG_STAT_HEAD_UP : Fld := ⟨R.GNG_STAT, 0, 1⟩
def F.GNG_STAT_SPLIT : Fld := ⟨R.GNG_STAT, 1, 1⟩
def F.GNG_STAT_UP : Fld := ⟨R.GNG_STAT, 2, 7⟩
def F.GNG_STAT_ENABLED : Fld := ⟨R.GNG_STAT, 10, 7⟩
def R.GNG_UP_LO : Nat := 0x050010
def F.GNG_UP_LO : Fld := ⟨R.GNG_UP_LO, 0, 32⟩
def R.GNG_UP_HI : Nat := 0x050014
def F.GNG_UP_HI : Fld := ⟨R.GNG_UP_HI, 0, 32⟩
def R.GNG_FAULTED_LO : Nat := 0x050018
def F.GNG_FAULTED_LO : Fld := ⟨R.GNG_FAULTED_LO, 0, 32⟩
def R.GNG_FAULTED_HI : Nat := 0x05001C
def F.GNG_FAULTED_HI : Fld := ⟨R.GNG_FAULTED_HI, 0, 32⟩
def R.GNG_RELAYS : Nat := 0x050020
def F.GNG_RELAYS : Fld := ⟨R.GNG_RELAYS, 0, 32⟩
def R.GNG_RELAY_FAIL : Nat := 0x050024
def F.GNG_RELAY_FAIL : Fld := ⟨R.GNG_RELAY_FAIL, 0, 32⟩
def R.GNG_RX_DROP : Nat := 0x050028
def F.GNG_RX_DROP : Fld := ⟨R.GNG_RX_DROP, 0, 32⟩
def R.GNG_PEER_CTL (i : Nat) : Nat := 0x051000 + i * 0x40
def F.GNG_PEER_CTL_EN (i : Nat) : Fld := ⟨R.GNG_PEER_CTL i, 0, 1⟩
def F.GNG_PEER_CTL_PORT (i : Nat) : Fld := ⟨R.GNG_PEER_CTL i, 4, 4⟩
def F.GNG_PEER_CTL_IPV6 (i : Nat) : Fld := ⟨R.GNG_PEER_CTL i, 8, 1⟩
def R.GNG_PEER_IP (i : Nat) (j : Nat) : Nat := 0x051004 + i * 0x40 + j * 0x4
def F.GNG_PEER_IP (i : Nat) (j : Nat) : Fld := ⟨R.GNG_PEER_IP i j, 0, 32⟩
def R.GNG_PEER_MAC_HI (i : Nat) : Nat := 0x051014 + i * 0x40
def F.GNG_PEER_MAC_HI (i : Nat) : Fld := ⟨R.GNG_PEER_MAC_HI i, 0, 16⟩
def R.GNG_PEER_MAC_LO (i : Nat) : Nat := 0x051018 + i * 0x40
def F.GNG_PEER_MAC_LO (i : Nat) : Fld := ⟨R.GNG_PEER_MAC_LO i, 0, 32⟩
def R.GNG_PEER_STAT (i : Nat) : Nat := 0x05101C + i * 0x40
def F.GNG_PEER_STAT_STATE (i : Nat) : Fld := ⟨R.GNG_PEER_STAT i, 0, 2⟩
def F.GNG_PEER_STAT_TIM_STATE (i : Nat) : Fld := ⟨R.GNG_PEER_STAT i, 4, 3⟩
def F.GNG_PEER_STAT_LIVE (i : Nat) : Fld := ⟨R.GNG_PEER_STAT i, 7, 1⟩
def F.GNG_PEER_STAT_FLT_STATE (i : Nat) : Fld := ⟨R.GNG_PEER_STAT i, 8, 3⟩
def F.GNG_PEER_STAT_SPLIT (i : Nat) : Fld := ⟨R.GNG_PEER_STAT i, 11, 1⟩
def R.GNG_PEER_OFFSET (i : Nat) : Nat := 0x051020 + i * 0x40
def F.GNG_PEER_OFFSET (i : Nat) : Fld := ⟨R.GNG_PEER_OFFSET i, 0, 32⟩
def R.GNG_PEER_RESETS (i : Nat) : Nat := 0x051024 + i * 0x40
def F.GNG_PEER_RESETS (i : Nat) : Fld := ⟨R.GNG_PEER_RESETS i, 0, 32⟩
def R.GNG_PEER_BOOT_SEQ (i : Nat) : Nat := 0x051028 + i * 0x40
def F.GNG_PEER_BOOT_SEQ (i : Nat) : Fld := ⟨R.GNG_PEER_BOOT_SEQ i, 0, 32⟩
def R.GNG_PEER_LOSSES (i : Nat) : Nat := 0x05102C + i * 0x40
def F.GNG_PEER_LOSSES (i : Nat) : Fld := ⟨R.GNG_PEER_LOSSES i, 0, 32⟩
def R.GNG_PEER_PENDING (i : Nat) : Nat := 0x051030 + i * 0x40
def F.GNG_PEER_PENDING (i : Nat) : Fld := ⟨R.GNG_PEER_PENDING i, 0, 9⟩
def R.GNG_PEER_DIGEST (i : Nat) (j : Nat) : Nat := 0x052000 + i * 0x40 + j * 0x4
def F.GNG_PEER_DIGEST (i : Nat) (j : Nat) : Fld := ⟨R.GNG_PEER_DIGEST i j, 0, 32⟩

/-! ### Registers of spec/21_pins_electrical.md (R556) -/

def R.GLB_GPIO_CTL (i : Nat) : Nat := 0x004000 + i * 0x4
def F.GLB_GPIO_CTL_MODE (i : Nat) : Fld := ⟨R.GLB_GPIO_CTL i, 0, 2⟩
def F.GLB_GPIO_CTL_OUT (i : Nat) : Fld := ⟨R.GLB_GPIO_CTL i, 2, 1⟩
def F.GLB_GPIO_CTL_PULL (i : Nat) : Fld := ⟨R.GLB_GPIO_CTL i, 3, 1⟩
def F.GLB_GPIO_CTL_EDGE (i : Nat) : Fld := ⟨R.GLB_GPIO_CTL i, 4, 2⟩
def F.GLB_GPIO_CTL_DEBOUNCE (i : Nat) : Fld := ⟨R.GLB_GPIO_CTL i, 8, 8⟩
def R.GLB_GPIO_IN : Nat := 0x004040
def F.GLB_GPIO_IN : Fld := ⟨R.GLB_GPIO_IN, 0, 16⟩
def R.GLB_RAIL_STAT : Nat := 0x004080
def F.GLB_RAIL_STAT_OK : Fld := ⟨R.GLB_RAIL_STAT, 0, 7⟩
def R.GLB_CLK_STAT : Nat := 0x004084
def F.GLB_CLK_STAT_ETH_OK : Fld := ⟨R.GLB_CLK_STAT, 0, 4⟩
def R.GLB_RAIL_EVENTS : Nat := 0x004088
def F.GLB_RAIL_EVENTS : Fld := ⟨R.GLB_RAIL_EVENTS, 0, 32⟩

end Sys2Proof.Machine
end

