-- ==== Sys2Proof/Machine/RegMap.lean ====
section
/-! DEFINITION. The register map: every register of the spec's tables with its place, its fields, their access codes
 (R10) and their reset values. Unlisted offsets are unmapped (R12, R29). -/

namespace Sys2Proof.Machine

/-- The access codes of R10. -/
inductive Acc where
  | rw | ro | w1c | w1s | wo | rwb | rwl
  deriving DecidableEq, Repr

/-- One field of a register: its lowest bit, its width, its access code and its reset value. -/
structure FieldDef where
  lo : Nat
  width : Nat
  acc : Acc
  reset : Nat
  deriving DecidableEq, Repr

/-- One register of the map, or an array of registers: the offset of the first, (stride, count) of each index, and
 its fields. A bit outside every field is reserved (R11). -/
structure RegDef where
  name : String
  base : Nat
  dims : List (Nat × Nat)
  fields : List FieldDef
  deriving DecidableEq, Repr

/-- Registers of block GLB, part 0. -/
def regMapGLB0 : List RegDef := [
  ⟨"GLB_ID", 0x000000, [], [⟨0, 16, .ro, 0⟩, ⟨16, 8, .ro, 0⟩, ⟨24, 1, .ro, 0⟩]⟩,
  ⟨"GLB_RST_CAUSE", 0x000004, [], [⟨0, 1, .w1c, 1⟩, ⟨1, 1, .w1c, 0⟩, ⟨2, 1, .w1c, 0⟩, ⟨3, 1, .w1c, 0⟩]⟩,
  ⟨"GLB_RST_CMD", 0x000008, [], [⟨0, 1, .w1s, 0⟩]⟩,
  ⟨"GLB_WARM_RESETS", 0x00000C, [], [⟨0, 32, .ro, 0⟩]⟩,
  ⟨"GLB_PACE_STAT", 0x001000, [], [⟨0, 16, .ro, 0⟩, ⟨16, 6, .ro, 32⟩, ⟨24, 5, .ro, 0⟩]⟩,
  ⟨"GLB_PACE_PS", 0x001004, [], [⟨0, 16, .ro, 0⟩, ⟨16, 16, .ro, 0⟩]⟩,
  ⟨"GLB_PACE_MAX", 0x001008, [], [⟨0, 16, .rw, 0⟩]⟩,
  ⟨"GLB_PACE_MON", 0x001100, [(0x4, 32)], [⟨0, 16, .ro, 0⟩, ⟨16, 15, .ro, 0⟩, ⟨31, 1, .ro, 0⟩]⟩,
  ⟨"GLB_AVS_CFG", 0x001200, [], [⟨0, 10, .rwb, 600⟩, ⟨16, 10, .rwb, 900⟩, ⟨26, 4, .rwb, 0⟩, ⟨30, 2, .rwb, 1⟩]⟩,
  ⟨"GLB_AVS_CTL", 0x001204, [], [⟨0, 1, .rw, 0⟩, ⟨8, 8, .rw, 8⟩, ⟨16, 8, .rw, 8⟩, ⟨24, 8, .rw, 16⟩]⟩,
  ⟨"GLB_AVS_STEP", 0x001208, [], [⟨0, 8, .rw, 10⟩, ⟨8, 8, .rw, 5⟩, ⟨16, 16, .rw, 100⟩]⟩,
  ⟨"GLB_AVS_TIMING", 0x00120C, [], [⟨0, 16, .rw, 50⟩, ⟨16, 16, .rw, 100⟩]⟩,
  ⟨"GLB_AVS_STAT", 0x001210, [], [⟨0, 10, .ro, 0⟩, ⟨16, 10, .ro, 0⟩, ⟨26, 1, .ro, 0⟩, ⟨27, 1, .ro, 0⟩, ⟨28, 1, .ro, 0⟩, ⟨29, 1, .ro, 1⟩, ⟨30, 1, .ro, 0⟩]⟩,
  ⟨"GLB_AVS_IOUT", 0x001214, [], [⟨0, 16, .ro, 0⟩]⟩,
  ⟨"GLB_AVS_UPS", 0x001218, [], [⟨0, 32, .ro, 0⟩]⟩,
  ⟨"GLB_AVS_DOWNS", 0x00121C, [], [⟨0, 32, .ro, 0⟩]⟩,
  ⟨"GLB_AVS_BUS_ERR", 0x001220, [], [⟨0, 32, .ro, 0⟩]⟩,
  ⟨"GLB_AVS_CEIL_TIME", 0x001224, [], [⟨0, 32, .ro, 0⟩]⟩,
  ⟨"GLB_TEMP_LIMITS", 0x001300, [], [⟨0, 8, .rw, 0⟩, ⟨8, 8, .rw, 0⟩, ⟨16, 4, .rw, 0⟩]⟩,
  ⟨"GLB_TEMP_STAT", 0x001304, [], [⟨0, 16, .ro, 0⟩, ⟨16, 5, .ro, 0⟩, ⟨24, 5, .ro, 16⟩, ⟨29, 1, .ro, 0⟩, ⟨30, 1, .ro, 0⟩]⟩,
  ⟨"GLB_TEMP_SENS", 0x001340, [(0x4, 16)], [⟨0, 16, .ro, 0⟩, ⟨31, 1, .ro, 0⟩]⟩,
  ⟨"GLB_TEMP_MAX", 0x001380, [], [⟨0, 16, .rw, 32768⟩]⟩,
  ⟨"GLB_GPIO_CTL", 0x004000, [(0x4, 16)], [⟨0, 2, .rw, 0⟩, ⟨2, 1, .rw, 0⟩, ⟨3, 1, .rw, 0⟩, ⟨4, 2, .rw, 0⟩, ⟨8, 8, .rw, 0⟩]⟩,
  ⟨"GLB_GPIO_IN", 0x004040, [], [⟨0, 16, .ro, 0⟩]⟩]

/-- Registers of block GLB, part 1. -/
def regMapGLB1 : List RegDef := [
  ⟨"GLB_RAIL_STAT", 0x004080, [], [⟨0, 7, .ro, 127⟩]⟩,
  ⟨"GLB_CLK_STAT", 0x004084, [], [⟨0, 4, .ro, 15⟩]⟩,
  ⟨"GLB_RAIL_EVENTS", 0x004088, [], [⟨0, 32, .ro, 0⟩]⟩]

/-- The registers of block GLB. -/
def regMapGLB : List RegDef := regMapGLB0 ++ regMapGLB1

/-- Registers of block FLT, part 0. -/
def regMapFLT0 : List RegDef := [
  ⟨"FLT_SRC_CFG", 0x010000, [(0x10, 256)], [⟨0, 3, .rw, 0⟩, ⟨3, 1, .rw, 0⟩, ⟨8, 5, .rw, 0⟩]⟩,
  ⟨"FLT_SRC_STAT", 0x010004, [(0x10, 256)], [⟨0, 1, .w1c, 0⟩, ⟨1, 1, .ro, 0⟩, ⟨2, 1, .w1c, 0⟩, ⟨4, 3, .ro, 0⟩, ⟨16, 16, .ro, 0⟩]⟩,
  ⟨"FLT_SRC_COUNT", 0x010008, [(0x10, 256)], [⟨0, 32, .ro, 0⟩]⟩,
  ⟨"FLT_SRC_TRANSIENT", 0x01000C, [(0x10, 256)], [⟨0, 32, .ro, 0⟩]⟩,
  ⟨"FLT_GLB_CTL", 0x018000, [], [⟨0, 3, .rw, 3⟩]⟩,
  ⟨"FLT_GLB_STAT", 0x018004, [], [⟨0, 3, .ro, 0⟩, ⟨8, 9, .ro, 0⟩]⟩,
  ⟨"FLT_RETIRED_PIPES", 0x018008, [], [⟨0, 4, .w1c, 0⟩]⟩,
  ⟨"FLT_RETIRED_PORTS", 0x01800C, [], [⟨0, 16, .w1c, 0⟩]⟩,
  ⟨"FLT_RETIRED_MOVERS", 0x018010, [], [⟨0, 32, .w1c, 0⟩]⟩,
  ⟨"FLT_SHED_CANVASES", 0x018014, [], [⟨0, 4, .ro, 0⟩]⟩,
  ⟨"FLT_LOG_NEXT", 0x018018, [], [⟨0, 5, .ro, 0⟩]⟩,
  ⟨"FLT_SRAM_CE", 0x01801C, [], [⟨0, 32, .ro, 0⟩]⟩,
  ⟨"FLT_LOG_SRC", 0x019000, [(0x10, 32)], [⟨0, 8, .ro, 0⟩, ⟨8, 3, .ro, 0⟩, ⟨11, 1, .ro, 0⟩, ⟨12, 1, .ro, 0⟩, ⟨16, 16, .ro, 0⟩]⟩,
  ⟨"FLT_LOG_DATA", 0x019004, [(0x10, 32)], [⟨0, 32, .ro, 0⟩]⟩,
  ⟨"FLT_LOG_S", 0x019008, [(0x10, 32)], [⟨0, 32, .ro, 0⟩]⟩,
  ⟨"FLT_LOG_NS", 0x01900C, [(0x10, 32)], [⟨0, 32, .ro, 0⟩]⟩]

/-- The registers of block FLT. -/
def regMapFLT : List RegDef := regMapFLT0

/-- Registers of block EVT, part 0. -/
def regMapEVT0 : List RegDef := [
  ⟨"EVT_SRC_CFG", 0x020000, [(0x10, 1024)], [⟨0, 1, .rw, 0⟩, ⟨1, 1, .rw, 0⟩, ⟨8, 8, .rw, 0⟩]⟩,
  ⟨"EVT_SRC_ROUTE", 0x020004, [(0x10, 1024)], [⟨0, 8, .rw, 0⟩, ⟨8, 16, .rw, 0⟩]⟩,
  ⟨"EVT_SRC_STAT", 0x020008, [(0x10, 1024)], [⟨0, 1, .ro, 0⟩, ⟨1, 1, .ro, 0⟩]⟩,
  ⟨"EVT_SRC_COUNT", 0x02000C, [(0x10, 1024)], [⟨0, 32, .ro, 0⟩]⟩,
  ⟨"EVT_TGT_CTL", 0x024000, [(0x20, 8)], [⟨0, 1, .rw, 0⟩]⟩,
  ⟨"EVT_TGT_STAT", 0x024004, [(0x20, 8)], [⟨0, 6, .ro, 0⟩, ⟨8, 1, .ro, 0⟩]⟩,
  ⟨"EVT_TGT_RING_LO", 0x024008, [(0x20, 8)], [⟨0, 1, .rw, 0⟩, ⟨6, 26, .rw, 0⟩]⟩,
  ⟨"EVT_TGT_RING_HI", 0x02400C, [(0x20, 8)], [⟨0, 4, .rw, 0⟩, ⟨8, 5, .rw, 4⟩]⟩,
  ⟨"EVT_TGT_RING_HEAD", 0x024010, [(0x20, 8)], [⟨0, 16, .rw, 0⟩, ⟨16, 1, .rw, 0⟩]⟩,
  ⟨"EVT_TGT_RING_TAIL", 0x024014, [(0x20, 8)], [⟨0, 16, .ro, 0⟩, ⟨16, 1, .ro, 0⟩]⟩,
  ⟨"EVT_TGT_DELIVERED", 0x024018, [(0x20, 8)], [⟨0, 32, .ro, 0⟩]⟩,
  ⟨"EVT_SINK_CTL", 0x025000, [(0x20, 16)], [⟨0, 1, .rw, 0⟩]⟩,
  ⟨"EVT_SINK_MOD", 0x025004, [(0x20, 16)], [⟨0, 16, .rw, 1000⟩, ⟨16, 16, .rw, 10000⟩]⟩,
  ⟨"EVT_SINK_STAT", 0x025008, [(0x20, 16)], [⟨0, 7, .ro, 0⟩, ⟨8, 1, .ro, 1⟩]⟩,
  ⟨"EVT_SINK_MSGS", 0x02500C, [(0x20, 16)], [⟨0, 32, .ro, 0⟩]⟩,
  ⟨"EVT_SINK_OVERFLOWS", 0x025010, [(0x20, 16)], [⟨0, 32, .ro, 0⟩]⟩,
  ⟨"EVT_GLB_CTL", 0x026000, [], [⟨0, 1, .rw, 0⟩]⟩,
  ⟨"EVT_GLB_STAT", 0x026004, [], [⟨0, 11, .ro, 0⟩]⟩,
  ⟨"EVT_GLB_DROPPED", 0x026008, [], [⟨0, 32, .ro, 0⟩]⟩]

/-- The registers of block EVT. -/
def regMapEVT : List RegDef := regMapEVT0

/-- Registers of block SEC, part 0. -/
def regMapSEC0 : List RegDef := [
  ⟨"SEC_STAT", 0x030000, [], [⟨0, 1, .ro, 0⟩, ⟨1, 1, .ro, 0⟩, ⟨2, 1, .ro, 0⟩, ⟨3, 1, .ro, 0⟩, ⟨4, 1, .ro, 0⟩, ⟨5, 1, .ro, 0⟩, ⟨6, 2, .ro, 0⟩]⟩,
  ⟨"SEC_ID_PUB", 0x030100, [(0x4, 25)], [⟨0, 32, .ro, 0⟩]⟩,
  ⟨"SEC_OWNER_HASH", 0x030180, [(0x4, 12)], [⟨0, 32, .ro, 0⟩]⟩,
  ⟨"SEC_LANTERN_HASH", 0x0301C0, [(0x4, 12)], [⟨0, 32, .ro, 0⟩]⟩,
  ⟨"SEC_LANTERN_KEY", 0x030200, [(0x4, 12)], [⟨0, 32, .ro, 0⟩]⟩,
  ⟨"SEC_ARB_FLOOR", 0x030300, [], [⟨0, 32, .ro, 0⟩]⟩,
  ⟨"SEC_ARB_FUSE", 0x030304, [], [⟨0, 8, .ro, 0⟩]⟩,
  ⟨"SEC_FUSE_CMD", 0x030308, [], [⟨0, 1, .w1s, 0⟩]⟩,
  ⟨"SEC_FUSE_STAT", 0x03030C, [], [⟨0, 1, .ro, 0⟩, ⟨16, 16, .ro, 0⟩]⟩,
  ⟨"SEC_KEY_WIN", 0x031000, [(0x4, 56)], [⟨0, 32, .wo, 0⟩]⟩,
  ⟨"SEC_KEY_LOAD", 0x0310E0, [], [⟨0, 1, .w1s, 0⟩]⟩,
  ⟨"SEC_KEY_RESULT", 0x0310E4, [], [⟨0, 16, .ro, 0⟩, ⟨16, 8, .ro, 0⟩]⟩,
  ⟨"SEC_KEY_LOADS", 0x0310E8, [], [⟨0, 32, .ro, 0⟩]⟩,
  ⟨"SEC_KEY_FAILS", 0x0310EC, [], [⟨0, 32, .ro, 0⟩]⟩,
  ⟨"SEC_KEY_STAT", 0x032000, [(0x8, 256)], [⟨0, 1, .ro, 0⟩, ⟨1, 3, .ro, 0⟩, ⟨4, 1, .ro, 0⟩]⟩,
  ⟨"SEC_KEY_ID", 0x032004, [(0x8, 256)], [⟨0, 32, .ro, 0⟩]⟩,
  ⟨"SEC_DBG_CHAL", 0x033000, [(0x4, 8)], [⟨0, 32, .ro, 0⟩]⟩,
  ⟨"SEC_DBG_TOKEN", 0x033100, [(0x4, 72)], [⟨0, 32, .wo, 0⟩]⟩,
  ⟨"SEC_DBG_CMD", 0x033220, [], [⟨0, 1, .w1s, 0⟩]⟩,
  ⟨"SEC_DBG_STAT", 0x033224, [], [⟨0, 1, .ro, 0⟩, ⟨1, 1, .ro, 0⟩, ⟨2, 3, .ro, 0⟩, ⟨16, 16, .ro, 0⟩]⟩,
  ⟨"SEC_CP_CFG", 0x037000, [], [⟨0, 16, .rwb, 47346⟩]⟩,
  ⟨"SEC_CP_TIMERS", 0x037004, [], [⟨0, 8, .rw, 10⟩, ⟨8, 8, .rw, 50⟩, ⟨16, 16, .rw, 1000⟩]⟩,
  ⟨"SEC_CP_LEASE", 0x037008, [], [⟨0, 16, .rw, 2000⟩, ⟨16, 16, .rw, 60000⟩]⟩,
  ⟨"SEC_CP_LOCK", 0x03700C, [], [⟨0, 1, .ro, 0⟩, ⟨1, 4, .ro, 0⟩, ⟨16, 14, .ro, 0⟩]⟩]

/-- Registers of block SEC, part 1. -/
def regMapSEC1 : List RegDef := [
  ⟨"SEC_CP_LOCK_EXP_S_HI", 0x037010, [], [⟨0, 16, .ro, 0⟩]⟩,
  ⟨"SEC_CP_LOCK_EXP_S_LO", 0x037014, [], [⟨0, 32, .ro, 0⟩]⟩,
  ⟨"SEC_CP_LOCK_EXP_NS", 0x037018, [], [⟨0, 32, .ro, 0⟩]⟩,
  ⟨"SEC_CP_LOCK_BROKEN", 0x03701C, [], [⟨0, 32, .ro, 0⟩]⟩,
  ⟨"SEC_CP_COMMITS", 0x037020, [], [⟨0, 32, .ro, 0⟩]⟩,
  ⟨"SEC_CP_REFUSED", 0x037024, [], [⟨0, 32, .ro, 0⟩]⟩,
  ⟨"SEC_CP_SETUP_FAIL", 0x037028, [], [⟨0, 32, .ro, 0⟩]⟩,
  ⟨"SEC_CP_LAST_REFUSE", 0x03702C, [], [⟨0, 16, .ro, 0⟩, ⟨16, 4, .ro, 0⟩]⟩,
  ⟨"SEC_CP_DROPPED", 0x037030, [], [⟨0, 32, .ro, 0⟩]⟩,
  ⟨"SEC_SESS_STAT", 0x038000, [(0x40, 16)], [⟨0, 2, .ro, 0⟩, ⟨8, 6, .ro, 0⟩, ⟨16, 6, .ro, 0⟩, ⟨24, 7, .ro, 0⟩, ⟨31, 1, .ro, 0⟩]⟩,
  ⟨"SEC_SESS_HOST_ID", 0x038004, [(0x40, 16)], [⟨0, 32, .ro, 0⟩]⟩,
  ⟨"SEC_SESS_ID", 0x038008, [(0x40, 16)], [⟨0, 32, .ro, 0⟩]⟩,
  ⟨"SEC_SESS_NEXT_SEQ_HI", 0x03800C, [(0x40, 16)], [⟨0, 32, .ro, 0⟩]⟩,
  ⟨"SEC_SESS_NEXT_SEQ_LO", 0x038010, [(0x40, 16)], [⟨0, 32, .ro, 0⟩]⟩,
  ⟨"SEC_SESS_RX_MSGS", 0x038014, [(0x40, 16)], [⟨0, 32, .ro, 0⟩]⟩,
  ⟨"SEC_SESS_TX_MSGS", 0x038018, [(0x40, 16)], [⟨0, 32, .ro, 0⟩]⟩,
  ⟨"SEC_SESS_AUTH_FAIL", 0x03801C, [(0x40, 16)], [⟨0, 32, .ro, 0⟩]⟩,
  ⟨"SEC_SESS_DUP", 0x038020, [(0x40, 16)], [⟨0, 32, .ro, 0⟩]⟩,
  ⟨"SEC_SESS_DROPPED", 0x038024, [(0x40, 16)], [⟨0, 32, .ro, 0⟩]⟩,
  ⟨"SEC_SESS_CMD", 0x038028, [(0x40, 16)], [⟨0, 1, .w1s, 0⟩]⟩]

/-- The registers of block SEC. -/
def regMapSEC : List RegDef := regMapSEC0 ++ regMapSEC1

/-- Registers of block NVM, part 0. -/
def regMapNVM0 : List RegDef := [
  ⟨"NVM_BOOT_STAT", 0x040000, [], [⟨0, 4, .ro, 0⟩, ⟨4, 1, .ro, 0⟩, ⟨5, 1, .ro, 0⟩, ⟨6, 1, .ro, 0⟩, ⟨7, 1, .ro, 0⟩, ⟨8, 4, .ro, 0⟩, ⟨12, 4, .ro, 0⟩, ⟨16, 1, .ro, 0⟩, ⟨17, 1, .ro, 0⟩]⟩,
  ⟨"NVM_BOOT_SEQ", 0x040004, [], [⟨0, 32, .ro, 0⟩]⟩,
  ⟨"NVM_BOOT_SVN", 0x040008, [], [⟨0, 32, .ro, 0⟩]⟩,
  ⟨"NVM_BOOT_CTL", 0x04000C, [], [⟨0, 1, .rw, 0⟩, ⟨1, 1, .rw, 0⟩]⟩,
  ⟨"NVM_BOOT_MS", 0x040010, [], [⟨0, 32, .ro, 0⟩]⟩,
  ⟨"NVM_GEOM_CS0", 0x040020, [], [⟨0, 5, .ro, 0⟩, ⟨8, 5, .ro, 0⟩, ⟨16, 1, .ro, 0⟩]⟩,
  ⟨"NVM_GEOM_CS1", 0x040024, [], [⟨0, 5, .ro, 0⟩, ⟨8, 5, .ro, 0⟩, ⟨16, 1, .ro, 0⟩]⟩,
  ⟨"NVM_BOOT_DIGEST", 0x040040, [(0x4, 12)], [⟨0, 32, .ro, 0⟩]⟩,
  ⟨"NVM_OP_CTL", 0x040100, [], [⟨0, 3, .rw, 0⟩, ⟨8, 1, .rw, 0⟩]⟩,
  ⟨"NVM_OP_OFF", 0x040104, [], [⟨0, 27, .rw, 0⟩]⟩,
  ⟨"NVM_OP_LEN", 0x040108, [], [⟨0, 27, .rw, 0⟩]⟩,
  ⟨"NVM_OP_DRAM_LO", 0x04010C, [], [⟨0, 32, .rw, 0⟩]⟩,
  ⟨"NVM_OP_DRAM_HI", 0x040110, [], [⟨0, 4, .rw, 0⟩]⟩,
  ⟨"NVM_OP_CMD", 0x040114, [], [⟨0, 1, .w1s, 0⟩]⟩,
  ⟨"NVM_OP_STAT", 0x040118, [], [⟨0, 1, .ro, 0⟩, ⟨16, 16, .ro, 0⟩]⟩,
  ⟨"NVM_REC_SEL", 0x040200, [], [⟨0, 3, .rw, 0⟩, ⟨16, 12, .rw, 0⟩]⟩,
  ⟨"NVM_REC_CMD", 0x040204, [], [⟨0, 1, .w1s, 0⟩]⟩,
  ⟨"NVM_REC_STAT", 0x040208, [], [⟨0, 1, .ro, 0⟩, ⟨1, 1, .ro, 0⟩, ⟨2, 1, .ro, 0⟩, ⟨16, 16, .ro, 0⟩]⟩,
  ⟨"NVM_LOG_NEXT", 0x04020C, [], [⟨0, 12, .ro, 0⟩]⟩,
  ⟨"NVM_REC_WRITES", 0x040210, [], [⟨0, 32, .ro, 0⟩]⟩,
  ⟨"NVM_LOG_DROPPED", 0x040214, [], [⟨0, 32, .ro, 0⟩]⟩,
  ⟨"NVM_REC_BAD", 0x040218, [], [⟨0, 32, .ro, 0⟩]⟩,
  ⟨"NVM_REC_DATA", 0x040300, [(0x4, 64)], [⟨0, 32, .ro, 0⟩]⟩]

/-- The registers of block NVM. -/
def regMapNVM : List RegDef := regMapNVM0

/-- Registers of block GNG, part 0. -/
def regMapGNG0 : List RegDef := [
  ⟨"GNG_CFG", 0x050000, [], [⟨0, 6, .rwb, 0⟩, ⟨6, 2, .rwb, 0⟩, ⟨8, 6, .rwb, 0⟩, ⟨16, 16, .rwb, 47347⟩]⟩,
  ⟨"GNG_CTL", 0x050004, [], [⟨0, 16, .rw, 100⟩, ⟨16, 16, .rw, 20⟩]⟩,
  ⟨"GNG_SKEW", 0x050008, [], [⟨0, 32, .rw, 1000⟩]⟩,
  ⟨"GNG_STAT", 0x05000C, [], [⟨0, 1, .ro, 0⟩, ⟨1, 1, .ro, 0⟩, ⟨2, 7, .ro, 0⟩, ⟨10, 7, .ro, 0⟩]⟩,
  ⟨"GNG_UP_LO", 0x050010, [], [⟨0, 32, .ro, 0⟩]⟩,
  ⟨"GNG_UP_HI", 0x050014, [], [⟨0, 32, .ro, 0⟩]⟩,
  ⟨"GNG_FAULTED_LO", 0x050018, [], [⟨0, 32, .ro, 0⟩]⟩,
  ⟨"GNG_FAULTED_HI", 0x05001C, [], [⟨0, 32, .ro, 0⟩]⟩,
  ⟨"GNG_RELAYS", 0x050020, [], [⟨0, 32, .ro, 0⟩]⟩,
  ⟨"GNG_RELAY_FAIL", 0x050024, [], [⟨0, 32, .ro, 0⟩]⟩,
  ⟨"GNG_RX_DROP", 0x050028, [], [⟨0, 32, .ro, 0⟩]⟩,
  ⟨"GNG_PEER_CTL", 0x051000, [(0x40, 64)], [⟨0, 1, .rwb, 0⟩, ⟨4, 4, .rwb, 0⟩, ⟨8, 1, .rwb, 0⟩]⟩,
  ⟨"GNG_PEER_IP", 0x051004, [(0x40, 64), (0x4, 4)], [⟨0, 32, .rwb, 0⟩]⟩,
  ⟨"GNG_PEER_MAC_HI", 0x051014, [(0x40, 64)], [⟨0, 16, .rwb, 0⟩]⟩,
  ⟨"GNG_PEER_MAC_LO", 0x051018, [(0x40, 64)], [⟨0, 32, .rwb, 0⟩]⟩,
  ⟨"GNG_PEER_STAT", 0x05101C, [(0x40, 64)], [⟨0, 2, .ro, 0⟩, ⟨4, 3, .ro, 0⟩, ⟨7, 1, .ro, 0⟩, ⟨8, 3, .ro, 0⟩, ⟨11, 1, .ro, 0⟩]⟩,
  ⟨"GNG_PEER_OFFSET", 0x051020, [(0x40, 64)], [⟨0, 32, .ro, 0⟩]⟩,
  ⟨"GNG_PEER_RESETS", 0x051024, [(0x40, 64)], [⟨0, 32, .ro, 0⟩]⟩,
  ⟨"GNG_PEER_BOOT_SEQ", 0x051028, [(0x40, 64)], [⟨0, 32, .ro, 0⟩]⟩,
  ⟨"GNG_PEER_LOSSES", 0x05102C, [(0x40, 64)], [⟨0, 32, .ro, 0⟩]⟩,
  ⟨"GNG_PEER_PENDING", 0x051030, [(0x40, 64)], [⟨0, 9, .ro, 0⟩]⟩,
  ⟨"GNG_PEER_DIGEST", 0x052000, [(0x40, 64), (0x4, 12)], [⟨0, 32, .rwb, 0⟩]⟩]

/-- The registers of block GNG. -/
def regMapGNG : List RegDef := regMapGNG0

/-- Registers of block TIM, part 0. -/
def regMapTIM0 : List RegDef := [
  ⟨"TIM_CTL", 0x080000, [], [⟨0, 2, .rwl, 0⟩, ⟨2, 1, .rwl, 0⟩, ⟨3, 1, .rwl, 0⟩, ⟨4, 2, .rwl, 1⟩, ⟨6, 1, .rwl, 0⟩, ⟨7, 2, .rwl, 0⟩, ⟨9, 1, .rwl, 0⟩, ⟨16, 8, .rwl, 0⟩]⟩,
  ⟨"TIM_STAT", 0x080004, [], [⟨0, 3, .ro, 0⟩, ⟨3, 1, .ro, 0⟩, ⟨4, 1, .ro, 0⟩, ⟨5, 1, .ro, 0⟩, ⟨6, 1, .ro, 0⟩, ⟨8, 4, .ro, 0⟩]⟩,
  ⟨"TIM_CMD", 0x080008, [], [⟨0, 1, .w1s, 0⟩, ⟨1, 1, .w1s, 0⟩]⟩,
  ⟨"TIM_SNAP_S_HI", 0x08000C, [], [⟨0, 16, .ro, 0⟩]⟩,
  ⟨"TIM_SNAP_S_LO", 0x080010, [], [⟨0, 32, .ro, 0⟩]⟩,
  ⟨"TIM_SNAP_NS", 0x080014, [], [⟨0, 32, .ro, 0⟩]⟩,
  ⟨"TIM_SNAP_SUBNS", 0x080018, [], [⟨0, 16, .ro, 0⟩]⟩,
  ⟨"TIM_SET_S_HI", 0x08001C, [], [⟨0, 16, .rw, 0⟩]⟩,
  ⟨"TIM_SET_S_LO", 0x080020, [], [⟨0, 32, .rw, 0⟩]⟩,
  ⟨"TIM_SET_NS", 0x080024, [], [⟨0, 32, .rw, 0⟩]⟩,
  ⟨"TIM_SERVO", 0x080028, [], [⟨0, 16, .rwl, 100⟩, ⟨16, 16, .rwl, 1000⟩]⟩,
  ⟨"TIM_STEP_NS", 0x08002C, [], [⟨0, 32, .rwl, 1000000⟩]⟩,
  ⟨"TIM_LIMITS", 0x080030, [], [⟨0, 10, .rwl, 200⟩, ⟨16, 16, .rwl, 300⟩]⟩,
  ⟨"TIM_PTP_PRIO", 0x080034, [], [⟨0, 8, .rwl, 128⟩, ⟨8, 8, .rwl, 128⟩, ⟨16, 8, .rwl, 248⟩, ⟨24, 8, .rwl, 254⟩]⟩,
  ⟨"TIM_PTP_VAR", 0x080038, [], [⟨0, 16, .rwl, 65535⟩]⟩,
  ⟨"TIM_PTP_INTV", 0x08003C, [], [⟨0, 8, .rwl, 253⟩, ⟨8, 8, .rwl, 254⟩, ⟨16, 8, .rwl, 253⟩, ⟨24, 4, .rwl, 3⟩]⟩,
  ⟨"TIM_UTC", 0x080040, [], [⟨0, 16, .rwl, 37⟩, ⟨16, 1, .rwl, 0⟩, ⟨17, 1, .rwl, 0⟩, ⟨18, 1, .rwl, 0⟩]⟩,
  ⟨"TIM_PARENT_UTC", 0x080044, [], [⟨0, 16, .ro, 0⟩, ⟨16, 1, .ro, 0⟩, ⟨17, 1, .ro, 0⟩, ⟨18, 1, .ro, 0⟩]⟩,
  ⟨"TIM_OFFSET", 0x080048, [], [⟨0, 32, .ro, 0⟩]⟩,
  ⟨"TIM_PATH_DELAY", 0x08004C, [], [⟨0, 32, .ro, 0⟩]⟩,
  ⟨"TIM_FREQ_ADJ", 0x080050, [], [⟨0, 32, .ro, 0⟩]⟩,
  ⟨"TIM_PARENT_ID_HI", 0x080054, [], [⟨0, 32, .ro, 0⟩]⟩,
  ⟨"TIM_PARENT_ID_LO", 0x080058, [], [⟨0, 32, .ro, 0⟩]⟩,
  ⟨"TIM_PARENT_PORT", 0x08005C, [], [⟨0, 16, .ro, 0⟩]⟩]

/-- Registers of block TIM, part 1. -/
def regMapTIM1 : List RegDef := [
  ⟨"TIM_GM_ID_HI", 0x080060, [], [⟨0, 32, .ro, 0⟩]⟩,
  ⟨"TIM_GM_ID_LO", 0x080064, [], [⟨0, 32, .ro, 0⟩]⟩,
  ⟨"TIM_GM_QUAL", 0x080068, [], [⟨0, 8, .ro, 0⟩, ⟨8, 8, .ro, 0⟩, ⟨16, 8, .ro, 0⟩, ⟨24, 8, .ro, 0⟩]⟩,
  ⟨"TIM_STEPS_REMOVED", 0x08006C, [], [⟨0, 16, .ro, 0⟩]⟩,
  ⟨"TIM_STEPS", 0x080070, [], [⟨0, 32, .ro, 0⟩]⟩,
  ⟨"TIM_CLOCK_ID_HI", 0x080074, [], [⟨0, 32, .ro, 0⟩]⟩,
  ⟨"TIM_CLOCK_ID_LO", 0x080078, [], [⟨0, 32, .ro, 0⟩]⟩,
  ⟨"TIM_LAST_STEP", 0x08007C, [], [⟨0, 32, .ro, 0⟩]⟩,
  ⟨"TIM_PPS_ERR", 0x080080, [], [⟨0, 32, .ro, 0⟩]⟩,
  ⟨"TIM_REF_ERR", 0x080084, [], [⟨0, 32, .ro, 0⟩]⟩,
  ⟨"TIM_SERVO_BW", 0x080088, [], [⟨0, 10, .rwl, 100⟩]⟩,
  ⟨"TIM_PORT_CTL", 0x081000, [(0x40, 16)], [⟨0, 1, .rwl, 0⟩, ⟨1, 1, .rwl, 0⟩]⟩,
  ⟨"TIM_PORT_STAT", 0x081004, [(0x40, 16)], [⟨0, 4, .ro, 0⟩]⟩,
  ⟨"TIM_PORT_ING_CORR", 0x081008, [(0x40, 16)], [⟨0, 24, .rwl, 0⟩]⟩,
  ⟨"TIM_PORT_EGR_CORR", 0x08100C, [(0x40, 16)], [⟨0, 24, .rwl, 0⟩]⟩,
  ⟨"TIM_PORT_ASYM", 0x081010, [(0x40, 16)], [⟨0, 24, .rwl, 0⟩]⟩,
  ⟨"TIM_PORT_RX_MSGS", 0x081014, [(0x40, 16)], [⟨0, 32, .ro, 0⟩]⟩,
  ⟨"TIM_PORT_TX_MSGS", 0x081018, [(0x40, 16)], [⟨0, 32, .ro, 0⟩]⟩,
  ⟨"TIM_PORT_RX_DROP", 0x08101C, [(0x40, 16)], [⟨0, 32, .ro, 0⟩]⟩,
  ⟨"TIM_SEG_CTL", 0x082000, [(0x20, 64)], [⟨0, 1, .rwl, 0⟩]⟩,
  ⟨"TIM_SEG_RATE", 0x082004, [(0x20, 64)], [⟨0, 16, .rwl, 0⟩, ⟨16, 16, .rwl, 0⟩]⟩,
  ⟨"TIM_SEG_DELAY", 0x082008, [(0x20, 64)], [⟨0, 30, .rwl, 0⟩]⟩,
  ⟨"TIM_SEG_STAT", 0x08200C, [(0x20, 64)], [⟨0, 1, .ro, 1⟩, ⟨1, 1, .w1c, 0⟩]⟩,
  ⟨"TIM_SEG_FRAME_LO", 0x082010, [(0x20, 64)], [⟨0, 32, .ro, 0⟩]⟩]

/-- Registers of block TIM, part 2. -/
def regMapTIM2 : List RegDef := [
  ⟨"TIM_SEG_FRAME_HI", 0x082014, [(0x20, 64)], [⟨0, 32, .ro, 0⟩]⟩,
  ⟨"TIM_SEG_SKIPPED", 0x082018, [(0x20, 64)], [⟨0, 32, .ro, 0⟩]⟩,
  ⟨"TIM_SEG_SUPPRESSED", 0x08201C, [(0x20, 64)], [⟨0, 32, .ro, 0⟩]⟩,
  ⟨"TIM_TPO_CTL", 0x083000, [(0x40, 8)], [⟨0, 1, .rw, 0⟩, ⟨1, 2, .rw, 0⟩, ⟨3, 1, .rw, 0⟩, ⟨4, 6, .rw, 0⟩, ⟨16, 16, .rw, 0⟩]⟩,
  ⟨"TIM_TPO_START_S_HI", 0x083004, [(0x40, 8)], [⟨0, 16, .rw, 0⟩]⟩,
  ⟨"TIM_TPO_START_S_LO", 0x083008, [(0x40, 8)], [⟨0, 32, .rw, 0⟩]⟩,
  ⟨"TIM_TPO_START_NS", 0x08300C, [(0x40, 8)], [⟨0, 32, .rw, 0⟩]⟩,
  ⟨"TIM_TPO_START_SUBNS", 0x083010, [(0x40, 8)], [⟨0, 16, .rw, 0⟩]⟩,
  ⟨"TIM_TPO_OFFSET", 0x083014, [(0x40, 8)], [⟨0, 32, .rw, 0⟩]⟩,
  ⟨"TIM_TPO_PERIOD_NS", 0x083018, [(0x40, 8)], [⟨0, 32, .rw, 0⟩]⟩,
  ⟨"TIM_TPO_PERIOD_SUBNS", 0x08301C, [(0x40, 8)], [⟨0, 16, .rw, 0⟩]⟩,
  ⟨"TIM_TPO_WIDTH", 0x083020, [(0x40, 8)], [⟨0, 32, .rw, 0⟩]⟩,
  ⟨"TIM_TPO_STAT", 0x083024, [(0x40, 8)], [⟨0, 1, .ro, 1⟩, ⟨1, 1, .w1c, 0⟩, ⟨2, 1, .w1c, 0⟩, ⟨3, 1, .w1c, 0⟩, ⟨4, 1, .w1c, 0⟩]⟩,
  ⟨"TIM_TPO_PULSES", 0x083028, [(0x40, 8)], [⟨0, 32, .ro, 0⟩]⟩,
  ⟨"TIM_TCI_CTL", 0x084000, [(0x40, 8)], [⟨0, 1, .rw, 0⟩, ⟨1, 2, .rw, 0⟩, ⟨3, 1, .rw, 0⟩]⟩,
  ⟨"TIM_TCI_OPEN_S_HI", 0x084004, [(0x40, 8)], [⟨0, 16, .rw, 0⟩]⟩,
  ⟨"TIM_TCI_OPEN_S_LO", 0x084008, [(0x40, 8)], [⟨0, 32, .rw, 0⟩]⟩,
  ⟨"TIM_TCI_OPEN_NS", 0x08400C, [(0x40, 8)], [⟨0, 32, .rw, 0⟩]⟩,
  ⟨"TIM_TCI_CLOSE_S_HI", 0x084010, [(0x40, 8)], [⟨0, 16, .rw, 0⟩]⟩,
  ⟨"TIM_TCI_CLOSE_S_LO", 0x084014, [(0x40, 8)], [⟨0, 32, .rw, 0⟩]⟩,
  ⟨"TIM_TCI_CLOSE_NS", 0x084018, [(0x40, 8)], [⟨0, 32, .rw, 0⟩]⟩,
  ⟨"TIM_TCI_TS_S_HI", 0x08401C, [(0x40, 8)], [⟨0, 16, .ro, 0⟩, ⟨16, 1, .ro, 0⟩, ⟨24, 1, .ro, 0⟩]⟩,
  ⟨"TIM_TCI_TS_S_LO", 0x084020, [(0x40, 8)], [⟨0, 32, .ro, 0⟩]⟩,
  ⟨"TIM_TCI_TS_NS", 0x084024, [(0x40, 8)], [⟨0, 32, .ro, 0⟩]⟩]

/-- Registers of block TIM, part 3. -/
def regMapTIM3 : List RegDef := [
  ⟨"TIM_TCI_TS_SUBNS", 0x084028, [(0x40, 8)], [⟨0, 16, .ro, 0⟩]⟩,
  ⟨"TIM_TCI_CMD", 0x08402C, [(0x40, 8)], [⟨0, 1, .w1s, 0⟩]⟩,
  ⟨"TIM_TCI_STAT", 0x084030, [(0x40, 8)], [⟨0, 5, .ro, 0⟩]⟩,
  ⟨"TIM_TCI_LOST", 0x084034, [(0x40, 8)], [⟨0, 32, .ro, 0⟩]⟩,
  ⟨"TIM_TCI_CAPTURES", 0x084038, [(0x40, 8)], [⟨0, 32, .ro, 0⟩]⟩]

/-- The registers of block TIM. -/
def regMapTIM : List RegDef := regMapTIM0 ++ regMapTIM1 ++ regMapTIM2 ++ regMapTIM3

/-- Registers of block ALM, part 0. -/
def regMapALM0 : List RegDef := [
  ⟨"ALM_SEQ_CTL", 0x0C0000, [(0x100, 4)], [⟨0, 1, .rw, 0⟩, ⟨1, 1, .rw, 1⟩, ⟨16, 13, .rw, 0⟩]⟩,
  ⟨"ALM_SEQ_STAT", 0x0C0004, [(0x100, 4)], [⟨0, 1, .ro, 1⟩, ⟨1, 3, .ro, 0⟩, ⟨4, 1, .w1c, 0⟩, ⟨5, 1, .w1c, 0⟩, ⟨6, 1, .w1c, 0⟩, ⟨7, 1, .ro, 0⟩, ⟨8, 4, .ro, 0⟩, ⟨16, 13, .ro, 0⟩]⟩,
  ⟨"ALM_SEQ_WAIT", 0x0C0008, [(0x100, 4)], [⟨0, 2, .ro, 0⟩, ⟨2, 10, .ro, 0⟩]⟩,
  ⟨"ALM_SEQ_ERR", 0x0C000C, [(0x100, 4)], [⟨0, 16, .ro, 0⟩, ⟨16, 13, .ro, 0⟩]⟩,
  ⟨"ALM_SEQ_LAST_REFUSED", 0x0C0010, [(0x100, 4)], [⟨0, 22, .ro, 0⟩, ⟨22, 9, .ro, 0⟩]⟩,
  ⟨"ALM_SEQ_WORDS", 0x0C0014, [(0x100, 4)], [⟨0, 32, .ro, 0⟩]⟩,
  ⟨"ALM_SEQ_WRITES", 0x0C0018, [(0x100, 4)], [⟨0, 32, .ro, 0⟩]⟩,
  ⟨"ALM_SEQ_REFUSED", 0x0C001C, [(0x100, 4)], [⟨0, 32, .ro, 0⟩]⟩,
  ⟨"ALM_SEQ_POSTS", 0x0C0020, [(0x100, 4)], [⟨0, 32, .ro, 0⟩]⟩,
  ⟨"ALM_SEQ_RING_FULL", 0x0C0024, [(0x100, 4)], [⟨0, 32, .ro, 0⟩]⟩,
  ⟨"ALM_SEQ_SKIPS", 0x0C0028, [(0x100, 4)], [⟨0, 32, .ro, 0⟩]⟩,
  ⟨"ALM_SEQ_G", 0x0C0040, [(0x100, 4), (0x4, 16)], [⟨0, 32, .rw, 0⟩]⟩,
  ⟨"ALM_SEQ_T_S_HI", 0x0C0080, [(0x100, 4), (0x10, 4)], [⟨0, 16, .rw, 0⟩]⟩,
  ⟨"ALM_SEQ_T_S_LO", 0x0C0084, [(0x100, 4), (0x10, 4)], [⟨0, 32, .rw, 0⟩]⟩,
  ⟨"ALM_SEQ_T_NS", 0x0C0088, [(0x100, 4), (0x10, 4)], [⟨0, 32, .rw, 0⟩]⟩,
  ⟨"ALM_HS_SET", 0x0C1000, [], [⟨0, 16, .w1s, 0⟩]⟩,
  ⟨"ALM_HS_CLR", 0x0C1004, [], [⟨0, 16, .w1c, 0⟩]⟩]

/-- The registers of block ALM. -/
def regMapALM : List RegDef := regMapALM0

/-- Registers of block NET, part 0. -/
def regMapNET0 : List RegDef := [
  ⟨"NET_PHY_CTL", 0x100000, [(0x100, 4)], [⟨0, 2, .rwb, 3⟩, ⟨2, 1, .rwb, 0⟩]⟩,
  ⟨"NET_PHY_STAT", 0x100004, [(0x100, 4)], [⟨0, 4, .ro, 0⟩, ⟨4, 1, .ro, 0⟩, ⟨5, 1, .ro, 0⟩, ⟨6, 1, .ro, 0⟩]⟩,
  ⟨"NET_PHY_FEC_CORR", 0x100008, [(0x100, 4)], [⟨0, 32, .ro, 0⟩]⟩,
  ⟨"NET_PHY_FEC_UNCORR", 0x10000C, [(0x100, 4)], [⟨0, 32, .ro, 0⟩]⟩,
  ⟨"NET_LP_CTL", 0x101000, [(0x100, 16)], [⟨0, 1, .rw, 0⟩, ⟨1, 1, .rw, 1⟩, ⟨2, 1, .rw, 0⟩, ⟨3, 1, .rwl, 0⟩, ⟨4, 1, .rwl, 0⟩, ⟨5, 1, .rwl, 1⟩]⟩,
  ⟨"NET_LP_STAT", 0x101004, [(0x100, 16)], [⟨0, 1, .ro, 0⟩, ⟨1, 1, .ro, 1⟩, ⟨2, 1, .ro, 0⟩, ⟨3, 1, .ro, 0⟩, ⟨8, 1, .w1c, 0⟩]⟩,
  ⟨"NET_LP_MAC_HI", 0x101008, [(0x100, 16)], [⟨0, 16, .rwb, 0⟩]⟩,
  ⟨"NET_LP_MAC_LO", 0x10100C, [(0x100, 16)], [⟨0, 32, .rwb, 0⟩]⟩,
  ⟨"NET_LP_VLAN", 0x101010, [(0x100, 16)], [⟨0, 12, .rwl, 0⟩, ⟨12, 3, .rwl, 0⟩]⟩,
  ⟨"NET_LP_PAUSE", 0x101014, [(0x100, 16)], [⟨0, 16, .rw, 65535⟩]⟩,
  ⟨"NET_LP_IPV4", 0x101018, [(0x100, 16)], [⟨0, 32, .rwl, 0⟩]⟩,
  ⟨"NET_LP_IPV4_PREFIX", 0x10101C, [(0x100, 16)], [⟨0, 6, .rwl, 24⟩]⟩,
  ⟨"NET_LP_IPV6", 0x101020, [(0x100, 16), (0x4, 4)], [⟨0, 32, .rwl, 0⟩]⟩,
  ⟨"NET_LP_IPV6_PREFIX", 0x101030, [(0x100, 16)], [⟨0, 8, .rwl, 64⟩]⟩,
  ⟨"NET_LP_GROUPS", 0x101034, [(0x100, 16)], [⟨0, 11, .ro, 0⟩]⟩,
  ⟨"NET_LP_RX_FRAMES", 0x101040, [(0x100, 16)], [⟨0, 32, .ro, 0⟩]⟩,
  ⟨"NET_LP_RX_DROP_FCS", 0x101044, [(0x100, 16)], [⟨0, 32, .ro, 0⟩]⟩,
  ⟨"NET_LP_RX_DROP_LEN", 0x101048, [(0x100, 16)], [⟨0, 32, .ro, 0⟩]⟩,
  ⟨"NET_LP_RX_DROP_FRAG", 0x10104C, [(0x100, 16)], [⟨0, 32, .ro, 0⟩]⟩,
  ⟨"NET_LP_RX_DROP_NOMATCH", 0x101050, [(0x100, 16)], [⟨0, 32, .ro, 0⟩]⟩,
  ⟨"NET_LP_RX_DROP_CSUM", 0x101054, [(0x100, 16)], [⟨0, 32, .ro, 0⟩]⟩,
  ⟨"NET_LP_RX_DROP_ALLOC", 0x101058, [(0x100, 16)], [⟨0, 32, .ro, 0⟩]⟩,
  ⟨"NET_LP_RX_PAUSE", 0x10105C, [(0x100, 16)], [⟨0, 32, .ro, 0⟩]⟩,
  ⟨"NET_LP_TX_FRAMES", 0x101060, [(0x100, 16)], [⟨0, 32, .ro, 0⟩]⟩]

/-- Registers of block NET, part 1. -/
def regMapNET1 : List RegDef := [
  ⟨"NET_LP_TX_PAUSE", 0x101064, [(0x100, 16)], [⟨0, 32, .ro, 0⟩]⟩,
  ⟨"NET_IGMP_CTL", 0x102000, [], [⟨0, 4, .rw, 2⟩, ⟨8, 8, .rw, 10⟩, ⟨16, 11, .ro, 0⟩]⟩]

/-- The registers of block NET. -/
def regMapNET : List RegDef := regMapNET0 ++ regMapNET1

/-- Registers of block BPM, part 0. -/
def regMapBPM0 : List RegDef := [
  ⟨"BPM_POOL_BASE_LO", 0x180000, [(0x20, 8)], [⟨0, 32, .rwb, 0⟩]⟩,
  ⟨"BPM_POOL_BASE_HI", 0x180004, [(0x20, 8)], [⟨0, 16, .rwb, 0⟩]⟩,
  ⟨"BPM_POOL_COUNT", 0x180008, [(0x20, 8)], [⟨0, 20, .rwb, 0⟩]⟩,
  ⟨"BPM_POOL_FREE", 0x18000C, [(0x20, 8)], [⟨0, 20, .ro, 0⟩]⟩,
  ⟨"BPM_POOL_LOWEST", 0x180010, [(0x20, 8)], [⟨0, 20, .rw, 0⟩]⟩,
  ⟨"BPM_POOL_LOWMARK", 0x180014, [(0x20, 8)], [⟨0, 20, .rw, 0⟩]⟩,
  ⟨"BPM_POOL_FAILS", 0x180018, [(0x20, 8)], [⟨0, 32, .ro, 0⟩]⟩,
  ⟨"BPM_OWN", 0x181000, [(0x20, 512), (0x4, 8)], [⟨0, 16, .rwb, 0⟩, ⟨16, 16, .ro, 0⟩]⟩,
  ⟨"BPM_CHK_FAILS", 0x188000, [], [⟨0, 32, .ro, 0⟩]⟩,
  ⟨"BPM_CHK_ADDR_LO", 0x188004, [], [⟨0, 32, .ro, 0⟩]⟩,
  ⟨"BPM_CHK_ADDR_HI", 0x188008, [], [⟨0, 16, .ro, 0⟩, ⟨16, 9, .ro, 0⟩]⟩]

/-- The registers of block BPM. -/
def regMapBPM : List RegDef := regMapBPM0

/-- Registers of block ING, part 0. -/
def regMapING0 : List RegDef := [
  ⟨"ING_CTX_CTL", 0x1C0000, [(0x80, 256)], [⟨0, 1, .rwl, 0⟩, ⟨1, 3, .rwl, 0⟩, ⟨4, 4, .rwl, 0⟩, ⟨8, 1, .rwl, 0⟩, ⟨9, 1, .rwl, 0⟩, ⟨16, 8, .rwl, 0⟩, ⟨24, 8, .rwl, 0⟩]⟩,
  ⟨"ING_CTX_DADDR", 0x1C0004, [(0x80, 256), (0x4, 4)], [⟨0, 32, .rwl, 0⟩]⟩,
  ⟨"ING_CTX_SADDR", 0x1C0014, [(0x80, 256), (0x4, 4)], [⟨0, 32, .rwl, 0⟩]⟩,
  ⟨"ING_CTX_UDP", 0x1C0024, [(0x80, 256)], [⟨0, 16, .rwl, 0⟩, ⟨16, 16, .rwl, 0⟩]⟩,
  ⟨"ING_CTX_SEL", 0x1C0028, [(0x80, 256)], [⟨0, 13, .rwl, 0⟩, ⟨13, 7, .rwl, 0⟩, ⟨20, 1, .rwl, 0⟩, ⟨21, 1, .rwl, 0⟩]⟩,
  ⟨"ING_CTX_SSRC", 0x1C002C, [(0x80, 256)], [⟨0, 32, .rwl, 0⟩]⟩,
  ⟨"ING_CTX_FIFO", 0x1C0030, [(0x80, 256)], [⟨0, 12, .rwl, 0⟩, ⟨12, 3, .rwl, 0⟩]⟩,
  ⟨"ING_CTX_ESB_LO", 0x1C0034, [(0x80, 256)], [⟨12, 20, .rwl, 0⟩]⟩,
  ⟨"ING_CTX_ESB_HI", 0x1C0038, [(0x80, 256)], [⟨0, 4, .rwl, 0⟩]⟩,
  ⟨"ING_CTX_ESB_SIZE", 0x1C003C, [(0x80, 256)], [⟨0, 17, .rwl, 16⟩]⟩,
  ⟨"ING_CTX_AU_MAX", 0x1C0040, [(0x80, 256)], [⟨0, 28, .rwl, 4194304⟩]⟩,
  ⟨"ING_CTX_RAW", 0x1C0044, [(0x80, 256)], [⟨0, 14, .rwl, 0⟩, ⟨14, 14, .rwl, 0⟩, ⟨28, 1, .rwl, 0⟩]⟩,
  ⟨"ING_CTX_STAT", 0x1C0048, [(0x80, 256)], [⟨0, 1, .ro, 0⟩, ⟨1, 3, .ro, 0⟩, ⟨8, 1, .w1c, 0⟩, ⟨9, 1, .ro, 0⟩]⟩,
  ⟨"ING_CTX_ESB_WR", 0x1C004C, [(0x80, 256)], [⟨0, 28, .ro, 0⟩]⟩,
  ⟨"ING_CTX_PKTS", 0x1C0050, [(0x80, 256)], [⟨0, 32, .ro, 0⟩]⟩,
  ⟨"ING_CTX_AUS", 0x1C0054, [(0x80, 256)], [⟨0, 32, .ro, 0⟩]⟩,
  ⟨"ING_CTX_GAPS", 0x1C0058, [(0x80, 256)], [⟨0, 32, .ro, 0⟩]⟩,
  ⟨"ING_CTX_DROP_ITEMS", 0x1C005C, [(0x80, 256)], [⟨0, 32, .ro, 0⟩]⟩,
  ⟨"ING_CTX_SRTP_FAIL", 0x1C0060, [(0x80, 256)], [⟨0, 32, .ro, 0⟩]⟩,
  ⟨"ING_CTX_RESETS", 0x1C0064, [(0x80, 256)], [⟨0, 32, .ro, 0⟩]⟩,
  ⟨"ING_FIFO_USED", 0x1D0000, [], [⟨0, 13, .ro, 0⟩]⟩,
  ⟨"ING_DRAINING", 0x1D0004, [], [⟨0, 9, .ro, 0⟩]⟩]

/-- The registers of block ING. -/
def regMapING : List RegDef := regMapING0

/-- Registers of block DMA, part 0. -/
def regMapDMA0 : List RegDef := [
  ⟨"DMA_CH_CTL", 0x200000, [(0x40, 4096)], [⟨0, 1, .rw, 0⟩, ⟨1, 3, .rw, 0⟩, ⟨4, 1, .rw, 0⟩, ⟨5, 1, .rw, 0⟩, ⟨6, 1, .rw, 0⟩, ⟨8, 9, .rw, 0⟩]⟩,
  ⟨"DMA_CH_STAT", 0x200004, [(0x40, 4096)], [⟨0, 1, .ro, 1⟩, ⟨1, 3, .ro, 0⟩, ⟨4, 1, .w1c, 0⟩, ⟨5, 1, .w1c, 0⟩, ⟨6, 1, .w1c, 0⟩, ⟨7, 1, .w1c, 0⟩, ⟨8, 1, .ro, 0⟩, ⟨16, 16, .ro, 0⟩]⟩,
  ⟨"DMA_CH_DESC_LO", 0x200008, [(0x40, 4096)], [⟨5, 27, .rw, 0⟩]⟩,
  ⟨"DMA_CH_DESC_HI", 0x20000C, [(0x40, 4096)], [⟨0, 16, .rw, 0⟩]⟩,
  ⟨"DMA_CH_SHD_DESC_LO", 0x200010, [(0x40, 4096)], [⟨5, 27, .rw, 0⟩]⟩,
  ⟨"DMA_CH_SHD_DESC_HI", 0x200014, [(0x40, 4096)], [⟨0, 16, .rw, 0⟩]⟩,
  ⟨"DMA_CH_SHD_CTL", 0x200018, [(0x40, 4096)], [⟨0, 1, .rw, 0⟩]⟩,
  ⟨"DMA_CH_CMD", 0x20001C, [(0x40, 4096)], [⟨0, 1, .w1s, 0⟩, ⟨1, 1, .w1s, 0⟩]⟩,
  ⟨"DMA_CH_CUR_LO", 0x200020, [(0x40, 4096)], [⟨5, 27, .ro, 0⟩]⟩,
  ⟨"DMA_CH_CUR_HI", 0x200024, [(0x40, 4096)], [⟨0, 16, .ro, 0⟩, ⟨31, 1, .ro, 0⟩]⟩,
  ⟨"DMA_CH_BYTES", 0x200028, [(0x40, 4096)], [⟨0, 32, .ro, 0⟩]⟩,
  ⟨"DMA_CH_DESCS", 0x20002C, [(0x40, 4096)], [⟨0, 32, .ro, 0⟩]⟩,
  ⟨"DMA_CH_GAPS", 0x200030, [(0x40, 4096)], [⟨0, 32, .ro, 0⟩]⟩,
  ⟨"DMA_CH_CHAINS", 0x200034, [(0x40, 4096)], [⟨0, 32, .ro, 0⟩]⟩,
  ⟨"DMA_CH_ERRORS", 0x200038, [(0x40, 4096)], [⟨0, 32, .ro, 0⟩]⟩,
  ⟨"DMA_GLB_STAT", 0x240000, [], [⟨0, 6, .ro, 0⟩, ⟨16, 13, .ro, 0⟩]⟩,
  ⟨"DMA_GLB_BYTES_LO", 0x240004, [], [⟨0, 32, .ro, 0⟩]⟩,
  ⟨"DMA_GLB_BYTES_HI", 0x240008, [], [⟨0, 32, .ro, 0⟩]⟩,
  ⟨"DMA_GLB_FRAMES", 0x24000C, [], [⟨0, 32, .ro, 0⟩]⟩,
  ⟨"DMA_GLB_REQ_PEND", 0x240010, [(0x4, 9)], [⟨0, 32, .ro, 0⟩]⟩,
  ⟨"DMA_GLB_REQ_LOST", 0x240040, [], [⟨0, 32, .ro, 0⟩]⟩,
  ⟨"DMA_MOV_STAT", 0x241000, [(0x4, 32)], [⟨0, 1, .ro, 0⟩, ⟨16, 12, .ro, 0⟩]⟩]

/-- The registers of block DMA. -/
def regMapDMA : List RegDef := regMapDMA0

/-- Registers of block RNG, part 0. -/
def regMapRNG0 : List RegDef := [
  ⟨"RNG_RING_CTL", 0x280000, [(0x40, 1024)], [⟨0, 1, .rw, 0⟩, ⟨1, 1, .rwl, 0⟩, ⟨2, 5, .rwl, 4⟩, ⟨7, 1, .rw, 0⟩, ⟨8, 2, .rwl, 0⟩, ⟨10, 2, .rwl, 0⟩, ⟨12, 4, .rwl, 3⟩]⟩,
  ⟨"RNG_RING_BIND", 0x280004, [(0x40, 1024)], [⟨0, 12, .rwl, 0⟩, ⟨12, 2, .rwl, 0⟩, ⟨16, 10, .rwl, 0⟩]⟩,
  ⟨"RNG_RING_BASE_LO", 0x280008, [(0x40, 1024)], [⟨6, 26, .rwl, 0⟩]⟩,
  ⟨"RNG_RING_BASE_HI", 0x28000C, [(0x40, 1024)], [⟨0, 4, .rwl, 0⟩]⟩,
  ⟨"RNG_RING_TAIL", 0x280010, [(0x40, 1024)], [⟨0, 16, .ro, 0⟩, ⟨16, 1, .ro, 0⟩]⟩,
  ⟨"RNG_RING_HEAD", 0x280014, [(0x40, 1024)], [⟨0, 16, .rw, 0⟩, ⟨16, 1, .rw, 0⟩]⟩,
  ⟨"RNG_RING_STAT", 0x280018, [(0x40, 1024)], [⟨0, 1, .ro, 1⟩, ⟨1, 1, .ro, 0⟩, ⟨2, 1, .ro, 0⟩, ⟨3, 1, .w1c, 0⟩, ⟨4, 1, .w1c, 0⟩, ⟨5, 1, .w1c, 0⟩, ⟨8, 6, .ro, 0⟩, ⟨16, 6, .ro, 0⟩]⟩,
  ⟨"RNG_RING_ENTRIES", 0x28001C, [(0x40, 1024)], [⟨0, 32, .ro, 0⟩]⟩,
  ⟨"RNG_RING_REFETCH", 0x280020, [(0x40, 1024)], [⟨0, 32, .ro, 0⟩]⟩,
  ⟨"RNG_RING_STALLS", 0x280024, [(0x40, 1024)], [⟨0, 32, .ro, 0⟩]⟩,
  ⟨"RNG_RING_ERRORS", 0x280028, [(0x40, 1024)], [⟨0, 32, .ro, 0⟩]⟩,
  ⟨"RNG_GLB_ENABLED", 0x290000, [], [⟨0, 11, .ro, 0⟩]⟩]

/-- The registers of block RNG. -/
def regMapRNG : List RegDef := regMapRNG0

/-- Registers of block DEC, part 0. -/
def regMapDEC0 : List RegDef := [
  ⟨"DEC_GLB_CAP", 0x400000, [], [⟨0, 14, .rwb, 8192⟩]⟩,
  ⟨"DEC_GLB_MARGIN", 0x400004, [], [⟨0, 16, .rw, 500⟩]⟩,
  ⟨"DEC_GLB_ADMIT", 0x400008, [], [⟨0, 14, .ro, 0⟩, ⟨16, 5, .ro, 16⟩]⟩,
  ⟨"DEC_GLB_SLACK", 0x40000C, [], [⟨0, 32, .ro, 2147483647⟩]⟩,
  ⟨"DEC_GLB_SHED", 0x400010, [], [⟨0, 9, .ro, 0⟩]⟩,
  ⟨"DEC_ENG_CTL", 0x401000, [(0x40, 16)], [⟨0, 1, .rwl, 0⟩]⟩,
  ⟨"DEC_ENG_STAT", 0x401004, [(0x40, 16)], [⟨0, 1, .ro, 1⟩, ⟨1, 1, .ro, 0⟩, ⟨2, 1, .ro, 0⟩, ⟨3, 1, .w1c, 0⟩, ⟨4, 1, .w1c, 0⟩, ⟨8, 8, .ro, 0⟩, ⟨16, 8, .ro, 0⟩]⟩,
  ⟨"DEC_ENG_LOAD", 0x401008, [(0x40, 16)], [⟨0, 10, .ro, 0⟩, ⟨16, 10, .ro, 0⟩]⟩,
  ⟨"DEC_ENG_PICS", 0x40100C, [(0x40, 16)], [⟨0, 32, .ro, 0⟩]⟩,
  ⟨"DEC_ENG_RETRIES", 0x401010, [(0x40, 16)], [⟨0, 32, .ro, 0⟩]⟩,
  ⟨"DEC_ENG_UCODE", 0x401014, [(0x40, 16)], [⟨0, 16, .ro, 0⟩, ⟨16, 16, .ro, 0⟩]⟩,
  ⟨"DEC_CTX_CTL", 0x410000, [(0x100, 256)], [⟨0, 1, .rwl, 0⟩, ⟨1, 1, .rwl, 0⟩, ⟨2, 1, .rwl, 0⟩, ⟨3, 1, .rwl, 0⟩, ⟨4, 1, .rwl, 1⟩, ⟨5, 3, .rwl, 0⟩, ⟨8, 8, .rwl, 0⟩, ⟨16, 5, .rwl, 0⟩]⟩,
  ⟨"DEC_CTX_DIM", 0x410004, [(0x100, 256)], [⟨0, 14, .rwl, 0⟩, ⟨16, 14, .rwl, 0⟩]⟩,
  ⟨"DEC_CTX_FMT", 0x410008, [(0x100, 256)], [⟨0, 2, .rwl, 0⟩, ⟨2, 1, .rwl, 0⟩, ⟨8, 5, .rwl, 0⟩, ⟨16, 4, .rwl, 0⟩]⟩,
  ⟨"DEC_CTX_RATE", 0x41000C, [(0x100, 256)], [⟨0, 16, .rwl, 0⟩, ⟨16, 16, .rwl, 0⟩]⟩,
  ⟨"DEC_CTX_BITRATE", 0x410010, [(0x100, 256)], [⟨0, 16, .rwl, 0⟩]⟩,
  ⟨"DEC_CTX_DPS_LO", 0x410014, [(0x100, 256)], [⟨12, 20, .rwl, 0⟩]⟩,
  ⟨"DEC_CTX_DPS_HI", 0x410018, [(0x100, 256)], [⟨0, 4, .rwl, 0⟩]⟩,
  ⟨"DEC_CTX_REC_LO", 0x41001C, [(0x100, 256)], [⟨6, 26, .rwl, 0⟩]⟩,
  ⟨"DEC_CTX_REC_HI", 0x410020, [(0x100, 256)], [⟨0, 4, .rwl, 0⟩]⟩,
  ⟨"DEC_CTX_LATENCY", 0x410024, [(0x100, 256)], [⟨0, 24, .rwl, 0⟩]⟩,
  ⟨"DEC_CTX_STAT", 0x410040, [(0x100, 256)], [⟨0, 1, .ro, 1⟩, ⟨1, 3, .ro, 0⟩, ⟨4, 1, .w1c, 0⟩, ⟨8, 8, .ro, 0⟩, ⟨16, 3, .ro, 0⟩]⟩,
  ⟨"DEC_CTX_ENGS", 0x410044, [(0x100, 256)], [⟨0, 16, .ro, 0⟩]⟩,
  ⟨"DEC_CTX_ESB_RD", 0x410048, [(0x100, 256)], [⟨0, 28, .ro, 0⟩]⟩]

/-- Registers of block DEC, part 1. -/
def regMapDEC1 : List RegDef := [
  ⟨"DEC_CTX_LAST_OUT", 0x41004C, [(0x100, 256)], [⟨0, 24, .ro, 0⟩, ⟨24, 5, .ro, 0⟩, ⟨31, 1, .ro, 0⟩]⟩,
  ⟨"DEC_CTX_SLOT_BYTES", 0x410050, [(0x100, 256)], [⟨0, 32, .ro, 0⟩]⟩,
  ⟨"DEC_CTX_LOAD", 0x410054, [(0x100, 256)], [⟨0, 14, .ro, 0⟩]⟩,
  ⟨"DEC_CTX_PICS", 0x410058, [(0x100, 256)], [⟨0, 32, .ro, 0⟩]⟩,
  ⟨"DEC_CTX_LATE", 0x41005C, [(0x100, 256)], [⟨0, 32, .ro, 0⟩]⟩,
  ⟨"DEC_CTX_SKIPPED", 0x410060, [(0x100, 256)], [⟨0, 32, .ro, 0⟩]⟩,
  ⟨"DEC_CTX_CONCEALED", 0x410064, [(0x100, 256)], [⟨0, 32, .ro, 0⟩]⟩,
  ⟨"DEC_CTX_STALE", 0x410068, [(0x100, 256)], [⟨0, 32, .ro, 0⟩]⟩,
  ⟨"DEC_CTX_MIGRATIONS", 0x41006C, [(0x100, 256)], [⟨0, 32, .ro, 0⟩]⟩,
  ⟨"DEC_CTX_SLACK", 0x410070, [(0x100, 256)], [⟨0, 32, .ro, 2147483647⟩]⟩,
  ⟨"DEC_CTX_RATE_EXCESS", 0x410074, [(0x100, 256)], [⟨0, 32, .ro, 0⟩]⟩,
  ⟨"DEC_CTX_CONC_CTL", 0x410080, [(0x100, 256)], [⟨0, 1, .rwl, 0⟩, ⟨8, 8, .rwl, 16⟩]⟩,
  ⟨"DEC_CTX_CONC_STAT", 0x410084, [(0x100, 256)], [⟨0, 1, .ro, 0⟩, ⟨1, 1, .ro, 0⟩, ⟨8, 7, .ro, 0⟩, ⟨16, 3, .ro, 0⟩]⟩,
  ⟨"DEC_CTX_MARK", 0x410088, [(0x100, 256)], [⟨0, 28, .ro, 0⟩, ⟨31, 1, .ro, 0⟩]⟩,
  ⟨"DEC_CTX_MARK_PIC", 0x41008C, [(0x100, 256)], [⟨0, 32, .ro, 0⟩]⟩,
  ⟨"DEC_CTX_CHAIN_LEN", 0x410090, [(0x100, 256)], [⟨0, 32, .ro, 0⟩]⟩,
  ⟨"DEC_CTX_CONC_AREA", 0x410094, [(0x100, 256)], [⟨0, 24, .ro, 0⟩]⟩,
  ⟨"DEC_CTX_CNT_GAP", 0x4100A0, [(0x100, 256)], [⟨0, 32, .ro, 0⟩]⟩,
  ⟨"DEC_CTX_CNT_LOST_DATA", 0x4100A4, [(0x100, 256)], [⟨0, 32, .ro, 0⟩]⟩,
  ⟨"DEC_CTX_CNT_MISSING_REF", 0x4100A8, [(0x100, 256)], [⟨0, 32, .ro, 0⟩]⟩,
  ⟨"DEC_CTX_CNT_SYNTAX", 0x4100AC, [(0x100, 256)], [⟨0, 32, .ro, 0⟩]⟩,
  ⟨"DEC_CTX_CNT_INHERITED", 0x4100B0, [(0x100, 256)], [⟨0, 32, .ro, 0⟩]⟩,
  ⟨"DEC_CTX_CNT_MARK_LOST", 0x4100B4, [(0x100, 256)], [⟨0, 32, .ro, 0⟩]⟩,
  ⟨"DEC_CTX_CNT_SEQ_REJECTED", 0x4100B8, [(0x100, 256)], [⟨0, 32, .ro, 0⟩]⟩]

/-- Registers of block DEC, part 2. -/
def regMapDEC2 : List RegDef := [
  ⟨"DEC_CTX_CNT_GREY", 0x4100BC, [(0x100, 256)], [⟨0, 32, .ro, 0⟩]⟩,
  ⟨"DEC_CTX_REWINDS", 0x4100C0, [(0x100, 256)], [⟨0, 32, .ro, 0⟩]⟩,
  ⟨"DEC_CTX_REWIND_REFUSED", 0x4100C4, [(0x100, 256)], [⟨0, 32, .ro, 0⟩]⟩,
  ⟨"DEC_CTX_REPLAYED", 0x4100C8, [(0x100, 256)], [⟨0, 32, .ro, 0⟩]⟩]

/-- The registers of block DEC. -/
def regMapDEC : List RegDef := regMapDEC0 ++ regMapDEC1 ++ regMapDEC2

/-- Registers of block ENC, part 0. -/
def regMapENC0 : List RegDef := [
  ⟨"ENC_GLB_CAP", 0x600000, [], [⟨0, 12, .rwb, 2048⟩]⟩,
  ⟨"ENC_GLB_ADMIT", 0x600004, [], [⟨0, 12, .ro, 0⟩, ⟨16, 3, .ro, 4⟩]⟩,
  ⟨"ENC_GLB_SHED", 0x600008, [], [⟨0, 7, .ro, 0⟩]⟩,
  ⟨"ENC_ENG_CTL", 0x601000, [(0x40, 4)], [⟨0, 1, .rwl, 0⟩]⟩,
  ⟨"ENC_ENG_STAT", 0x601004, [(0x40, 4)], [⟨0, 1, .ro, 1⟩, ⟨1, 1, .ro, 0⟩, ⟨2, 1, .ro, 0⟩, ⟨3, 1, .w1c, 0⟩, ⟨4, 1, .w1c, 0⟩, ⟨8, 6, .ro, 0⟩, ⟨16, 8, .ro, 0⟩]⟩,
  ⟨"ENC_ENG_LOAD", 0x601008, [(0x40, 4)], [⟨0, 10, .ro, 0⟩]⟩,
  ⟨"ENC_ENG_PICS", 0x60100C, [(0x40, 4)], [⟨0, 32, .ro, 0⟩]⟩,
  ⟨"ENC_ENG_RETRIES", 0x601010, [(0x40, 4)], [⟨0, 32, .ro, 0⟩]⟩,
  ⟨"ENC_CTX_CTL", 0x610000, [(0x100, 64)], [⟨0, 1, .rwl, 0⟩, ⟨1, 2, .rwl, 0⟩, ⟨3, 1, .rwl, 0⟩, ⟨4, 2, .rwl, 0⟩, ⟨6, 1, .rwl, 0⟩, ⟨8, 3, .rwl, 0⟩]⟩,
  ⟨"ENC_CTX_SRC", 0x610004, [(0x100, 64)], [⟨0, 2, .rwl, 0⟩, ⟨2, 8, .rwl, 0⟩, ⟨10, 2, .rwl, 0⟩, ⟨12, 4, .rwl, 0⟩, ⟨16, 2, .rwl, 0⟩]⟩,
  ⟨"ENC_CTX_DIM", 0x610008, [(0x100, 64)], [⟨0, 14, .rwl, 0⟩, ⟨16, 14, .rwl, 0⟩]⟩,
  ⟨"ENC_CTX_RATE", 0x61000C, [(0x100, 64)], [⟨0, 16, .rwl, 0⟩, ⟨16, 16, .rwl, 0⟩]⟩,
  ⟨"ENC_CTX_GOP", 0x610010, [(0x100, 64)], [⟨0, 16, .rwl, 0⟩, ⟨16, 1, .rwl, 0⟩, ⟨20, 4, .rwl, 1⟩]⟩,
  ⟨"ENC_CTX_RC_RATE", 0x610014, [(0x100, 64)], [⟨0, 16, .rwl, 0⟩, ⟨16, 16, .rwl, 0⟩]⟩,
  ⟨"ENC_CTX_RC_BUF", 0x610018, [(0x100, 64)], [⟨0, 16, .rwl, 500⟩]⟩,
  ⟨"ENC_CTX_RC_QP", 0x61001C, [(0x100, 64)], [⟨0, 6, .rwl, 10⟩, ⟨8, 6, .rwl, 51⟩, ⟨16, 6, .rwl, 30⟩, ⟨24, 6, .rwl, 32⟩]⟩,
  ⟨"ENC_CTX_CAP", 0x610020, [(0x100, 64)], [⟨0, 28, .rwl, 0⟩]⟩,
  ⟨"ENC_CTX_SRCBUF_LO", 0x610024, [(0x100, 64)], [⟨12, 20, .rwl, 0⟩]⟩,
  ⟨"ENC_CTX_SRCBUF_HI", 0x610028, [(0x100, 64)], [⟨0, 4, .rwl, 0⟩]⟩,
  ⟨"ENC_CTX_REF_LO", 0x61002C, [(0x100, 64)], [⟨12, 20, .rwl, 0⟩]⟩,
  ⟨"ENC_CTX_REF_HI", 0x610030, [(0x100, 64)], [⟨0, 4, .rwl, 0⟩]⟩,
  ⟨"ENC_CTX_BSB_LO", 0x610034, [(0x100, 64)], [⟨12, 20, .rwl, 0⟩]⟩,
  ⟨"ENC_CTX_BSB_HI", 0x610038, [(0x100, 64)], [⟨0, 4, .rwl, 0⟩]⟩,
  ⟨"ENC_CTX_BSB_SIZE", 0x61003C, [(0x100, 64)], [⟨0, 17, .rwl, 16⟩]⟩]

/-- Registers of block ENC, part 1. -/
def regMapENC1 : List RegDef := [
  ⟨"ENC_CTX_ROI_LO", 0x610040, [(0x100, 64)], [⟨10, 22, .rwl, 0⟩]⟩,
  ⟨"ENC_CTX_ROI_HI", 0x610044, [(0x100, 64)], [⟨0, 4, .rwl, 0⟩]⟩,
  ⟨"ENC_CTX_ROI_SEL", 0x610048, [(0x100, 64)], [⟨0, 1, .rw, 0⟩, ⟨8, 7, .rw, 0⟩]⟩,
  ⟨"ENC_CTX_CMD", 0x61004C, [(0x100, 64)], [⟨0, 1, .w1s, 0⟩]⟩,
  ⟨"ENC_CTX_TX_CTL", 0x610050, [(0x100, 64)], [⟨0, 4, .rwl, 0⟩, ⟨4, 1, .rwl, 0⟩, ⟨5, 1, .rwl, 0⟩, ⟨8, 8, .rwl, 0⟩, ⟨16, 7, .rwl, 96⟩, ⟨24, 8, .rwl, 64⟩]⟩,
  ⟨"ENC_CTX_TX_PAY", 0x610054, [(0x100, 64)], [⟨0, 14, .rwl, 1400⟩]⟩,
  ⟨"ENC_CTX_TX_RATE", 0x610058, [(0x100, 64)], [⟨0, 16, .rwl, 0⟩]⟩,
  ⟨"ENC_CTX_TX_DADDR", 0x61005C, [(0x100, 64), (0x4, 4)], [⟨0, 32, .rwl, 0⟩]⟩,
  ⟨"ENC_CTX_TX_UDP", 0x61006C, [(0x100, 64)], [⟨0, 16, .rwl, 0⟩, ⟨16, 16, .rwl, 0⟩]⟩,
  ⟨"ENC_CTX_TX_DMAC_HI", 0x610070, [(0x100, 64)], [⟨0, 16, .rwl, 0⟩]⟩,
  ⟨"ENC_CTX_TX_DMAC_LO", 0x610074, [(0x100, 64)], [⟨0, 32, .rwl, 0⟩]⟩,
  ⟨"ENC_CTX_TX_SSRC", 0x610078, [(0x100, 64)], [⟨0, 32, .rwl, 0⟩]⟩,
  ⟨"ENC_CTX_TX_SEQ0", 0x61007C, [(0x100, 64)], [⟨0, 16, .rwl, 0⟩]⟩,
  ⟨"ENC_CTX_STAT", 0x610080, [(0x100, 64)], [⟨0, 1, .ro, 1⟩, ⟨1, 3, .ro, 0⟩, ⟨4, 1, .w1c, 0⟩, ⟨5, 1, .w1c, 0⟩, ⟨6, 1, .ro, 0⟩, ⟨8, 8, .ro, 0⟩, ⟨16, 3, .ro, 0⟩]⟩,
  ⟨"ENC_CTX_ENGS", 0x610084, [(0x100, 64)], [⟨0, 4, .ro, 0⟩]⟩,
  ⟨"ENC_CTX_BSB_WR", 0x610088, [(0x100, 64)], [⟨0, 28, .ro, 0⟩]⟩,
  ⟨"ENC_CTX_BSB_RD", 0x61008C, [(0x100, 64)], [⟨0, 28, .rw, 0⟩]⟩,
  ⟨"ENC_CTX_ESB_RD", 0x610090, [(0x100, 64)], [⟨0, 28, .ro, 0⟩]⟩,
  ⟨"ENC_CTX_LOAD", 0x610094, [(0x100, 64)], [⟨0, 14, .ro, 0⟩]⟩,
  ⟨"ENC_CTX_FULLNESS", 0x610098, [(0x100, 64)], [⟨0, 32, .ro, 0⟩]⟩,
  ⟨"ENC_CTX_PICS", 0x61009C, [(0x100, 64)], [⟨0, 32, .ro, 0⟩]⟩,
  ⟨"ENC_CTX_SKIPPED", 0x6100A0, [(0x100, 64)], [⟨0, 32, .ro, 0⟩]⟩,
  ⟨"ENC_CTX_SKIPPED_FULL", 0x6100A4, [(0x100, 64)], [⟨0, 32, .ro, 0⟩]⟩,
  ⟨"ENC_CTX_EXHAUSTED", 0x6100A8, [(0x100, 64)], [⟨0, 32, .ro, 0⟩]⟩]

/-- Registers of block ENC, part 2. -/
def regMapENC2 : List RegDef := [
  ⟨"ENC_CTX_SKIP_ROWS", 0x6100AC, [(0x100, 64)], [⟨0, 32, .ro, 0⟩]⟩,
  ⟨"ENC_CTX_LAST_BITS", 0x6100B0, [(0x100, 64)], [⟨0, 32, .ro, 0⟩]⟩,
  ⟨"ENC_CTX_LAST_TARGET", 0x6100B4, [(0x100, 64)], [⟨0, 32, .ro, 0⟩]⟩,
  ⟨"ENC_CTX_MIGRATIONS", 0x6100B8, [(0x100, 64)], [⟨0, 32, .ro, 0⟩]⟩,
  ⟨"ENC_CTX_STALE", 0x6100BC, [(0x100, 64)], [⟨0, 32, .ro, 0⟩]⟩,
  ⟨"ENC_CTX_PKTS", 0x6100C0, [(0x100, 64)], [⟨0, 32, .ro, 0⟩]⟩,
  ⟨"ENC_CTX_LAST_PIC", 0x6100C4, [(0x100, 64)], [⟨0, 32, .ro, 0⟩]⟩,
  ⟨"ENC_CTX_REF_BYTES", 0x6100C8, [(0x100, 64)], [⟨0, 32, .ro, 0⟩]⟩]

/-- The registers of block ENC. -/
def regMapENC : List RegDef := regMapENC0 ++ regMapENC1 ++ regMapENC2

/-- Registers of block CMP, part 0. -/
def regMapCMP0 : List RegDef := [
  ⟨"CMP_GLB_FETCH", 0x700000, [], [⟨0, 8, .rwb, 96⟩]⟩,
  ⟨"CMP_GLB_LOAD", 0x700004, [], [⟨0, 17, .ro, 0⟩]⟩,
  ⟨"CMP_GLB_LT_MASK", 0x700008, [], [⟨0, 4, .rwl, 0⟩]⟩,
  ⟨"CMP_GLB_LT_PIN", 0x70000C, [], [⟨0, 1, .ro, 0⟩, ⟨1, 1, .ro, 0⟩]⟩,
  ⟨"CMP_GLB_MARGIN", 0x700010, [], [⟨0, 16, .rw, 500⟩]⟩,
  ⟨"CMP_CV_CTL", 0x701000, [(0x400, 4)], [⟨0, 1, .rwl, 0⟩, ⟨1, 2, .rwl, 0⟩, ⟨3, 1, .rwl, 0⟩, ⟨4, 1, .rw, 0⟩, ⟨8, 6, .rwl, 0⟩]⟩,
  ⟨"CMP_CV_SIZE", 0x701004, [(0x400, 4)], [⟨0, 15, .rwl, 0⟩, ⟨16, 14, .rwl, 0⟩]⟩,
  ⟨"CMP_CV_LEAD", 0x701008, [(0x400, 4)], [⟨0, 24, .rwl, 0⟩]⟩,
  ⟨"CMP_CV_BG_RG", 0x70100C, [(0x400, 4)], [⟨0, 16, .rwl, 0⟩, ⟨16, 16, .rwl, 0⟩]⟩,
  ⟨"CMP_CV_BG_B", 0x701010, [(0x400, 4)], [⟨0, 16, .rwl, 0⟩]⟩,
  ⟨"CMP_CV_FLAT_LO", 0x701014, [(0x400, 4)], [⟨12, 20, .rwl, 0⟩]⟩,
  ⟨"CMP_CV_FLAT_HI", 0x701018, [(0x400, 4)], [⟨0, 4, .rwl, 0⟩]⟩,
  ⟨"CMP_CV_FLAT_RANGE", 0x70101C, [(0x400, 4)], [⟨0, 6, .rwl, 0⟩, ⟨8, 6, .rwl, 0⟩]⟩,
  ⟨"CMP_CV_STAT", 0x701040, [(0x400, 4)], [⟨0, 1, .ro, 1⟩, ⟨1, 2, .ro, 0⟩, ⟨3, 1, .w1c, 0⟩, ⟨4, 1, .ro, 0⟩, ⟨5, 1, .ro, 0⟩]⟩,
  ⟨"CMP_CV_FRAMES", 0x701044, [(0x400, 4)], [⟨0, 32, .ro, 0⟩]⟩,
  ⟨"CMP_CV_DROPPED", 0x701048, [(0x400, 4)], [⟨0, 32, .ro, 0⟩]⟩,
  ⟨"CMP_CV_SLACK", 0x70104C, [(0x400, 4)], [⟨0, 32, .ro, 2147483647⟩]⟩,
  ⟨"CMP_CV_FLAT_RENDERS", 0x701050, [(0x400, 4)], [⟨0, 32, .ro, 0⟩]⟩,
  ⟨"CMP_CV_CULLED", 0x701054, [(0x400, 4)], [⟨0, 32, .ro, 0⟩]⟩,
  ⟨"CMP_CV_LOAD", 0x701058, [(0x400, 4)], [⟨0, 17, .ro, 0⟩]⟩,
  ⟨"CMP_CV_ORDER_A", 0x701100, [(0x400, 4), (0x4, 16)], [⟨0, 32, .rw, 0⟩]⟩,
  ⟨"CMP_CV_ORDER_B", 0x701140, [(0x400, 4), (0x4, 16)], [⟨0, 32, .rw, 0⟩]⟩,
  ⟨"CMP_LT_CTL", 0x702000, [(0x100, 4)], [⟨0, 2, .rwl, 0⟩, ⟨2, 1, .rwl, 0⟩, ⟨3, 1, .rwl, 0⟩]⟩,
  ⟨"CMP_LT_BASE_LO", 0x702004, [(0x100, 4)], [⟨6, 26, .rwl, 0⟩]⟩]

/-- Registers of block CMP, part 1. -/
def regMapCMP1 : List RegDef := [
  ⟨"CMP_LT_BASE_HI", 0x702008, [(0x100, 4)], [⟨0, 4, .rwl, 0⟩]⟩,
  ⟨"CMP_LT_PITCH", 0x70200C, [(0x100, 4)], [⟨0, 20, .rwl, 0⟩]⟩,
  ⟨"CMP_LT_SIZE", 0x702010, [(0x100, 4)], [⟨0, 15, .rwl, 0⟩, ⟨16, 14, .rwl, 0⟩]⟩,
  ⟨"CMP_LT_POS", 0x702014, [(0x100, 4)], [⟨0, 14, .rwl, 0⟩, ⟨16, 13, .rwl, 0⟩]⟩,
  ⟨"CMP_LT_GALPHA", 0x702018, [(0x100, 4)], [⟨0, 10, .rwl, 1023⟩]⟩,
  ⟨"CMP_LT_FLOOR", 0x70201C, [(0x100, 4)], [⟨0, 16, .rwl, 0⟩]⟩,
  ⟨"CMP_LT_HASH", 0x702020, [(0x100, 4), (0x4, 12)], [⟨0, 32, .rwl, 0⟩]⟩,
  ⟨"CMP_LT_CMD", 0x702050, [(0x100, 4)], [⟨0, 1, .rwl, 0⟩]⟩,
  ⟨"CMP_LT_STAT", 0x702054, [(0x100, 4)], [⟨0, 1, .ro, 0⟩, ⟨1, 1, .ro, 0⟩, ⟨2, 1, .ro, 0⟩, ⟨3, 1, .ro, 0⟩]⟩,
  ⟨"CMP_LT_REFUSED", 0x702058, [(0x100, 4)], [⟨0, 32, .ro, 0⟩]⟩,
  ⟨"CMP_VL_CTL", 0x710000, [(0x100, 16)], [⟨0, 1, .rwl, 0⟩, ⟨1, 2, .rwl, 0⟩, ⟨3, 8, .rwl, 0⟩, ⟨11, 1, .rwl, 0⟩, ⟨12, 8, .rwl, 0⟩, ⟨20, 1, .rwl, 0⟩, ⟨21, 1, .rwl, 0⟩, ⟨22, 1, .rwl, 1⟩, ⟨23, 1, .rwl, 1⟩, ⟨24, 1, .rwl, 0⟩]⟩,
  ⟨"CMP_VL_CROP_XY", 0x710004, [(0x100, 16)], [⟨0, 14, .rwl, 0⟩, ⟨16, 13, .rwl, 0⟩]⟩,
  ⟨"CMP_VL_CROP_WH", 0x710008, [(0x100, 16)], [⟨0, 14, .rwl, 0⟩, ⟨16, 13, .rwl, 0⟩]⟩,
  ⟨"CMP_VL_DST_XY", 0x71000C, [(0x100, 16)], [⟨0, 16, .rwl, 0⟩, ⟨16, 16, .rwl, 0⟩]⟩,
  ⟨"CMP_VL_DST_WH", 0x710010, [(0x100, 16)], [⟨0, 15, .rwl, 0⟩, ⟨16, 14, .rwl, 0⟩]⟩,
  ⟨"CMP_VL_CSC", 0x710014, [(0x100, 16)], [⟨0, 3, .rwl, 0⟩, ⟨3, 2, .rwl, 0⟩, ⟨16, 16, .rwl, 4096⟩]⟩,
  ⟨"CMP_VL_GALPHA", 0x710018, [(0x100, 16)], [⟨0, 10, .rwl, 1023⟩]⟩,
  ⟨"CMP_VL_FILT_LO", 0x71001C, [(0x100, 16)], [⟨6, 26, .rwl, 0⟩]⟩,
  ⟨"CMP_VL_FILT_HI", 0x710020, [(0x100, 16)], [⟨0, 4, .rwl, 0⟩]⟩,
  ⟨"CMP_VL_OFFSET", 0x710024, [(0x100, 16)], [⟨0, 24, .rwl, 0⟩]⟩,
  ⟨"CMP_VL_MTX", 0x710030, [(0x100, 16), (0x4, 12)], [⟨0, 20, .rwl, 0⟩]⟩,
  ⟨"CMP_VL_STAT", 0x710080, [(0x100, 16)], [⟨0, 1, .ro, 0⟩, ⟨1, 1, .ro, 0⟩, ⟨8, 24, .ro, 0⟩]⟩,
  ⟨"CMP_VL_MISSES", 0x710084, [(0x100, 16)], [⟨0, 32, .ro, 0⟩]⟩,
  ⟨"CMP_VL_REPEATS", 0x710088, [(0x100, 16)], [⟨0, 32, .ro, 0⟩]⟩]

/-- Registers of block CMP, part 2. -/
def regMapCMP2 : List RegDef := [
  ⟨"CMP_VL_LOAD", 0x71008C, [(0x100, 16)], [⟨0, 17, .ro, 0⟩]⟩,
  ⟨"CMP_GL_CTL", 0x720000, [(0x100, 48)], [⟨0, 1, .rwl, 0⟩, ⟨1, 2, .rwl, 0⟩, ⟨3, 8, .rwl, 0⟩, ⟨11, 2, .rwl, 0⟩, ⟨13, 3, .rwl, 1⟩, ⟨16, 2, .rwl, 0⟩, ⟨18, 1, .rwl, 0⟩]⟩,
  ⟨"CMP_GL_BASE_LO", 0x720004, [(0x100, 48)], [⟨6, 26, .rwl, 0⟩]⟩,
  ⟨"CMP_GL_BASE_HI", 0x720008, [(0x100, 48)], [⟨0, 4, .rwl, 0⟩]⟩,
  ⟨"CMP_GL_PITCH", 0x72000C, [(0x100, 48)], [⟨0, 20, .rwl, 0⟩]⟩,
  ⟨"CMP_GL_SIZE", 0x720010, [(0x100, 48)], [⟨0, 15, .rwl, 0⟩, ⟨16, 14, .rwl, 0⟩]⟩,
  ⟨"CMP_GL_POS", 0x720014, [(0x100, 48)], [⟨0, 16, .rwl, 0⟩, ⟨16, 16, .rwl, 0⟩]⟩,
  ⟨"CMP_GL_GAIN", 0x720018, [(0x100, 48)], [⟨0, 16, .rwl, 4096⟩]⟩,
  ⟨"CMP_GL_GALPHA", 0x72001C, [(0x100, 48)], [⟨0, 10, .rwl, 1023⟩]⟩,
  ⟨"CMP_GL_DIRTY_X", 0x720020, [(0x100, 48)], [⟨0, 9, .rw, 0⟩, ⟨16, 9, .rw, 0⟩]⟩,
  ⟨"CMP_GL_DIRTY_Y", 0x720024, [(0x100, 48)], [⟨0, 8, .rw, 0⟩, ⟨16, 8, .rw, 0⟩]⟩,
  ⟨"CMP_GL_CMD", 0x720028, [(0x100, 48)], [⟨0, 1, .w1s, 0⟩]⟩,
  ⟨"CMP_GL_MTX", 0x720030, [(0x100, 48), (0x4, 12)], [⟨0, 20, .rwl, 0⟩]⟩,
  ⟨"CMP_GL_STAT", 0x720080, [(0x100, 48)], [⟨0, 1, .ro, 0⟩]⟩,
  ⟨"CMP_GL_LOAD", 0x720084, [(0x100, 48)], [⟨0, 17, .ro, 0⟩]⟩,
  ⟨"CMP_TILE_POS", 0x740000, [(0x8, 4096)], [⟨0, 14, .rwl, 0⟩, ⟨16, 13, .rwl, 0⟩, ⟨29, 2, .rwl, 0⟩, ⟨31, 1, .rwl, 0⟩]⟩,
  ⟨"CMP_TILE_SIZE", 0x740004, [(0x8, 4096)], [⟨0, 10, .rwl, 0⟩, ⟨16, 10, .rwl, 0⟩]⟩]

/-- The registers of block CMP. -/
def regMapCMP : List RegDef := regMapCMP0 ++ regMapCMP1 ++ regMapCMP2

/-- Registers of block CAL, part 0. -/
def regMapCAL0 : List RegDef := [
  ⟨"CAL_TILE_CTL", 0x780000, [(0x20, 4096)], [⟨0, 1, .rwl, 0⟩, ⟨1, 1, .rwl, 1⟩, ⟨2, 1, .rwl, 1⟩, ⟨3, 1, .rwl, 0⟩]⟩,
  ⟨"CAL_TILE_STAT", 0x780004, [(0x20, 4096)], [⟨0, 1, .ro, 0⟩, ⟨1, 1, .ro, 0⟩, ⟨2, 1, .ro, 0⟩, ⟨3, 1, .ro, 0⟩]⟩,
  ⟨"CAL_TILE_MTX_A", 0x780008, [(0x20, 4096)], [⟨0, 30, .rwl, 0⟩]⟩,
  ⟨"CAL_TILE_MTX_B", 0x78000C, [(0x20, 4096)], [⟨0, 30, .rwl, 0⟩]⟩,
  ⟨"CAL_TILE_CRV_A", 0x780010, [(0x20, 4096)], [⟨0, 30, .rwl, 0⟩]⟩,
  ⟨"CAL_TILE_CRV_B", 0x780014, [(0x20, 4096)], [⟨0, 30, .rwl, 0⟩]⟩,
  ⟨"CAL_TILE_ECC_SUBST", 0x780018, [(0x20, 4096)], [⟨0, 32, .ro, 0⟩]⟩,
  ⟨"CAL_SEG_CTL", 0x7A0000, [(0x40, 64)], [⟨0, 2, .rwl, 0⟩, ⟨2, 2, .rwl, 0⟩, ⟨4, 3, .rwl, 0⟩]⟩,
  ⟨"CAL_SEG_BRIGHT", 0x7A0004, [(0x40, 64)], [⟨0, 16, .rw, 32768⟩, ⟨16, 16, .rw, 0⟩]⟩,
  ⟨"CAL_SEG_BRIGHT_CUR", 0x7A0008, [(0x40, 64)], [⟨0, 16, .ro, 32768⟩, ⟨16, 16, .ro, 32768⟩]⟩,
  ⟨"CAL_SEG_CLIP_LO", 0x7A000C, [(0x40, 64)], [⟨0, 32, .ro, 0⟩]⟩,
  ⟨"CAL_SEG_CLIP_HI", 0x7A0010, [(0x40, 64)], [⟨0, 32, .ro, 0⟩]⟩,
  ⟨"CAL_SEG_FRAMES", 0x7A0014, [(0x40, 64)], [⟨0, 32, .ro, 0⟩]⟩,
  ⟨"CAL_GLB_CRV_USED", 0x7B0000, [], [⟨0, 12, .ro, 0⟩]⟩,
  ⟨"CAL_GLB_FLIP_PEND", 0x7B0004, [], [⟨0, 13, .ro, 0⟩]⟩,
  ⟨"CAL_GLB_ECC_SUBST", 0x7B0008, [], [⟨0, 32, .ro, 0⟩]⟩]

/-- The registers of block CAL. -/
def regMapCAL : List RegDef := regMapCAL0

/-- Registers of block OUT, part 0. -/
def regMapOUT0 : List RegDef := [
  ⟨"OUT_TILE_CTL", 0x7C0000, [(0x20, 4096)], [⟨0, 6, .rwl, 0⟩, ⟨8, 4, .rwl, 0⟩, ⟨12, 2, .rwl, 0⟩]⟩,
  ⟨"OUT_TILE_RATE", 0x7C0004, [(0x20, 4096)], [⟨0, 17, .rwl, 0⟩, ⟨17, 15, .rwl, 0⟩]⟩,
  ⟨"OUT_TILE_SHAPE", 0x7C0008, [(0x20, 4096)], [⟨0, 16, .rwl, 8192⟩, ⟨16, 13, .rwl, 8000⟩]⟩,
  ⟨"OUT_TILE_ACCEPT", 0x7C000C, [(0x20, 4096)], [⟨0, 24, .rwl, 0⟩]⟩,
  ⟨"OUT_TILE_RX_IP", 0x7C0010, [(0x20, 4096)], [⟨0, 32, .rwl, 0⟩]⟩,
  ⟨"OUT_TILE_RX_MAC_LO", 0x7C0014, [(0x20, 4096)], [⟨0, 32, .rwl, 0⟩]⟩,
  ⟨"OUT_TILE_RX_MAC_HI", 0x7C0018, [(0x20, 4096)], [⟨0, 16, .rwl, 0⟩, ⟨16, 16, .rwl, 24680⟩]⟩,
  ⟨"OUT_TILE_STAT", 0x7C001C, [(0x20, 4096)], [⟨0, 1, .ro, 1⟩, ⟨1, 1, .ro, 0⟩, ⟨2, 1, .ro, 0⟩, ⟨3, 1, .ro, 0⟩, ⟨4, 1, .w1c, 0⟩, ⟨16, 16, .ro, 0⟩]⟩,
  ⟨"OUT_TILE_FRAMES", 0x7E0000, [(0x10, 4096)], [⟨0, 32, .ro, 0⟩]⟩,
  ⟨"OUT_TILE_LATE", 0x7E0004, [(0x10, 4096)], [⟨0, 32, .ro, 0⟩]⟩,
  ⟨"OUT_TILE_ABORTED", 0x7E0008, [(0x10, 4096)], [⟨0, 32, .ro, 0⟩]⟩,
  ⟨"OUT_TILE_CONFIG_ID", 0x7E000C, [(0x10, 4096)], [⟨0, 32, .ro, 0⟩]⟩,
  ⟨"OUT_SEG_CTL", 0x7F0000, [(0x40, 64)], [⟨0, 16, .rwl, 0⟩, ⟨16, 1, .rwl, 0⟩, ⟨17, 1, .rwl, 0⟩, ⟨18, 2, .rwl, 0⟩]⟩,
  ⟨"OUT_SEG_GUARD", 0x7F0004, [(0x40, 64)], [⟨0, 24, .rwl, 500⟩]⟩,
  ⟨"OUT_SEG_RX", 0x7F0008, [(0x40, 64)], [⟨0, 16, .rwl, 1000⟩, ⟨16, 16, .rwl, 100⟩]⟩,
  ⟨"OUT_SEG_PFX", 0x7F000C, [(0x40, 64), (0x4, 3)], [⟨0, 32, .rwl, 0⟩]⟩,
  ⟨"OUT_SEG_PRES_IP", 0x7F0018, [(0x40, 64), (0x4, 4)], [⟨0, 32, .rwl, 0⟩]⟩,
  ⟨"OUT_SEG_PRES_MAC_HI", 0x7F0028, [(0x40, 64)], [⟨0, 16, .rwl, 0⟩, ⟨16, 16, .rwl, 24680⟩]⟩,
  ⟨"OUT_SEG_PRES_MAC_LO", 0x7F002C, [(0x40, 64)], [⟨0, 32, .rwl, 0⟩]⟩,
  ⟨"OUT_SEG_LATE_FRAMES", 0x7F0030, [(0x40, 64)], [⟨0, 32, .ro, 0⟩]⟩,
  ⟨"OUT_SEG_LATE_TILES", 0x7F0034, [(0x40, 64)], [⟨0, 32, .ro, 0⟩]⟩,
  ⟨"OUT_SEG_BUF_WAITS", 0x7F0038, [(0x40, 64)], [⟨0, 32, .ro, 0⟩]⟩,
  ⟨"OUT_SEG_PRES_SENT", 0x7F003C, [(0x40, 64)], [⟨0, 32, .ro, 0⟩]⟩,
  ⟨"OUT_PORT_CTL", 0x7F4000, [(0x100, 16)], [⟨0, 8, .rwl, 20⟩, ⟨16, 16, .rwl, 8192⟩]⟩]

/-- Registers of block OUT, part 1. -/
def regMapOUT1 : List RegDef := [
  ⟨"OUT_PORT_RESERVE", 0x7F4004, [(0x100, 16)], [⟨0, 17, .rwl, 1000⟩]⟩,
  ⟨"OUT_PORT_LOAD", 0x7F4008, [(0x100, 16)], [⟨0, 17, .ro, 0⟩]⟩,
  ⟨"OUT_PORT_STAT", 0x7F400C, [(0x100, 16)], [⟨0, 13, .ro, 0⟩]⟩,
  ⟨"OUT_PORT_TILE_FRAMES", 0x7F4010, [(0x100, 16)], [⟨0, 32, .ro, 0⟩]⟩,
  ⟨"OUT_PORT_PRIV_FRAMES", 0x7F4014, [(0x100, 16)], [⟨0, 32, .ro, 0⟩]⟩,
  ⟨"OUT_PORT_PRIV", 0x7F4040, [(0x100, 16), (0x4, 16)], [⟨0, 3, .rwl, 0⟩, ⟨8, 12, .rwl, 0⟩, ⟨24, 8, .rwl, 0⟩]⟩,
  ⟨"OUT_GLB_TFP", 0x7FF000, [], [⟨0, 16, .rwb, 24680⟩]⟩,
  ⟨"OUT_GLB_STATUS_LO", 0x7FF004, [], [⟨0, 1, .rwb, 0⟩, ⟨7, 25, .rwb, 0⟩]⟩,
  ⟨"OUT_GLB_STATUS_HI", 0x7FF008, [], [⟨0, 4, .rwb, 0⟩]⟩,
  ⟨"OUT_GLB_STATUS_DROP", 0x7FF00C, [], [⟨0, 32, .ro, 0⟩]⟩,
  ⟨"OUT_GLB_OVERFLOW", 0x7FF010, [], [⟨0, 13, .ro, 0⟩]⟩]

/-- The registers of block OUT. -/
def regMapOUT : List RegDef := regMapOUT0 ++ regMapOUT1

/-- Registers of block MEM, part 0. -/
def regMapMEM0 : List RegDef := [
  ⟨"MEM_CFG", 0x800000, [], [⟨0, 2, .rwb, 2⟩, ⟨2, 2, .rwb, 0⟩, ⟨4, 1, .rwb, 0⟩]⟩,
  ⟨"MEM_STAT", 0x800004, [], [⟨0, 8, .ro, 0⟩, ⟨8, 1, .ro, 0⟩, ⟨9, 3, .ro, 0⟩, ⟨12, 1, .ro, 0⟩, ⟨13, 1, .ro, 0⟩]⟩,
  ⟨"MEM_SUPPLY", 0x800008, [], [⟨0, 16, .ro, 0⟩]⟩,
  ⟨"MEM_NEED", 0x80000C, [], [⟨0, 16, .ro, 0⟩]⟩,
  ⟨"MEM_BULK_RESERVE", 0x800010, [], [⟨0, 8, .rwb, 10⟩]⟩,
  ⟨"MEM_WM", 0x800014, [], [⟨0, 10, .rw, 256⟩, ⟨16, 10, .rw, 512⟩]⟩,
  ⟨"MEM_AGE", 0x800020, [(0x4, 7)], [⟨0, 16, .rw, 0⟩]⟩,
  ⟨"MEM_PANIC", 0x800040, [(0x4, 3)], [⟨0, 6, .rw, 16⟩, ⟨8, 6, .rw, 32⟩]⟩,
  ⟨"MEM_LEAP", 0x800050, [], [⟨0, 16, .rw, 20⟩]⟩,
  ⟨"MEM_TRAIN", 0x800054, [], [⟨0, 16, .rw, 1000⟩, ⟨16, 8, .rw, 5⟩]⟩,
  ⟨"MEM_TRAIN_LIMIT", 0x800058, [], [⟨0, 16, .rw, 5000⟩]⟩,
  ⟨"MEM_LEAP_COUNT", 0x800060, [], [⟨0, 32, .ro, 0⟩]⟩,
  ⟨"MEM_LEAP_TIME", 0x800064, [], [⟨0, 32, .ro, 0⟩]⟩,
  ⟨"MEM_CH_STAT", 0x801000, [(0x40, 8)], [⟨0, 4, .ro, 0⟩, ⟨4, 4, .ro, 0⟩, ⟨8, 1, .ro, 0⟩, ⟨9, 1, .ro, 0⟩, ⟨16, 11, .ro, 0⟩]⟩,
  ⟨"MEM_CH_CE", 0x801004, [(0x40, 8)], [⟨0, 32, .ro, 0⟩]⟩,
  ⟨"MEM_CH_UE", 0x801008, [(0x40, 8)], [⟨0, 32, .ro, 0⟩]⟩,
  ⟨"MEM_CH_UE_ADDR_LO", 0x80100C, [(0x40, 8)], [⟨6, 26, .ro, 0⟩]⟩,
  ⟨"MEM_CH_UE_ADDR_HI", 0x801010, [(0x40, 8)], [⟨0, 4, .ro, 0⟩, ⟨8, 1, .ro, 0⟩]⟩,
  ⟨"MEM_CH_REF_FORCED", 0x801014, [(0x40, 8)], [⟨0, 32, .ro, 0⟩]⟩,
  ⟨"MEM_CH_REF_LEAP", 0x801018, [(0x40, 8)], [⟨0, 32, .ro, 0⟩]⟩,
  ⟨"MEM_CH_TRAIN_STEPS", 0x80101C, [(0x40, 8)], [⟨0, 32, .ro, 0⟩]⟩,
  ⟨"MEM_CH_TRAIN_DONE", 0x801020, [(0x40, 8)], [⟨0, 32, .ro, 0⟩]⟩,
  ⟨"MEM_CH_PANIC_US", 0x801024, [(0x40, 8)], [⟨0, 32, .ro, 0⟩]⟩,
  ⟨"MEM_CH_INORDER", 0x801028, [(0x40, 8)], [⟨0, 32, .ro, 0⟩]⟩]

/-- Registers of block MEM, part 1. -/
def regMapMEM1 : List RegDef := [
  ⟨"MEM_CH_RD_UNITS", 0x80102C, [(0x40, 8)], [⟨0, 32, .ro, 0⟩]⟩,
  ⟨"MEM_CH_WR_UNITS", 0x801030, [(0x40, 8)], [⟨0, 32, .ro, 0⟩]⟩]

/-- The registers of block MEM. -/
def regMapMEM : List RegDef := regMapMEM0 ++ regMapMEM1

/-- Registers of block ARB, part 0. -/
def regMapARB0 : List RegDef := [
  ⟨"ARB_CTL", 0x900000, [(0x100, 25)], [⟨0, 1, .rw, 0⟩, ⟨8, 8, .rw, 0⟩, ⟨16, 16, .rw, 0⟩]⟩,
  ⟨"ARB_STAT", 0x900004, [(0x100, 25)], [⟨0, 1, .ro, 0⟩, ⟨1, 1, .ro, 0⟩, ⟨4, 12, .ro, 0⟩, ⟨16, 1, .w1c, 0⟩]⟩,
  ⟨"ARB_GRANTS", 0x900008, [(0x100, 25)], [⟨0, 32, .ro, 0⟩]⟩,
  ⟨"ARB_HOGS", 0x90000C, [(0x100, 25)], [⟨0, 32, .ro, 0⟩]⟩,
  ⟨"ARB_LAST_HOG", 0x900010, [(0x100, 25)], [⟨0, 12, .ro, 0⟩]⟩,
  ⟨"ARB_OWN", 0x900040, [(0x100, 8), (0x4, 29)], [⟨0, 3, .rw, 0⟩, ⟨4, 3, .ro, 0⟩, ⟨8, 1, .ro, 0⟩]⟩]

/-- The registers of block ARB. -/
def regMapARB : List RegDef := regMapARB0

/-- Registers of block APP, part 0. -/
def regMapAPP0 : List RegDef := [
  ⟨"APP_CTL", 0x980000, [], [⟨0, 1, .rwb, 0⟩, ⟨8, 8, .rwb, 10⟩]⟩,
  ⟨"APP_STAT", 0x980004, [], [⟨0, 1, .ro, 1⟩, ⟨1, 1, .ro, 0⟩]⟩,
  ⟨"APP_DREQ", 0x980008, [], [⟨0, 16, .ro, 0⟩, ⟨16, 16, .ro, 0⟩]⟩,
  ⟨"APP_TIMEOUTS", 0x98000C, [], [⟨0, 32, .ro, 0⟩]⟩,
  ⟨"APP_LAST_ADDR", 0x980010, [], [⟨0, 32, .ro, 0⟩]⟩,
  ⟨"APP_RD_WORDS", 0x980014, [], [⟨0, 32, .ro, 0⟩]⟩,
  ⟨"APP_WR_WORDS", 0x980018, [], [⟨0, 32, .ro, 0⟩]⟩]

/-- The registers of block APP. -/
def regMapAPP : List RegDef := regMapAPP0

/-- Registers of block MCS, part 0. -/
def regMapMCS0 : List RegDef := [
  ⟨"MCS_STORE_STAT", 0xF00000, [(0x20, 20)], [⟨0, 1, .ro, 0⟩, ⟨1, 1, .ro, 0⟩, ⟨2, 1, .ro, 0⟩, ⟨16, 14, .ro, 0⟩]⟩,
  ⟨"MCS_CE", 0xF00004, [(0x20, 20)], [⟨0, 32, .ro, 0⟩]⟩,
  ⟨"MCS_UE", 0xF00008, [(0x20, 20)], [⟨0, 32, .ro, 0⟩]⟩,
  ⟨"MCS_UE_ADDR", 0xF0000C, [(0x20, 20)], [⟨0, 13, .ro, 0⟩]⟩,
  ⟨"MCS_REPAIRS", 0xF00010, [(0x20, 20)], [⟨0, 32, .ro, 0⟩]⟩,
  ⟨"MCS_SYN_RANGE", 0xF10000, [], [⟨0, 13, .ro, 0⟩, ⟨16, 13, .ro, 0⟩]⟩]

/-- The registers of block MCS. -/
def regMapMCS : List RegDef := regMapMCS0

end Sys2Proof.Machine
end

