-- ==== Sys2Proof/Machine/State.lean ====
section
/-! DEFINITION. The state of the PW8 as plain data: every register, memory, queue, context and pin the spec gives it, the
queue of waiting commands, and the state after reset. -/

namespace Sys2Proof.Machine

/-! ### Frames waiting at the ports (spec/10) -/

/-- What a frame on its way out is (R278, R279). -/
inductive TxKind where
  | pause | present | ptp | control | gang | responder | encode | dma | tile
  deriving DecidableEq, Repr

/-- A frame waiting to be sent: its kind, its INDEX (slot, device, segment, context, channel or tile), the frame number
of a tile or PRESENT packet, its length on the wire count of R275, its bytes as far as the spec fixes them, and the
pool buffer and owner that hold it. -/
structure Frame where
  kind : TxKind
  index : Nat
  frameNo : Nat
  len : Nat
  bytes : List Byte
  buf : Option (Nat × Nat)
  deriving DecidableEq, Repr

/-! ### Events and faults (spec/16) -/

/-- An event record: source, count of occurrences, DATA and time of the first (R421). `overflow` marks the OVERFLOW
record of a dormant sink (R343). -/
structure EvRec where
  src      : Nat
  count    : Nat
  data     : Nat
  time     : Nat
  overflow : Bool
  /-- Number of the delivery attempt that brought the record into the queues it entered (R423, R429). -/
  batch    : Nat
  deriving DecidableEq, Repr

/-- The event controller beyond its registers. Destinations 0 to 7 are the internal targets and 8 + s is sink s. -/
structure EvtState where
  /-- Pending records, keyed by source × 24 + destination (R421). -/
  pend : SMap (Option EvRec)
  /-- The route still in force of a source whose EVT_SRC_ROUTE has changed since its last delivery attempt (R422). -/
  oldRoute : SMap (Option Nat)
  /-- Delivery queues of the targets and the sinks, oldest first (R423, R428). -/
  queue : SMap (List EvRec)
  /-- Per sink: elapsed time of its last EVENT message (R428). -/
  lastMsg : SMap (Option Nat)
  /-- Per sink: elapsed time since which it has had no record queued or pending (R428). -/
  idleFrom : SMap Nat
  /-- Per sink: the idle bypass of R428 holds for its oldest queued record. -/
  bypass : SMap Bool
  /-- Elapsed time of the newest occurrence of a rate-limited source: 0, 240 + channel, 315 + store, fault 97
  (R308, R346, R414, R441). -/
  limited : SMap (Option Nat)
  /-- Delivery attempts made. -/
  attempts : Nat
  /-- Elapsed time of the newest write that set a destination's MASK (R423). -/
  maskAt : SMap (Option Nat)
  deriving DecidableEq, Repr

/-- A reaction of the fault collector that is still to be carried out (R436 to R438): the fault's severity, source,
and the unit or function it names. -/
structure Reaction where
  src : Nat
  sev : Nat
  unit : Nat
  deriving DecidableEq, Repr

/-- The fault collector beyond its registers. -/
structure FltState where
  todo : List Reaction
  /-- Tiles moved from a retired port: the port they were configured to, and the one they use, none when no port fits (R440). -/
  moved : SMap (Option (Nat × Option Nat))
  /-- Tiles whose move or return of R440 waits for their segment's next frame boundary, with what was decided for them. -/
  moveDue : List (Nat × Option (Nat × Option Nat))
  /-- Canvas placement of R439 in force: canvas to pipe. -/
  pipeOf : SMap (Option Nat)
  /-- The W1C bits that hardware has set at the elapsed time `setAt`: offset and bit (R13). The model's own fields. -/
  setAt : Nat
  setNow : List (Nat × Nat)
  deriving DecidableEq, Repr

/-! ### Time (spec/08) -/

/-- A PTP clock dataset as Announce carries it (R229). -/
structure PtpData where
  prio1 : Nat
  cls   : Nat
  acc   : Nat
  var   : Nat
  prio2 : Nat
  gmId  : Nat
  steps : Nat
  parentId : Nat
  parentPort : Nat
  utc   : Nat
  deriving DecidableEq, Repr

/-- A foreign master of a port (IEEE 1588-2019): its newest dataset, and the elapsed times of its newest Announce and of the one
before. -/
structure Foreign where
  data : PtpData
  at_ : Nat
  prev : Option Nat
  deriving DecidableEq, Repr

/-- What sets the frequency of the time base: REFCLK_MEM with the servo's adjustment, TIME_REF, or the frequency that TIME_REF last
gave before it was lost (R217, R221, R223). -/
inductive FreqBy where
  | servo | timeRef | lastRef
  deriving DecidableEq, Repr

/-- A Sync whose Follow_Up is awaited: sequence number, port, ingress stamp, correction in units of 2^-16 ns. -/
structure SyncWait where
  seq : Nat
  port : Nat
  stamp : Nat
  corr : Int
  deriving DecidableEq, Repr

/-- One time pulse output beyond its registers (R236 to R238). -/
structure TpoState where
  /-- Elapsed time at which an enable takes effect, while it has not (R237). -/
  effAt : Option Nat
  /-- The enable has taken effect and the output is not done. -/
  live  : Bool
  /-- Edges used of COUNT, produced or not. -/
  used  : Nat
  /-- ONCE and PERIODIC: index k of the next edge. SEGMENT: frame number of the next edge. -/
  next  : Nat
  /-- A pulse is running, until this elapsed time. -/
  pulse : Option Nat
  /-- SEGMENT: ranges of frames whose boundary a forward step has skipped, from the first to the one after the last (R237). -/
  skips : List (Nat × Nat)
  deriving DecidableEq, Repr

/-- A stored capture stamp (R239, R240). -/
structure Stamp where
  time : Nat
  rising : Bool
  deriving DecidableEq, Repr

/-- One capture input: its FIFO, oldest first, and the newest selected edge. -/
structure TciState where
  fifo : List Stamp
  last : Option Nat
  deriving DecidableEq, Repr

/-- Time of one segment beyond its registers (R233 to R235). -/
structure SegTime where
  /-- The first frame that may fire after the enable. -/
  first : Nat
  /-- The latest present time of a frame that a canvas latched (R235). -/
  lastPresent : Option Nat
  deriving DecidableEq, Repr

/-- The time base and its PTP ports. Times are counted in units of 2^-16 ns (R7). -/
structure TimState where
  /-- Device time. -/
  now : Nat
  /-- Time counted since the last cold reset, which no step of device time moves. Durations are measured in it. -/
  elapsed : Nat
  /-- ACQUIRING was entered from HOLDOVER (R218). -/
  fromHoldover : Bool
  /-- The next measurement is the first in ACQUIRING after FREERUN (R220). -/
  first : Bool
  inLock  : Nat
  outLock : Nat
  /-- The slave port has completed its first Delay_Req and Delay_Resp exchange (R218). -/
  pathDone : Bool
  /-- Mean path delay in units of 2^-16 ns (R218). -/
  pathDelay : Int
  /-- Newest one-step or completed Sync: master-to-slave difference t2 - t1 - correction, in units (R218, R220). -/
  msDiff : Option Int
  /-- Sequence number and egress stamp of the outstanding Delay_Req of a port. -/
  delayReq : SMap (Option (Nat × Nat))
  syncWait : Option SyncWait
  /-- PI state of the servo, in nanoseconds: cleared by a step (R220; log entry 7). -/
  piSum : Int
  holdoverAt : Nat
  holdoverRaised : Bool
  ppsEdges : List Nat
  ppsAt : Nat
  /-- The foreign masters of each port (R229). -/
  foreign : SMap (List Foreign)
  /-- Elapsed time at which a port in LISTENING began to wait for an Announce (R218, R229). -/
  listenAt : SMap Nat
  /-- Measured frequency of TIME_REF in µHz, and what the frequency of the time base follows (R221). -/
  refFreq : Nat
  freqBy : FreqBy
  /-- Sequence numbers of the messages a PTP port sends: Sync, Announce, Delay_Req. -/
  seqIds : SMap (Nat × Nat × Nat)
  /-- logMessageInterval of the master's newest Delay_Resp on each port, none before one, and when the port's next Delay_Req is due
  (R230). -/
  delayLog : SMap (Option Int)
  delayDue : SMap Nat
  /-- Time of the newest timed event fired of a kind and owner: segment s is s, canvas c 64 + c, output i 68 + i
  (R225). -/
  lastFired : SMap (Option Nat)
  /-- Timed events of an earlier time do not fire: the end of the newest forward step (R225). -/
  barrier : Nat
  /-- The state has entered LOCKED and not FREERUN since (R219). -/
  liveState : Bool
  seg : SMap SegTime
  tpo : SMap TpoState
  tci : SMap TciState
  deriving DecidableEq, Repr

/-! ### Control sessions (spec/12) -/

/-- A reply held for retransmission (R326, R329). -/
structure Reply where
  reqSeq : Nat
  reqType : Nat
  status : Nat
  done : Nat
  data : List Byte
  deriving DecidableEq, Repr

/-- A control message held until its turn, with the port and the sender it came from (R319, R326). -/
structure HeldMsg where
  req : Req
  port : Nat
  peer : Peer
  deriving DecidableEq, Repr

/-- One session slot beyond its registers. -/
structure SessState where
  hostNonce : List Byte
  hostEph : List Byte
  hostPub : List Byte
  hello : List Byte
  accept : List Byte
  hostId : Nat
  perm : Nat
  /-- HOST_ID of the slot's previous session since PORST_N or warm reset (R322, R343). -/
  prevHost : Option Nat
  /-- Port and sender of the newest message of the session (R319). -/
  port : Nat
  peer : Peer
  /-- 72 bytes of keys (R322). -/
  keys : List Byte
  setupAt : Nat
  lastAccept : Nat
  /-- Messages held ahead of NEXT_SEQ, by SEQ (R326). -/
  held : SMap (Option HeldMsg)
  gapAt : Option Nat
  /-- Event 261 has been raised for the gap (R327). -/
  gapTold : Bool
  /-- The last 32 COMPLETIONs, newest first. -/
  replies : List Reply
  /-- Replies owed from a relayed request on, in the order in which the requests were applied: SEQ, and the reply once it is known
  (R329). -/
  owed : List (Nat × Option Reply)
  devSeq : Nat
  sinkSeq : Nat
  /-- The slot of a member opened by a RELAY_REQ of its head (R520). -/
  relayed : Bool
  deriving DecidableEq, Repr

/-- The staged-change lock (R334 to R337). -/
structure LockState where
  holder : Option Nat
  nonce  : List Byte
  expiry : Nat
  staged : List RegEntry
  deriving DecidableEq, Repr

/-- An attestation report being built (R340, R502). -/
structure AttestJob where
  slot : Nat
  seq  : Nat
  nonce : List Byte
  /-- Link sequence number and REQ_ID of the relayed request, on a member. -/
  relay : Option (Nat × Nat)
  deriving DecidableEq, Repr

/-- A persistent record write that waits (R482). -/
structure PersistJob where
  slot : Nat
  seq : Nat
  kind : Nat
  record : Nat
  data : List Byte
  relay : Option (Nat × Nat)
  deriving DecidableEq, Repr

/-- The control session engine. -/
structure CtlState where
  sess : SMap SessState
  lock : LockState
  /-- Changes a COMMIT accepted that still wait for their application point (R338), in order. -/
  accepted : List RegEntry
  attest : List AttestJob
  /-- The slot that a HOST_ID last held (R322). -/
  lastSlot : SMap (Option Nat)
  /-- The session whose message is being applied, and whether that message closes it by SEC_SESS_CMD.CLOSE (R322, R329). -/
  applying : Option (Nat × Bool)
  deriving DecidableEq, Repr

/-! ### Rings and DMA (spec/13, spec/14) -/

/-- One ring beyond its registers. -/
structure RingState where
  /-- Prefetched entries from HEAD: the 64 bytes of each (R355, R356). -/
  mirror : List (List Byte)
  /-- Entries in progress: index and TAG (R359). -/
  inProg : List (Nat × Nat)
  /-- Finished entries no record covers yet, and the index, TAG and DETAIL of the last of them (R358). -/
  finished : Nat
  lastIdx : Nat
  lastTag : Nat
  lastDetail : Nat
  /-- Completion records waiting in the hold, oldest first: submission ring and 16 bytes without PHASE (R359). -/
  hold : List (Nat × List Byte)
  /-- Completion ring that a submission ring named when it was enabled. -/
  cq : Nat
  /-- Slots from HEAD up whose copies have been read, owned or not, and whether TAIL has advanced since (R356). -/
  read : Nat
  again : Bool
  /-- Slots below TAIL that host software has rewritten (R355). -/
  spoiled : List Nat
  deriving DecidableEq, Repr

/-- A descriptor (R371). -/
structure Desc where
  src : Nat
  dst : Nat
  length : Nat
  flags : Nat
  next : Nat
  deriving DecidableEq, Repr

/-- The ring entry a channel runs: index, TAG, FLAGS.COMPL, and the bytes moved so far. -/
structure EntryRun where
  ring : Nat
  idx : Nat
  tag : Nat
  compl : Bool
  moved : Nat
  deriving DecidableEq, Repr

/-- Where one side of a transfer stands: the address of the next scatter-gather entry, and the address and bytes left of
the range in use (R373). -/
structure Cursor where
  next : Nat
  addr : Nat
  left : Nat
  deriving DecidableEq, Repr

/-- One DMA channel beyond its registers. -/
structure ChanState where
  /-- The descriptor in progress; none between descriptors. -/
  desc : Option Desc
  /-- The next descriptor of a RUN_INLINE entry is the one held inline. -/
  inline : Option Desc
  /-- Bytes of the descriptor in progress that have moved, and bytes whose requests have come (R380). -/
  moved : Nat
  granted : Nat
  src : Cursor
  dst : Cursor
  /-- Bytes read and not yet written, oldest first (R378). -/
  funnel : List Byte
  /-- Offset in the descriptor's source at which an uncorrectable unit begins (R387). -/
  bad : Option Nat
  /-- A register word of the descriptor was refused (R375). -/
  refused : Bool
  /-- The frame template of a descriptor whose destination is a port (R376). -/
  tmpl : List Byte
  entry : Option EntryRun
  mover : Option Nat
  /-- Bytes taken from the source in the grant in progress, and the elapsed time of its start (R312, R313, R369). -/
  used : Nat
  since : Nat
  deriving DecidableEq, Repr

/-- The APP and the request lines. -/
structure DmaState where
  chan : SMap ChanState
  /-- Pending requests of the internal lines (R379). -/
  lines : SMap Nat
  deriving DecidableEq, Repr

/-! ### The Almanac (spec/15) -/

/-- The Almanac sequencers and the 20 control stores beyond their registers. -/
structure AlmState where
  /-- Almanac microwords, keyed by sequencer × 8,192 + word. -/
  store : SMap (BitVec 128)
  /-- Syntax microwords, keyed by engine × 8,192 + word. -/
  syn : SMap (BitVec 96)
  /-- Poisoned words, keyed by store × 8,192 + word (R414). -/
  poison : SMap Bool
  /-- Digests of the HEVC and AV1 sections as signed, with their base word and length in words (R399, R417). -/
  synDigest : List (Nat × Nat × List Byte)
  /-- The sequencer's wait has ended and the operation of its microword is still to run (R401, R404). -/
  waitDone : SMap Bool
  /-- Return stacks, newest first. -/
  stack : SMap (List Nat)
  /-- Handshake flags (R409). -/
  flags : BitVec 16
  deriving DecidableEq, Repr

/-! ### GLB, NVM, SEC, GNG and the pins (spec/17 to spec/21) -/

/-- The fuses (R462, R490 to R493, R495). They keep their values through every reset. -/
structure Fuses where
  idPub : List Byte
  ownerHash : Option (List Byte)
  lanternHash : Option (List Byte)
  steps : Nat
  dbgDisable : Bool
  gradeI : Bool
  /-- REF_i of the 32 pace monitors, in ps (R447). -/
  refs : List Nat
  deriving DecidableEq, Repr

/-- Pace, AVS and temperature beyond their registers. -/
structure GlbState where
  /-- Elapsed time since which AT_MAX has been 1 (R452). -/
  atMaxFrom : Option Nat
  /-- Elapsed time since which PI has been above 1.0 (R453). -/
  slowFrom : Option Nat
  /-- Elapsed time of the last fault 129, while its condition has lasted since (R453). -/
  belowAt : Option Nat
  /-- Elapsed time of the last Voltage write (R451). -/
  reqAt : Option Nat
  /-- Elapsed time of the last decision. -/
  decidedAt : Option Nat
  /-- The Voltage write on the AVSBus is a repeat (R450). -/
  retry : Bool
  /-- The next readback is a repeat (R450). -/
  retryRead : Bool
  /-- A frame is on the bus. -/
  busy : Bool
  /-- TJ is a known temperature. -/
  highArmed : Bool
  critArmed : Bool
  /-- One more than the elapsed time of the newest update of each monitor and sensor (monitors 0 to 31, sensors 32 to 47); 0
  before the first. -/
  updated : SMap Nat
  /-- Milliseconds of AT_MAX already counted in GLB_AVS_CEIL_TIME. -/
  ceilCounted : Nat
  deriving DecidableEq, Repr

/-- A running NVM operation (R479). -/
structure NvmJob where
  op : Nat
  slot : Nat
  off : Nat
  len : Nat
  dram : Nat
  status : Nat
  deriving DecidableEq, Repr

/-- The NVM devices, start-up and the persistent records. -/
structure NvmState where
  /-- Chip select 0, byte by byte; an unlisted byte reads erased, 0xFF. -/
  cs0 : SMap Byte
  /-- Chip select 1; an unlisted byte reads 0. -/
  cs1 : SMap Byte
  /-- Candidate slots still to try, in order (R469). -/
  cand : List Nat
  firstCand : Option Nat
  slot : Option Nat
  /-- The slot is being loaded again without settings (R478). -/
  noSettings : Bool
  /-- Elapsed time of the release of reset (R465). -/
  bootAt : Nat
  /-- Enable fields the image set, which start later (R464): register entries in order. -/
  deferred : List RegEntry
  job : Option NvmJob
  persist : List PersistJob
  /-- The record write under way: its copy's byte offset. -/
  writing : Option (PersistJob × Nat)
  lastWrite : Option Nat
  log : List (List Byte)
  /-- The time at which a write of GLB_RST_CMD.WARM was applied (R463). -/
  warmAt : Option Nat
  /-- PORST_N is low, a supply or REFCLK_MEM loss holds the device in cold reset (R462, R540, R543). -/
  held : Bool
  memClkLost : Bool
  sysrstLow : Bool
  /-- Owner public key of the slot started (R492). -/
  ownerPub : List Byte
  /-- PERSIST and record reads: the record selected by NVM_REC_CMD. -/
  recRead : Option (Nat × Nat)
  deriving DecidableEq, Repr

/-- A key slot (R498 to R501). -/
structure KeySlot where
  kind : Nat
  key  : List Byte
  deriving DecidableEq, Repr

/-- Keys, fuse steps and debug access. -/
structure SecState where
  keys : SMap (Option KeySlot)
  lantern : Option (List Byte)
  /-- Fuse steps still to blow (R497). -/
  advance : Option Nat
  /-- An accepted token whose steps 2 to 4 of R506 are under way: its SCOPE. -/
  opening : Option Nat
  open_ : Bool
  deriving DecidableEq, Repr

/-- A relayed request that the head has sent and no reply answers (R518). -/
structure RelayJob where
  reqId : Nat
  slot  : Nat
  seq   : Nat
  type  : Nat
  /-- The body of the RELAY_REQ, which is sent again as it was. -/
  bytes : List Byte
  sentAt : Nat
  linkSeq : Nat
  deriving DecidableEq, Repr

/-- A head-to-member message held for its turn (R516, R518): REQ_ID, SLOT, HOST_ID and the request; SLOT; or a KEEPALIVE. -/
inductive GangMsg where
  | relay (reqId slot hostId : Nat) (m : Msg)
  | sessionEnd (slot : Nat)
  | keepalive
  deriving DecidableEq, Repr

/-- One Rilsar link (R515 to R523). -/
structure LinkState where
  linkId : Nat
  nonce : List Byte
  peerNonce : List Byte
  keys : List Byte
  hello : List Byte
  txSeq : Nat
  /-- Member: next SEQ expected. Head: highest SEQ seen. -/
  rxSeq : Nat
  /-- Head: SEQs seen within 1,024 below the highest. -/
  seen : List Nat
  held : SMap (Option GangMsg)
  replies : List (Nat × Reply)
  waiting : List RelayJob
  lastRx : Nat
  lastReq : Nat
  resets : Option (Nat × Nat)
  acceptAt : Option Nat
  keepAt : Nat
  /-- The draw that the head's ephemeral key of its newest GANG_ACCEPT came from. -/
  ephDraw : Nat
  deriving DecidableEq, Repr

/-- The pins and the TAP (spec/21). -/
structure PinState where
  /-- Selected TAP instruction code (R550). -/
  ir : Nat
  /-- The boundary register, bit 0 nearest TDO. -/
  boundary : BitVec 2202
  bypass : Bool
  /-- The SECREG register (R551). -/
  secreg : BitVec 49
  /-- What the newest scan shifted out at TDO: the captured value of the selected register, bit 0 first. -/
  tdo : Nat
  /-- Value the next Capture-DR loads into SECREG.DATA. -/
  secData : Nat
  /-- GPIO levels counted by the debounce (R554). -/
  gpio : BitVec 16
  /-- TAP instruction drives the balls: EXTEST, HIGHZ or CLAMP in force. -/
  drive : Bool
  deriving DecidableEq, Repr

/-! ### Ports and buffers (spec/02) -/

/-- A received frame waiting in a pool buffer: its owner (R66), the buffer, its arrival time, and where its UDP payload lies. A
frame of an ingest context that found no buffer waits as pool 8 with its payload in `body`, for its items to count as lost
(R67). -/
structure RxBuf where
  owner : Nat
  pool : Nat
  ptr : Nat
  arr : Nat
  off : Nat
  len : Nat
  body : List Byte
  /-- What is left of the datagram once its first item is taken: an RTP payload, or the TS packets of its context. -/
  items : Option (List (List Byte))
  /-- Port and sender of a control message (R319). -/
  sender : Option (Nat × Peer)
  deriving DecidableEq, Repr

/-- A membership in force with its filter: the sources of INCLUDE, none for EXCLUDE with an empty list (R40). -/
structure Membership where
  port : Nat
  ipv6 : Bool
  group : Nat
  sources : Option (List Nat)
  deriving DecidableEq, Repr

/-- Unsolicited reports still to send for one change of a membership, with the filter before the change (R40). -/
structure Report where
  port : Nat
  ipv6 : Bool
  group : Nat
  before : Option (List Nat)
  left : Nat
  at_ : Nat
  deriving DecidableEq, Repr

/-- The ports beyond their registers. -/
structure NetState where
  rx : List RxBuf
  /-- End of a received PAUSE, in elapsed time. -/
  pause : SMap (Option Nat)
  groups : List Membership
  reports : List Report
  /-- Address of a port that a duplicate address detection conflict stopped: key 2 × port, + 1 for NET_LP_IPV6. -/
  dad : SMap Bool
  /-- Ports that lost their link with the clock of their physical port (R543). -/
  clkLost : List Nat
  /-- Elapsed time at which a port's reception was stopped, for the frame in progress then (R37). -/
  stopAt : SMap (Option Nat)
  /-- Elapsed time at which the last frame that passed to a port has left it (R37). -/
  txEnd : SMap Nat
  deriving DecidableEq, Repr

/-- The buffer pools: owner + 1 of each buffer in use, keyed by pool × 2^20 + index, the low-mark memory, and the pools whose
LOWEST the image has loaded. -/
structure BpmState where
  used : SMap Nat
  lowRaised : SMap Bool
  lowSet : List Nat
  deriving DecidableEq, Repr

/-! ### Ingest (spec/02) -/

/-- A published or ended record of an ES buffer: linear offset, KIND, bytes of payload, FLAGS, and header fields
(R63). The header shows at most 65,535 packets. -/
structure EsRec where
  lin : Nat
  kind : Nat
  len : Nat
  flags : Nat
  ts : Nat
  arr : Nat
  seqFirst : Nat
  pkts : Nat
  deriving DecidableEq, Repr

/-- An open access unit. -/
structure OpenAu where
  lin : Nat
  /-- Its payload so far. -/
  bytes : List Byte
  ts : Nat
  arr : Nat
  seqFirst : Nat
  pkts : Nat
  gapInside : Bool
  deriving DecidableEq, Repr

/-- An open gap: cause, count, MEDIA_TS and time of the first dropped item (R54, R64). -/
structure OpenGap where
  cause : Nat
  count : Nat
  ts : Nat
  arr : Nat
  deriving DecidableEq, Repr

/-- The use of a FIFO bank (R53, R59). -/
inductive BankUse where
  | empty | filling | full | draining
  deriving DecidableEq, Repr

/-- One bank: its use, the linear ES offset of its first byte, its bytes, the valid bytes of its last 64-bit word (R52), and
the records that end in it. -/
structure Bank where
  use : BankUse
  lin : Nat
  bytes : List Byte
  valid : Nat
  ends : List EsRec
  /-- Of its bytes, those that the drain has written (R56). -/
  done : Nat
  deriving DecidableEq, Repr

/-- What a context drains next, in order: a bank, or a gap record (R54, R59). -/
inductive DrainItem where
  | bank (b : Bool)
  | gap (r : EsRec)
  deriving DecidableEq, Repr

/-- One ingest context beyond its registers. Offsets `lin` count bytes placed since the context left OFF. -/
structure IngCtx where
  /-- Sequence number, RTP timestamp and marker of the packet before; none before the first packet. -/
  last : Option (Nat × Nat × Bool)
  lastCc : Option Nat
  bankA : Bank
  bankB : Bank
  /-- The filling bank is B; both may be busy. -/
  fillB : Bool
  order : List DrainItem
  /-- Bytes placed, bytes published, and bytes the consumer has released. -/
  placed : Nat
  pub : Nat
  released : Nat
  /-- The consumer of R557 or R57 in force. -/
  consumed : Bool
  au : Option OpenAu
  gap : Option OpenGap
  /-- Published access-unit and gap records that have not been overwritten, oldest first (R57, R167). -/
  recs : List EsRec
  /-- SRTP: highest packet index accepted and the window bits below it (R48). -/
  srtpTop : Option Nat
  srtpSeen : List Nat
  /-- AV1: the fragment of an OBU that the next packet continues (R45). -/
  frag : Option (List Byte)
  /-- The two copies of a pointer of the FIFO have come apart since they were last compared (R62). -/
  apart : Bool
  /-- Register changes that wait for OFF (R50). -/
  deferred : List RegEntry
  deriving DecidableEq, Repr

/-! ### Decoding (spec/03, spec/04) -/

/-- A picture record ready to be published, and the area of substitute samples it reports (R98, R107). -/
structure OutRec where
  bytes : List Byte
  area : Nat
  deriving DecidableEq, Repr

/-- A picture in a store slot. -/
structure DecPic where
  slot : Nat
  picNum : Nat
  /-- Position of R104 and the bits of its wrap rule (0: plain integers). -/
  pos : Int
  hintBits : Nat
  isRef : Bool
  concealed : Bool
  /-- Waiting for output. -/
  waiting : Option OutRec
  /-- Its record, for the format, window and colour of one that names the slot again (R98, R112). -/
  record : List Byte
  width : Nat
  height : Nat
  unreadable : Bool
  /-- Belongs to the current coded video sequence, or was decoded since the last key frame. -/
  current : Bool
  /-- The area of its substitute samples, and whether a record of it is published or waits for output (R98, R107). -/
  area : Nat
  told : Bool
  deriving DecidableEq, Repr

/-- The picture a context runs. -/
structure DecRun where
  pic : Pic
  rec_ : EsRec
  picNum : Nat
  slot : Nat
  /-- Engines that still owe a part, the engines of the run, and the rows or tiles of each (R86). -/
  owing : List Nat
  engines : List Nat
  shares : List (List Nat)
  /-- Fewer engines than its placement has: PAR_SHORT of R86. -/
  short : Bool
  epoch : Nat
  attempt : Nat
  firstFailed : Nat
  startAt : Nat
  deadline : Nat
  causes : Nat
  concealed : Bool
  /-- Whole picture substituted by R107. -/
  whole : Bool
  area : Nat
  /-- Chroma format and bit depth of its sequence. -/
  chroma : Nat
  depth : Nat
  /-- Which picture of its record it is. -/
  part : Nat
  /-- A reference picture decoded again by a rewind (R116). -/
  replay : Bool
  /-- Its source has restarted since, so that its record is not the context's to release any more (R557). -/
  gone : Bool
  /-- Its context has been shed since, so that it serves no later picture as a reference (R100). -/
  old : Bool
  /-- No picture of its record was dispatched before it (R114). -/
  lead : Bool
  deriving DecidableEq, Repr

/-- A picture of the stream since the mark, kept for a replay (R116). -/
structure DecPast where
  pic : Pic
  rec_ : EsRec
  picNum : Nat
  chroma : Nat
  depth : Nat
  part : Nat
  deriving DecidableEq, Repr

/-- One stream context beyond its registers. -/
structure DecCtx where
  /-- Published records at and after the read offset that have been announced, oldest first. -/
  recs : List EsRec
  /-- How many records at the head are dispatched or otherwise used but not released. -/
  run : Option DecRun
  /-- Pictures of the record at the head that are done or dispatched, and whether one of them was dispatched. -/
  part : Nat
  begun : Bool
  pics : List DecPic
  nextPic : Nat
  nextOut : Nat
  lastPos : Option Int
  gapPending : Bool
  /-- AV1: the slots are unknown since a loss (R110). -/
  av1Unknown : Bool
  /-- Store slot pictures of the AV1 reference slots, by PIC_NUM; none: not refreshed since the last key frame. -/
  av1Slots : SMap (Option Nat)
  /-- AV1: position of the frame each reference slot last held (R103). -/
  av1Last : SMap (Option Int)
  dropRasl : Bool
  /-- A record with CONCEALED set has been published since the mark picture. -/
  dirtySinceMark : Bool
  markLost : Bool
  /-- The sequence last activated or received failed its checks, so that its pictures are released unread (R112). -/
  rejected : Bool
  /-- The sequence in force: last activated or received (R112). -/
  seq : Option Sequence
  past : List DecPast
  /-- A rewind: the pictures still to replay, the one that runs among them first, the failing picture, and the records that the
  pictures dropped by it still have to publish, by PIC_NUM (R116). -/
  replay : List DecPast
  failing : Option (DecRun)
  owed : List (Nat × OutRec)
  /-- Placement planned by an admission run, in force after the picture in progress (R89). -/
  planned : Option Nat
  /-- The first placement has been taken. -/
  placed : Bool
  suspect : Option Nat
  /-- The newest record without CONCEALED since EN = 1 (R120). -/
  lastClean : Option (List Byte)
  /-- The second of device time that the window of R95 covers, its access units and bits, and whether it is reported. -/
  winSec : Nat
  winPics : Nat
  winBits : Nat
  winRaised : Bool
  /-- PRIO as the last admission run took it (R80). -/
  prio : Nat
  deferred : List RegEntry
  deriving DecidableEq, Repr

/-- The decoder: its contexts and the engines under a store check (R92, R417). -/
structure DecState where
  ctx : SMap DecCtx
  riskRaised : Bool
  /-- Engines whose store check is under way. -/
  checking : List Nat
  deriving DecidableEq, Repr

/-! ### Encoding (spec/05) -/

/-- A source picture of an encode context: its MEDIA_TS and source time (R148), what it inherits, and where it lies:
the record of an ingest tap, the store slot of a decoded tap, the canvas frame otherwise. -/
structure EncSrc where
  ts : Nat
  time : Nat
  concealed : Bool
  damaged : Bool
  rec_ : Option EsRec
  slot : Nat
  record : List Byte
  /-- The slot of the source buffer that takes the picture, once it is chosen (R128). -/
  buf : Option Nat
  /-- A graphic tap: the registers in force for the canvas frame (R123, R159). -/
  conf : SMap Word
  deriving DecidableEq, Repr

/-- A coding unit as it is coded: its CTU, its QP and its size, its kind (0 skip, 1 merge, 2 inter, 3 intra), its intra mode, and whether
it is one of a fallback row, which has no residual (R140, R146). -/
structure CodedUnit where
  ctu : Nat
  qp : Int
  size : Nat
  kind : Nat
  mode : Nat
  bare : Bool
  deriving DecidableEq, Repr

/-- A coded tile: its NAL unit with start code, its bits after the slice header, the sum of its CTUs' QP, its cost, its fallback rows,
whether its budget was exhausted, its vectors by CTU, and its units (R145, R146). -/
structure TileDone where
  bytes : List Byte
  spent : Nat
  qpSum : Int
  cost : Nat
  skipRows : Nat
  exhausted : Bool
  vectors : List (Nat × Int × Int)
  units : List CodedUnit
  deriving DecidableEq, Repr

/-- The picture an encode context codes. -/
structure EncRun where
  src : EncSrc
  idr : Bool
  /-- An IDR picture of the NAL unit type that allows leading pictures, IDR_W_RADL. -/
  leading : Bool
  engines : List Nat
  cols : Nat
  rows : Nat
  done : SMap (Option TileDone)
  epoch : Nat
  attempt : Nat
  firstFailed : Nat
  startAt : Nat
  target : Q
  cap : Q
  /-- Its parameter sets, and the start code and header of the slice of each tile (R130). -/
  psets : List (List Byte)
  heads : List (List Byte)
  /-- Slot of the reference store that takes its reconstruction (R131). -/
  ref : Nat
  /-- Region entries sampled at dispatch (R142). -/
  roi : List (List Byte)
  /-- The registers as they stood at dispatch (R152). -/
  conf : SMap Word
  /-- Its ingest context has restarted: its record is not the tap's to release any more (R557). -/
  gone : Bool
  deriving DecidableEq, Repr

/-- A record of a bitstream buffer that is not released: its linear offset, its size, and the NAL units still to send,
with the bytes of the first that have gone (R150). -/
structure EncRec where
  lin : Nat
  size : Nat
  ts : Nat
  psets : List (List Byte)
  nals : List (List Byte)
  sent : Nat
  /-- The registers as they stood at the record's first packet (R152); none before it. -/
  conf : Option (SMap Word)
  deriving DecidableEq, Repr

/-- One encode context beyond its registers. -/
structure EncCtx where
  /-- Source pictures offered and not yet looked at, oldest first. -/
  offers : List EncSrc
  /-- Source pictures seen since EN = 1 (R123). -/
  seen : Nat
  filling : Option EncSrc
  waiting : Option EncSrc
  run : Option EncRun
  picNum : Nat
  sinceIdr : Nat
  idrDue : Bool
  skipped : Nat
  /-- F, E and D of R144. -/
  fill : Q
  excess : Q
  debit : Q
  /-- α of R145 for IDR and for P pictures in units of 2^-40; none before the first picture of its type. -/
  alphaIdr : Option Nat
  alphaP : Option Nat
  /-- Slots of the reference store with the newest coded picture and the one before it (R131), and the vectors of the newest one by
  CTU (R138). -/
  refs : List Nat
  vectors : List (Nat × Int × Int)
  /-- Bytes written and released of the bitstream buffer, and its records. -/
  wrLin : Nat
  rdLin : Nat
  recs : List EncRec
  /-- The next RTP sequence number, and how often it has wrapped (RFC 3711, R150). -/
  seqNo : Nat
  rollover : Nat
  /-- Elapsed time and UDP payload bytes of the previous packet (R150). -/
  lastPkt : Option (Nat × Nat)
  suspect : Option Nat
  planned : Option Nat
  placed : Bool
  /-- PRIO as the last admission run took it (R152). -/
  prio : Nat
  deferred : List RegEntry
  deriving DecidableEq, Repr

/-- The encoder: its contexts. -/
structure EncState where
  ctx : SMap EncCtx
  deriving DecidableEq, Repr

/-! ### Composition (spec/06) -/

/-- The record a video layer chose: source kind and context, store slot, the picture record, or the ES record of an
ingest source (R166). -/
structure Choice where
  ingest : Bool
  ctx : Nat
  slot : Nat
  record : List Byte
  es : Option EsRec
  num : Nat
  deriving DecidableEq, Repr

/-- A hold of a video layer on a picture: layer, canvas frame, and what is held (R167). -/
structure Hold where
  layer : Nat
  canvas : Nat
  frame : Nat
  choice : Choice
  deriving DecidableEq, Repr

/-- A canvas frame from its latch to its last piece: what R159 fixes. `conf` holds the CMP, CAL and OUT registers as they
stood at the latch, `order` the composed layers bottom first, `flat` the flatten group and `opaque` the opacity bits in
use. `pieces` are the tile pieces still to compose: tile, brick column, brick row. -/
structure CvFrame where
  n : Nat
  present : Nat
  conf : SMap Word
  order : List Nat
  flat : List Nat
  choices : List (Nat × Choice)
  lantern : Bool
  opaque_ : List Nat
  pieces : List (Nat × Nat × Nat)
  lamps : Nat
  /-- Flatten bricks rendered from the first of their pieces on, and the brick states and opacity bits that this frame may
  no longer set, because an invalidation came after its latch (layer × 65,536 + brick). -/
  rendered : List Nat
  blocked : List Nat
  /-- The curve cache and the curve bypasses at the latch (R204, R213). -/
  curves : SMap (List Byte)
  bypass : SMap Bool
  /-- The filter tables at the latch (R159, R172). -/
  filt : SMap (List Byte)
  deriving DecidableEq, Repr

/-- State of a flatten brick (R182). -/
inductive Brick where
  | invalid | empty | opaque | partly
  deriving DecidableEq, Repr

/-- One canvas pipe beyond its registers. -/
structure CvState where
  /-- The first frame that may latch after the enable. -/
  first : Nat
  waiting : Option CvFrame
  cur : Option CvFrame
  lastSel : Option Nat
  members : List Nat
  bricks : SMap Brick
  /-- Opacity bits: layer × 65,536 + brick; 48 + 16 is the Lantern layer, 65 the flatten group (R184). -/
  opaque_ : SMap Bool
  /-- Pieces fetched with alpha 1.0 at every lamp since the last invalidation: (layer × 65,536 + brick) × 4,096 + tile. -/
  seen : SMap Bool
  ltShown : Bool
  riskRaised : Bool
  /-- Composed colours of the frame in progress for the encode contexts that tap the canvas, by y × 65,536 + x (R123). -/
  taps : SMap (Nat × Nat × Nat)
  /-- Every brick has become INVALID since the last latch; event 147 is still to be raised (R183). -/
  flatLost : Bool
  deriving DecidableEq, Repr

/-- What a range of DRAM is watched for. -/
inductive WatchFor where
  /-- The pixels behind an opacity bit, or behind the pieces that lead to one, by layer × 65,536 + brick (R183). -/
  | opacity (key : Nat)
  /-- The same, of a bit that has been cleared while a frame that uses it is being composed. -/
  | past (key : Nat)
  /-- The pixels of a graphic layer that the next piece fetches (R187). -/
  | piece (id : Nat)
  /-- The matrix bank of a tile that a latched frame uses (R205). -/
  | matrix (frame tile : Nat)
  deriving DecidableEq, Repr

/-- A range of DRAM that a canvas watches: bytes [x0, x1) of rows [y0, y1) from `base`, and the addresses written in it. -/
structure Watch where
  canvas : Nat
  what : WatchFor
  base : Nat
  pitch : Nat
  x0 : Nat
  x1 : Nat
  y0 : Nat
  y1 : Nat
  hits : List Nat
  deriving DecidableEq, Repr

/-- A COMMIT whose Lantern surfaces or curve tables are still being read (R190, R203): its entries, its session slot and
sequence number, the canvases checked and the tables read. -/
structure CheckJob where
  slot : Nat
  seq : Nat
  relay : Option (Nat × Nat)
  entries : List RegEntry
  canvases : List Nat
  tables : List Nat
  /-- Ranges of the surfaces that have been verified for it (R191). -/
  verified : List (Nat × Nat × Nat)
  deriving DecidableEq, Repr

/-- The composition block. -/
structure CmpState where
  cv : SMap CvState
  /-- Newest choice of each video layer. -/
  choice : SMap (Option Choice)
  holds : List Hold
  /-- Filter tables as read at COMMIT: 1,792 bytes by layer (R172). -/
  filt : SMap (List Byte)
  /-- LANTERN_N is low, and the elapsed time of its last change (R192). -/
  ltLow : Bool
  ltEdge : Nat
  /-- Protected ranges: canvas, first address, and the address after the last (R191). -/
  protected_ : List (Nat × Nat × Nat)
  /-- A write of the command in progress has met a protected range; fault 58 is still to be raised. -/
  protHit : Bool
  checks : List CheckJob
  /-- Ranges whose writes leave lamps undefined (R183, R187, R205). -/
  watch : List Watch
  deriving DecidableEq, Repr

/-! ### Calibration (spec/07) -/

/-- A composed piece on its way to calibration: canvas, frame, tile, the rectangle of the tile it covers and the linear
FP16 colour of its lamps in raster order. -/
structure Piece where
  canvas : Nat
  frame : CvFrame
  tile : Nat
  rect : Rect
  lamps : List (Nat × Nat × Nat)
  last : Bool
  deriving DecidableEq, Repr

/-- CAL changes whose curve reads are done or under way (R204). -/
structure CurveJob where
  tables : List Nat
  done : Bool
  entries : List RegEntry
  deriving DecidableEq, Repr

structure CalState where
  pieces : List Piece
  /-- The curve cache: table base in units of 64 bytes to its 6,144 bytes (R203). -/
  cache : SMap (List Byte)
  jobs : List CurveJob
  /-- Tiles whose curve could not be read at start-up (R213). -/
  bypass : SMap Bool
  /-- A flip's completion is still to be raised (R205). -/
  flipping : Bool
  /-- Failing 64-byte units of frames in calibration: canvas, frame, unit (R212). -/
  badUnits : List (Nat × Nat × Nat)
  deriving DecidableEq, Repr

/-! ### Output flows (spec/09, spec/10) -/

/-- One packet of a tile flow, with its counted length and the register values that address it. -/
structure TilePkt where
  /-- Type, FLAGS, frame number, SPEC and payload; SEQ and the CRC are filled in when the packet passes. -/
  type : Nat
  flags : Nat
  n : Nat
  spec : List Byte
  payload : List Byte
  len : Nat
  /-- The pool buffer; none while the packet waits for one (R274). -/
  buf : Option (Nat × Nat)
  /-- The port it leaves on (R273). -/
  port : Nat
  conf : SMap Word
  deriving DecidableEq, Repr

/-- A tile frame in its flow, with the values fixed at its canvas latch (R273). `codes` are the lamp codes calibrated so
far by stream index; `next` is the next packet to build. -/
structure TileFrame where
  n : Nat
  present : Nat
  port : Nat
  segment : Nat
  /-- P_n − ACCEPT_US, and the deadline of R282. -/
  opens : Nat
  deadline : Nat
  conf : SMap Word
  fmt : Nat
  width : Nat
  height : Nat
  codes : SMap (Option Nat)
  next : Nat
  pkts : List TilePkt
  waiting : Bool
  sent : Bool
  aborted : Bool
  /-- Nothing of the frame is sent: no port fits the tile (R440), or the canvas frame was discarded (R162). -/
  unsent : Bool
  deriving DecidableEq, Repr

/-- Where the head packet of a flow stands (R275 to R277). -/
inductive FlowPlace where
  | idle
  | wheel (at_ : Nat)
  | overflow (at_ : Nat)
  | eligible
  deriving DecidableEq, Repr

/-- One tile flow beyond its registers. -/
structure FlowState where
  exists_ : Bool
  frames : List TileFrame
  /-- TILE_CONFIG packets that wait, in the order they were queued. -/
  configs : List TilePkt
  /-- Elapsed times at which a TILE_CONFIG is sent again, earliest first (R262), and the next one-second repeat. -/
  resend : List (Nat × TilePkt)
  repeatAt : Nat
  /-- The configuration in force with the frame next latched, as its TILE_CONFIG carries it, its fields but for CONFIG_ID and the
  frame, and the CONFIG_ID last taken (R261, R262). -/
  configPkt : Option TilePkt
  config : List Byte
  configId : Nat
  seq : Nat
  /-- Tokens, device time and QUANTUM of the newest refill (R273, R275). -/
  tokens : Q
  refilled : Nat
  quantum : Nat
  place : FlowPlace
  status : List Byte
  statusAt : Nat
  statuses : Nat
  silent : Bool
  deriving DecidableEq, Repr

/-- A segment frame: the tiles whose TILE_COMMIT passed, whether a canvas was not composed, whether a tile was late, and whether its
deadline has passed. -/
structure SegFrame where
  seg : Nat
  n : Nat
  sent : List Nat
  suppressed : Bool
  late : Bool
  closed : Bool
  present : Nat
  deadline : Nat
  /-- Its boundary has fired; a canvas has latched it (R260). -/
  fired : Bool
  latched : Bool
  /-- FMT in force for the frame (R249). -/
  fmt : Nat
  deriving DecidableEq, Repr

/-- The OUT block. Queues of port l are keyed l × 32 + (privileged entries 0 to 15, common flow 16, MAC control 17,
PRESENT 18); DRR lists likewise, with the tile list at l × 32 + 16. -/
structure OutState where
  queue : SMap (List Frame)
  flow : SMap FlowState
  segFrames : List SegFrame
  /-- Segment frames for which event 225 has been raised (R274). -/
  bufWaits : List (Nat × Nat)
  presSeq : SMap Nat
  vtime : SMap Q
  finish : SMap (Option Q)
  /-- The frame at the head of a privileged entry has its finish (R280): port × 16 + entry. -/
  headed : SMap Bool
  drr : SMap (List Nat)
  deficit : SMap Nat
  stale : SMap Bool
  /-- The frame that passed to each port last. -/
  wire : SMap (List Byte)
  deriving DecidableEq, Repr

/-! ### Memory channels and fabric (spec/11) -/

/-- A request waiting in a channel queue (R299). -/
structure MemReq where
  owner : Nat
  write : Bool
  /-- Is it a write shorter than 64 bytes (R307)? -/
  short : Bool
  addr : Nat
  at_ : Nat
  /-- The bytes to write, or those a read found as it entered the queue; and whether a write of another requester has met the read
  in flight (R299). -/
  data : List Byte
  mixed : Bool
  deriving DecidableEq, Repr

/-- What a DRAM read has returned to its requester (R299, R308). -/
structure ReadBack where
  addr : Nat
  bytes : List Byte
  poisoned : Bool
  deriving DecidableEq, Repr

/-- The DRAM channels and arbiters beyond their registers. -/
structure MemState where
  /-- Requests in a channel's queue and reads issued and not returned, oldest first. -/
  queue : SMap (List MemReq)
  reads : SMap (List MemReq)
  /-- Requests that wait for a grant of their channel's arbiter, oldest first, the owners that request one besides, by bit, and what
  the newest read of each owner returned (R308, R311). -/
  waiting : SMap (List MemReq)
  asking : SMap Nat
  back : SMap (Option ReadBack)
  /-- Device time at which the refresh burst of a channel in a Leap window ends (R303). -/
  refreshEnd : SMap Nat
  /-- Open row of a bank, and banks in in-order mode with the rows of the writes they wait for: channel × 32 + subchannel × 16
  + bank (R296, R298). -/
  row : SMap (Option Nat)
  inOrder : SMap (List Nat)
  /-- Channels whose bulk writes drain (R297). -/
  drain : SMap Bool
  /-- Channels whose DEBT has reached 8 since the last Leap window (R301). -/
  debtFull : SMap Bool
  /-- Device time at which the open Leap window opened, and of the latch that closes it where one is to come (R302). -/
  leap : Option (Nat × Option Nat)
  /-- Length of the closed Leap windows in units, from which MEM_LEAP_TIME counts. -/
  leapTotal : Nat
  /-- Elapsed time since which a channel has had a panic request queued, and its total (R300). -/
  panicAt : SMap (Option Nat)
  panicTotal : SMap Nat
  /-- Retraining of a channel (R304, R305): elapsed time of the last one, time it fell due, steps done, fault raised,
  temperature at the last retraining and the newest one. -/
  lastTrain : SMap Nat
  due : SMap (Option Nat)
  steps : SMap Nat
  overdue : SMap Bool
  temp : SMap (Option Int)
  newTemp : SMap (Option Int)
  /-- The active grant of an arbiter: units used and elapsed time of its start (R312, R313). -/
  grant : SMap (Option (Nat × Nat))
  deriving DecidableEq, Repr

/-- The machine stops where the spec gives no behaviour at all. -/
inductive Fault where
  /-- Raised by a command that a block supplied by an out-of-range rail would have to carry out: R540 leaves the
  behaviour of such a block undefined. Safe. -/
  | undefinedRail
  /-- Raised by a command outside the sensors, the rail monitors, the time base and the fault collector while TJ lies outside
  the part's junction temperature range: R16 leaves that behaviour undefined. Safe. -/
  | undefinedTemperature
  deriving DecidableEq, Repr

/-- Why a command has no meaning. -/
inductive Refusal where
  /-- Not modelled yet: answered only by an arm of exec that gives no meaning. Safe. -/
  | notModelled (mnemonic : String)
  deriving DecidableEq, Repr

/-- The whole PW8. -/
structure State where
  /-- Commands waiting, first in, first out. -/
  pending : List Instr
  /-- The model's own counter of free values drawn (log entry 4): not the spec's. -/
  draw : Nat
  /-- Registers that differ from their reset value, by offset in the register window. -/
  regs : SMap Word
  /-- Device memory, by device address (R24 to R27). -/
  mem : List Host.Cell
  /-- How often a warm reset has left DRAM undefined (R463): while above 0, an unlisted byte of DRAM reads as a free value of
  that number (log entry 4). The model's own field. -/
  memEpoch : Nat
  evt : EvtState
  flt : FltState
  tim : TimState
  ctl : CtlState
  rng : SMap RingState
  dma : DmaState
  alm : AlmState
  fuse : Fuses
  glb : GlbState
  nvm : NvmState
  sec : SecState
  gng : SMap LinkState
  pin : PinState
  net : NetState
  bpm : BpmState
  ing : SMap IngCtx
  dec : DecState
  enc : EncState
  cmp : CmpState
  cal : CalState
  out : OutState
  memc : MemState
  deriving DecidableEq, Repr

/-- The state right after a cold reset is applied and before any command: every register at its reset value (regs and
mem list nothing), every queue empty, the fuses of an unowned grade C part (log entry 3), and device time 0 (R217). -/
def State.reset : State where
  pending := []
  draw := 0
  regs := []
  mem := []
  memEpoch := 0
  evt := ⟨[], [], [], [], [], [], [], 0, []⟩
  flt := ⟨[], [], [], [], 0, []⟩
  tim := { now := 0, elapsed := 0, fromHoldover := false, first := false, inLock := 0, outLock := 0,
           pathDone := false, pathDelay := 0, msDiff := none, delayReq := [], syncWait := none, piSum := 0, holdoverAt := 0,
           holdoverRaised := false, ppsEdges := [], ppsAt := 0, foreign := [], listenAt := [], refFreq := 0, freqBy := .servo, seqIds := [], delayLog := [], delayDue := [], lastFired := [],
           barrier := 0, liveState := false, seg := [], tpo := [], tci := [] }
  ctl := { sess := [], lock := ⟨none, [], 0, []⟩, accepted := [], attest := [], lastSlot := [], applying := none }
  rng := []
  dma := ⟨[], []⟩
  alm := ⟨[], [], [], [], [], [], 0⟩
  fuse := ⟨[], none, none, 0, false, false, List.replicate 32 1000⟩
  glb := { atMaxFrom := none, slowFrom := none, belowAt := none, reqAt := none, decidedAt := none, retry := false, retryRead := false,
           busy := false, highArmed := true, critArmed := true, updated := [], ceilCounted := 0 }
  nvm := { cs0 := [], cs1 := [], cand := [], firstCand := none, slot := none, noSettings := false,
           bootAt := 0, deferred := [], job := none, persist := [], writing := none, lastWrite := none, log := [],
           warmAt := none, held := false, memClkLost := false, sysrstLow := false, ownerPub := [], recRead := none }
  sec := { keys := [], lantern := none, advance := none, opening := none, open_ := false }
  gng := []
  pin := { ir := 2, boundary := 0, bypass := false, secreg := 0, tdo := 0, secData := 0, gpio := 0, drive := false }
  net := ⟨[], [], [], [], [], [], [], []⟩
  bpm := ⟨[], [], []⟩
  ing := []
  dec := ⟨[], false, []⟩
  enc := ⟨[]⟩
  cmp := { cv := [], choice := [], holds := [], filt := [], ltLow := false, ltEdge := 0, protected_ := [], protHit := false, checks := [], watch := [] }
  cal := ⟨[], [], [], [], false, []⟩
  out := ⟨[], [], [], [], [], [], [], [], [], [], [], []⟩
  memc := { queue := [], reads := [], waiting := [], asking := [], back := [], refreshEnd := [], row := [], inOrder := [], drain := [], debtFull := [], leap := none, leapTotal := 0,
            panicAt := [], panicTotal := [], lastTrain := [], due := [], steps := [], overdue := [], temp := [],
            newTemp := [], grant := [] }

end Sys2Proof.Machine
end

