-- ==== Sys2Proof/Machine/Regs.lean ====
section
/-! DEFINITION. Finding a register in the map, the reset value of every register, and the accessors of State that read
and write registers and their fields. -/

namespace Sys2Proof.Machine

/-- The index of an offset in an array of registers. -/
def regIdx (off base stride n : Nat) : Option Nat :=
  if base ≤ off ∧ (off - base) % stride = 0 ∧ (off - base) / stride < n then some ((off - base) / stride) else none

/-- Does the offset `rel` from the base fall on an element of the array with these (stride, count) indices? -/
def dimsHit : List (Nat × Nat) → Nat → Bool
  | [], rel => rel == 0
  | (st, c) :: r, rel => decide (rel / st < c) && dimsHit r (rel % st)

/-- Does the register (or register array) hold the offset? -/
def RegDef.hit (d : RegDef) (off : Nat) : Bool := decide (d.base ≤ off) && dimsHit d.dims (off - d.base)

/-- The register map of the block whose span holds the offset (R29). -/
def blockMap (off : Nat) : List RegDef :=
  if off < 0x10000 then regMapGLB
  else if off < 0x20000 then regMapFLT
  else if off < 0x30000 then regMapEVT
  else if off < 0x40000 then regMapSEC
  else if off < 0x50000 then regMapNVM
  else if off < 0x80000 then regMapGNG
  else if off < 0xC0000 then regMapTIM
  else if off < 0x100000 then regMapALM
  else if off < 0x180000 then regMapNET
  else if off < 0x1C0000 then regMapBPM
  else if off < 0x200000 then regMapING
  else if off < 0x280000 then regMapDMA
  else if off < 0x400000 then regMapRNG
  else if off < 0x600000 then regMapDEC
  else if off < 0x700000 then regMapENC
  else if off < 0x780000 then regMapCMP
  else if off < 0x7C0000 then regMapCAL
  else if off < 0x800000 then regMapOUT
  else if off < 0x900000 then regMapMEM
  else if off < 0x980000 then regMapARB
  else if off < 0xA00000 then regMapAPP
  else if off < 0x1000000 then regMapMCS
  else []

/-- The register at an offset, when one is mapped there. EVT_TGT_RING registers of targets 0 to 4 are unmapped
(R446). -/
def regFind (off : Nat) : Option RegDef :=
  if 0x24000 ≤ off ∧ off < 0x240A0 ∧ 8 ≤ off % 0x20 ∧ off % 0x20 < 0x18 then none
  else (blockMap off).find? (fun d => d.hit off)

/-- The reset value the fields of a register give. -/
def RegDef.resetNat (d : RegDef) : Nat := d.fields.foldl (fun a f => a + f.reset * 2 ^ f.lo) 0

/-- Default SEV of the fault sources (R444, R459, R486, R509, R525, R555); NOTE for sources never raised. -/
def faultSev (n : Nat) : Nat :=
  if n ∈ [0, 16, 17, 18, 20, 33, 35, 40, 49, 50, 57, 58, 65, 72, 73, 74, 80, 84, 89, 90, 96, 97, 113, 120, 121,
      128, 130, 134, 135, 136, 137, 139, 140, 144, 145, 147, 152, 153, 154, 155, 160, 161] then 1
  else if n ∈ [32, 48, 122, 129] then 2
  else if n ∈ [88, 131] then 4
  else 0

/-- Class of the fabric port `o` (R295). -/
def fabricClass (o : Nat) : Nat :=
  if o < 16 then 3 else if o < 20 then 2 else if o < 24 then 4 else if o = 24 then 5 else if o = 25 then 6
  else if o = 26 then 0 else 1

/-- R309: the supply for a value of MEM_CFG, in 10 MB/s units: 0.90 × 32 bytes × the data rate, and 8/9 of it with
inline ECC. -/
def memSupply (cfg : Nat) : Nat :=
  let rate := if bitsOf cfg 0 2 = 0 then 6400 else if bitsOf cfg 0 2 = 1 then 7500 else 8533
  let bytes := 9 * 32 * rate * 1000000 / 10
  (if bitsOf cfg 4 1 = 1 then bytes * 8 / 9 else bytes) / 10000000

/-- Reset values that depend on the register's index or on the fuses (the spec's own tables; fused values per log
entry 3). -/
def specialReset (off : Nat) : Option Nat :=
  if off = R.GLB_ID then some 0xA10F08
  else if off = R.GLB_TEMP_LIMITS then some (95 + 100 * 256 + 3 * 65536)
  else if 0x1100 ≤ off ∧ off < 0x1180 then some (1000 * 65536)
  else if 0x10000 ≤ off ∧ off < 0x11000 ∧ off % 16 = 0 then
    some (faultSev ((off - 0x10000) / 16) + (off - 0x10000) / 16 / 8 * 256)
  else if 0x1C0000 ≤ off ∧ off < 0x1C8000 ∧ off % 0x80 = 0x48 then some 1
  else if 0x710000 ≤ off ∧ off < 0x711000 ∧ 0x30 ≤ off % 0x100 ∧ off % 0x100 < 0x60 then
    some (if (off % 0x100 - 0x30) / 4 ∈ [0, 5, 10] then 0x10000 else 0)
  else if 0x720000 ≤ off ∧ off < 0x723000 ∧ 0x30 ≤ off % 0x100 ∧ off % 0x100 < 0x60 then
    some (if (off % 0x100 - 0x30) / 4 ∈ [0, 5, 10] then 0x10000 else 0)
  else if 0x7F4040 ≤ off ∧ off < 0x7F5040 ∧ 0x40 ≤ off % 0x100 ∧ off % 0x100 < 0x50 then
    some (if off % 0x100 = 0x40 then 1 + 64 * 2 ^ 24 else if off % 0x100 = 0x44 then 2 + 32 * 2 ^ 24
      else if off % 0x100 = 0x48 then 3 + 32 * 2 ^ 24 else 6 + 8 * 2 ^ 24)
  else if off = R.MEM_SUPPLY then some (memSupply 2)
  else if 0x800020 ≤ off ∧ off < 0x80003C then some (if off < 0x800030 then 1250 else 125)
  else if 0x900000 ≤ off ∧ off < 0x900000 + 25 * 0x100 ∧ off % 0x100 = 0 then
    some (if off < 0x900800 then 16 * 256 + 125 * 65536 else if off < 0x901800 then 256 else 4 * 256 + 3125 * 65536)
  else if 0x900000 ≤ off ∧ off < 0x900800 ∧ 0x40 ≤ off % 0x100 ∧ off % 0x100 < 0x40 + 29 * 4 then
    some (fabricClass ((off % 0x100 - 0x40) / 4) + fabricClass ((off % 0x100 - 0x40) / 4) * 16)
  else none

/-- The value a register takes at reset. -/
def resetWord (off : Nat) : Word :=
  match specialReset off with
  | some v => BitVec.ofNat 32 v
  | none =>
    match regFind off with
    | some d => BitVec.ofNat 32 d.resetNat
    | none => 0

/-- The value of the register at an offset, as a number. -/
def State.rd (s : State) (off : Nat) : Nat := (SMap.get resetWord s.regs off).toNat

/-- Set the register at an offset. -/
def State.wr (s : State) (off v : Nat) : State :=
  { s with regs := SMap.set resetWord s.regs off (BitVec.ofNat 32 v) }

/-- The value of a field. -/
def State.get (s : State) (f : Fld) : Nat := bitsOf (s.rd f.off) f.lo f.width

/-- Set a field; the register's other bits keep their values. -/
def State.put (s : State) (f : Fld) (v : Nat) : State := s.wr f.off (setBits (s.rd f.off) f.lo f.width v)

/-- Is a one-bit field 1? -/
def State.flag (s : State) (f : Fld) : Bool := s.get f = 1

/-- Set a one-bit field. -/
def State.putB (s : State) (f : Fld) (b : Bool) : State := s.put f (if b then 1 else 0)

/-- Add `k` to a counter, modulo 2 to the power of its width. -/
def State.add (s : State) (f : Fld) (k : Nat) : State := s.put f ((s.get f + k) % 2 ^ f.width)

/-- Count one in a counter, modulo 2 to the power of its width. -/
def State.inc (s : State) (f : Fld) : State := s.add f 1

/-- Take 1 from a counter that is above 0. -/
def State.decr (s : State) (f : Fld) : State := s.put f (s.get f - 1)

end Sys2Proof.Machine
end

