-- ==== Sys2Proof/Machine/Ops.lean ====
section
/-! DEFINITION. The named operations that every meaning shares: the passing of time, memory by bytes, raising an event
and a fault, the level condition of a source, and queueing a frame on a port. -/

namespace Sys2Proof.Machine

/-! ### Laying an entry over a register -/

/-- A word with the masked bits of an entry laid over it. -/
def overlay (e : RegEntry) (v : Nat) : Nat := v ^^^ ((v ^^^ e.val) &&& e.mask)

/-- Lay an entry over those before it: one entry for each register (R336). -/
def mergeEntry : List RegEntry → RegEntry → List RegEntry
  | [], e => [e]
  | x :: r, e => if x.off = e.off then ⟨x.off, x.mask ||| e.mask, overlay e x.val⟩ :: r else x :: mergeEntry r e

/-- What a list of staged entries comes to: later entries lay their masked bits over earlier ones for the same register (R336). -/
def netEntries (es : List RegEntry) : List RegEntry := es.foldl mergeEntry []

/-- Lay an entry over its register (R336). -/
def State.lay (s : State) (e : RegEntry) : State := s.wr e.off (overlay e (s.rd e.off))

/-- The machine with its registers as they stood at a canvas latch (R159, R273). -/
def State.view (s : State) (conf : SMap Word) : State := { s with regs := conf }

/-! ### Time -/

/-- Device time and elapsed time move on by `dt` units of 2^-16 ns. -/
def State.advance (s : State) (dt : Nat) : State :=
  { s with tim := { s.tim with now := s.tim.now + dt, elapsed := s.tim.elapsed + dt } }

/-- The 48-bit seconds of a time (R7). -/
def timeS (t : Nat) : Nat := t / Config.sec % 2 ^ 48

/-- The nanoseconds of a time (R7). -/
def timeNs (t : Nat) : Nat := t % Config.sec / Config.ns

/-- The sub-nanoseconds of a time (R7). -/
def timeSub (t : Nat) : Nat := t % Config.ns

/-- A time from its seconds, nanoseconds and sub-nanoseconds. -/
def mkTime (sec ns sub : Nat) : Nat := sec * Config.sec + ns * Config.ns + sub

/-- A time as the 12 big-endian bytes of the wire formats: seconds (6), nanoseconds (4), sub-nanoseconds (2). -/
def timeBE (t : Nat) : List Byte := bytesBE 6 (timeS t) ++ bytesBE 4 (timeNs t) ++ bytesBE 2 (timeSub t)

/-! ### Carrying a command out -/

/-- The rails, as a mask of R540's numbers, that supply the digital blocks, the Ethernet ports with the packet buffer, the
DRAM with the SRAM caches, and the pins: the power table of spec/17 gives SerDes the two VSERDES rails, LP5X PHY and IO
the rails VPHY and VDDQ, SRAM the rail VMEM, and the miscellaneous IO the rail VIO (log entry 9). -/
def railCore : Nat := 1
def railEth : Nat := 1 + 2 + 4 + 8
def railMem : Nat := 1 + 2 + 16 + 32
def railPin : Nat := 1 + 64

/-- Is the junction, as the sensors show it, outside the grade's range (R16)? With fewer than 4 sensors in service the
temperature is not known. -/
def State.outOfTemp (s : State) : Bool :=
  let tj := signed 16 (s.get F.GLB_TEMP_STAT_TJ)
  decide (4 ≤ s.get F.GLB_TEMP_STAT_SENS_IN) &&
    (if s.fuse.gradeI then decide (tj < -40 * 16) || decide (110 * 16 < tj) else decide (tj < 0) || decide (100 * 16 < tj))

/-- Marks a mask of rails as that of a command which stays defined outside the junction's range: one of the time base (R16). -/
def anyTemp : Nat := 128

def railPinTime : Nat := railPin + anyTemp
def railEthTime : Nat := railEth + anyTemp

/-- Are the rails of a mask in range (R540)? A mask of 0 is that of the sensors, the rail monitors, the time base and the fault
collector, which stay defined. -/
def State.railsOk (s : State) (rails : Nat) : Bool := decide (s.get F.GLB_RAIL_STAT_OK &&& (rails % 128) = rails % 128)

/-- Is a command with this mask defined at the junction temperature (R16)? The fault reactions of the sensors stay defined,
and the reaction HALT says what every block does: output halts, and time, control sessions, ingest, decode and encode go on
(R436, R456). The exception of R16 reaches from −55 °C to 125 °C; the model lets what it names go on beyond that too, where
R16 defines nothing (log entry 9). -/
def State.tempOk (s : State) (rails : Nat) : Bool :=
  decide (rails = 0) || decide (anyTemp ≤ rails) || decide (s.get F.FLT_GLB_STAT_STATE = 4) || !s.outOfTemp

/-- Time passes before a command, but not while a cold reset is held: device time starts at its release (R462). -/
def State.timed (s : State) (dt : Nat) : State := if s.nvm.held then s else s.advance dt

/-- No command reaches the queue of waiting commands, and no other than those of PORST_N its level: `t` with both as `s` has
them. -/
def State.keepOutside (t s : State) : State := { t with pending := s.pending, nvm := { t.nvm with held := s.nvm.held } }

/-- Carry a command out `dt` after the one before. While a cold reset is held nothing happens (R462). While a rail that
supplies the acting block is out of range, or the junction outside its range, the block's behaviour is undefined (R16,
R540). -/
def State.act (s : State) (dt rails : Nat) (f : State → State) : Host.Outcome State Fault Refusal :=
  if s.nvm.held then .next s
  else if !s.railsOk rails then .fault .undefinedRail
  else if !s.tempOk rails then .fault .undefinedTemperature
  else .next ((f (s.advance dt)).keepOutside s)

/-! ### Free values -/

/-- Take the next draw of the free-value counter. -/
def State.nextDraw (s : State) : Nat × State := (s.draw, { s with draw := s.draw + 1 })

/-- A byte string whose length the spec fixes and whose value is free. -/
def ofLength (n : Nat) (bs : List Byte) : List Byte := (bs ++ List.replicate n 0).take n

/-- SHA-384, and the device's ECDSA P-384 signature: 48 and 96 bytes (log entry 6). -/
def sha384 (bs : List Byte) : List Byte := ofLength 48 (Config.sha384 bs)
def identitySign (bs : List Byte) : List Byte := ofLength 96 (Config.identitySign bs)

/-- Draw `n` random bytes (R321, R334, R505, R517). -/
def State.random (s : State) (n : Nat) : List Byte × State :=
  (ofLength n (Config.random s.draw n), { s with draw := s.draw + 1 })

/-! ### Memory, by bytes -/

/-- What an unlisted byte of DRAM or SRAM reads as (log entry 2): 0, and after a warm reset a free value in DRAM (R463). -/
def memDefault (epoch a : Nat) : Byte := if epoch = 0 ∨ 0x100000000000 ≤ a then 0 else Config.freeMemory epoch a

/-- The memory is in canonical form: addresses strictly rising, and no entry equal to what an unlisted address reads as. -/
abbrev Memory.wf (s : State) : Bool := SMap.wf (memDefault s.memEpoch) s.mem

/-- The byte at a device address. -/
def State.byte (s : State) (a : Nat) : Byte := SMap.get (memDefault s.memEpoch) s.mem a

/-- Does a device address lie in a protected Lantern range (R191)? -/
def State.protectedAt (s : State) (a : Nat) : Bool := s.cmp.protected_.any (fun p => decide (p.2.1 ≤ a) && decide (a < p.2.2))

/-- A write met a protected range: it is not performed, and fault 58 follows once at the end of the command (R191). -/
def State.lanternHit (s : State) : State := { s with cmp := { s.cmp with protHit := true } }

/-- Does a watched range hold a device address? -/
def Watch.covers (w : Watch) (a : Nat) : Bool :=
  let o := a - w.base
  let p := max 1 w.pitch
  decide (w.base ≤ a) && decide (w.x0 ≤ o % p) && decide (o % p < w.x1) && decide (w.y0 ≤ o / p) && decide (o / p < w.y1)

/-- A watched range has been written at `a`: of a matrix bank every address counts, of a surface that it was written. -/
def Watch.note (w : Watch) (a : Nat) : Watch :=
  if !w.covers a then w
  else match w.what with
    | .matrix _ _ => { w with hits := if w.hits.contains a then w.hits else a :: w.hits }
    | _ => { w with hits := [a] }

/-- Note a write for the canvases that watch its address (R183, R187, R205). -/
def State.noteWrite (s : State) (a : Nat) : State :=
  if s.cmp.watch.any (fun w => w.covers a) then { s with cmp := { s.cmp with watch := s.cmp.watch.map (fun w => w.note a) } } else s

/-- Write the byte at a device address, unless it lies in a protected range. -/
def State.setByte (s : State) (a : Nat) (b : Byte) : State :=
  if s.protectedAt a then s.lanternHit else { s.noteWrite a with mem := SMap.set (memDefault s.memEpoch) s.mem a b }

/-- `n` bytes from a device address up. -/
def State.bytes (s : State) (a : Nat) : Nat → List Byte
  | 0 => []
  | n + 1 => s.byte a :: s.bytes (a + 1) n

/-- Write bytes from a device address up. -/
def State.setBytes (s : State) (a : Nat) : List Byte → State
  | [] => s
  | b :: r => (s.setByte a b).setBytes (a + 1) r

/-- Fill `n` bytes from a device address up with free values (R2), each a fresh one. -/
def State.freeBytes (s : State) (a : Nat) : Nat → State
  | 0 => s
  | n + 1 => ({ (s.setByte a (Config.freeByte s.draw)) with draw := s.draw + 1 }).freeBytes (a + 1) n

/-! ### Device address map (R24, R25, R27) -/

/-- Bytes of mapped DRAM: the fitted size of MEM_CFG, or 7/8 of it with inline ECC; none while training has failed
(R25, R470). -/
def State.dramEnd (s : State) : Nat :=
  if s.get F.NVM_BOOT_STAT_STAGE = 9 then 0
  else
    let size := 8 * 2 ^ 30 * 2 ^ s.get F.MEM_CFG_CAPACITY
    if s.flag F.MEM_CFG_INLINE_ECC then size / 8 * 7 else size

/-- Base of the SRAM range. -/
def sramBase : Nat := 0x100000000000
/-- Base of the register window. -/
def regBase : Nat := 0x200000000000
/-- Base of the APP window. -/
def appBase : Nat := 0x300000000000

/-- The kinds of place a device address can name (R24, R27). -/
inductive Place where
  | dram | packetBuf | fifo | contexts | register (off : Nat) | app (off : Nat) | unmapped
  deriving DecidableEq, Repr

/-- The place of a device address; partitions marked "None" are unmapped (R24, R27), and so is the APP window while
APP_CTL.EN is 0 (R393). -/
def State.place (s : State) (a : Nat) : Place :=
  if a < s.dramEnd then .dram
  else if sramBase + 0x4800000 ≤ a ∧ a < sramBase + 0x6000000 then .packetBuf
  else if sramBase + 0x7000000 ≤ a ∧ a < sramBase + 0x7800000 then .fifo
  else if sramBase + 0x7800000 ≤ a ∧ a < sramBase + 0x7E00000 then .contexts
  else if regBase ≤ a ∧ a < regBase + 0x1000000 then .register (a - regBase)
  else if appBase ≤ a ∧ a < appBase + 0x100000000 ∧ s.flag F.APP_CTL_EN then .app (a - appBase)
  else .unmapped

/-- Does the range lie wholly in mapped DRAM? -/
def State.inDram (s : State) (a n : Nat) : Bool := decide (a + n ≤ s.dramEnd)

/-! ### Events (R421 to R429) -/

/-- Key of the pending record of source `n` for destination `d` (0 to 7 targets, 8 to 23 sinks). -/
def pendKey (n d : Nat) : Nat := n * 24 + d

/-- The delivery queue of a destination. -/
def State.queueOf (s : State) (d : Nat) : List EvRec := SMap.get (fun _ => []) s.evt.queue d

/-- Set the delivery queue of a destination, and the register that shows its fill. -/
def State.setQueue (s : State) (d : Nat) (q : List EvRec) : State :=
  let s := { s with evt := { s.evt with queue := SMap.set (fun _ => []) s.evt.queue d q } }
  if d < 8 then s.put (F.EVT_TGT_STAT_QUEUED d) q.length
  else s.put (F.EVT_SINK_STAT_QUEUED (d - 8)) (q.filter (fun r => !r.overflow)).length

/-- The pending record of a source for a destination. -/
def State.pendOf (s : State) (n d : Nat) : Option EvRec := SMap.get (fun _ => none) s.evt.pend (pendKey n d)

/-- Does any destination hold a pending record of source `n`? -/
def State.anyPend (s : State) (n : Nat) : Bool := s.evt.pend.any (fun p => decide (p.1 / 24 = n))

/-- Set or clear a pending record, keeping EVT_SRC_STAT.PENDING and EVT_GLB_STAT with it. -/
def State.setPend (s : State) (n d : Nat) (r : Option EvRec) : State :=
  let was := s.anyPend n
  let s := { s with evt := { s.evt with pend := SMap.set (fun _ => none) s.evt.pend (pendKey n d) r } }
  let now := s.anyPend n
  let s := s.putB (F.EVT_SRC_STAT_PENDING n) now
  if was && !now then s.decr F.EVT_GLB_STAT_PENDING_SOURCES
  else if !was && now then s.inc F.EVT_GLB_STAT_PENDING_SOURCES else s

/-- Destinations of a route value: TARGETS in bits 7:0 and SINKS in bits 23:8 (R421). -/
def routeDests (v : Nat) : List Nat := setBitsOf 24 v

/-- The route of a source in force: the register, or the old value while a change waits for the source's next
delivery attempt (R422). -/
def State.route (s : State) (n : Nat) : Nat :=
  match SMap.get (fun _ => none) s.evt.oldRoute n with
  | some v => v
  | none => s.rd (R.EVT_SRC_ROUTE n) % 2 ^ 24

/-- Does sink destination `d` hold any record, queued or pending? -/
def State.sinkBusy (s : State) (d : Nat) : Bool :=
  !(s.queueOf d).isEmpty || s.evt.pend.any (fun p => decide (p.1 % 24 = d))

/-- Add an occurrence to the pending record of a destination, or open one (R421). The idle bypass of R428 is judged
when a sink's first record becomes pending. -/
def State.addPend (s : State) (n data d : Nat) : State :=
  match s.pendOf n d with
  | some r => s.setPend n d (some { r with count := (r.count + 1) % 2 ^ 32 })
  | none =>
    let idle := decide (8 ≤ d) && !s.sinkBusy d &&
      decide (s.get (F.EVT_SINK_MOD_IDLE_US (d - 8)) * Config.us ≤
        s.tim.elapsed - SMap.get (fun _ => 0) s.evt.idleFrom (d - 8))
    let s := if idle then
        { s with evt := { s.evt with bypass := SMap.set (fun _ => false) s.evt.bypass (d - 8) true } } else s
    s.setPend n d (some ⟨n, 1, data, s.tim.now, false, 0⟩)

/-- An occurrence of event source `n` with its DATA (R421): counted, and added to the pending record of every
destination of the route when the source is enabled. Event 256 goes to every sink whatever its EN and route (R335). -/
def State.occur (s : State) (n data : Nat) : State :=
  let s := s.inc (F.EVT_SRC_COUNT n)
  let en := s.flag (F.EVT_SRC_CFG_EN n)
  let dests :=
    if n = 256 then (if en then (routeDests (s.route n)).filter (· < 8) else []) ++ (List.range 16).map (· + 8)
    else if en then routeDests (s.route n) else []
  dests.foldl (fun s d => s.addPend n (data % 2 ^ 32) d) s

/-- The sources that may run in level mode (R443, R459, R525, R555). -/
def levelSource (n : Nat) : Bool :=
  n ∈ [82, 83, 101, 146, 150, 209, 245, 273, 320, 321, 322, 372] || decide (384 ≤ n ∧ n < 400)

/-- Raise event source `n` by its own chapter's rule. In level mode the condition of R443 replaces that rule (R429). -/
def State.raise (s : State) (n data : Nat) : State :=
  if s.flag (F.EVT_SRC_CFG_LEVEL n) then s else s.occur n data

/-- A 32-bit value the spec does not state: the next free value (log entry 4). -/
def State.unstated (s : State) : Nat := Config.freeNat s.draw % 2 ^ 32

/-- Count a free value as used. -/
def State.used (s : State) : State := { s with draw := s.draw + 1 }

/-- Raise an event whose DATA the spec does not state: its DATA is a free value. -/
def State.raiseU (s : State) (n : Nat) : State := (s.raise n s.unstated).used

/-- The condition of a level source now holds, or not: EVT_SRC_STAT.ASSERTED shows it, and in level mode becoming
asserted is one occurrence (R429). -/
def State.setCond (s : State) (n data : Nat) (b : Bool) : State :=
  let was := s.flag (F.EVT_SRC_STAT_ASSERTED n)
  let s := s.putB (F.EVT_SRC_STAT_ASSERTED n) b
  if b && !was && s.flag (F.EVT_SRC_CFG_LEVEL n) then s.occur n data else s

/-- Raise a rate-limited source at most once in `gap` units: key `k` names the limit. -/
def State.raiseLimited (s : State) (k gap n data : Nat) : State :=
  let ok := match SMap.get (fun _ => none) s.evt.limited k with
    | none => true
    | some t => decide (t + gap ≤ s.tim.elapsed)
  if ok then
    ({ s with evt := { s.evt with limited := SMap.set (fun _ => none) s.evt.limited k (some s.tim.elapsed) } }).raise
      n data
  else s

/-! ### Faults (R431 to R435) -/

/-- The fault sources whose STATUS is set, in ascending order. -/
def State.faultsSet (s : State) : List Nat :=
  s.regs.filterMap (fun p =>
    if 0x10000 ≤ p.1 ∧ p.1 < 0x11000 ∧ p.1 % 16 = 4 ∧ p.2.toNat % 2 = 1 then some ((p.1 - 0x10000) / 16) else none)

/-- Highest LEVEL among the set statuses of a class, if any is set (R433). -/
def State.classLevel (s : State) (cls : Nat) : Option Nat :=
  s.faultsSet.foldl (fun a n =>
    if s.get (F.FLT_SRC_CFG_CLASS n) = cls then some (max (a.getD 0) (s.get (F.FLT_SRC_STAT_LEVEL n))) else a) none

/-- Bring FLT_GLB_STAT up to date: STATE is the highest LEVEL among the set statuses (R435), and event 6 is raised on
entry to HALT (R436). -/
def State.faultState (s : State) : State :=
  let lvl := s.faultsSet.foldl (fun a n => max a (s.get (F.FLT_SRC_STAT_LEVEL n))) 0
  let was := s.get F.FLT_GLB_STAT_STATE
  let s := (s.put F.FLT_GLB_STAT_STATE lvl).put F.FLT_GLB_STAT_SET s.faultsSet.length
  if was < 4 ∧ lvl = 4 then s.raiseU 6 else s

/-- Queue a record of the persistent event log (R484): up to 32 wait, and a further one is dropped with event 340. With
chip select 1 unusable log records are dropped (R485). -/
def State.logPersist (s : State) (data : List Byte) : State :=
  if !s.flag F.NVM_BOOT_STAT_CS1_OK || decide (32 ≤ s.nvm.log.length) then
    (s.inc F.NVM_LOG_DROPPED).raiseU 340
  else { s with nvm := { s.nvm with log := s.nvm.log ++ [data] } }

/-- Hardware sets a W1C bit, which a write of 1 in the same instant does not clear (R13). -/
def State.stick (s : State) (f : Fld) : State :=
  let was := if s.flt.setAt = s.tim.elapsed then s.flt.setNow else []
  { s.putB f true with flt := { s.flt with setAt := s.tim.elapsed, setNow := (f.off, f.lo) :: was } }

/-- The bits of a register that hardware has set in this instant. -/
def State.stuckBits (s : State) (off : Nat) : Nat :=
  if s.flt.setAt = s.tim.elapsed then
    s.flt.setNow.foldl (fun v p => if p.1 = off then v ||| 2 ^ p.2 else v) 0
  else 0

/-- DATA of a fault's persistent log record (R484). -/
def State.faultLogData (s : State) (n sev unit data : Nat) (esc tr : Bool) : List Byte :=
  bytesBE 1 0 ++ bytesBE 1 n ++ bytesBE 1 sev ++ bytesBE 1 ((if esc then 1 else 0) + (if tr then 2 else 0)) ++
    bytesBE 2 unit ++ bytesBE 2 0 ++ bytesBE 4 data ++ timeBE s.tim.now

/-- Enter an occurrence in the cyclic fault log (R432). -/
def State.faultLog (s : State) (n sev unit data : Nat) (esc tr : Bool) : State :=
  let k := s.get F.FLT_LOG_NEXT
  let s := s.wr (R.FLT_LOG_SRC k) (n + sev * 256 + (if esc then 2048 else 0) + (if tr then 4096 else 0) +
    unit % 65536 * 65536)
  let s := s.wr (R.FLT_LOG_DATA k) (data % 2 ^ 32)
  let s := s.wr (R.FLT_LOG_S k) (timeS s.tim.now % 2 ^ 32)
  let s := s.wr (R.FLT_LOG_NS k) (timeNs s.tim.now)
  s.put F.FLT_LOG_NEXT ((k + 1) % 32)

/-- A fault occurrence of source `n` naming `unit` (R431 to R433): counted, logged, escalated by its class, STATUS and
LEVEL set with event 1 at WARN or above, and its reaction left to be carried out. -/
def State.fault (s : State) (n unit data : Nat) : State :=
  let cfg := s.get (F.FLT_SRC_CFG_SEV n)
  let s := s.inc (F.FLT_SRC_COUNT n)
  if cfg = 0 then (s.faultLog n 0 unit data false false).put (F.FLT_SRC_STAT_UNIT n) unit
  else
    let e := match s.classLevel (s.get (F.FLT_SRC_CFG_CLASS n)) with
      | some l => max cfg (min (l + 1) (s.get F.FLT_GLB_CTL_ESC_MAX))
      | none => cfg
    let esc := decide (cfg < e)
    let s := s.faultLog n e unit data esc false
    let s := if s.flag (F.FLT_SRC_CFG_PERSIST n) || decide (n = 144) then
        s.logPersist (s.faultLogData n e unit data esc false) else s
    let s := s.stick (F.FLT_SRC_STAT_STATUS n)
    let s := s.put (F.FLT_SRC_STAT_LEVEL n) e
    let s := s.put (F.FLT_SRC_STAT_UNIT n) unit
    let s := s.raise 1 (n + e * 256 + unit % 65536 * 65536)
    let s := if esc then s.raiseU 2 else s
    let s := if 2 ≤ e then { s with flt := { s.flt with todo := s.flt.todo ++ [⟨n, e, unit⟩] } } else s
    s.faultState

/-- A fault that names a unit or function and whose DATA the spec does not state. -/
def State.faultUnit (s : State) (n unit : Nat) : State := (s.fault n unit s.unstated).used

/-- A fault with a stated DATA that names no unit and no function: UNIT is a free value, and there is nothing to retire or to
disable (R431). -/
def State.faultData (s : State) (n data : Nat) : State :=
  let u := (s.fault n (s.unstated % 65536) data).used
  { u with flt := { u.flt with todo := s.flt.todo } }

/-- A fault that names no unit and whose DATA the spec does not state. -/
def State.faultU (s : State) (n : Nat) : State := s.used.faultData n s.unstated

/-- A transient fault occurrence (R434): logged at NOTE, counted, no STATUS. -/
def State.faultTransient (s : State) (n unit data : Nat) : State :=
  (((s.inc (F.FLT_SRC_COUNT n)).inc (F.FLT_SRC_TRANSIENT n)).faultLog n 0 unit data false true).put (F.FLT_SRC_STAT_UNIT n) unit

/-- A corrected single-bit error of an SRAM array: counted, with event 0 at most once per millisecond (R28, R441). -/
def State.sramCorrected (s : State) : State := ((s.inc F.FLT_SRAM_CE).raiseLimited 0 Config.ms 0 s.unstated).used

/-- The lasting condition named in the fault list now holds, or not (R435). -/
def State.setCause (s : State) (n : Nat) (b : Bool) : State := s.putB (F.FLT_SRC_STAT_CAUSE n) b

/-- A write of 1 to FLT_SRC_STAT.STATUS (R435). An occurrence in the same instant leaves STATUS set. -/
def State.clearStatus (s : State) (n : Nat) : State :=
  if s.flag (F.FLT_SRC_STAT_CAUSE n) then s.stick (F.FLT_SRC_STAT_CLEAR_REFUSED n)
  else if !s.flag (F.FLT_SRC_STAT_STATUS n) then s
  else if (s.stuckBits (R.FLT_SRC_STAT n)).testBit 0 then s
  else ((s.putB (F.FLT_SRC_STAT_STATUS n) false).faultState).raiseU 3

/-! ### Frames towards the ports -/

/-- KIND value of a privileged entry for a kind of traffic (R279); MAC control and PRESENT have queues of their own. -/
def TxKind.code : TxKind → Nat
  | .pause => 0 | .present => 0 | .ptp => 1 | .control => 2 | .gang => 3 | .tile => 4 | .encode => 5
  | .responder => 6 | .dma => 7

/-- The queue of a port that takes a frame: MAC control 17, PRESENT 18, the privileged entry of its kind (and INDEX,
for encode contexts), or the common flow 16 (R278, R279). -/
def State.queueFor (s : State) (l : Nat) (f : Frame) : Nat :=
  match f.kind with
  | .pause => 17
  | .present => 18
  | k =>
    match (List.range 16).find? (fun i => decide (s.get (F.OUT_PORT_PRIV_KIND l i) = k.code) &&
        (decide (k ≠ .encode) || decide (s.get (F.OUT_PORT_PRIV_INDEX l i) = f.index))) with
    | some i => i
    | none => 16

/-- Queue a frame on a port. -/
def State.send (s : State) (l : Nat) (f : Frame) : State :=
  let k := l * 32 + s.queueFor l f
  let q := SMap.get (fun _ => []) s.out.queue k
  { s with out := { s.out with queue := SMap.set (fun _ => []) s.out.queue k (q ++ [f]) } }

end Sys2Proof.Machine
end

