-- ==== Sys2Proof/Machine/Tim.lean ====
section
/-! DEFINITION. The time base (spec/08): frame boundaries, steps of device time, the servo and its states, PTP ports,
time pulse outputs and capture inputs, as operations over State. -/

namespace Sys2Proof.Machine

/-! ### Frames of a segment (R233) -/

/-- Units in one second, the factor of R233: 1,000,000,000 × 65,536. -/
def unitsPerSec : Nat := 1000000000 * 65536

/-- T_n of R233 for a rate NUM / DEN. -/
def boundaryAt (num den n : Nat) : Nat := n * den * unitsPerSec / num

/-- The largest n with T_n ≤ t (R233). -/
def frameAt (num den t : Nat) : Nat := ceilDiv ((t + 1) * num) (den * unitsPerSec) - 1

/-- The least n with T_n ≥ t. -/
def frameFrom (num den t : Nat) : Nat := ceilDiv (t * num) (den * unitsPerSec)

/-- T_n of segment `g`. -/
def State.segT (s : State) (g n : Nat) : Nat :=
  boundaryAt (s.get (F.TIM_SEG_RATE_NUM g)) (s.get (F.TIM_SEG_RATE_DEN g)) n

/-- P_n of segment `g` (R233). -/
def State.segP (s : State) (g n : Nat) : Nat := s.segT g n + s.get (F.TIM_SEG_DELAY g) * Config.ns

/-- The current frame number of segment `g`. -/
def State.segN (s : State) (g : Nat) : Nat :=
  frameAt (s.get (F.TIM_SEG_RATE_NUM g)) (s.get (F.TIM_SEG_RATE_DEN g)) s.tim.now

/-- The time parts of a segment beyond its registers. -/
def State.segTime (s : State) (g : Nat) : SegTime := SMap.get (fun _ => ⟨0, none⟩) s.tim.seg g

def State.setSegTime (s : State) (g : Nat) (v : SegTime) : State :=
  { s with tim := { s.tim with seg := SMap.set (fun _ => ⟨0, none⟩) s.tim.seg g v } }

/-- The segments enabled now. -/
def State.segsOn (s : State) : List Nat := (List.range 64).filter (fun g => s.flag (F.TIM_SEG_CTL_EN g))

/-- Round a time to the nearest 1/16 ns (R231, R236). -/
def round16 (t : Nat) : Nat := (t + 2048) / 4096 * 4096

/-- The least time that rounds to `t` or later. -/
def roundsFrom (t : Nat) : Nat := ceilDiv t 4096 * 4096 - 2048

/-- A number clipped to the range of a signed 32-bit register, as its bit pattern. -/
def sat32 (v : Int) : Nat := unsigned 32 (max (-2147483648) (min 2147483647 v))

/-- Units to whole signed nanoseconds, rounded towards zero (log entry 12). -/
def unitsToNs (v : Int) : Int := v.tdiv (Config.ns : Int)

/-! ### Firing of timed events (R225) -/

/-- Owner keys of `lastFired`: segment g is g, canvas c is 64 + c, output i is 68 + i, sequencer q is 76 + q. -/
def State.lastFired (s : State) (k : Nat) : Option Nat := SMap.get (fun _ => none) s.tim.lastFired k

/-- May an event of owner `k` due at `t` fire now? Its time has come, no forward step has passed it, and it is later
than the last event of its kind and owner that fired (R225). -/
def State.mayFire (s : State) (k t : Nat) : Bool :=
  decide (t ≤ s.tim.now) && decide (s.tim.barrier ≤ t) &&
    (match s.lastFired k with | none => true | some u => decide (u < t))

def State.fired (s : State) (k t : Nat) : State :=
  { s with tim := { s.tim with lastFired := SMap.set (fun _ => none) s.tim.lastFired k (some t) } }

/-! ### State of the time base (R218, R219) -/

/-- LIVE is 1 from LOCKED until FREERUN, and always with FREERUN_OK (R219). -/
def State.setLive (s : State) (b : Bool) : State :=
  let s := { s with tim := { s.tim with liveState := b } }
  s.putB F.TIM_STAT_LIVE (b || s.flag F.TIM_CTL_FREERUN_OK)

/-- Which frequency the time base has (R221, R223): in FREERUN and HOLDOVER that of TIME_REF while REF_OK = 1, and what it had when
REF_OK falls; in ACQUIRING and LOCKED TIME_REF is not used. -/
def State.freqSync (s : State) : State :=
  let free := decide (s.get F.TIM_STAT_STATE = 0 ∨ s.get F.TIM_STAT_STATE = 3)
  let f := if !free then .servo else if s.flag F.TIM_STAT_REF_OK then .timeRef
    else match s.tim.freqBy with | .timeRef => .lastRef | x => x
  { s with tim := { s.tim with freqBy := f } }

/-- The frequency that TIM_CTL.REF selects, in µHz (R221). -/
def State.refSelected (s : State) : Nat :=
  if s.get F.TIM_CTL_REF = 1 then 10 * 10 ^ 12 else if s.get F.TIM_CTL_REF = 2 then 25 * 10 ^ 12 else 0

/-- The frequency error of TIME_REF in ppb, rounded towards zero (R221; log entry 12). -/
def State.refErr (s : State) : Int :=
  if s.refSelected = 0 then 0 else (((s.tim.refFreq : Int) - s.refSelected) * 1000000000).tdiv s.refSelected

/-- Judge TIME_REF against the selected value (R221): TIM_REF_ERR, and REF_OK with event 199 on a change while REF ≠ 0 and fault 74 on
a loss. -/
def State.refJudge (s : State) : State :=
  let s := s.wr R.TIM_REF_ERR (sat32 s.refErr)
  let sel := s.refSelected
  let ok := decide (sel ≠ 0) && decide (((s.tim.refFreq : Int) - sel).natAbs * 10000 ≤ sel)
  if s.flag F.TIM_STAT_REF_OK = ok then s
  else
    let s := ((s.putB F.TIM_STAT_REF_OK ok).setCause 74 (!ok)).freqSync
    let s := if sel = 0 then s else s.raiseU 199
    if ok ∨ sel = 0 then s else s.faultU 74

/-- Enter a state of the time base: event 192 on a change, LIVE by R219, fault 72 on LOCKED → HOLDOVER, and the CAUSE
of faults 72 and 73. -/
def State.timState (s : State) (st : Nat) : State :=
  let old := s.get F.TIM_STAT_STATE
  if st = old then s
  else
    let s := (s.put F.TIM_STAT_STATE st).raiseU 192
    let s := if st = 2 then s.setLive true else if st = 0 then s.setLive false else s
    let s := { s with tim := { s.tim with
      inLock := 0, outLock := 0, fromHoldover := decide (old = 3),
      first := decide (st = 1 ∧ old = 0),
      holdoverAt := if st = 3 then s.tim.elapsed else s.tim.holdoverAt,
      holdoverRaised := if st = 3 then false else s.tim.holdoverRaised } }
    let s := s.freqSync
    let s := (s.setCause 72 (decide (st ≠ 2))).setCause 73 (decide (st = 3))
    if old = 2 ∧ st = 3 then s.faultU 72 else s

/-- The source is lost (R218). -/
def State.sourceLost (s : State) : State :=
  if s.get F.TIM_STAT_STATE = 1 then s.timState (if s.tim.fromHoldover then 3 else 0)
  else if s.get F.TIM_STAT_STATE = 2 then s.timState 3
  else s

/-! ### Time pulse outputs (R236 to R238) -/

def TpoState.init : TpoState := ⟨none, false, 0, 0, none, []⟩

def State.tpo (s : State) (i : Nat) : TpoState := SMap.get (fun _ => TpoState.init) s.tim.tpo i

def State.setTpo (s : State) (i : Nat) (v : TpoState) : State :=
  { s with tim := { s.tim with tpo := SMap.set (fun _ => TpoState.init) s.tim.tpo i v } }

/-- START of an output. -/
def State.tpoStart (s : State) (i : Nat) : Nat :=
  mkTime (s.rd (R.TIM_TPO_START_S_HI i) * 2 ^ 32 + s.rd (R.TIM_TPO_START_S_LO i)) (s.rd (R.TIM_TPO_START_NS i))
    (s.rd (R.TIM_TPO_START_SUBNS i))

/-- PERIOD of an output in units. -/
def State.tpoPeriod (s : State) (i : Nat) : Nat :=
  s.rd (R.TIM_TPO_PERIOD_NS i) * Config.ns + s.rd (R.TIM_TPO_PERIOD_SUBNS i)

/-- OFFSET of an output in units, signed. -/
def State.tpoOffset (s : State) (i : Nat) : Int := signed 32 (s.rd (R.TIM_TPO_OFFSET i)) * (Config.ns : Int)

/-- Time of edge k (ONCE, PERIODIC) or of the edge of frame k (SEGMENT), to the nearest 1/16 ns (R236). -/
def State.tpoEdge (s : State) (i k : Nat) : Nat :=
  let m := s.get (F.TIM_TPO_CTL_MODE i)
  round16 (if m = 0 then s.tpoStart i
    else if m = 1 then s.tpoStart i + k * s.tpoPeriod i
    else ((s.segT (s.get (F.TIM_TPO_CTL_SEG i)) k : Int) + s.tpoOffset i).toNat)

/-- The configuration lies within the limits of R236. -/
def State.tpoValid (s : State) (i ctl : Nat) : Bool :=
  let m := bitsOf ctl 1 2
  let g := bitsOf ctl 4 6
  let w := s.rd (R.TIM_TPO_WIDTH i)
  if m = 0 then decide (8 ≤ w)
  else if m = 1 then
    decide (100 * Config.ns ≤ s.tpoPeriod i) && decide (8 ≤ w) && decide (w * Config.ns < s.tpoPeriod i)
  else if m = 2 then
    s.flag (F.TIM_SEG_CTL_EN g) && decide (-999999999 ≤ signed 32 (s.rd (R.TIM_TPO_OFFSET i))) &&
      decide (signed 32 (s.rd (R.TIM_TPO_OFFSET i)) ≤ 999999999) && decide (8 ≤ w) &&
      decide (w * s.get (F.TIM_SEG_RATE_NUM g) < s.get (F.TIM_SEG_RATE_DEN g) * 1000000000)
  else false

/-- An output that holds no pulse and is not enabled becomes idle. -/
def State.tpoIdle (s : State) (i : Nat) : State :=
  if (s.tpo i).pulse = none ∧ !s.flag (F.TIM_TPO_CTL_EN i) then s.putB (F.TIM_TPO_STAT_IDLE i) true else s

/-- The output is done (R237): EN clears itself, and the output is idle once no pulse runs. -/
def State.tpoDone (s : State) (i : Nat) : State :=
  let s := s.setTpo i { s.tpo i with live := false, effAt := none }
  (s.putB (F.TIM_TPO_CTL_EN i) false).tpoIdle i

/-- The first index at or after `k` whose edge lies after the last one the output has produced (R225): in SEGMENT mode a frame,
otherwise an edge. -/
def State.tpoLater (s : State) (i k : Nat) : Nat :=
  match s.lastFired (68 + i) with
  | none => k
  | some u =>
    if s.get (F.TIM_TPO_CTL_MODE i) = 2 then
      let g := s.get (F.TIM_TPO_CTL_SEG i)
      max k (frameFrom (s.get (F.TIM_SEG_RATE_NUM g)) (s.get (F.TIM_SEG_RATE_DEN g)) ((u : Int) + 2048 - s.tpoOffset i).toNat)
    else max k (ceilDiv (u + 2048 - s.tpoStart i) (max 1 (s.tpoPeriod i)))

/-- Use `k` edges of COUNT without producing them, and move on to edge `nx`; a used-up COUNT ends the output with
event 196 (R237). -/
def State.tpoSkip (s : State) (i k nx : Nat) : State :=
  let v := s.tpo i
  let s := s.setTpo i { v with used := v.used + k, next := nx }
  let cnt := s.get (F.TIM_TPO_CTL_COUNT i)
  if cnt ≠ 0 ∧ cnt ≤ v.used + k then (s.raiseU 196).tpoDone i else s

/-- Pass over the frames whose boundary a forward step has skipped (R237). -/
def State.tpoJump (s : State) (i : Nat) : State :=
  (s.tpo i).skips.foldl (fun (s : State) r =>
    let v := s.tpo i
    if v.live && decide (r.1 ≤ v.next) && decide (v.next < r.2) then s.tpoSkip i (r.2 - v.next) r.2 else s) s

/-- A missed ONCE edge (R237). -/
def State.tpoMissed (s : State) (i : Nat) : State :=
  ((s.stick (F.TIM_TPO_STAT_MISSED i)).raiseU 197).tpoDone i

/-- The enable of an output takes effect at `t` (R237). -/
def State.tpoEffect (s : State) (i t : Nat) : State :=
  let m := s.get (F.TIM_TPO_CTL_MODE i)
  let s := s.setTpo i { s.tpo i with effAt := none, live := true, used := 0, next := 0, skips := [] }
  if m = 0 then (if s.tpoStart i < t then s.tpoMissed i else s)
  else if m = 1 then
    let k := s.tpoLater i (ceilDiv (roundsFrom t - s.tpoStart i) (s.tpoPeriod i))
    s.tpoSkip i k k
  else
    let g := s.get (F.TIM_TPO_CTL_SEG i)
    let at0 := ((roundsFrom t : Int) - s.tpoOffset i).toNat
    let k := frameFrom (s.get (F.TIM_SEG_RATE_NUM g)) (s.get (F.TIM_SEG_RATE_DEN g)) at0
    s.tpoSkip i (s.tpoLater i k - k) (s.tpoLater i k)

/-- The frames of a segment whose boundaries a forward step from `t0` to `t1` skips: the first, and the one after the last. -/
def State.skippedFrames (s : State) (g t0 t1 : Nat) : Nat × Nat :=
  let a := max (frameFrom (s.get (F.TIM_SEG_RATE_NUM g)) (s.get (F.TIM_SEG_RATE_DEN g)) t0) (s.segTime g).first
  let a := match s.lastFired g with
    | some u => max a (frameFrom (s.get (F.TIM_SEG_RATE_NUM g)) (s.get (F.TIM_SEG_RATE_DEN g)) (u + 1))
    | none => a
  (a, frameFrom (s.get (F.TIM_SEG_RATE_NUM g)) (s.get (F.TIM_SEG_RATE_DEN g)) t1)

/-- What a forward step from `t0` to `t1` does to a live output (R225, R237): the edges in between are not produced, and in SEGMENT
mode neither are those of frames whose boundaries are skipped, whenever they fall. -/
def State.tpoStep (s : State) (i t0 t1 : Nat) : State :=
  if !(s.tpo i).live then s
  else
    let m := s.get (F.TIM_TPO_CTL_MODE i)
    if m = 0 then (if t0 ≤ s.tpoEdge i 0 ∧ s.tpoEdge i 0 < t1 then s.tpoMissed i else s)
    else if m = 1 then
      let k := ceilDiv (roundsFrom t1 - s.tpoStart i) (s.tpoPeriod i)
      if (s.tpo i).next < k then s.tpoSkip i (k - (s.tpo i).next) k else s
    else
      let g := s.get (F.TIM_TPO_CTL_SEG i)
      let k := frameFrom (s.get (F.TIM_SEG_RATE_NUM g)) (s.get (F.TIM_SEG_RATE_DEN g)) ((roundsFrom t1 : Int) - s.tpoOffset i).toNat
      let r := s.skippedFrames g t0 t1
      let v := s.tpo i
      let s := s.setTpo i { v with skips := v.skips.filter (fun q => decide (v.next < q.2)) ++ (if r.1 < r.2 then [r] else []) }
      let s := if v.next < k then s.tpoSkip i (k - v.next) k else s
      s.tpoJump i

/-! ### Steps of device time (R220, R225) -/

/-- Boundaries of a segment that a forward step from `t0` to `t1` skips. -/
def State.skippedOf (s : State) (g t0 t1 : Nat) : Nat := (s.skippedFrames g t0 t1).2 - (s.skippedFrames g t0 t1).1

/-- Device time steps to `t1`: the reports of R220 and the skipping and withholding of timed events of R225. What a
step does to Almanac waits is the Almanac's (R405). Events of a time that a forward step has passed do not fire; after a
backward step those whose time is still to come may. -/
def State.stepTime (s : State) (t1 : Nat) : State :=
  let t0 := s.tim.now
  let s := { s with tim := { s.tim with now := t1, barrier := if t0 < t1 then t1 else min s.tim.barrier t1 } }
  let s := (s.inc F.TIM_STEPS).wr R.TIM_LAST_STEP (sat32 (unitsToNs ((t1 : Int) - (t0 : Int))))
  let s := (s.raiseU 193).faultU 75
  if t0 < t1 then
    let sk := s.segsOn.map (fun g => (g, s.skippedOf g t0 t1))
    let s := sk.foldl (fun s p => s.add (F.TIM_SEG_SKIPPED p.1) p.2) s
    let s := s.raiseU 195
    (List.range 8).foldl (fun s i => s.tpoStep i t0 t1) s
  else s

/-- One measurement of offset `o` units (R218, R220): it moves the state, steps device time or adjusts the frequency,
and is reported. Answers the state and whether it stepped. -/
def State.measure (s : State) (o : Int) : State :=
  let s := s.wr R.TIM_OFFSET (sat32 (unitsToNs o))
  let s := if s.get F.TIM_STAT_STATE = 0 ∨ s.get F.TIM_STAT_STATE = 3 then s.timState 1 else s
  let st := s.get F.TIM_STAT_STATE
  let step := s.tim.first || decide ((s.rd R.TIM_STEP_NS * Config.ns : Nat) ≤ o.natAbs)
  if step then
    let s := { s with tim := { s.tim with first := false, inLock := 0, piSum := 0 } }
    let s := s.stepTime ((s.tim.now : Int) - o).toNat
    let s := if st = 2 then { s with tim := { s.tim with
      outLock := if s.get F.TIM_SERVO_UNLOCK_NS * Config.ns ≤ o.natAbs then s.tim.outLock + 1 else 0 } } else s
    if st = 2 ∧ 4 ≤ s.tim.outLock then s.timState 3 else s
  else
    let lim : Int := (min 500 (s.get F.TIM_LIMITS_MAX_PPM) * 1000 : Nat)
    let s := { s with tim := { s.tim with piSum := s.tim.piSum + unitsToNs o } }
    let adj := max (-lim) (min lim (Config.servoAdjust (signed 32 (s.rd R.TIM_FREQ_ADJ)) s.tim.piSum (unitsToNs o)
      (s.get F.TIM_SERVO_BW)))
    let s := s.wr R.TIM_FREQ_ADJ (sat32 adj)
    if st = 1 then
      let s := { s with tim := { s.tim with
        inLock := if o.natAbs < s.get F.TIM_SERVO_LOCK_NS * Config.ns then s.tim.inLock + 1 else 0 } }
      if 16 ≤ s.tim.inLock then s.timState 2 else s
    else if st = 2 then
      let s := { s with tim := { s.tim with
        outLock := if s.get F.TIM_SERVO_UNLOCK_NS * Config.ns ≤ o.natAbs then s.tim.outLock + 1 else 0 } }
      if 4 ≤ s.tim.outLock then s.timState 3 else s
    else s

/-! ### PTP (R227 to R232) -/

/-- Own clock identity: the EUI-64 of the lowest-numbered enabled PTP port's MAC (R229). -/
def State.clockId (s : State) : Nat :=
  match (List.range 16).find? (fun l => s.flag (F.TIM_PORT_CTL_EN l)) with
  | some l =>
    let mac := s.rd (R.NET_LP_MAC_HI l) % 65536 * 2 ^ 32 + s.rd (R.NET_LP_MAC_LO l)
    mac / 2 ^ 24 * 2 ^ 40 + 0xFFFE * 2 ^ 24 + mac % 2 ^ 24
  | none => 0

/-- The dataset the PW8 offers (R229); a slave-only clock sends clockClass 255. -/
def State.ownData (s : State) : PtpData :=
  ⟨s.get F.TIM_PTP_PRIO_PRIORITY1, if s.get F.TIM_CTL_ROLE = 1 then 255 else s.get F.TIM_PTP_PRIO_CLOCK_CLASS,
    s.get F.TIM_PTP_PRIO_ACCURACY, s.get F.TIM_PTP_VAR, s.get F.TIM_PTP_PRIO_PRIORITY2, s.clockId, 0, s.clockId, 0,
    s.rd R.TIM_UTC⟩

/-- Dataset comparison of IEEE 1588-2019 (R229; PRESUMED, log entry 13) between datasets that the clock `own` has received on two
ports, 0 for its own: 2 the first is better, 1 better by topology, and the opposite; 0 where neither is. -/
def PtpData.rank (own : Nat) (a : PtpData × Nat) (b : PtpData × Nat) : Int :=
  let (x, px) := a
  let (y, py) := b
  if x.gmId ≠ y.gmId then
    (if [x.prio1, x.cls, x.acc, x.var, x.prio2, x.gmId] < [y.prio1, y.cls, y.acc, y.var, y.prio2, y.gmId] then 2 else -2)
  else if x.steps + 1 < y.steps then 2
  else if y.steps + 1 < x.steps then -2
  else if x.steps < y.steps then (if own < y.parentId then 2 else 1)
  else if y.steps < x.steps then (if own < x.parentId then -2 else -1)
  else if [x.parentId, x.parentPort, px] < [y.parentId, y.parentPort, py] then 1
  else if [y.parentId, y.parentPort, py] < [x.parentId, x.parentPort, px] then -1
  else 0

/-- The interval between Announces, in units. -/
def State.announceInterval (s : State) : Nat := unitsPerSec * 2 ^ (signed 8 (s.get F.TIM_PTP_INTV_LOG_ANNOUNCE) + 8).toNat / 256

/-- The foreign masters of a port. -/
def State.foreignOf (s : State) (l : Nat) : List Foreign := SMap.get (fun _ => []) s.tim.foreign l
def State.setForeign (s : State) (l : Nat) (v : List Foreign) : State :=
  { s with tim := { s.tim with foreign := SMap.set (fun _ => []) s.tim.foreign l v } }

/-- Is a foreign master the parent of the clock, as the registers name it? -/
def State.isParent (s : State) (f : Foreign) : Bool :=
  decide (f.data.parentId = s.rd R.TIM_PARENT_ID_HI * 2 ^ 32 + s.rd R.TIM_PARENT_ID_LO) && decide (f.data.parentPort = s.rd R.TIM_PARENT_PORT)

/-- Is a foreign master of port `l` qualified: two Announces within the last four intervals, or the parent of a slave port? -/
def State.qualified (s : State) (l : Nat) (f : Foreign) : Bool :=
  (decide (8 ≤ s.get (F.TIM_PORT_STAT_STATE l)) && s.isParent f) ||
    (match f.prev with | some u => decide (s.tim.elapsed ≤ u + 4 * s.announceInterval) | none => false)

/-- Erbest of a port: the best qualified foreign master; none for a port that is off or only ever a master. -/
def State.portBest (s : State) (l : Nat) : Option PtpData :=
  if !s.flag (F.TIM_PORT_CTL_EN l) || s.flag (F.TIM_PORT_CTL_MASTER_ONLY l) then none
  else
    ((s.foreignOf l).filter (fun f => s.qualified l f)).foldl (fun best f =>
      match best with
      | none => some f.data
      | some b => if 0 < PtpData.rank s.clockId (f.data, l + 1) (b, l + 1) then some f.data else some b) none

/-- Ebest: the best of the ports' best, with its port. -/
def State.bestAnnounce (s : State) : Option (Nat × PtpData) :=
  (List.range 16).foldl (fun best l =>
    match s.portBest l, best with
    | some d, some (q, b) => if 0 < PtpData.rank s.clockId (d, l + 1) (b, q + 1) then some (l, d) else best
    | some d, none => some (l, d)
    | none, _ => best) none

/-- The port in SLAVE or UNCALIBRATED, if any. -/
def State.slavePort (s : State) : Option Nat :=
  (List.range 16).find? (fun l => decide (8 ≤ s.get (F.TIM_PORT_STAT_STATE l)))

/-- Write the parent registers (R229, R245) and raise event 194 when the parent or grandmaster changes. -/
def State.setParent (s : State) (d : PtpData) : State :=
  let same := decide (s.rd R.TIM_PARENT_ID_HI = d.parentId / 2 ^ 32) && decide (s.rd R.TIM_PARENT_ID_LO = d.parentId % 2 ^ 32) &&
    decide (s.rd R.TIM_GM_ID_HI = d.gmId / 2 ^ 32) && decide (s.rd R.TIM_GM_ID_LO = d.gmId % 2 ^ 32)
  let s := ((s.wr R.TIM_PARENT_ID_HI (d.parentId / 2 ^ 32)).wr R.TIM_PARENT_ID_LO (d.parentId % 2 ^ 32)).wr
    R.TIM_PARENT_PORT (d.parentPort % 65536)
  let s := (s.wr R.TIM_GM_ID_HI (d.gmId / 2 ^ 32)).wr R.TIM_GM_ID_LO (d.gmId % 2 ^ 32)
  let s := s.wr R.TIM_GM_QUAL (d.prio1 % 256 + d.prio2 % 256 * 256 + d.cls % 256 * 65536 + d.acc % 256 * 2 ^ 24)
  let s := (s.wr R.TIM_STEPS_REMOVED (d.steps % 65536)).wr R.TIM_PARENT_UTC (d.utc % 2 ^ 19)
  if same then s else s.raiseU 194

/-- The state that the default algorithm gives port `l` (IEEE 1588-2019), `e` being Ebest: a slave-only clock listens where another
would be master, a port that listens with no master in sight goes on listening, and PRE_MASTER takes no time (log entry 13). -/
def State.portDecide (s : State) (l : Nat) (e : Option (Nat × PtpData)) : Nat :=
  let own := s.ownData
  let mine := s.portBest l
  let beats := fun (d : PtpData) q => decide (0 < PtpData.rank s.clockId (own, 0) (d, q + 1))
  let now := s.get (F.TIM_PORT_STAT_STATE l)
  let master := if s.get F.TIM_CTL_ROLE = 1 then 4 else 6
  if s.get F.TIM_CTL_ROLE = 0 || !s.flag (F.TIM_PORT_CTL_EN l) then 0
  else if decide (now = 0 ∨ now = 4) && mine.isNone then 4
  else if 1 ≤ own.cls ∧ own.cls ≤ 127 then (match mine with | some d => if beats d l then master else 7 | none => master)
  else match e with
    | none => master
    | some (q, d) =>
      if beats d q then master
      else if q = l then (if 8 ≤ now then now else 8)
      else match mine with
        | some m => if PtpData.rank s.clockId (d, q + 1) (m, l + 1) = 1 then 7 else master
        | none => master

/-- A port enters a state; LISTENING starts its wait for an Announce. -/
def State.portState (s : State) (l st : Nat) : State :=
  if s.get (F.TIM_PORT_STAT_STATE l) = st then s
  else
    let s := s.put (F.TIM_PORT_STAT_STATE l) st
    if st = 4 then { s with tim := { s.tim with listenAt := SMap.set (fun _ => 0) s.tim.listenAt l s.tim.elapsed } } else s

/-- Run the best master clock algorithm over the foreign masters (R229): port states, GM, the parent, and the loss of
the source when the slave port leaves SLAVE and UNCALIBRATED. -/
def State.bmca (s : State) : State :=
  let role := s.get F.TIM_CTL_ROLE
  let old := s.slavePort
  let own := s.ownData
  let s := (s.wr R.TIM_CLOCK_ID_HI (own.gmId / 2 ^ 32)).wr R.TIM_CLOCK_ID_LO (own.gmId % 2 ^ 32)
  let e := s.bestAnnounce
  let sts := (List.range 16).map (fun l => (l, s.portDecide l e))
  let s := sts.foldl (fun s p => s.portState p.1 p.2) s
  let best := match e with
    | some (l, d) => if sts.any (fun p => decide (p.1 = l ∧ 8 ≤ p.2)) then some (l, d) else none
    | none => none
  let s := s.putB F.TIM_STAT_GM (decide (2 ≤ role) && best.isNone)
  match best with
  | some (l, d) =>
    let same := decide (old = some l) && s.isParent ⟨d, 0, none⟩
    let s := (s.put F.TIM_STAT_SLAVE_PORT l).setParent { d with steps := d.steps + 1 }
    if same then s
    else
      ({ s with tim := { s.tim with pathDone := false, msDiff := none, syncWait := none } }).put (F.TIM_PORT_STAT_STATE l) 8
  | none =>
    let s := if role = 0 then s else s.setParent own
    let s := { s with tim := { s.tim with pathDone := false, msDiff := none, syncWait := none } }
    if old.isSome then s.sourceLost else s

/-- Ingress stamp of a PTP event message on port `l` that was received at `t` (R231). -/
def State.ingressStamp (s : State) (l t : Nat) : Nat :=
  round16 ((t : Int) - signed 24 (s.rd (R.TIM_PORT_ING_CORR l)) * 4096).toNat

/-- Egress stamp of a PTP event message that port `l` sends now (R231). -/
def State.egressStamp (s : State) (l : Nat) : Nat :=
  round16 ((s.tim.now : Int) + signed 24 (s.rd (R.TIM_PORT_EGR_CORR l)) * 4096).toNat

/-- delayAsymmetry of port `l` in units (R231). -/
def State.asym (s : State) (l : Nat) : Int := signed 24 (s.rd (R.TIM_PORT_ASYM l)) * 4096

/-- Is a PTP message accepted (R227)? It is counted in RX_MSGS or RX_DROP of its port. -/
def State.ptpAccept (s : State) (l version domain transport : Nat) (ok : Bool) : Bool × State :=
  let good := ok && decide (version = 2) && decide (domain = s.get F.TIM_CTL_DOMAIN) &&
    decide (transport = s.get F.TIM_CTL_TRANSPORT) && s.flag (F.TIM_PORT_CTL_EN l) &&
    decide (s.get F.TIM_CTL_ROLE ≠ 0)
  (good, s.inc (if good then F.TIM_PORT_RX_MSGS l else F.TIM_PORT_RX_DROP l))

/-- The port whose master the clock follows is `l`, and the message comes from that master (R229). -/
def State.fromParent (s : State) (l : Nat) (h : PtpHdr) : Bool :=
  decide (s.slavePort = some l) && decide (h.srcId = s.rd R.TIM_PARENT_ID_HI * 2 ^ 32 + s.rd R.TIM_PARENT_ID_LO) &&
    decide (h.srcPort = s.rd R.TIM_PARENT_PORT)

/-- The offset of a completed Sync with the newest mean path delay is a measurement once the first delay exchange is
done (R218). -/
def State.syncMeasure (s : State) (l : Nat) (diff : Int) : State :=
  let s := { s with tim := { s.tim with msDiff := some diff } }
  if s.tim.pathDone then
    (s.put (F.TIM_PORT_STAT_STATE l) 9).measure (diff - s.tim.pathDelay)
  else s

/-! ### Capture inputs (R239, R240) -/

def State.tci (s : State) (i : Nat) : TciState := SMap.get (fun _ => ⟨[], none⟩) s.tim.tci i

/-- Set a capture FIFO and the registers that show its oldest stamp and its fill (R240). -/
def State.setTci (s : State) (i : Nat) (v : TciState) : State :=
  let s := { s with tim := { s.tim with tci := SMap.set (fun _ => ⟨[], none⟩) s.tim.tci i v } }
  let s := s.put (F.TIM_TCI_STAT_COUNT i) v.fifo.length
  match v.fifo with
  | [] => s.putB (F.TIM_TCI_TS_S_HI_VALID i) false
  | t :: _ =>
    let s := ((s.put (F.TIM_TCI_TS_S_HI_SECONDS i) (timeS t.time / 2 ^ 32)).putB (F.TIM_TCI_TS_S_HI_RISING i)
      t.rising).putB (F.TIM_TCI_TS_S_HI_VALID i) true
    ((s.wr (R.TIM_TCI_TS_S_LO i) (timeS t.time % 2 ^ 32)).wr (R.TIM_TCI_TS_NS i) (timeNs t.time)).wr
      (R.TIM_TCI_TS_SUBNS i) (timeSub t.time)

/-- OPEN or CLOSE of a capture window. -/
def State.tciOpen (s : State) (i : Nat) : Nat :=
  mkTime (s.rd (R.TIM_TCI_OPEN_S_HI i) * 2 ^ 32 + s.rd (R.TIM_TCI_OPEN_S_LO i)) (s.rd (R.TIM_TCI_OPEN_NS i)) 0

def State.tciClose (s : State) (i : Nat) : Nat :=
  mkTime (s.rd (R.TIM_TCI_CLOSE_S_HI i) * 2 ^ 32 + s.rd (R.TIM_TCI_CLOSE_S_LO i)) (s.rd (R.TIM_TCI_CLOSE_NS i)) 0

/-- An edge at capture input `i` (R239, R240). -/
def State.tciEdge (s : State) (i : Nat) (rising : Bool) : State :=
  let e := s.get (F.TIM_TCI_CTL_EDGE i)
  let sel := if rising then e = 1 || e = 3 else e = 2 || e = 3
  if !sel then s
  else
    let t := round16 s.tim.now
    let v := s.tci i
    let close20 := match v.last with | some u => decide (s.tim.elapsed < u + 20 * Config.ns) | none => false
    let inWin := s.flag (F.TIM_TCI_CTL_EN i) && (!s.flag (F.TIM_TCI_CTL_WIN_EN i) || (decide (s.tciOpen i ≤ t) && decide (t < s.tciClose i)))
    let v' : TciState := { v with last := some s.tim.elapsed }
    if !inWin then s.setTci i v'
    else if close20 || decide (16 ≤ v.fifo.length) then (s.setTci i v').inc (F.TIM_TCI_LOST i)
    else
      ((s.setTci i { v' with fifo := v.fifo ++ [⟨t, rising⟩] }).inc (F.TIM_TCI_CAPTURES i)).raiseU (200 + i)

/-- A write of TIM_TCI_CMD.POP (R240). -/
def State.tciPop (s : State) (i : Nat) : State :=
  s.setTci i { s.tci i with fifo := (s.tci i).fifo.drop 1 }

/-! ### Commands of the TIM registers (R224) -/

/-- TIM_CMD.SNAP. -/
def State.timSnap (s : State) : State :=
  (((s.wr R.TIM_SNAP_S_HI (timeS s.tim.now / 2 ^ 32)).wr R.TIM_SNAP_S_LO (timeS s.tim.now % 2 ^ 32)).wr R.TIM_SNAP_NS
    (timeNs s.tim.now)).wr R.TIM_SNAP_SUBNS (timeSub s.tim.now)

/-- The time TIM_CMD.SET loads, unless it is ignored: ROLE is not 0, or TIM_SET_NS is out of range. -/
def State.timSetTo (s : State) : Option Nat :=
  if s.get F.TIM_CTL_ROLE ≠ 0 ∨ 999999999 < s.rd R.TIM_SET_NS then none
  else some (mkTime (s.rd R.TIM_SET_S_HI % 65536 * 2 ^ 32 + s.rd R.TIM_SET_S_LO) (s.rd R.TIM_SET_NS) 0)

/-- A write to TIM_TPO_CTL (R236 to R238): `v` is the whole word as written. -/
def State.tpoCtlWrite (s : State) (i v : Nat) : State :=
  let en := bitsOf v 0 1 = 1
  let cur := s.rd (R.TIM_TPO_CTL i)
  if s.flag (F.TIM_TPO_CTL_EN i) then
    let s := if v / 2 = cur / 2 then s else s.stick (F.TIM_TPO_STAT_BUSY_WRITE i)
    if en then s.stick (F.TIM_TPO_STAT_REENABLE_REFUSED i)
    else
      let s := s.setTpo i { s.tpo i with live := false, effAt := none }
      (s.putB (F.TIM_TPO_CTL_EN i) false).tpoIdle i
  else if !s.flag (F.TIM_TPO_STAT_IDLE i) then
    let s := if v / 2 = cur / 2 then s else s.stick (F.TIM_TPO_STAT_BUSY_WRITE i)
    if en then s.stick (F.TIM_TPO_STAT_REENABLE_REFUSED i) else s
  else if en then
    let s := s.wr (R.TIM_TPO_CTL i) (v / 2 * 2 % 2 ^ 32)
    if s.tpoValid i v then
      let s := ((s.putB (F.TIM_TPO_CTL_EN i) true).putB (F.TIM_TPO_STAT_IDLE i) false)
      s.setTpo i { s.tpo i with effAt := some (s.tim.elapsed + Config.us), live := false }
    else s.stick (F.TIM_TPO_STAT_CFG_INVALID i)
  else s.wr (R.TIM_TPO_CTL i) v

/-- A write to another register of an output (R238). -/
def State.tpoRegWrite (s : State) (i off v : Nat) : State :=
  if s.flag (F.TIM_TPO_CTL_EN i) || !s.flag (F.TIM_TPO_STAT_IDLE i) then s.stick (F.TIM_TPO_STAT_BUSY_WRITE i)
  else s.wr off v

/-- A segment that an output follows starts: the next edge is that of the first frame whose edge time is not past (R237). -/
def State.tpoSegOn (s : State) (g : Nat) : State :=
  (List.range 8).foldl (fun (s : State) i =>
    if (s.tpo i).live && decide (s.get (F.TIM_TPO_CTL_MODE i) = 2) && decide (s.get (F.TIM_TPO_CTL_SEG i) = g) then
      let k := frameFrom (s.get (F.TIM_SEG_RATE_NUM g)) (s.get (F.TIM_SEG_RATE_DEN g))
        ((roundsFrom s.tim.now : Int) - s.tpoOffset i).toNat
      s.setTpo i { s.tpo i with next := s.tpoLater i k, skips := [] }
    else s) s

/-- TPO_EDGE: the next edge of an output that falls due is produced (R236, R237). A ONCE edge that a backward step has made not later
than one already produced is missed (R225). -/
def State.tpoProduce (s : State) (i : Nat) : State :=
  let v := s.tpo i
  let m := s.get (F.TIM_TPO_CTL_MODE i)
  let t := s.tpoEdge i v.next
  let old := match s.lastFired (68 + i) with | some u => decide (t ≤ u) | none => false
  if v.live && decide (m = 0) && decide (t ≤ s.tim.now) && old then s.tpoMissed i
  else if !v.live || !s.mayFire (68 + i) t || (m = 2 && !s.flag (F.TIM_SEG_CTL_EN (s.get (F.TIM_TPO_CTL_SEG i)))) then s
  else
    let s := (s.fired (68 + i) t).inc (F.TIM_TPO_PULSES i)
    let s := s.setTpo i { v with used := v.used + 1, next := v.next + 1,
                                 pulse := some (s.tim.elapsed + s.rd (R.TIM_TPO_WIDTH i) * Config.ns) }
    let cnt := s.get (F.TIM_TPO_CTL_COUNT i)
    if m = 0 ∨ (cnt ≠ 0 ∧ cnt ≤ v.used + 1) then (s.raiseU 196).tpoDone i else s.tpoJump i

/-- TPO_PULSE_END: the pulse has lasted its WIDTH, and the pin returns to its idle level. -/
def State.tpoPulseEnd (s : State) (i : Nat) : State :=
  match (s.tpo i).pulse with
  | some u => if s.tim.elapsed < u then s else (s.setTpo i { s.tpo i with pulse := none }).tpoIdle i
  | none => s

/-- TPO_ENABLE_TAKES_EFFECT: 1 µs after the write (R237). -/
def State.tpoEffectDue (s : State) (i : Nat) : State :=
  match (s.tpo i).effAt with
  | some u => if s.tim.elapsed < u then s else s.tpoEffect i (s.tim.now - (s.tim.elapsed - u))
  | none => s

/-- Level of the pin of an output (R236): low while it idles with POL = 0, and high while a pulse runs; with POL = 1 the
opposite. -/
def State.tpoPin (s : State) (i : Nat) : Bool := s.flag (F.TIM_TPO_CTL_POL i) != (s.tpo i).pulse.isSome

end Sys2Proof.Machine
end

