-- ==== Sys2Proof/Machine/Pool.lean ====
section
/-! DEFINITION. The buffer pool manager (R65 to R70): granting a buffer, taking one back, and the low mark. -/

namespace Sys2Proof.Machine

/-- Buffer sizes of the pools (R65). -/
def poolSize (k : Nat) : Nat := [256, 1024, 2048, 4096, 9728, 65536, 262144, 1048576].getD k 0

/-- The pool that serves a request of `n` bytes (R67). -/
def poolFor (n : Nat) : Option Nat := (List.range 8).find? (fun k => decide (n ≤ poolSize k))

/-- Base address of a pool. -/
def State.poolBase (s : State) (k : Nat) : Nat := s.rd (R.BPM_POOL_BASE_HI k) % 65536 * 2 ^ 32 + s.rd (R.BPM_POOL_BASE_LO k)

/-- Owner + 1 of a buffer in use, 0 of a free one. -/
def State.bufOwner (s : State) (k i : Nat) : Nat := SMap.get (fun _ => 0) s.bpm.used (k * 2 ^ 20 + i)

/-- Buffers of pool `k` in use. -/
def State.bufsUsed (s : State) (k : Nat) : Nat := (s.bpm.used.filter (fun p => decide (p.1 / 2 ^ 20 = k))).length

/-- Buffers of pool `k` that owner `o` holds. -/
def State.bufsOf (s : State) (o k : Nat) : Nat :=
  (s.bpm.used.filter (fun p => decide (p.1 / 2 ^ 20 = k) && decide (p.2 = o + 1))).length

/-- Buffers still owed to the minima of all owners (R67). -/
def State.unmet (s : State) (k : Nat) : Nat :=
  (List.range 512).foldl (fun a j => a + (s.get (F.BPM_OWN_MIN j k) - s.bufsOf j k)) 0

/-- Mark a buffer with its owner + 1 (0: free), and bring FREE, LOWEST, USED and the low mark (R70) up to date. -/
def State.setBuf (s : State) (k i o1 : Nat) (o : Nat) : State :=
  let s := { s with bpm := { s.bpm with used := SMap.set (fun _ => 0) s.bpm.used (k * 2 ^ 20 + i) o1 } }
  let free := s.get (F.BPM_POOL_COUNT k) - s.bufsUsed k
  let s := s.put (F.BPM_POOL_FREE k) free
  let s := if free < s.get (F.BPM_POOL_LOWEST k) then s.put (F.BPM_POOL_LOWEST k) free else s
  let s := s.put (F.BPM_OWN_USED o k) (min 65535 (s.bufsOf o k))
  let below := decide (free < s.get (F.BPM_POOL_LOWMARK k))
  let was := SMap.get (fun _ => false) s.bpm.lowRaised k
  let s := { s with bpm := { s.bpm with lowRaised := SMap.set (fun _ => false) s.bpm.lowRaised k below } }
  let s := if below && !was then s.raiseU 83 else s
  s.setCond 83 s.unstated ((List.range 8).any (fun j => SMap.get (fun _ => false) s.bpm.lowRaised j))

/-- The image has set COUNT of pool `k`: all its buffers are free, and LOWEST follows while no record has set it
(R73: the reset values of FREE and LOWEST are COUNT). -/
def State.poolCounted (s : State) (k : Nat) : State :=
  let n := s.get (F.BPM_POOL_COUNT k)
  let s := s.put (F.BPM_POOL_FREE k) n
  if s.bpm.lowSet.contains k then s else s.put (F.BPM_POOL_LOWEST k) n

/-- R67: may owner `o` take a buffer from pool `k` now? -/
def State.mayTake (s : State) (o k : Nat) : Bool :=
  let free := s.get (F.BPM_POOL_COUNT k) - s.bufsUsed k
  decide (0 < free) && (decide (s.bufsOf o k < s.get (F.BPM_OWN_MIN o k)) || decide (s.unmet k < free))

/-- R67: take a buffer of at least `n` bytes for owner `o`; the lowest free one of its pool (log entry 14). A request
above 1 MiB is refused. -/
def State.takeBuf (s : State) (o n : Nat) : Option (Nat × Nat) × State :=
  match poolFor n with
  | none => (none, s)
  | some k =>
    let idx := (List.range (s.bpm.used.length + 1)).find? (fun i => s.bufOwner k i = 0)
    match s.mayTake o k, idx with
    | true, some i => (some (k, i), s.setBuf k i (o + 1) o)
    | _, _ => (none, s.inc (F.BPM_POOL_FAILS k))

/-- A request that failed and waits asks again (R274): only the request that failed first is counted. -/
def State.retryBuf (s : State) (o n : Nat) : Option (Nat × Nat) × State :=
  match poolFor n with
  | none => (none, s)
  | some k => if s.mayTake o k then s.takeBuf o n else (none, s)

/-- Address of a buffer. -/
def State.bufAddr (s : State) (k i : Nat) : Nat := s.poolBase k + i * poolSize k

/-- The buffer a returned pointer names, when it passes the checks of R68. -/
def State.bufAt (s : State) (ptr : Nat) : Option (Nat × Nat) :=
  match (List.range 8).find? (fun k => decide (s.poolBase k ≤ ptr) &&
      decide (ptr < s.poolBase k + s.get (F.BPM_POOL_COUNT k) * poolSize k)) with
  | none => none
  | some k =>
    let off := ptr - s.poolBase k
    if off % poolSize k = 0 ∧ s.bufOwner k (off / poolSize k) ≠ 0 then some (k, off / poolSize k) else none

/-- R68: owner `o` returns a pointer. -/
def State.returnPtr (s : State) (o ptr : Nat) : State :=
  match s.bufAt ptr with
  | some (k, i) => s.setBuf k i 0 (s.bufOwner k i - 1)
  | none =>
    ((((s.inc F.BPM_CHK_FAILS).put F.BPM_CHK_ADDR_LO (ptr % 2 ^ 32)).put F.BPM_CHK_ADDR_HI_ADDR (ptr / 2 ^ 32 % 65536)).put
      F.BPM_CHK_ADDR_HI_OWNER o).faultU 17

/-- Return a buffer that the block holds. -/
def State.freeBuf (s : State) (b : Option (Nat × Nat)) : State :=
  match b with
  | some (k, i) => s.returnPtr (s.bufOwner k i - 1) (s.bufAddr k i)
  | none => s

/-- The oldest received frame of an owner leaves its buffer. -/
def State.consumeRx (s : State) (o : Nat) : State :=
  match s.net.rx.find? (fun b => decide (b.owner = o)) with
  | some b => { s with net := { s.net with rx := s.net.rx.erase b } }.returnPtr o b.ptr
  | none => s

/-- Arrival time of the oldest received frame of an owner; now when none waits. -/
def State.rxArrival (s : State) (o : Nat) : Nat :=
  match s.net.rx.find? (fun b => decide (b.owner = o)) with
  | some b => b.arr
  | none => s.tim.now

/-- Owner numbers of R66. -/
def ownSegment (g : Nat) : Nat := 256 + g
def ownSession (i : Nat) : Nat := 320 + i
def ownPort (l : Nat) : Nat := 336 + l
def ownEncode (n : Nat) : Nat := 352 + n
def ownMover (m : Nat) : Nat := 416 + m
def ownGang : Nat := 448

end Sys2Proof.Machine
end

