-- ==== Sys2Proof/Machine/Port.lean ====
section
/-! DEFINITION. The Ethernet ports (R30 to R43): which ports are present, building the frames the PW8 sends, checking and
classifying received frames, and the group memberships. -/

namespace Sys2Proof.Machine

/-- R30: is logical port `l` present? -/
def State.portPresent (s : State) (l : Nat) : Bool :=
  let m := s.get (F.NET_PHY_CTL_MODE (l / 4))
  decide (m = 1 ∨ m = 2) || (decide (m = 0) && decide (l % 4 = 0))

/-- Is a port in operation: present, enabled and not retired (R37, R440)? -/
def State.portRuns (s : State) (l : Nat) : Bool :=
  s.portPresent l && s.flag (F.NET_LP_CTL_EN l) && !(s.get F.FLT_RETIRED_PORTS).testBit l

/-- Line rate of a present port in Gbit/s (R30). -/
def State.portRate (s : State) (l : Nat) : Nat :=
  let m := s.get (F.NET_PHY_CTL_MODE (l / 4))
  if m = 0 then 100 else if m = 1 then 25 else 10

/-- MAC address of a port. -/
def State.portMac (s : State) (l : Nat) : Nat := s.rd (R.NET_LP_MAC_HI l) % 65536 * 2 ^ 32 + s.rd (R.NET_LP_MAC_LO l)

/-- The IPv6 address a group of four registers holds, the first with bits [127:96]. -/
def ipv6Of (a b c d : Nat) : Nat := ((a * 2 ^ 32 + b) * 2 ^ 32 + c) * 2 ^ 32 + d

/-- NET_LP_IPV6 of a port. -/
def State.portIp6 (s : State) (l : Nat) : Nat :=
  ipv6Of (s.rd (R.NET_LP_IPV6 l 0)) (s.rd (R.NET_LP_IPV6 l 1)) (s.rd (R.NET_LP_IPV6 l 2)) (s.rd (R.NET_LP_IPV6 l 3))

/-- The link-local address of a port: fe80::/64 and the modified EUI-64 of its MAC (R39). -/
def State.linkLocal (s : State) (l : Nat) : Nat :=
  let m := s.portMac l
  let eui := m / 2 ^ 24 * 2 ^ 40 + 0xFFFE * 2 ^ 24 + m % 2 ^ 24
  0xFE80 * 2 ^ 112 + (eui ^^^ (2 * 2 ^ 56))

/-! ### Frames the PW8 sends -/

/-- Sum of 16-bit big-endian words of a byte list, an odd last byte padded with zero. -/
def sum16 : List Byte → Nat
  | [] => 0
  | [a] => a.toNat * 256
  | a :: b :: r => a.toNat * 256 + b.toNat + sum16 r

/-- Internet checksum of a sum of 16-bit words: the ones' complement of its ones' complement sum. -/
def csum (n : Nat) : Nat :=
  let f (x : Nat) := x / 65536 + x % 65536
  65535 - f (f (f n))

/-- Ethernet header of a frame sent on port `l`: untagged or with the port's VID and PCP (R36). -/
def State.ethHeader (s : State) (l dst etype : Nat) : List Byte :=
  bytesBE 6 dst ++ bytesBE 6 (s.portMac l) ++
    (if s.flag (F.NET_LP_CTL_VLAN_MODE l) then
      bytesBE 2 0x8100 ++ bytesBE 2 (s.get (F.NET_LP_VLAN_PCP l) * 8192 + s.get (F.NET_LP_VLAN_VID l)) else []) ++
    bytesBE 2 etype

/-- An IPv4 datagram with DF set and no options (R246). -/
def ipv4Packet (src dst ttl proto : Nat) (body : List Byte) : List Byte :=
  let h (c : Nat) := bytesBE 2 0x4500 ++ bytesBE 2 (20 + body.length) ++ bytesBE 2 0 ++ bytesBE 2 0x4000 ++
    bytesBE 1 ttl ++ bytesBE 1 proto ++ bytesBE 2 c ++ bytesBE 4 src ++ bytesBE 4 dst
  h (csum (sum16 (h 0))) ++ body

/-- An IPv4 datagram of the group protocols: TTL 1, Internetwork Control, with the Router Alert option (RFC 3376). -/
def ipv4Alert (src dst proto : Nat) (body : List Byte) : List Byte :=
  let h (c : Nat) := bytesBE 2 0x46C0 ++ bytesBE 2 (24 + body.length) ++ bytesBE 2 0 ++ bytesBE 2 0x4000 ++
    bytesBE 1 1 ++ bytesBE 1 proto ++ bytesBE 2 c ++ bytesBE 4 src ++ bytesBE 4 dst ++ bytesBE 4 0x94040000
  h (csum (sum16 (h 0))) ++ body

/-- An IPv6 datagram with no extension headers (R246). -/
def ipv6Packet (src dst hop next : Nat) (body : List Byte) : List Byte :=
  bytesBE 4 (6 * 2 ^ 28) ++ bytesBE 2 body.length ++ bytesBE 1 next ++ bytesBE 1 hop ++ bytesBE 16 src ++
    bytesBE 16 dst ++ body

/-- An IPv6 datagram of the group protocols: hop limit 1, with the Router Alert option (RFC 3810). -/
def ipv6Alert (src dst : Nat) (body : List Byte) : List Byte :=
  ipv6Packet src dst 1 0 (bytesBE 8 0x3A00050200000100 ++ body)

/-- A UDP datagram with its checksum, always computed (R246). -/
def udpPacket (v6 : Bool) (src dst sport dport : Nat) (body : List Byte) : List Byte :=
  let n := 8 + body.length
  let a := if v6 then 16 else 4
  let u (c : Nat) := bytesBE 2 sport ++ bytesBE 2 dport ++ bytesBE 2 n ++ bytesBE 2 c ++ body
  let c := csum (sum16 (bytesBE a src ++ bytesBE a dst) + 17 + n + sum16 (u 0))
  u (if c = 0 then 65535 else c)

/-- A UDP frame from port `l` and its address `src` (without its FCS), of the kind's time to live. -/
def State.udpFrom (s : State) (l : Nat) (v6 : Bool) (src dmac dip sport dport ttl : Nat) (body : List Byte) : List Byte :=
  if v6 then s.ethHeader l dmac 0x86DD ++ ipv6Packet src dip ttl 17 (udpPacket true src dip sport dport body)
  else s.ethHeader l dmac 0x0800 ++ ipv4Packet src dip ttl 17 (udpPacket false src dip sport dport body)

/-- The configured address of port `l`. -/
def State.portIp (s : State) (l : Nat) (v6 : Bool) : Nat := if v6 then s.portIp6 l else s.rd (R.NET_LP_IPV4 l)

/-- A UDP frame from port `l` and its configured address (without its FCS), of the kind's time to live. -/
def State.udpFrame (s : State) (l : Nat) (v6 : Bool) (dmac dip sport dport ttl : Nat) (body : List Byte) : List Byte :=
  s.udpFrom l v6 (s.portIp l v6) dmac dip sport dport ttl body

/-- Counted length of a frame: its bytes, padding to 60, FCS and the port's OVERHEAD (R275). -/
def State.counted (s : State) (l : Nat) (n : Nat) : Nat := max n 60 + 4 + s.get (F.OUT_PORT_CTL_OVERHEAD l)

/-- Queue a frame of given bytes on port `l`. An answer that copies a request and would exceed 9,600 bytes with its FCS is never sent
(R34); the other frames' own chapters keep them shorter. -/
def State.sendBytes (s : State) (l : Nat) (k : TxKind) (index : Nat) (bs : List Byte) : State :=
  if k = .responder ∧ 9600 < bs.length + 4 then s else s.send l ⟨k, index, 0, s.counted l bs.length, bs, none⟩

/-- R35: a PAUSE frame with the given quanta. It counts once it is sent. -/
def State.sendPause (s : State) (l quanta : Nat) : State :=
  s.sendBytes l .pause 0 (s.ethHeader l 0x0180C2000001 0x8808 ++ bytesBE 2 1 ++ bytesBE 2 quanta ++ List.replicate 42 0)

/-! ### Group memberships (R40, R41) -/

/-- Destination or source address registers of an ingest context as one address. -/
def State.ingAddr (s : State) (src : Bool) (n : Nat) : Nat :=
  let r := fun i => if src then s.rd (R.ING_CTX_SADDR n i) else s.rd (R.ING_CTX_DADDR n i)
  if s.flag (F.ING_CTX_CTL_IPV6 n) then ipv6Of (r 0) (r 1) (r 2) (r 3) else r 0

/-- Is an address a multicast group of its family? -/
def isGroup (v6 : Bool) (a : Nat) : Bool := if v6 then decide (a / 2 ^ 120 = 255) else decide (a / 2 ^ 28 = 14)

/-- The ingest contexts enabled now. -/
def State.ingOn (s : State) : List Nat := (List.range 256).filter (fun n => s.flag (F.ING_CTX_CTL_EN n))

/-- The PTP group on each enabled PTP port, with a UDP transport (R228). -/
def State.ptpGroups (s : State) : List (Nat × Bool × Nat) :=
  let tr := s.get F.TIM_CTL_TRANSPORT
  if s.get F.TIM_CTL_ROLE ≠ 0 ∧ (tr = 1 ∨ tr = 2) then
    ((List.range 16).filter (fun l => s.flag (F.TIM_PORT_CTL_EN l))).map (fun l =>
      (l, decide (tr = 2), if tr = 1 then 0xE0000181 else 0xFF0E * 2 ^ 112 + 0x181))
  else []

/-- The memberships the enabled contexts name: port, family, group (R40). -/
def State.memberships (s : State) : List (Nat × Bool × Nat) :=
  (s.ingOn.filterMap (fun n =>
    let v6 := s.flag (F.ING_CTX_CTL_IPV6 n)
    let a := s.ingAddr false n
    if isGroup v6 a then some (s.get (F.ING_CTX_CTL_PORT n), v6, a) else none) ++ s.ptpGroups).eraseDups

/-- Sources of a membership: none for EXCLUDE with an empty list (R40). -/
def State.groupSources (s : State) (m : Nat × Bool × Nat) : Option (List Nat) :=
  let cs := s.ingOn.filter (fun n => decide (s.get (F.ING_CTX_CTL_PORT n) = m.1) &&
    decide (s.flag (F.ING_CTX_CTL_IPV6 n) = m.2.1) && decide (s.ingAddr false n = m.2.2))
  let srcs := cs.map (fun n => s.ingAddr true n)
  if srcs.contains 0 || s.ptpGroups.contains m then none else some srcs.eraseDups

/-- MAC address of a group. -/
def groupMac (v6 : Bool) (a : Nat) : Nat :=
  if v6 then 0x3333 * 2 ^ 32 + a % 2 ^ 32 else 0x01005E000000 + a % 2 ^ 23

/-- One group record of an IGMPv3 or MLDv2 report: record type, no auxiliary data, sources, group. -/
def groupRecord (v6 : Bool) (rtype : Nat) (group : Nat) (srcs : List Nat) : List Byte :=
  let a := if v6 then 16 else 4
  bytesBE 1 rtype ++ bytesBE 1 0 ++ bytesBE 2 srcs.length ++ bytesBE a group ++ srcs.flatMap (bytesBE a)

/-- The records that report the state of a filter: INCLUDE 1 or EXCLUDE 2. -/
def stateRecords (f : Option (List Nat)) : List (Nat × List Nat) :=
  match f with | some a => [(1, a)] | none => [(2, [])]

/-- The records that report a change of a filter: a change of mode to INCLUDE 3 or EXCLUDE 4, or sources allowed 5 and
blocked 6. -/
def changeRecords (before now : Option (List Nat)) : List (Nat × List Nat) :=
  match before, now with
  | _, none => [(4, [])]
  | none, some b => [(3, b)]
  | some a, some b =>
    let l := [(5, b.filter (fun x => !a.contains x)), (6, a.filter (fun x => !b.contains x))].filter (fun p => !p.2.isEmpty)
    if l.isEmpty then [(3, b)] else l

/-- A membership report of one group sent from port `l`. -/
def State.sendReport (s : State) (l : Nat) (v6 : Bool) (group : Nat) (recs : List (Nat × List Nat)) : State :=
  let rec_ := recs.flatMap (fun p => groupRecord v6 p.1 group p.2)
  if v6 then
    let dst := 0xFF02 * 2 ^ 112 + 0x16
    let src := s.linkLocal l
    let b (c : Nat) := bytesBE 1 143 ++ bytesBE 1 0 ++ bytesBE 2 c ++ bytesBE 2 0 ++ bytesBE 2 recs.length ++ rec_
    let c := csum (sum16 (bytesBE 16 src ++ bytesBE 16 dst) + 58 + (b 0).length + sum16 (b 0))
    s.sendBytes l .responder 0 (s.ethHeader l 0x333300000016 0x86DD ++ ipv6Alert src dst (b c))
  else
    let b (c : Nat) := bytesBE 1 0x22 ++ bytesBE 1 0 ++ bytesBE 2 c ++ bytesBE 2 0 ++ bytesBE 2 recs.length ++ rec_
    s.sendBytes l .responder 0 (s.ethHeader l 0x01005E000016 0x0800 ++
      ipv4Alert (s.rd (R.NET_LP_IPV4 l)) 0xE0000016 2 (b (csum (sum16 (b 0)))))

/-- The filter of a membership in a list; INCLUDE with no source where there is none. -/
def filterOf (ms : List Membership) (m : Nat × Bool × Nat) : Option (List Nat) :=
  match ms.find? (fun q => decide ((q.port, q.ipv6, q.group) = m)) with
  | some q => q.sources
  | none => some []

/-- Do two filters differ as sets of sources? -/
def filtersDiffer (a b : Option (List Nat)) : Bool :=
  match a, b with
  | none, none => false
  | some a, some b => !(a.all b.contains && b.all a.contains)
  | _, _ => true

/-- Bring the memberships up to date with the contexts (R40): each change of a membership starts ROBUSTNESS unsolicited
reports, the first at once. -/
def State.regroup (s : State) : State :=
  let keys := s.memberships
  let new : List Membership := keys.map (fun m => ⟨m.1, m.2.1, m.2.2, s.groupSources m⟩)
  let all := (keys ++ s.net.groups.map (fun q => (q.port, q.ipv6, q.group))).eraseDups
  let changed := all.filter (fun m => filtersDiffer (filterOf s.net.groups m) (filterOf new m))
  let rob := max 1 (s.get F.NET_IGMP_CTL_ROBUSTNESS)
  let reps := changed.map (fun m => (⟨m.1, m.2.1, m.2.2, filterOf s.net.groups m, rob, s.tim.elapsed⟩ : Report))
  let s := { s with net := { s.net with groups := new, reports := s.net.reports ++ reps } }
  let s := (List.range 16).foldl (fun s l =>
    s.put (F.NET_LP_GROUPS l) (new.filter (fun m => decide (m.port = l))).length) s
  s.put F.NET_IGMP_CTL_GRP_TOTAL new.length

/-! ### Checking and classifying a received frame (R34, R36, R38, R42, R43) -/

/-- Where the classifier sends a frame (R42). A PTP message shows its type; `ingest` lists the contexts that the UDP payload
goes to. -/
inductive RxClass where
  | pause | arp | tim (type : Nat) | status (segment : Nat) | responder | control (slot : Nat) (peer : Peer) | badControl | gang | badGang
  | ingest (ctx : List Nat) (body : List Byte)
  | dropFrag | dropCsum | dropNoMatch | discard
  deriving DecidableEq, Repr

/-- A big-endian field of a frame. -/
def be (f : List Byte) (off n : Nat) : Nat := ofBytesBE (slice f off n)

/-- Does an enabled context match a datagram (R43)? `rtp` is the RTP header where there is one. -/
def State.ctxMatch (s : State) (n l : Nat) (v6 : Bool) (src dst sport dport : Nat) (body : List Byte) : Bool :=
  let kind := s.get (F.ING_CTX_CTL_KIND n)
  s.flag (F.ING_CTX_CTL_EN n) && decide (s.get (F.ING_CTX_CTL_PORT n) = l) &&
    decide (s.flag (F.ING_CTX_CTL_IPV6 n) = v6) && decide (s.ingAddr false n = dst) &&
    decide (s.get (F.ING_CTX_UDP_DPORT n) = dport) &&
    (decide (s.ingAddr true n = 0) || decide (s.ingAddr true n = src)) &&
    (decide (s.get (F.ING_CTX_UDP_SPORT n) = 0) || decide (s.get (F.ING_CTX_UDP_SPORT n) = sport)) &&
    (decide (kind = 2) ||
      ((!s.flag (F.ING_CTX_SEL_PT_EN n) || decide (be body 1 1 % 128 = s.get (F.ING_CTX_SEL_PT n))) &&
       (!s.flag (F.ING_CTX_SEL_SSRC_EN n) || decide (be body 8 4 = s.rd (R.ING_CTX_SSRC n)))))

/-- The PIDs of the 188-byte packets of a TS datagram over UDP. -/
def tsPids (body : List Byte) : List Nat :=
  (List.range (body.length / 188)).map (fun i => be body (i * 188 + 1) 2 % 8192)

/-- The contexts a UDP datagram goes to (R43): a datagram that is not TS, the lowest matching context; a TS datagram, the
lowest matching context of each PID. Over RTP it gets the datagram whatever PIDs its packets have, since R49 numbers every
packet of the stream, and SRTP may hide them; over UDP only where one of its packets has that PID (log entry 94). None when no
context matches. -/
def State.ingestTargets (s : State) (l : Nat) (v6 : Bool) (src dst sport dport : Nat) (body : List Byte) :
    Option (List Nat) :=
  let m := s.ingOn.filter (fun n => s.ctxMatch n l v6 src dst sport dport body)
  match m with
  | [] => none
  | n :: _ =>
    let k := s.get (F.ING_CTX_CTL_KIND n)
    if k = 2 ∨ k = 3 then
      let pids := tsPids body
      some (m.filter (fun j =>
        let pid := s.get (F.ING_CTX_SEL_PID j)
        decide (m.find? (fun i => decide (s.get (F.ING_CTX_SEL_PID i) = pid)) = some j) &&
          (decide (k = 3) || pids.contains pid)))
    else some [n]

/-- The slot a SESSION value names; 0 where it names none, as in a HELLO. -/
def State.slotNamed (s : State) (id : Nat) : Nat :=
  ((List.range 16).find? (fun i => decide (s.get (F.SEC_SESS_STAT_STATE i) ≠ 0) && decide (s.rd (R.SEC_SESS_ID i) = id))).getD 0

/-- Is the payload of a control datagram exactly one message (R319): the header of R324, the LENGTH bytes of its body and, but for the
plain messages of R321, the 16 bytes of its tag? -/
def oneMessage (body : List Byte) : Bool :=
  let n := be body 2 2
  decide (n ≤ 8256) && decide (body.length = (if [1, 2, 3, 5].contains (be body 1 1) then 20 else 36) + n)

/-- Is the payload of a Rilsar datagram a message for this device: the header of R515, a TYPE of R516, the LENGTH that its type asks for
in a datagram of just that length, an enabled SRC, and this device as DST? -/
def State.gangMessage (s : State) (body : List Byte) : Bool :=
  let type := be body 1 1
  let n := be body 2 2
  let fits :=
    if type = 0x01 then decide (n = 332)
    else if type = 0x10 then decide (16 ≤ n)
    else if type = 0x11 then decide (12 ≤ n)
    else if type = 0x12 then decide (n = 4)
    else decide (type = 0x20) && decide (n = (if s.get F.GNG_CFG_ROLE = 2 then 16 else 32))
  fits && decide (body.length = (if type = 0x01 then 24 else 40) + n) && decide (be body 4 1 < 64) &&
    s.flag (F.GNG_PEER_CTL_EN (be body 4 1)) && decide (be body 5 1 = s.get F.GNG_CFG_DEVICE_ID)

/-- Classify the payload of an IP datagram (R42 rows 6 to 11); `mac` is its link-layer source. -/
def State.classifyIp (s : State) (l : Nat) (v6 : Bool) (mac src dst proto : Nat) (p : List Byte) : RxClass :=
  if proto = 1 ∨ proto = 2 ∨ proto = 58 then .responder
  else if proto ≠ 17 then .dropNoMatch
  else
    let sport := be p 0 2
    let dport := be p 2 2
    let body := (p.drop 8).take (be p 4 2 - 8)
    let a := if v6 then 16 else 4
    let sum := csum (sum16 (bytesBE a src ++ bytesBE a dst) + 17 + be p 4 2 + sum16 (p.take (be p 4 2)))
    if (be p 6 2 ≠ 0 ∧ sum ≠ 0) ∨ (be p 6 2 = 0 ∧ v6) then .dropCsum
    else if dport = 319 ∨ dport = 320 then .tim (be body 0 1 % 16)
    else if dport = s.get F.SEC_CP_CFG_PORT then
      if oneMessage body then .control (s.slotNamed (be body 4 4)) ⟨v6, src, sport, mac, dst⟩ else .badControl
    else if dport = s.get F.GNG_CFG_PORT then (if s.gangMessage body then .gang else .badGang)
    else if dport = s.get F.OUT_GLB_TFP_PORT ∧ be body 1 1 = 0x81 then .status (be body 6 1 % 64)
    else match s.ingestTargets l v6 src dst sport dport body with
      | some cs => .ingest cs body
      | none => .dropNoMatch

/-- Classify an accepted IP packet after its checks (R38). -/
def State.classifyPacket (s : State) (l mac etype : Nat) (p : List Byte) : RxClass :=
  if etype = 0x0800 then
    let ihl := be p 0 1 % 16 * 4
    if be p 0 1 / 16 ≠ 4 then .dropNoMatch
    else if csum (sum16 (p.take ihl)) ≠ 0 then .dropCsum
    else if be p 6 2 % 0x4000 ≠ 0 then .dropFrag
    else s.classifyIp l false mac (be p 12 4) (be p 16 4) (be p 9 1) ((p.take (be p 2 2)).drop ihl)
  else if etype = 0x86DD ∧ s.flag (F.NET_LP_CTL_IPV6_EN l) then
    let nh := be p 6 1
    let q := (p.drop 40).take (be p 4 2)
    let hop := decide (nh = 0)
    let nh2 := if hop then be q 0 1 else nh
    let q2 := if hop then q.drop (8 + be q 1 1 * 8) else q
    if nh2 = 44 then .dropFrag
    else s.classifyIp l true mac (be p 8 16) (be p 24 16) nh2 q2
  else .dropNoMatch

/-- R42 row 1: is a destination MAC one that port `l` takes? -/
def State.macTaken (s : State) (l mac : Nat) : Bool :=
  decide (mac = s.portMac l) || decide (mac = 0xFFFFFFFFFFFF) || decide (mac = 0x01005E000001) ||
    (s.flag (F.NET_LP_CTL_IPV6_EN l) && (decide (mac = 0x333300000001) ||
      decide (mac = 0x3333FF000000 + s.linkLocal l % 2 ^ 24) || decide (mac = 0x3333FF000000 + s.portIp6 l % 2 ^ 24))) ||
    decide (mac = 0x0180C2000001) ||
    (decide (mac = 0x011B19000000) && decide (s.get F.TIM_CTL_TRANSPORT = 0) && s.flag (F.TIM_PORT_CTL_EN l)) ||
    s.net.groups.any (fun m => decide (m.port = l) && decide (groupMac m.ipv6 m.group = mac))

/-- Classify a frame of port `l` that passed R34: its bytes from the destination address to the end of its payload. -/
def State.classify (s : State) (l : Nat) (f : List Byte) : RxClass :=
  let e0 := be f 12 2
  let tagged := decide (e0 = 0x8100)
  let etype := if tagged then be f 16 2 else e0
  let p := f.drop (if tagged then 18 else 14)
  let isTag := fun e => e = 0x8100 || e = 0x88A8
  let vlanOk := if s.flag (F.NET_LP_CTL_VLAN_MODE l) then
      tagged && decide (be f 14 2 % 4096 = s.get (F.NET_LP_VLAN_VID l)) && !isTag etype
    else !isTag e0
  if !vlanOk || decide (etype = 0x88E5) then .dropNoMatch
  else if !s.macTaken l (be f 0 6) then .discard
  else if etype = 0x8808 then (if be p 0 2 = 1 then .pause else .dropNoMatch)
  else if etype = 0x0806 then .arp
  else if etype = 0x88F7 then .tim (be p 0 1 % 16)
  else if etype = 0x88B5 then (if be p 1 1 = 0x81 then .status (be p 6 1 % 64) else .dropNoMatch)
  else s.classifyPacket l (be f 6 6) etype p

/-- Where the UDP payload of an accepted frame starts: after the Ethernet, IP and UDP headers. -/
def udpAt (f : List Byte) : Nat :=
  let a := if be f 12 2 = 0x8100 then 18 else 14
  if be f (a - 2) 2 = 0x0800 then a + be f a 1 % 16 * 4 + 8
  else if be f (a + 6) 1 = 0 then a + 56 + be f (a + 41) 1 * 8
  else a + 48

/-- Owners a classified frame is charged to (R66). -/
def RxClass.owners (l : Nat) : RxClass → List Nat
  | .pause => [ownPort l]
  | .arp => [ownPort l]
  | .tim _ => [ownPort l]
  | .responder => [ownPort l]
  | .status g => [ownSegment g]
  | .control i _ => [ownSession i]
  | .gang => [ownGang]
  | .ingest cs _ => cs
  | _ => []

end Sys2Proof.Machine
end

