-- ==== Sys2Proof/Machine/Ctx.lean ====
section
/-! DEFINITION. The contexts of the data plane as named accessors: their values at EN = 1 and how they are read and
set. -/

namespace Sys2Proof.Machine

def Bank.init : Bank := ⟨.empty, 0, [], 8, [], 0⟩

def IngCtx.init : IngCtx where
  last := none
  lastCc := none
  bankA := Bank.init
  bankB := Bank.init
  fillB := false
  order := []
  placed := 0
  pub := 0
  released := 0
  consumed := false
  au := none
  gap := none
  recs := []
  srtpTop := none
  srtpSeen := []
  frag := none
  apart := false
  deferred := []

def State.ingCtx (s : State) (n : Nat) : IngCtx := SMap.get (fun _ => IngCtx.init) s.ing n
def State.setIng (s : State) (n : Nat) (v : IngCtx) : State := { s with ing := SMap.set (fun _ => IngCtx.init) s.ing n v }

def DecCtx.init : DecCtx where
  recs := []
  run := none
  part := 0
  begun := false
  pics := []
  nextPic := 0
  nextOut := 0
  lastPos := none
  gapPending := false
  av1Unknown := false
  av1Slots := []
  av1Last := []
  dropRasl := false
  dirtySinceMark := false
  markLost := false
  rejected := false
  seq := none
  past := []
  replay := []
  failing := none
  owed := []
  planned := none
  placed := false
  suspect := none
  lastClean := none
  winSec := 0
  winPics := 0
  winBits := 0
  winRaised := false
  prio := 0
  deferred := []

def State.decCtx (s : State) (n : Nat) : DecCtx := SMap.get (fun _ => DecCtx.init) s.dec.ctx n
def State.setDec (s : State) (n : Nat) (v : DecCtx) : State :=
  { s with dec := { s.dec with ctx := SMap.set (fun _ => DecCtx.init) s.dec.ctx n v } }

def EncCtx.init : EncCtx where
  offers := []
  seen := 0
  filling := none
  waiting := none
  run := none
  picNum := 0
  sinceIdr := 0
  idrDue := true
  skipped := 0
  fill := ⟨0, 1⟩
  excess := ⟨0, 1⟩
  debit := ⟨0, 1⟩
  alphaIdr := none
  alphaP := none
  refs := []
  vectors := []
  wrLin := 0
  rdLin := 0
  recs := []
  seqNo := 0
  rollover := 0
  lastPkt := none
  suspect := none
  planned := none
  placed := false
  prio := 0
  deferred := []

def State.encCtx (s : State) (n : Nat) : EncCtx := SMap.get (fun _ => EncCtx.init) s.enc.ctx n
def State.setEnc (s : State) (n : Nat) (v : EncCtx) : State :=
  { s with enc := { s.enc with ctx := SMap.set (fun _ => EncCtx.init) s.enc.ctx n v } }

def CvState.init : CvState := ⟨0, none, none, none, [], [], [], [], false, false, [], false⟩
def State.cvState (s : State) (c : Nat) : CvState := SMap.get (fun _ => CvState.init) s.cmp.cv c
def State.setCv (s : State) (c : Nat) (v : CvState) : State :=
  { s with cmp := { s.cmp with cv := SMap.set (fun _ => CvState.init) s.cmp.cv c v } }

def FlowState.init : FlowState :=
  { exists_ := false, frames := [], configs := [], resend := [], repeatAt := 0, configPkt := none, config := [], configId := 0, seq := 0,
    tokens := ⟨0, 1⟩, refilled := 0, quantum := 0, place := .idle, status := [], statusAt := 0, statuses := 0, silent := false }
def State.flow (s : State) (t : Nat) : FlowState := SMap.get (fun _ => FlowState.init) s.out.flow t
def State.setFlow (s : State) (t : Nat) (v : FlowState) : State :=
  { s with out := { s.out with flow := SMap.set (fun _ => FlowState.init) s.out.flow t v } }

/-- A state that has to be written by 16-bit, 32-bit and 48-bit little-endian time fields (R63, R98, R148). -/
def timeLE (t : Nat) : List Byte := bytesLE 2 (timeSub t) ++ bytesLE 4 (timeNs t) ++ bytesLE 6 (timeS t)

end Sys2Proof.Machine
end

