-- ==== Sys2Proof/Machine/Depack.lean ====
section
/-! DEFINITION. What ingest reads in the payload of a datagram (R44 to R48): RTP headers, the HEVC and AV1 payload formats, MPEG-2
transport stream packets with their PES headers, the row headers of SMPTE ST 2110-20, and the random access points. -/

namespace Sys2Proof.Machine

/-! ### RTP (RFC 3550) -/

/-- The header of an RTP packet: marker, sequence number, timestamp, its length with the CSRC list and the extension, and the
padding flag. -/
structure Rtp where
  marker : Bool
  seq : Nat
  ts : Nat
  len : Nat
  pad : Bool
  deriving DecidableEq, Repr

/-- Read the RTP header of a UDP payload. -/
def rtpOf (b : List Byte) : Rtp :=
  let first := be b 0 1
  let fixed := 12 + 4 * (first % 16)
  { marker := (be b 1 1).testBit 7, seq := be b 2 2, ts := be b 4 4,
    len := if first.testBit 4 then fixed + 4 + 4 * be b (fixed + 2) 2 else fixed, pad := first.testBit 5 }

/-- An RTP payload without its padding, whose last byte counts it. -/
def unpad (pad : Bool) (p : List Byte) : List Byte :=
  if pad then p.take (p.length - (p.getLastD 0).toNat) else p

/-! ### HEVC (RFC 7798) -/

/-- A NAL unit of an Annex B byte stream. -/
def annexB (nal : List Byte) : List Byte := bytesBE 4 1 ++ nal

/-- The NAL units of an aggregation packet after its payload header: 16-bit sizes, each before its unit. -/
def apUnits : Nat → List Byte → List (List Byte)
  | 0, _ => []
  | k + 1, b => if b.length < 3 then [] else slice b 2 (be b 0 2) :: apUnits k (b.drop (2 + be b 0 2))

/-- The Annex B bytes that an RTP HEVC payload brings; none for a PACI packet, which is dropped (R44). -/
def hevcBytes (p : List Byte) : Option (List Byte) :=
  let type := be p 0 1 / 2 % 64
  let fu := be p 2 1
  if type = 50 then none
  else if type = 48 then some ((apUnits p.length (p.drop 2)).flatMap annexB)
  else if type = 49 then
    if fu.testBit 7 then
      some (annexB (bytesBE 1 (be p 0 1 / 128 * 128 + fu % 64 * 2 + be p 0 1 % 2) ++ slice p 1 1 ++ p.drop 3))
    else some (p.drop 3)
  else some (annexB p)

/-- Does an Annex B byte stream hold an IRAP NAL unit (R63)? -/
def hevcRap : List Byte → Bool
  | [] => false
  | a :: r =>
    (decide (a = 0) && decide (be r 0 2 = 1) && decide (16 ≤ be r 2 1 / 2 % 64 ∧ be r 2 1 / 2 % 64 ≤ 23 ∧ 3 ≤ r.length)) ||
      hevcRap r

/-! ### AV1 -/

/-- A leb128 number and the bytes it takes, at most `k`. -/
def leb128Of : Nat → List Byte → Nat × Nat
  | 0, _ => (0, 0)
  | _, [] => (0, 0)
  | k + 1, b :: r =>
    if b.toNat < 128 then (b.toNat, 1) else
      let n := leb128Of k r
      (b.toNat % 128 + 128 * n.1, n.2 + 1)

/-- A number as leb128, in at most `k + 1` bytes. -/
def leb128 : Nat → Nat → List Byte
  | 0, v => bytesBE 1 (v % 128)
  | k + 1, v => if v < 128 then bytesBE 1 v else bytesBE 1 (v % 128 + 128) ++ leb128 k (v / 128)

/-- The OBU elements of an RTP AV1 payload after the aggregation header. With a count `w` above 0 the last of `w` elements
carries no length. -/
def av1Elements : Nat → Nat → List Byte → List (List Byte)
  | 0, _, _ => []
  | k + 1, w, b =>
    if b.isEmpty then []
    else if w = 1 then [b]
    else
      let n := leb128Of 8 b
      slice b n.2 n.1 :: av1Elements k (w - 1) (b.drop (n.2 + n.1))

/-- A whole OBU with obu_has_size_field set (R45). Temporal delimiters and tile lists are left out. -/
def obuSized (o : List Byte) : List Byte :=
  let h := be o 0 1
  let type := h / 8 % 16
  if o.isEmpty ∨ type = 2 ∨ type = 8 then []
  else if h.testBit 1 then o
  else
    let head := if h.testBit 2 then 2 else 1
    let body := o.drop head
    bytesBE 1 (h + 2) ++ slice o 1 (head - 1) ++ leb128 7 body.length ++ body

/-- The bytes of the OBUs that a payload completes, and the fragment of an OBU that goes on in the next packet (R45). `frag` is
the fragment before it; an OBU whose beginning is missing is left out. -/
def av1Bytes (frag : Option (List Byte)) (p : List Byte) : List Byte × Option (List Byte) :=
  let h := be p 0 1
  let es := av1Elements p.length (h / 16 % 4) (p.drop 1)
  let es : List (Option (List Byte)) := match es with
    | e :: r => (if h.testBit 7 then frag.map (· ++ e) else some e) :: r.map some
    | [] => []
  let whole := if h.testBit 6 then es.dropLast else es
  (whole.flatMap (fun e => obuSized (e.getD [])), if h.testBit 6 then (es.getLast?.getD none) else none)

/-- The OBUs of a low-overhead byte stream: type and payload. -/
def obusOf : Nat → List Byte → List (Nat × List Byte)
  | 0, _ => []
  | k + 1, b =>
    if b.isEmpty then []
    else
      let head := if (be b 0 1).testBit 2 then 2 else 1
      let n := if (be b 0 1).testBit 1 then leb128Of 8 (b.drop head) else (b.length - head, 0)
      (be b 0 1 / 8 % 16, slice b (head + n.2) n.1) :: obusOf k (b.drop (head + n.2 + n.1))

/-- Does a temporal unit hold a sequence header and a key frame (R63)? A sequence with reduced_still_picture_header holds key
frames only. -/
def av1Rap (b : List Byte) : Bool :=
  let os := obusOf b.length b
  os.any (fun h => decide (h.1 = 1) && os.any (fun f => decide (f.1 = 3 ∨ f.1 = 6) &&
    ((be h.2 0 1).testBit 3 || decide (be f.2 0 1 / 32 = 0))))

/-! ### MPEG-2 transport stream (R46) -/

/-- What ingest reads of a TS packet: PID, payload unit start, scrambling, continuity counter, and the payload where there is
one. -/
structure TsPkt where
  pid : Nat
  pusi : Bool
  scrambled : Bool
  cc : Nat
  payload : Option (List Byte)
  deriving DecidableEq, Repr

/-- Read a 188-byte TS packet. -/
def tsOf (b : List Byte) : TsPkt :=
  let c := be b 3 1
  let at_ := if c.testBit 5 then 5 + be b 4 1 else 4
  { pid := be b 1 2 % 8192, pusi := (be b 1 1).testBit 6, scrambled := decide (c / 64 ≠ 0), cc := c % 16,
    payload := if c.testBit 4 then some (b.drop at_) else none }

/-- The 33-bit PTS of a PES packet that begins here; 0 where its header holds none. -/
def pesPts (p : List Byte) : Nat :=
  if (be p 7 1).testBit 7 then be p 9 1 / 2 % 8 * 2 ^ 30 + be p 10 2 / 2 * 2 ^ 15 + be p 12 2 / 2 else 0

/-- The elementary stream bytes of a PES packet that begins here. -/
def pesBytes (p : List Byte) : List Byte := p.drop (9 + be p 8 1)

/-- The 188-byte packets of a TS payload; none where it does not hold 1 to 7 whole packets (R46). -/
def tsPackets (p : List Byte) : List (List Byte) :=
  let k := p.length / 188
  if p.length % 188 = 0 ∧ k ≤ 7 then (List.range k).map (fun i => slice p (i * 188) 188) else []

/-! ### SMPTE ST 2110-20 (R47) -/

/-- The sample row headers of a payload: data bytes, field and row number, offset in pixels, and what follows them. -/
def rowHeads : Nat → List Byte → List (Nat × Nat × Nat) × List Byte
  | 0, b => ([], b)
  | k + 1, b =>
    let h := (be b 0 2, be b 2 2, be b 4 2 % 32768)
    if (be b 4 2).testBit 15 then
      let r := rowHeads k (b.drop 6)
      (h :: r.1, r.2)
    else ([h], b.drop 6)

/-- The segments of an RTP payload after its extended sequence number, as offset in the frame and bytes: row `r` starts at
`r` × `row`, and `px` pixels hold `by_` bytes. Rows of a second field, rows outside the frame and bytes past a row's end are
left out. -/
def rowSegments (row height px by_ : Nat) : List (Nat × Nat × Nat) → List Byte → List (Nat × List Byte)
  | [], _ => []
  | (n, r, off) :: hs, b =>
    let col := off / px * by_
    let rest := rowSegments row height px by_ hs (b.drop n)
    if r < height then (r * row + col, b.take (min n (row - col))) :: rest else rest

/-- ROW_BYTES of an ST 2110-20 context (R47). -/
def State.rowBytes (s : State) (n : Nat) : Nat :=
  s.get (F.ING_CTX_RAW_WIDTH n) * (if s.flag (F.ING_CTX_RAW_SAMPLING n) then 36 else 20) / 8

/-- The segments of an ST 2110-20 payload of context `n`. -/
def State.rawSegments (s : State) (n : Nat) (p : List Byte) : List (Nat × List Byte) :=
  let h := rowHeads 3 (p.drop 2)
  let full := s.flag (F.ING_CTX_RAW_SAMPLING n)
  rowSegments (s.rowBytes n) (s.get (F.ING_CTX_RAW_HEIGHT n)) 2 (if full then 9 else 5) h.1 h.2

end Sys2Proof.Machine
end

