-- ==== Sys2Proof/Machine/Ing.lean ====
section
/-! DEFINITION. Stream ingest (R44 to R64, R557): items, access units, gaps, the two-bank FIFO, its drain into the ES
buffer, and the consumer that releases it. -/

namespace Sys2Proof.Machine

/-- Bytes of one bank (R51). -/
def State.bankBytes (s : State) (n : Nat) : Nat := 2048 * 2 ^ s.get (F.ING_CTX_FIFO_BANK n)

/-- Base and size of an ES buffer. -/
def State.esBase (s : State) (n : Nat) : Nat := s.rd (R.ING_CTX_ESB_HI n) % 16 * 2 ^ 32 + s.rd (R.ING_CTX_ESB_LO n)
def State.esSize (s : State) (n : Nat) : Nat := s.get (F.ING_CTX_ESB_SIZE n) * 4096

/-- Size of a record with `len` payload bytes (R61). -/
def recSize (len : Nat) : Nat := ceilDiv (32 + len) 64 * 64

/-- The 32-byte header of a record (R63). PKTS saturates (log entry 94). -/
def EsRec.header (r : EsRec) : List Byte :=
  bytesLE 4 r.len ++ bytesLE 2 r.kind ++ bytesLE 2 r.flags ++ bytesLE 8 r.ts ++ timeLE r.arr ++ bytesLE 2 r.seqFirst ++
    bytesLE 2 (if r.kind = 2 then r.pkts else min r.pkts 65535)

/-- Write bytes into the ES buffer from a linear offset, wrapping at its end (R61). -/
def State.esWrite (s : State) (n lin : Nat) : List Byte → State
  | [] => s
  | b :: r =>
    let size := if s.esSize n = 0 then 1 else s.esSize n
    (s.setByte (s.esBase n + lin % size) b).esWrite n (lin + 1) r

/-- The stream context that consumes an ingest context of KIND 0 to 3 (R557). -/
def State.decConsumer (s : State) (n : Nat) : Option Nat :=
  let d := s.get (F.ING_CTX_CTL_DEST n)
  let st := s.get (F.DEC_CTX_STAT_STATE d)
  if s.get (F.ING_CTX_CTL_KIND n) ≤ 3 ∧ 1 ≤ st ∧ st ≤ 3 ∧ s.get (F.DEC_CTX_CTL_SRC_ING d) = n then some d else none

/-- The encode context that consumes an ingest context of KIND 4 (R57). -/
def State.encConsumer (s : State) (n : Nat) : Option Nat :=
  let d := s.get (F.ING_CTX_CTL_DEST n)
  if s.get (F.ING_CTX_CTL_KIND n) = 4 ∧ d < 64 ∧ s.get (F.ENC_CTX_STAT_STATE d) ≠ 0 ∧
      s.get (F.ENC_CTX_SRC_KIND d) = 0 ∧ s.get (F.ENC_CTX_SRC_INDEX d) = n then some d else none

/-- Bytes of the ES buffer released so far: up to the consumer's read offset, or all that is published, and never past a
record a video layer holds (R56, R57, R167). -/
def State.esReleased (s : State) (n : Nat) : Nat :=
  let c := s.ingCtx n
  let base := if (s.decConsumer n).isSome || (s.encConsumer n).isSome then c.released else c.pub
  s.cmp.holds.foldl (fun a h =>
    if h.choice.ingest && decide (h.choice.ctx = n) then
      match h.choice.es with | some r => min a r.lin | none => a
    else a) base

def State.ingState (s : State) (n st : Nat) : State := s.put (F.ING_CTX_STAT_STATE n) st

/-- ESB_STALLED changes: event 82 once per stall, and its level condition (R56). -/
def State.esStall (s : State) (n : Nat) (b : Bool) : State :=
  let was := s.flag (F.ING_CTX_STAT_ESB_STALLED n)
  let s := s.putB (F.ING_CTX_STAT_ESB_STALLED n) b
  let s := if b && !was then s.raiseU 82 else s
  s.setCond 82 s.unstated ((List.range 256).any (fun k => s.flag (F.ING_CTX_STAT_ESB_STALLED k)))

/-- ING_DRAINING shows the contexts that drain. -/
def State.countDraining (s : State) : State :=
  s.put F.ING_DRAINING (s.ing.filter (fun p => p.2.bankA.use = .draining || p.2.bankB.use = .draining)).length

/-- The rewind mark of the stream context that decodes the stream lies in ES bytes that the drain writes (R115): it becomes
invalid, with event 115, in any state of that context. -/
def State.esOverwrite (s : State) (n lo hi : Nat) : State :=
  let d := s.get (F.ING_CTX_CTL_DEST n)
  let size := max 1 (s.esSize n)
  let m := s.get (F.DEC_CTX_MARK_OFFSET d)
  if decide (s.get (F.ING_CTX_CTL_KIND n) ≤ 3) && decide (s.get (F.DEC_CTX_CTL_SRC_ING d) = n) && s.flag (F.DEC_CTX_MARK_VALID d) &&
      (decide ((m + size - lo % size) % size < hi - lo) || decide ((lo % size + size - m) % size < 64)) then
    (s.putB (F.DEC_CTX_MARK_VALID d) false).raiseU 115
  else s

/-- Offer a published access unit to the encode context that taps it (R123, R127). -/
def State.encOffer (s : State) (e : Nat) (src : EncSrc) : State :=
  s.setEnc e { s.encCtx e with offers := (s.encCtx e).offers ++ [src] }

/-- The consumer of an ingest context has released the records below a linear offset (R56, R81, R127). -/
def State.esRelease (s : State) (n lin : Nat) : State :=
  let c := s.ingCtx n
  s.setIng n { c with released := max c.released lin }

/-- The read offset of an ingest tap: the oldest record not yet coded or skipped (R127). -/
def State.encReleaseEs (s : State) (n : Nat) : State :=
  if s.get (F.ENC_CTX_SRC_KIND n) ≠ 0 then s
  else
    let ing := s.get (F.ENC_CTX_SRC_INDEX n)
    let c := s.encCtx n
    let open_ := (c.offers ++ c.waiting.toList ++ ((c.run.filter (fun r => !r.gone)).map (fun r => r.src)).toList).filterMap (fun p => p.rec_)
    let lo := open_.foldl (fun a r => min a r.lin) (s.ingCtx ing).pub
    (s.wr (R.ENC_CTX_ESB_RD n) (lo % (max 1 (s.esSize ing)))).esRelease ing lo

/-- Release the record at the head of a context's queue (R81). -/
def State.decRelease (s : State) (n : Nat) : State :=
  let c := s.decCtx n
  match c.recs with
  | [] => s
  | r :: rest =>
    let ing := s.get (F.DEC_CTX_CTL_SRC_ING n)
    let hi := r.lin + (if r.kind = 2 then 64 else recSize r.len)
    let size := if s.esSize ing = 0 then 1 else s.esSize ing
    ((s.setDec n { c with recs := rest, part := 0, begun := false }).wr (R.DEC_CTX_ESB_RD n) (hi % size)).esRelease ing hi

/-- Records that the state table takes at once: in SHED all of them, and in WAIT_RAP all before one with RAP set, are released
unread and counted; an access-unit record with RAP set moves WAIT_RAP to RUN. -/
def State.decFlush (s : State) (n : Nat) : Nat → State
  | 0 => s
  | k + 1 =>
    let st := s.get (F.DEC_CTX_STAT_STATE n)
    match (s.decCtx n).recs with
    | [] => s
    | r :: _ =>
      if (s.decCtx n).run.isSome then s
      else if st = 3 ∨ (st = 1 ∧ (r.kind = 2 ∨ r.flags % 2 = 0)) then
        ((s.decRelease n).inc (F.DEC_CTX_SKIPPED n)).decFlush n k
      else if st = 1 then s.put (F.DEC_CTX_STAT_STATE n) 2
      else s

/-- The state table over all records that wait. -/
def State.decFlushAll (s : State) (n : Nat) : State := s.decFlush n ((s.decCtx n).recs.length + 1)

/-- The window of R95 of a context is that of the present second of device time. -/
def State.decNewWindow (s : State) (c : DecCtx) : DecCtx :=
  if c.winSec = s.tim.now / Config.sec then c
  else { c with winSec := s.tim.now / Config.sec, winPics := 0, winBits := 0, winRaised := false }

/-- R95: an announced access unit counts towards its context's window. -/
def State.decCount (s : State) (n len : Nat) : State :=
  let c := s.decNewWindow (s.decCtx n)
  let c := { c with winPics := c.winPics + 1, winBits := c.winBits + len * 8 }
  let surplus := decide (17 * s.get (F.DEC_CTX_RATE_NUM n) < 16 * c.winPics * s.get (F.DEC_CTX_RATE_DEN n)) ||
    decide (17 * s.get (F.DEC_CTX_BITRATE n) * 100000 < 16 * c.winBits)
  if surplus && !c.winRaised then
    ((s.setDec n { c with winRaised := true }).inc (F.DEC_CTX_RATE_EXCESS n)).raiseU 102
  else s.setDec n c

/-- Publish a record (R55): its header is in DRAM, ESB_WR moves past it, it is counted, and the consumer hears of it. -/
def State.publish (s : State) (n : Nat) (r : EsRec) : State :=
  let s := s.esWrite n r.lin r.header
  let c := s.ingCtx n
  let hi := r.lin + recSize r.len
  let hi := if r.kind = 2 then r.lin + 64 else hi
  let size := if s.esSize n = 0 then 1 else s.esSize n
  let s := s.setIng n { c with pub := hi, recs := (c.recs.filter (fun q => decide (hi ≤ q.lin + size))) ++ [r] }
  let s := s.wr (R.ING_CTX_ESB_WR n) (hi % size)
  let s := if r.kind = 2 then (s.inc (F.ING_CTX_GAPS n)).raiseU 80 else s.inc (F.ING_CTX_AUS n)
  match s.decConsumer n, s.encConsumer n with
  | some d, _ =>
    let s := s.setDec d { s.decCtx d with recs := (s.decCtx d).recs ++ [r] }
    (if r.kind = 2 then s else s.decCount d r.len).decFlushAll d
  | none, some e =>
    if r.kind = 2 then s.encReleaseEs e
    else s.encOffer e
      { ts := r.ts % 2 ^ 32, time := r.arr, concealed := false, damaged := decide (r.flags.testBit 1 ∨ r.flags.testBit 3),
        rec_ := some r, slot := 0, record := [], buf := none, conf := [] }
  | none, none => s

/-- Gap records at the head of the drain order are written when the ES buffer has room (R54, R61). -/
def State.drainGaps (s : State) (n : Nat) : Nat → State
  | 0 => s
  | k + 1 =>
    let c := s.ingCtx n
    match c.order with
    | .gap r :: rest =>
      if r.lin + 64 ≤ s.esReleased n + s.esSize n then
        ((((s.setIng n { c with order := rest }).esStall n false).esOverwrite n r.lin (r.lin + 64)).publish n r).drainGaps n k
      else s.esStall n true
    | _ => s

/-- The record of an open gap, at a linear offset (R63). -/
def OpenGap.toRec (g : OpenGap) (lin : Nat) : EsRec :=
  let k := min g.count (2 ^ 32 - 1)
  ⟨lin, 2, 0, g.cause, g.ts, g.arr, k % 65536, k / 65536⟩

/-- The open gap becomes a gap record in the drain order (R54). -/
def State.flushGap (s : State) (n : Nat) : State :=
  let c := s.ingCtx n
  match c.gap with
  | none => s
  | some g =>
    let r := g.toRec c.placed
    let s := s.setIng n { c with gap := none, placed := c.placed + 64, order := c.order ++ [DrainItem.gap r] }
    s.drainGaps n (c.order.length + 1)

def IngCtx.bank (c : IngCtx) (b : Bool) : Bank := if b then c.bankB else c.bankA
def IngCtx.setBank (c : IngCtx) (b : Bool) (v : Bank) : IngCtx :=
  if b then { c with bankB := v } else { c with bankA := v }

/-- Free room in the filling bank; none when neither bank fills. -/
def IngCtx.room (c : IngCtx) (cap : Nat) : Nat :=
  match (c.bank c.fillB).use with
  | .filling => cap - (c.bank c.fillB).bytes.length
  | .empty => cap
  | _ => 0

/-- Does an item of `k` bytes fit (R53)? -/
def IngCtx.fits (c : IngCtx) (cap k : Nat) : Bool :=
  decide (k ≤ c.room cap) ||
    (decide ((c.bank (!c.fillB)).use = .empty) && decide (k ≤ c.room cap + cap))

/-- The filling bank hands over to drain, and the other bank fills next (R53). -/
def IngCtx.handOver (c : IngCtx) : IngCtx :=
  { c.setBank c.fillB { c.bank c.fillB with use := .full } with fillB := !c.fillB }

/-- Bytes filled up with zeros to whole 64-bit words (R52). -/
def padWords (bs : List Byte) : List Byte := bs ++ List.replicate (roundUp bs.length 8 - bs.length) 0

/-- The last word of an access unit that ends in the bank is padded with zeros and tagged with its valid bytes (R52). -/
def Bank.finish (b : Bank) (r : EsRec) : Bank :=
  { b with
    bytes := padWords b.bytes
    valid := if b.bytes.length % 8 = 0 then 8 else b.bytes.length % 8
    ends := b.ends ++ [r] }

/-- The length slot of a record is filled while it lies in the bank (R55). -/
def Bank.putSlot (b : Bank) (r : EsRec) : Bank :=
  if b.use ≠ .empty ∧ b.lin ≤ r.lin ∧ r.lin + 32 ≤ b.lin + b.bytes.length then
    { b with bytes := b.bytes.take (r.lin - b.lin) ++ r.header ++ b.bytes.drop (r.lin - b.lin + 32) }
  else b

/-- Put bytes into the filling bank, which hands over when it is full. -/
def IngCtx.fillBytes (c : IngCtx) (cap : Nat) (bs : List Byte) : IngCtx :=
  if bs.isEmpty then c
  else
    let b := c.bank c.fillB
    let c := match b.use with
      | .empty => { c.setBank c.fillB ⟨.filling, c.placed, bs, 8, [], 0⟩ with order := c.order ++ [DrainItem.bank c.fillB] }
      | _ => c.setBank c.fillB { b with bytes := b.bytes ++ bs }
    let c := { c with placed := c.placed + bs.length }
    if cap ≤ (c.bank c.fillB).bytes.length then c.handOver else c

/-- Pack an item's bytes into the FIFO across the two banks (R52, R53). -/
def IngCtx.pack (c : IngCtx) (cap : Nat) (bs : List Byte) : IngCtx :=
  let k := c.room cap
  (c.fillBytes cap (bs.take k)).fillBytes cap (bs.drop k)

/-- Is the access unit a random access point (R63)? A TS context takes the codec of the stream context it feeds. -/
def State.auRap (s : State) (n : Nat) (bs : List Byte) : Bool :=
  match s.get (F.ING_CTX_CTL_KIND n) with
  | 0 => hevcRap bs
  | 1 => av1Rap bs
  | 4 => false
  | _ => if s.flag (F.DEC_CTX_CTL_CODEC (s.get (F.ING_CTX_CTL_DEST n))) then av1Rap bs else hevcRap bs

/-- The open access unit ends (R55): the record waits for its bank, which hands over; a record whose last byte is already
in DRAM is published at once. -/
def State.endAu (s : State) (n flags : Nat) : State :=
  let c := s.ingCtx n
  match c.au with
  | none => s
  | some a =>
    let len := a.bytes.length
    let fl := flags + (if s.auRap n a.bytes then 1 else 0) + (if a.gapInside then 8 else 0)
    let r : EsRec := ⟨a.lin, 1, len, fl, a.ts, a.arr, a.seqFirst, a.pkts⟩
    let c := { c with
      au := none, frag := none, placed := a.lin + recSize len, bankA := c.bankA.putSlot r, bankB := c.bankB.putSlot r }
    let ends := fun (b : Bank) => decide (b.use ≠ .empty) && decide (b.lin ≤ a.lin + 32 + len) &&
      decide (a.lin + 32 + len = b.lin + b.bytes.length)
    let s := s.ingState n 1
    if ends (c.bank c.fillB) then (s.setIng n (c.setBank c.fillB ((c.bank c.fillB).finish r)).handOver)
    else if ends (c.bank (!c.fillB)) then s.setIng n (c.setBank (!c.fillB) ((c.bank (!c.fillB)).finish r))
    else (s.setIng n c).publish n r

/-- `k` items are dropped or missing at this point (R49, R54, R64). A loss inside an ST 2110 frame does not end it: the
frame carries GAP_INSIDE (R47). R49 treats missing packets as a drop of the items, and R73 counts in ING_CTX_DROP_ITEMS what is
dropped or discarded: the model leaves out what never arrived (log entry 116). -/
def State.ingDrop (s : State) (n cause k ts arr : Nat) : State :=
  let s := if cause = 2 ∨ cause = 3 then s else s.add (F.ING_CTX_DROP_ITEMS n) k
  let c := s.ingCtx n
  let s := match c.au with
    | none => s
    | some a =>
      if s.get (F.ING_CTX_CTL_KIND n) = 4 ∧ cause = 2 then s.setIng n { c with au := some { a with gapInside := true } }
      else (s.endAu n 2).ingState n 3
  let c := s.ingCtx n
  let g := match c.gap with
    | some g => { g with count := g.count + k }
    | none => ⟨cause, k, ts, arr⟩
  s.setIng n { c with gap := some g, frag := none }

/-- M of R60. -/
def State.auLimit (s : State) (n : Nat) : Nat := min (s.get (F.ING_CTX_AU_MAX n)) (s.esSize n / 2)

/-- Free bytes of the model's free values (R47: bytes of lost packets are undefined). -/
def State.drawBytes (s : State) : Nat → List Byte × State
  | 0 => ([], s)
  | k + 1 =>
    let (r, s') := { s with draw := s.draw + 1 }.drawBytes k
    (Config.freeByte s.draw :: r, s')

/-- The bytes that take segments of an ST 2110 frame to their places after its first `at_` bytes: what no packet brought
before them is undefined, and what lies before them is left as it is (R47). Where the last packets of a frame are lost, the
record ends with the last byte received: R63 counts payload bytes, and R47 gives the frame no other length (log entry 116). -/
def State.placeSegments (s : State) (at_ : Nat) : List (Nat × List Byte) → List Byte × State
  | [] => ([], s)
  | (o, d) :: r =>
    let d := d.drop (at_ - o)
    let (hole, s) := if d.isEmpty then ([], s) else s.drawBytes (o - at_)
    let (rest, s) := s.placeSegments (at_ + hole.length + d.length) r
    (hole ++ d ++ rest, s)

/-- The bytes of the PES packet of a TS context up to the end of an item, while its header is not complete: the header may reach
over several TS packets. -/
def State.pesHead (s : State) (n : Nat) (first : Bool) (p : List Byte) : Option (List Byte) :=
  if first then some p else (s.ingCtx n).frag.map (· ++ p)

/-- The bytes that an item's payload adds to the open access unit, by KIND (R44 to R47). The bytes of a PES packet after its header
are taken as they are: R46 gives no framing for AV1 in it, and the model reads them as the low-overhead byte stream of OBUs (log
entry 116). -/
def State.itemBytes (s : State) (n at_ : Nat) (first : Bool) (p : List Byte) : List Byte × State :=
  match s.get (F.ING_CTX_CTL_KIND n) with
  | 0 => ((hevcBytes p).getD [], s)
  | 1 =>
    let r := av1Bytes (s.ingCtx n).frag p
    (r.1, s.setIng n { s.ingCtx n with frag := r.2 })
  | 4 => s.placeSegments at_ (s.rawSegments n p)
  | _ =>
    match s.pesHead n first p with
    | none => (p, s)
    | some h =>
      let whole := decide (9 ≤ h.length ∧ 9 + be h 8 1 ≤ h.length)
      (if whole then pesBytes h else [], s.setIng n { s.ingCtx n with frag := if whole then none else some h })

/-- Have packets of the ST 2110 frame that an item opens been lost before it (R47)? They have when the loss that shows with the
item lies after the frame before, and when it reaches over the frame boundary and the frame's first bytes are missing. -/
def State.frameCut (s : State) (n : Nat) (p : List Byte) : Option Bool → Bool
  | none => false
  | some between => decide (s.get (F.ING_CTX_CTL_KIND n) = 4) &&
    (between || ((s.rawSegments n p).head?.map (fun g => decide (0 < g.1))).getD false)

/-- An accepted item goes into its access unit (R52, R53, R60). `loss` tells of packets missing before an RTP item: whether no
unit was open when they were missed. The gap record of such a loss follows the ST 2110 frame that it cut (R47), unless it was
open already. -/
def State.packItem (s : State) (n : Nat) (p : List Byte) (seq ts arr : Nat) (loss : Option Bool) (fresh : Bool) : State :=
  let c := s.ingCtx n
  let first := c.au.isNone
  let cut := first && s.frameCut n p loss
  let head := if 2 ≤ s.get (F.ING_CTX_CTL_KIND n) ∧ s.get (F.ING_CTX_CTL_KIND n) ≠ 4 then s.pesHead n first p else none
  let a : OpenAu := c.au.getD ⟨c.placed, [], ts, arr, seq, 0, cut⟩
  let a := match head with
    | some h => if s.get (F.ING_CTX_CTL_KIND n) = 2 then { a with ts := pesPts h } else a
    | none => a
  let (bs, s) := s.itemBytes n a.bytes.length first p
  let c := s.ingCtx n
  let room := s.auLimit n - a.bytes.length
  let take := bs.take room
  let cap := s.bankBytes n
  let need := take.length + (if first then 32 else 0)
  if !c.fits cap need then s.ingDrop n 1 1 ts arr
  else
    let s := if first && !(cut && fresh) then s.flushGap n else s
    let c := s.ingCtx n
    let a := if first then { a with lin := c.placed } else a
    let c := c.pack cap ((if first then List.replicate 32 0 else []) ++ take)
    let s := (s.setIng n { c with au := some { a with bytes := a.bytes ++ take, pkts := a.pkts + 1 } }).ingState n 2
    if room < bs.length then s.ingDrop n 6 1 ts arr else s

/-- Packet index of a sequence number by RFC 3711, from the highest index accepted. -/
def srtpIndex (top : Option Nat) (seq : Nat) : Nat :=
  match top with
  | none => seq
  | some t =>
    let r := t / 65536
    let q := t % 65536
    let v := if q < 32768 then (if q + 32768 < seq then r + 0xFFFFFFFF else r)
      else if seq + 32768 < q then r + 1 else r
    v % 2 ^ 32 * 65536 + seq

/-- R48: the payload of an RTP packet that passes authentication and the 128-packet replay window, which then moves. A context
that names an empty key slot fails every packet (R501). -/
def State.srtpAccept (s : State) (n : Nat) (h : Rtp) (b : List Byte) : Option (List Byte) × State :=
  let c := s.ingCtx n
  let i := srtpIndex c.srtpTop h.seq
  let top := match c.srtpTop with | some t => max t i | none => i
  let fresh := decide (top < i + 128) && !c.srtpSeen.contains i
  let plain := match SMap.get (fun _ => none) s.sec.keys (s.get (F.ING_CTX_CTL_KEY_SLOT n)) with
    | some k => Config.srtpOpen k.key i (b.take h.len) (b.drop h.len)
    | none => none
  match fresh, plain with
  | true, some p =>
    (some p, s.setIng n { c with srtpTop := some top, srtpSeen := (i :: c.srtpSeen).filter (fun j => decide (top < j + 128)) })
  | _, _ => (none, s.inc (F.ING_CTX_SRTP_FAIL n))

/-- R49: a late or duplicate packet is dropped and counted; another one is taken, and the packets missing before it are a loss.
It becomes the packet before the next. -/
def State.rtpTake (s : State) (n : Nat) (h : Rtp) (arr : Nat) : Bool × State :=
  let keep (s : State) := s.setIng n { s.ingCtx n with last := some (h.seq, h.ts, h.marker) }
  match (s.ingCtx n).last with
  | none => (true, keep s)
  | some (q, _, _) =>
    let d := (h.seq + 65536 - q) % 65536
    if d = 0 ∨ 32768 < d then (false, s.inc (F.ING_CTX_DROP_ITEMS n))
    else (true, keep (if 1 < d then s.ingDrop n 2 (d - 1) 0 arr else s))

/-- An item that no access unit takes is discarded and counted; in DISCARD it counts in the open gap too (R54). -/
def State.ingDiscard (s : State) (n : Nat) : State :=
  let c := s.ingCtx n
  let s := s.inc (F.ING_CTX_DROP_ITEMS n)
  match c.gap with
  | some g => if s.get (F.ING_CTX_STAT_STATE n) = 3 then s.setIng n { c with gap := some { g with count := g.count + 1 } } else s
  | none => s

/-- An RTP packet of KIND 0, 1 or 4 (R44, R45, R47): its payload is an item. `alloc` is false when no pool buffer was granted
for its frame (R67). -/
def State.ingRtp (s : State) (n : Nat) (h : Rtp) (p : List Byte) (alloc : Bool) (arr : Nat) : State :=
  let before := (s.ingCtx n).last
  let idle := (s.ingCtx n).au.isNone
  let noGap := (s.ingCtx n).gap.isNone
  let missed := match before with
    | some (q, _, _) => decide (1 < (h.seq + 65536 - q) % 65536)
    | none => false
  let r := s.rtpTake n h arr
  let s := r.2
  if !r.1 then s
  else
    let s := match (s.ingCtx n).au with
      | some a => if a.ts ≠ h.ts then s.endAu n 4 else s
      | none => s
    let starts := match before with
      | some (_, t, m) => m || decide (t ≠ h.ts)
      | none => false
    let paci := decide (s.get (F.ING_CTX_CTL_KIND n) = 0) && (hevcBytes p).isNone
    let s := if !alloc then s.ingDrop n 4 1 h.ts arr
      else if paci then s.ingDiscard n
      else
        let s := s.inc (F.ING_CTX_PKTS n)
        let loss := if missed then some idle else none
        if (s.ingCtx n).au.isNone && !starts then s.ingDiscard n else s.packItem n p h.seq h.ts arr loss (idle && noGap)
    if h.marker then s.endAu n 0 else s

/-- A TS packet of the context's PID (R46): its payload is an item. `rtp` is the RTP header of KIND 3. -/
def State.ingTs (s : State) (n : Nat) (rtp : Option Rtp) (b : List Byte) (alloc : Bool) (arr : Nat) : State :=
  let k := tsOf b
  match k.payload with
  | none =>
    if k.scrambled then s.ingDiscard n
    else if !alloc then s.ingDrop n 4 1 ((rtp.map Rtp.ts).getD 0) arr
    else s.inc (F.ING_CTX_PKTS n)
  | some p =>
    let was := (s.ingCtx n).lastCc
    if was = some k.cc then s.inc (F.ING_CTX_DROP_ITEMS n)
    else
      let miss := match was with | some q => (k.cc + 15 - q) % 16 | none => 0
      let s := if 0 < miss then s.ingDrop n 3 miss 0 arr else s
      let s := s.setIng n { s.ingCtx n with lastCc := some k.cc }
      let ts := match rtp with | some h => h.ts | none => if k.pusi then pesPts p else 0
      if k.scrambled then s.ingDiscard n
      else
        let s := if k.pusi then s.endAu n 0 else s
        if !alloc then s.ingDrop n 4 1 ts arr
        else
          let s := s.inc (F.ING_CTX_PKTS n)
          if (s.ingCtx n).au.isNone && !k.pusi then s.ingDiscard n
          else s.packItem n p ((rtp.map Rtp.seq).getD 0) ts arr none false

/-- The gap records that wait in the drain order, and the open gap as one more, placed from a linear offset on. -/
def placeGaps (lin : Nat) : List EsRec → List DrainItem
  | [] => []
  | r :: rs => .gap { r with lin := lin } :: placeGaps (lin + 64) rs

/-- R62: the pointer copies of the FIFO disagree. The FIFO_RESET record lies at ESB_WR; gap records that waited, and an open gap,
follow it. A context that is stopping goes on stopping (log entry 94). -/
def State.fifoReset (s : State) (n : Nat) : State :=
  let c := s.ingCtx n
  let gaps := c.order.filterMap (fun d => match d with | .gap r => some r | .bank _ => none) ++
    (c.gap.map (fun g => g.toRec 0)).toList
  let first (b : Bank) := b.ends.head?.map (fun (r : EsRec) => (r.lin, r.ts, r.arr))
  let units := [first c.bankA, first c.bankB, c.au.map (fun a => (a.lin, a.ts, a.arr))].filterMap id
  let oldest := units.foldl (fun (m : Option (Nat × Nat × Nat)) u =>
    match m with | some v => if v.1 ≤ u.1 then some v else some u | none => some u) none
  let open_ := match c.au with | some a => a.pkts | none => 0
  let lost := min ((c.bankA.ends ++ c.bankB.ends).foldl (fun a r => a + r.pkts) open_) (2 ^ 32 - 1)
  let (ts, arr) := match oldest with | some u => u.2 | none => (0, s.tim.now)
  let order := placeGaps c.pub (⟨0, 2, 0, 5, ts, arr, lost % 65536, lost / 65536⟩ :: gaps)
  let s := s.setIng n { c with
    bankA := Bank.init, bankB := Bank.init, fillB := false, order := order, au := none, frag := none, apart := false, gap := none,
    placed := c.pub + 64 * order.length }
  let s := (s.esStall n false).drainGaps n order.length
  let s := ((s.inc (F.ING_CTX_RESETS n)).raiseU 81).faultUnit 16 n
  (if s.get (F.ING_CTX_STAT_STATE n) = 4 then s else s.ingState n 1).countDraining

/-- A stopping context whose banks are drained and whose buffers are returned reaches OFF (R50), and the register
changes that waited for it apply. -/
def State.ingMaybeOff (s : State) (n : Nat) : State :=
  let c := s.ingCtx n
  if s.get (F.ING_CTX_STAT_STATE n) = 4 ∧ c.order.isEmpty ∧ !(s.net.rx.any (fun b => decide (b.owner = n))) then
    let s := (s.ingState n 0).putB (F.ING_CTX_STAT_IDLE n) true
    let s := c.deferred.foldl (fun s e => s.lay e) s
    s.setIng n { c with deferred := [] }
  else s

/-- EN = 1 is applied to an idle context: it leaves OFF with its write offset at 0 (R50, R557). A record that a video layer still
holds keeps its bytes: linear offsets start one buffer size up, so that it lies below them (R57). -/
def State.ingStart (s : State) (n : Nat) : State :=
  let size := s.esSize n
  let s := s.setIng n { IngCtx.init with placed := size, pub := size, released := size }
  let holds := s.cmp.holds.map (fun h =>
    if h.choice.ingest && decide (h.choice.ctx = n) then
      { h with choice := { h.choice with es := h.choice.es.map (fun r => { r with lin := r.lin % (max 1 size) }) } }
    else h)
  let s := { s with cmp := { s.cmp with holds := holds } }
  ((s.ingState n 1).putB (F.ING_CTX_STAT_IDLE n) false).wr (R.ING_CTX_ESB_WR n) 0

/-- EN = 0 is applied: the open access unit is discarded, an open gap is written, and the context stops (R50). -/
def State.ingStop (s : State) (n : Nat) : State :=
  let c := s.ingCtx n
  let b := c.bank c.fillB
  let c := if b.use = .filling then
      { c.setBank c.fillB Bank.init with
        order := c.order.filter (fun d => decide (d ≠ DrainItem.bank c.fillB)) }
    else c
  let at_ := match c.au with | some a => a.lin | none => c.placed
  let s := (s.setIng n { c with au := none, placed := at_ }).ingState n 4
  (s.flushGap n).ingMaybeOff n

/-- R56: the draining bank writes on, as far as the released bytes reach, and stalls where they end before it. The records under
the bytes that it writes are no video layer's choice any more (R57). -/
def State.drainSome (s : State) (n : Nat) (b : Bool) : State :=
  let c := s.ingCtx n
  let k := c.bank b
  let m := min k.bytes.length (s.esReleased n + s.esSize n - k.lin)
  let hi := k.lin + m
  let recs := c.recs.filter (fun q => decide (hi ≤ q.lin + s.esSize n))
  let s := s.setIng n { c.setBank b { k with done := m } with recs := recs }
  let s := s.esWrite n (k.lin + k.done) ((k.bytes.take m).drop k.done)
  let s := if k.done < m then s.esOverwrite n (k.lin + k.done) hi else s
  s.esStall n (decide (m < k.bytes.length))

/-- R59 step 3, R56: the bank at the head of the order begins to drain, or waits where none of its bytes is released. -/
def State.drainStart (s : State) (n : Nat) : State :=
  let c := s.ingCtx n
  match c.order with
  | .bank b :: _ =>
    let k := c.bank b
    if k.use = .draining then s.drainSome n b
    else if k.use ≠ .full then s
    else
      if k.lin < s.esReleased n + s.esSize n ∨ k.bytes = [] then
        ((s.setIng n (c.setBank b { k with use := .draining })).drainSome n b).countDraining
      else s.esStall n true
  | .gap _ :: _ => (s.drainGaps n c.order.length)
  | [] => s

/-- R55: a bank's drain completes; its records are published in order. It goes on waiting where the bytes to write are not all
released (R56). -/
def State.drainDone (s : State) (n : Nat) : State :=
  let c := s.ingCtx n
  match c.order with
  | .bank b :: rest =>
    let k := c.bank b
    if k.use ≠ .draining then s
    else
      let s := s.drainSome n b
      let c := s.ingCtx n
      if (c.bank b).done < k.bytes.length then s
      else
      let s := s.setIng n ({ c with order := rest }.setBank b Bank.init)
      let s := k.ends.foldl (fun s r => s.publish n r) s
      ((s.countDraining).drainGaps n rest.length).ingMaybeOff n
  | _ => s

/-- BANK_DRAINED: the drain completes, or its update of the read pointer finds the copies apart (R62). -/
def State.bankDrained (s : State) (n : Nat) : State :=
  if (s.ingCtx n).apart && decide (s.get (F.ING_CTX_STAT_STATE n) ≠ 0) then (s.fifoReset n).ingMaybeOff n else s.drainDone n

/-- The items of a datagram: TS packets of the context's PID, or the payload of an RTP packet with its padding taken off. The RTP
packet of a TS datagram is taken by R49 before its items, and every RTP packet first by R48 (log entry 94). -/
def State.rxItems (s : State) (n : Nat) (b : RxBuf) (body : List Byte) : List (List Byte) × State :=
  let kind := s.get (F.ING_CTX_CTL_KIND n)
  let mine (p : List Byte) := (tsPackets p).filter (fun q => decide ((tsOf q).pid = s.get (F.ING_CTX_SEL_PID n)))
  if kind = 2 then (mine body, s)
  else
    let h := rtpOf body
    let srtp := s.flag (F.ING_CTX_CTL_SRTP_EN n)
    let r := if srtp && decide (b.pool ≠ 8) then s.srtpAccept n h body else (some (body.drop h.len), s)
    match r with
    | (none, s) => ([], s)
    | (some p, s) =>
      let p := unpad h.pad p
      if kind ≠ 3 then ([p], s)
      else
        let t := s.rtpTake n h b.arr
        if !t.1 then ([], t.2)
        else if srtp && decide (b.pool = 8) then ([], t.2.ingDrop n 4 1 h.ts b.arr)
        else (mine p, t.2)

/-- The buffer of a datagram whose items are done goes back, as pointer `ret` where that is not the buffer's own (R68). -/
def State.rxDone (s : State) (n : Nat) (b : RxBuf) (ret : Option Nat) : State :=
  let s := { s with net := { s.net with rx := s.net.rx.erase b } }
  (if b.pool = 8 then s else s.returnPtr n (ret.getD b.ptr)).ingMaybeOff n

/-- INGEST_ITEM: the next item of the oldest received datagram of context `n` (R44 to R54, R62, R67, R68). `ret` is the pointer
returned with the datagram's last item where it is not its buffer's. The two copies of a pointer of the FIFO come apart `before`
this item's update, which then finds it, or `after` it, for the next update to find (R62). A stopped or stopping context
discards the datagram (R50). -/
def State.ingestItem (s : State) (n : Nat) (ret : Option Nat) (before after : Bool) : State :=
  match s.net.rx.find? (fun b => decide (b.owner = n)) with
  | none => s
  | some b =>
    let st := s.get (F.ING_CTX_STAT_STATE n)
    if st = 0 ∨ st = 4 then s.rxDone n b ret
    else
      let body := if b.pool = 8 then b.body else s.bytes (b.ptr + b.off) b.len
      let r := match b.items with
        | some l => (l, s)
        | none => s.rxItems n b body
      let s := match r.1 with
        | [] => r.2
        | p :: _ =>
          let kind := s.get (F.ING_CTX_CTL_KIND n)
          let alloc := decide (b.pool ≠ 8)
          if kind = 2 then r.2.ingTs n none p alloc b.arr
          else if kind = 3 then r.2.ingTs n (some (rtpOf body)) p alloc b.arr
          else r.2.ingRtp n (rtpOf body) p alloc b.arr
      let s := if before || (s.ingCtx n).apart then s.fifoReset n else s
      let s := s.setIng n { s.ingCtx n with apart := after }
      if r.1.length ≤ 1 then s.rxDone n b ret
      else { s with net := { s.net with rx := { b with items := some (r.1.drop 1) } :: s.net.rx.erase b } }

end Sys2Proof.Machine
end

