-- ==== Sys2Proof/Machine/Admit.lean ====
section
/-! DEFINITION. The admission algorithm of R82 and R83, shared by the decoder and the encoder (R132). -/

namespace Sys2Proof.Machine

/-- A context that asks for a place: its number, PRIO, load in samples/s and bits/s, and whether it may use several engines. -/
structure AdmJob where
  id : Nat
  prio : Nat
  l : Q
  b : Q
  par : Bool
  deriving DecidableEq, Repr

/-- Placed contexts with their engines. -/
abbrev Placed := List (AdmJob × List Nat)

/-- Engines a context needs (R82). -/
def AdmJob.engines (j : AdmJob) : Nat :=
  max 1 (max (j.l.over 512000000).ceil.toNat (j.b.over 800000000).ceil.toNat)

/-- Why a context is not placed: 0 no capacity, 1 needs PAR, 2 too large. -/
abbrev AdmFail := Nat

/-- Samples/s and bits/s of engine `e` not yet assigned. -/
def freeS (pl : Placed) (e : Nat) : Q :=
  pl.foldl (fun a p => if p.2.contains e then a.minus (p.1.l.over p.1.engines) else a) (Q.ofNat 512000000)
def freeB (pl : Placed) (e : Nat) : Q :=
  pl.foldl (fun a p => if p.2.contains e then a.minus (p.1.b.over p.1.engines) else a) (Q.ofNat 800000000)

/-- Sum of the loads of the placed contexts. -/
def Placed.sum (pl : Placed) : Q := pl.foldl (fun a p => a.plus p.1.l) (Q.ofNat 0)

/-- R82 place: best fit on `k` of the engines, least free samples first, then the lower number. -/
def placeOne (cap : Q) (es : List Nat) (pl : Placed) (j : AdmJob) : Except AdmFail Placed :=
  let k := j.engines
  let cand := es.filter (fun e => (j.l.over k).le (freeS pl e) && (j.b.over k).le (freeB pl e))
  let ord := sortBy (fun a b => (freeS pl a).lt (freeS pl b) || (!(freeS pl b).lt (freeS pl a) && decide (a ≤ b))) cand
  if 4 < k then .error 2
  else if 1 < k ∧ !j.par then .error 1
  else if cap.lt (pl.sum.plus j.l) then .error 0
  else if ord.length < k then .error 0
  else .ok (pl ++ [(j, ord.take k)])

/-- Place contexts in order, stopping at the first that fails. -/
def placeAll (cap : Q) (es : List Nat) : Placed → List AdmJob → Except (Nat × AdmFail) Placed
  | pl, [] => .ok pl
  | pl, j :: r =>
    match placeOne cap es pl j with
    | .ok pl' => placeAll cap es pl' r
    | .error f => .error (j.id, f)

/-- Place contexts in order, leaving out those that fail (R82 step 3). -/
def placeSome (cap : Q) (es : List Nat) : Placed → List AdmJob → Placed
  | pl, [] => pl
  | pl, j :: r =>
    match placeOne cap es pl j with
    | .ok pl' => placeSome cap es pl' r
    | .error _ => placeSome cap es pl r

/-- order(): PRIO descending, then context number ascending. -/
def admOrder (js : List AdmJob) : List AdmJob :=
  sortBy (fun a b => decide (b.prio < a.prio) || (decide (a.prio = b.prio) && decide (a.id ≤ b.id))) js

/-- The outcome of an admission run: every context placed, or refused by a COMMIT with the status of the first context
that failed in step 2, or some contexts left without a placement. -/
inductive Admission where
  | placed (pl : Placed)
  | refused (id : Nat) (why : AdmFail)
  | some_ (pl : Placed)
  deriving DecidableEq, Repr

/-- Admission (R82): `cur` gives the engines a context is placed on now. -/
def admission (cap : Q) (es : List Nat) (js : List AdmJob) (cur : Nat → List Nat) (byCommit : Bool) : Admission :=
  let kept := js.filterMap (fun j => if (cur j.id) ≠ [] ∧ (cur j.id).all es.contains then some (j, cur j.id) else none)
  let rest := js.filter (fun j => !(kept.any (fun p => decide (p.1.id = j.id))))
  match placeAll cap es kept (admOrder rest) with
  | .ok pl => .placed pl
  | .error _ =>
    match placeAll cap es [] (admOrder js) with
    | .ok pl => .placed pl
    | .error (i, f) => if byCommit then .refused i f else .some_ (placeSome cap es [] (admOrder js))

/-- A set of engines as a bit mask. -/
def maskOf (es : List Nat) : Nat := es.foldl (fun a e => a + 2 ^ e) 0

/-- Engines that a placement run gives a context. -/
def Placed.of (pl : Placed) (id : Nat) : List Nat :=
  match pl.find? (fun p => decide (p.1.id = id)) with | some p => p.2 | none => []

end Sys2Proof.Machine
end

