-- ==== Sys2Proof/Machine/Dec.lean ====
section
/-! DEFINITION. Decoding and concealment (R74 to R122): the picture store, picture records, admission and placements,
dispatch and completion of pictures, damage and its substitutes, chains, and rewinds. -/

namespace Sys2Proof.Machine

/-! ### The decoded-picture store (R96) -/

/-- The layout of a store of pictures: base, declared size, chroma format, depth. -/
structure Store where
  base : Nat
  wa : Nat
  ha : Nat
  chroma : Nat
  deep : Bool
  deriving DecidableEq, Repr

def Store.rowBytes (t : Store) (samples : Nat) : Nat := if t.deep then ceilDiv samples 12 * 16 else samples
def Store.pl (t : Store) : Nat := roundUp (t.rowBytes t.wa) 256
def Store.pc (t : Store) : Nat :=
  if t.chroma = 0 then 0 else roundUp (t.rowBytes (if t.chroma = 3 then 2 * t.wa else t.wa)) 256
def Store.cRows (t : Store) : Nat := if t.chroma = 0 then 0 else if t.chroma = 1 then t.ha / 2 else t.ha
/-- Bytes of a slot (R96). -/
def Store.slotBytes (t : Store) : Nat := roundUp (t.pl * t.ha + t.pc * t.cRows) 4096

/-- Address of the row of a plane (0 luma, else chroma) of a slot. -/
def Store.row (t : Store) (slot plane y : Nat) : Nat :=
  t.base + slot * t.slotBytes + (if plane = 0 then y * t.pl else t.pl * t.ha + y * t.pc)

/-- Index of a sample in its row: Cb lies before Cr in each pair. -/
def sampleIdx (plane x : Nat) : Nat := if plane = 0 then x else 2 * x + (plane - 1)

/-- Read a sample of a slot. -/
def State.getSample (s : State) (t : Store) (slot plane x y : Nat) : Nat :=
  let i := sampleIdx plane x
  let r := t.row slot plane y
  if t.deep then
    let a := r + i / 12 * 16 + i % 12 * 10 / 8
    ((s.byte a).toNat + (s.byte (a + 1)).toNat * 256) / 2 ^ (i % 12 * 10 % 8) % 1024
  else (s.byte (r + i)).toNat

/-- Write a sample of a slot; the first one of a 16-byte unit clears bits [127:120] of the unit (R96). -/
def State.putSample (s : State) (t : Store) (slot plane x y v : Nat) : State :=
  let i := sampleIdx plane x
  let r := t.row slot plane y
  if t.deep then
    let a := r + i / 12 * 16 + i % 12 * 10 / 8
    let s := if i % 12 = 0 then s.setByte (a + 15) 0 else s
    let w := setBits ((s.byte a).toNat + (s.byte (a + 1)).toNat * 256) (i % 12 * 10 % 8) 10 v
    s.setBytes a (bytesLE 2 w)
  else s.setByte (r + i) (BitVec.ofNat 8 v)

/-- The chroma coordinates' divisors of a chroma format. -/
def chromaX (chroma : Nat) : Nat := if chroma = 3 then 1 else 2
def chromaY (chroma : Nat) : Nat := if chroma = 1 then 2 else 1

/-- Write every sample of a rectangle of a slot, given by luma coordinates, from a function of plane, x and y. The picture has the
chroma format `chroma`, in a store of that format or one above it: R96 places the planes of the store's format only, and the model
keeps the picture's own subsampled coordinates in them (log entry 116). -/
def State.fillRect (s : State) (t : Store) (chroma slot : Nat) (r : Rect) (f : State → Nat → Nat → Nat → Nat) : State :=
  let s := (List.range r.h).foldl (fun s j => (List.range r.w).foldl (fun s i =>
    s.putSample t slot 0 (r.x + i) (r.y + j) (f s 0 (r.x + i) (r.y + j))) s) s
  if chroma = 0 ∨ t.chroma = 0 then s
  else
    let dx := chromaX chroma
    let dy := chromaY chroma
    (List.range (ceilDiv (r.y + r.h) dy - r.y / dy)).foldl (fun s j =>
      (List.range (ceilDiv (r.x + r.w) dx - r.x / dx)).foldl (fun s i =>
        let x := r.x / dx + i
        let y := r.y / dy + j
        (s.putSample t slot 1 x y (f s 1 x y)).putSample t slot 2 x y (f s 2 x y)) s) s

/-- The store of a stream context. -/
def State.decStore (s : State) (n : Nat) : Store :=
  ⟨s.rd (R.DEC_CTX_DPS_HI n) % 16 * 2 ^ 32 + s.rd (R.DEC_CTX_DPS_LO n), roundUp (s.get (F.DEC_CTX_DIM_MAX_W n)) 64,
    roundUp (s.get (F.DEC_CTX_DIM_MAX_H n)) 64, s.get (F.DEC_CTX_FMT_CHROMA n), s.flag (F.DEC_CTX_FMT_DEPTH n)⟩

/-- The record array of a stream context. -/
def State.decRecBase (s : State) (n : Nat) : Nat := s.rd (R.DEC_CTX_REC_HI n) % 16 * 2 ^ 32 + s.rd (R.DEC_CTX_REC_LO n)

/-! ### Loads, admission and placements (R79 to R83, R89, R99, R100) -/

/-- The weight of a chroma format. -/
def chromaWeight (c : Nat) : Q := if c = 2 then ⟨4, 3⟩ else if c = 3 then ⟨2, 1⟩ else ⟨1, 1⟩

/-- The load of a stream context from its declared parameters. -/
def State.decJob (s : State) (n : Nat) : AdmJob :=
  let w := roundUp (s.get (F.DEC_CTX_DIM_MAX_W n)) 64
  let h := roundUp (s.get (F.DEC_CTX_DIM_MAX_H n)) 64
  ⟨n, s.get (F.DEC_CTX_CTL_PRIO n),
    (Q.times ⟨w * h * s.get (F.DEC_CTX_RATE_NUM n), 1⟩ (chromaWeight (s.get (F.DEC_CTX_FMT_CHROMA n)))).over
      (s.get (F.DEC_CTX_RATE_DEN n)),
    Q.ofNat (s.get (F.DEC_CTX_BITRATE n) * 100000), s.flag (F.DEC_CTX_CTL_PAR n)⟩

/-- Stream contexts in RUN, WAIT_RAP or SHED. -/
def State.decLive (s : State) : List Nat :=
  (List.range 256).filter (fun n => 1 ≤ s.get (F.DEC_CTX_STAT_STATE n) ∧ s.get (F.DEC_CTX_STAT_STATE n) ≤ 3)

/-- The contexts of an admission run (R83): those that run, and with an engine that returned those that are shed. -/
def State.decSet (s : State) (shed : Bool) : List Nat :=
  s.decLive.filter (fun n => shed || decide (s.get (F.DEC_CTX_STAT_STATE n) ≠ 3))

/-- Does a picture of the context run on engines? One that has to run again keeps no engines while it waits (R90 step 2), and a
poisoned one (attempt 4) was aborted on all of them. -/
def DecCtx.onEngines (c : DecCtx) : Bool :=
  match c.run with | some r => !r.engines.isEmpty && decide (r.attempt ≠ 4) | none => false

/-- Decode engines in service. -/
def State.decEngines (s : State) : List Nat := (List.range 16).filter (fun e => s.flag (F.DEC_ENG_STAT_IN_SERVICE e))

/-- The engines a context's next picture will use: the planned placement, or the one in force. -/
def State.decPlan (s : State) (n : Nat) : List Nat :=
  match (s.decCtx n).planned with
  | some m => setBitsOf 16 m
  | none => setBitsOf 16 (s.get (F.DEC_CTX_ENGS n))

/-- The next epoch of a context: one up, past the values under which an engine still holds a part of it (R89, R91). -/
def State.decNextEpoch (s : State) (n : Nat) : Nat :=
  let held := ((List.range 16).filter (fun e => s.flag (F.DEC_ENG_STAT_BUSY e) && decide (s.get (F.DEC_ENG_STAT_CTX e) = n))).map
    (fun e => s.get (F.DEC_ENG_STAT_EPOCH e))
  let now := s.get (F.DEC_CTX_STAT_EPOCH n)
  ((List.range 17).map (fun k => (now + 1 + k) % 256)).find? (fun x => !held.contains x) |>.getD 0

/-- A new placement takes effect (R89). -/
def State.decPlace (s : State) (n mask : Nat) : State :=
  let was := s.get (F.DEC_CTX_ENGS n)
  let s := s.setDec n { s.decCtx n with planned := none, placed := true }
  let s := (s.put (F.DEC_CTX_ENGS n) mask).put (F.DEC_CTX_STAT_NENG n) (setBitsOf 16 mask).length
  let s := s.put (F.DEC_CTX_STAT_EPOCH n) (s.decNextEpoch n)
  if was = 0 then s else (s.inc (F.DEC_CTX_MIGRATIONS n)).raiseU 100

/-- Take a placement now, or after the picture in progress (R89). -/
def State.decAssign (s : State) (n : Nat) (es : List Nat) : State :=
  let mask := maskOf es
  if maskOf (s.decPlan n) = mask then s
  else if (s.decCtx n).onEngines then
    s.setDec n { s.decCtx n with planned := if s.get (F.DEC_CTX_ENGS n) = mask then none else some mask }
  else s.decPlace n mask

/-- Bring the load registers up to date (R102). -/
def State.decLoads (s : State) : State :=
  let pl : Placed := s.decLive.filterMap (fun n => if s.decPlan n = [] then none else some (s.decJob n, s.decPlan n))
  let mega := fun (q : Q) => (q.over 1000000).ceil.toNat
  let s := (List.range 16).foldl (fun s e =>
    (s.put (F.DEC_ENG_LOAD_SAMPLES e) (mega ((Q.ofNat 512000000).minus (freeS pl e)))).put (F.DEC_ENG_LOAD_BITS e)
      (mega ((Q.ofNat 800000000).minus (freeB pl e)))) s
  let s := s.decLive.foldl (fun s n => s.put (F.DEC_CTX_LOAD n) (mega (s.decJob n).l)) s
  let s := (s.put F.DEC_GLB_ADMIT_LOAD (mega pl.sum)).put F.DEC_GLB_ADMIT_ENGINES s.decEngines.length
  s.put F.DEC_GLB_SHED (s.decLive.filter (fun n => s.get (F.DEC_CTX_STAT_STATE n) = 3)).length

/-- Engines stop running a picture of context `n`. -/
def State.decIdleEngines (s : State) (n : Nat) (es : List Nat) : State :=
  es.foldl (fun s e => if s.flag (F.DEC_ENG_STAT_BUSY e) && decide (s.get (F.DEC_ENG_STAT_CTX e) = n) then
    s.putB (F.DEC_ENG_STAT_BUSY e) false else s) s

/-- The picture of a context is discarded with the record that holds it; so is the replay that it is a part of, or that it waits
for. -/
def State.decDiscard (s : State) (n : Nat) : State :=
  let c := s.decCtx n
  match c.run with
  | none => s
  | some r =>
    let s := (s.setDec n { c with run := none, replay := [], failing := none, owed := [] }).decIdleEngines n r.engines
    let s := s.putB (F.DEC_CTX_CONC_STAT_REWINDING n) false
    if r.gone then s else s.decRelease n

/-- A context is shed (R99). A picture that runs completes if its engines are still in service, also one that a rewind decodes again;
nothing of the context follows it on an engine. -/
def State.decShed (s : State) (n : Nat) : State :=
  if s.get (F.DEC_CTX_STAT_STATE n) = 3 then s
  else
    let s := s.put (F.DEC_CTX_STAT_STATE n) 3
    let s := ((s.put (F.DEC_CTX_ENGS n) 0).put (F.DEC_CTX_STAT_NENG n) 0).raiseU 98
    let s := s.faultU 35
    let c := s.decCtx n
    let s := match c.run with
      | some r =>
        if c.onEngines && r.engines.all (fun e => s.flag (F.DEC_ENG_STAT_IN_SERVICE e)) then s else s.decDiscard n
      | none => s
    (s.setDec n { s.decCtx n with planned := none }).decFlushAll n

/-- A shed context is placed again (R100): no picture of before serves as a reference, that which still runs included. Pictures that
still wait for output are dropped with their records, for which R100 gives no rule (log entry 116). -/
def State.decReadmit (s : State) (n : Nat) : State :=
  let c := s.decCtx n
  let s := s.setDec n { c with pics := c.pics.map (fun p => { p with isRef := false, current := false, waiting := none }),
                               run := c.run.map (fun r => { r with old := true }), av1Slots := [], past := [] }
  (s.put (F.DEC_CTX_STAT_STATE n) 1).raiseU 99

/-- Apply the outcome of an admission run (R83, R89, R99, R100), from which PRIO counts as it took it (R80). -/
def State.decApply (s : State) (js : List AdmJob) (a : Admission) : State :=
  let s := js.foldl (fun (s : State) j => s.setDec j.id { s.decCtx j.id with prio := j.prio }) s
  match a with
  | .refused _ _ => s
  | .placed pl => (js.foldl (fun s j =>
      let s := if s.get (F.DEC_CTX_STAT_STATE j.id) = 3 then s.decReadmit j.id else s
      s.decAssign j.id (pl.of j.id)) s).decLoads
  | .some_ pl => (js.foldl (fun s j =>
      if pl.of j.id = [] then s.decShed j.id
      else
        let s := if s.get (F.DEC_CTX_STAT_STATE j.id) = 3 then s.decReadmit j.id else s
        s.decAssign j.id (pl.of j.id)) s).decLoads

/-- An admission run that no COMMIT started (R83), of the shed contexts too when an engine returns; `drop` names a context whose
placement does not stand (R90 step 2). -/
def State.decAdmit (s : State) (shed : Bool) (drop : Option Nat) : State :=
  let js := (s.decSet shed).map (fun n => s.decJob n)
  let cap := Q.ofNat (s.get F.DEC_GLB_CAP_SAMPLES * 1000000)
  s.decApply js (admission cap s.decEngines js (fun n => if drop = some n then [] else s.decPlan n) false)

/-- Is an engine one that a COMMIT or a fault retires, so that it takes no further picture (R92, R438)? -/
def State.decRetiring (s : State) (e : Nat) : Bool := s.flag (F.DEC_ENG_CTL_RETIRE e) || s.flag (F.DEC_ENG_STAT_RETIRED_FAULT e)

/-- Engines that a COMMIT or a fault retired leave service once they run no picture (R92, R438). -/
def State.decDue (s : State) : List Nat :=
  s.decEngines.filter (fun e => s.decRetiring e && !s.flag (F.DEC_ENG_STAT_BUSY e) &&
    !(s.dec.ctx.any (fun p => p.2.onEngines && (match p.2.run with | some r => r.engines.contains e | none => false))))

def State.decLeave (s : State) : State := s.decDue.foldl (fun s e => s.putB (F.DEC_ENG_STAT_IN_SERVICE e) false) s

/-- Retired engines leave service, and admission runs once for them. -/
def State.decRetires (s : State) : State := if s.decDue.isEmpty then s else s.decLeave.decAdmit false none

/-! ### Deadlines and work times (R87, R93) -/

/-- The time of a 32-bit count of 90 kHz ticks from the PTP epoch, with the wrap that puts it nearest to `near`
(R93, R166). -/
def ticksNear (ts near : Nat) : Nat :=
  let a : Int := near * 90000 / Config.sec
  let k : Int := (a - ts + 2147483648) / 4294967296
  ((ts + k * 4294967296).toNat) * Config.sec / 90000

/-- DEADLINE of a record of context `n` (R93). -/
def State.decDeadline (s : State) (n : Nat) (r : EsRec) : Nat :=
  let t := if s.flag (F.DEC_CTX_CTL_DL_MODE n) then ticksNear (r.ts % 2 ^ 32) r.arr else r.arr
  t + s.get (F.DEC_CTX_LATENCY n) * Config.us

/-- Work time in units, exact, on `k` engines (R87): coded size, chroma weight, bits. -/
def workTime (w h chroma bits k : Nat) : Q :=
  let c := (Q.times ⟨roundUp w 64 * roundUp h 64 * Config.sec, 1⟩ (chromaWeight chroma)).over (k * 512000000)
  Q.max c ((Q.ofNat (bits * Config.sec)).over (k * 800000000))

/-- Parallel units of a picture. -/
def partUnits : PicParts → Nat
  | .rows n => n
  | .tiles l => l.length

/-- The engines that a picture runs on, of those of a placement (R86). -/
def picEngines (p : Pic) (place : List Nat) : List Nat := place.take (max 1 (partUnits p.parts))

/-- Work time of a run: the coded picture with its own chroma format, on the engines it runs on or, while it waits for engines, will
run on, of the placement `place`; a whole-picture substitution has no bits (R108). -/
def DecRun.work (r : DecRun) (place : List Nat) : Q :=
  let es := if r.engines.isEmpty then picEngines r.pic place else r.engines
  workTime r.pic.coded r.pic.height r.chroma (if r.whole then 0 else r.rec_.len * 8) (max 1 es.length)

/-! ### Substitutes (R104 to R107) -/

/-- Signed distance from `b` to `a`: by the AV1 wrap rule of `bits` bits, or plain. -/
def posDist (bits : Nat) (a b : Int) : Int :=
  if bits = 0 then a - b
  else
    let m : Int := 2 ^ bits
    let d := (a - b) % m
    if d < m / 2 then d else d - m

/-- The candidates of R104 for picture `p` in store slot `slot`: the pictures of its coded video sequence, or since the last key
frame, that are in the store and can be read. One that starts a sequence has none. -/
def DecCtx.candidates (c : DecCtx) (p : Pic) (slot : Nat) : List DecPic :=
  if p.newSeq then [] else c.pics.filter (fun q => q.current && !q.unreadable && decide (q.slot ≠ slot))

/-- The substitute for a target position (R104): the nearest candidate, of two equally near the earlier; none: MID_GREY. -/
def substitute (pics : List DecPic) (bits : Nat) (target : Int) : Option DecPic :=
  pics.foldl (fun best p =>
    match best with
    | none => some p
    | some b =>
      let dp := (posDist bits p.pos target).natAbs
      let db := (posDist bits b.pos target).natAbs
      if dp < db ∨ (dp = db ∧ posDist bits p.pos b.pos < 0) then some p else some b) none

/-- MID_GREY at the store's depth (R105). -/
def midGrey (t : Store) : Nat := if t.deep then 512 else 128

/-- Fill a rectangle of a slot from a substitute, or with mid-grey when there is none or its size differs (R106). -/
def State.fillFrom (s : State) (t : Store) (chroma slot : Nat) (r : Rect) (p : Option DecPic) (w h : Nat) : State :=
  match p with
  | some q =>
    if q.width = w ∧ q.height = h then s.fillRect t chroma slot r (fun s pl x y => s.getSample t q.slot pl x y)
    else s.fillRect t chroma slot r (fun _ _ _ _ => midGrey t)
  | none => s.fillRect t chroma slot r (fun _ _ _ _ => midGrey t)

/-! ### Picture records (R98) -/

/-- CAUSE bits of R98. -/
def causeGap : Nat := 1
def causeLost : Nat := 2
def causeRef : Nat := 4
def causeSyntax : Nat := 8
def causeInherited : Nat := 16
def causeMark : Nat := 32
def causeRejected : Nat := 64

/-- Bits of a Bool. -/
def bit (b : Bool) (k : Nat) : Nat := if b then 2 ^ k else 0

/-- A picture record (R98). -/
def pictureRecord (picNum outNum slot epoch flags cause format : Nat) (p : Pic) (ts done dl esOff : Nat) : List Byte :=
  bytesLE 4 picNum ++ bytesLE 4 outNum ++ bytesLE 1 slot ++ bytesLE 1 epoch ++ bytesLE 2 flags ++ bytesLE 2 cause ++
    bytesLE 2 format ++ bytesLE 2 p.outW ++ bytesLE 2 p.outH ++ bytesLE 2 p.cropX ++ bytesLE 2 p.cropY ++
    bytesLE 1 p.primaries ++ bytesLE 1 p.transfer ++ bytesLE 1 p.matrix ++ bytesLE 1 (bit p.fullRange 0) ++
    bytesLE 8 ts ++ timeLE done ++ timeLE dl ++ bytesLE 4 esOff

/-- A field of a record. -/
def recField (r : List Byte) (off n : Nat) : Nat := ofBytesLE (slice r off n)

/-- A record is published (R98): written at its index with the next OUT_NUM, named by LAST_OUT, counted, and offered to
the encode contexts that tap the stream context (R123). CONC_AREA shows the area of the newest concealed one (R107). -/
def State.decPublish (s : State) (n : Nat) (rec_ : OutRec) : State :=
  let c := s.decCtx n
  let out := c.nextOut % 2 ^ 32
  let r := rec_.bytes.take 4 ++ bytesLE 4 out ++ rec_.bytes.drop 8
  let flags := recField r 10 2
  let cause := recField r 12 2
  let idx := out % 2 ^ s.get (F.DEC_CTX_FMT_REC_LOG2 n)
  let s := s.setBytes (s.decRecBase n + idx * 64) r
  let s := s.wr (R.DEC_CTX_LAST_OUT n) (out % 2 ^ 24 + recField r 8 1 % 32 * 2 ^ 24 + 2 ^ 31)
  let conc := flags.testBit 2
  let s := s.setDec n { c with
    nextOut := c.nextOut + 1
    lastClean := if flags.testBit 0 && !conc then some r else c.lastClean
    dirtySinceMark := c.dirtySinceMark || conc }
  let s := if conc then
      ((s.inc (F.DEC_CTX_CONCEALED n)).put (F.DEC_CTX_CONC_STAT_LAST_CAUSE n) cause).put (F.DEC_CTX_CONC_AREA n)
        (ceilDiv rec_.area 4096)
    else s
  let cnt := fun (s : State) (f : Fld) (k : Nat) => if cause.testBit k then s.inc f else s
  let s := cnt s (F.DEC_CTX_CNT_GAP n) 0
  let s := cnt s (F.DEC_CTX_CNT_LOST_DATA n) 1
  let s := cnt s (F.DEC_CTX_CNT_MISSING_REF n) 2
  let s := cnt s (F.DEC_CTX_CNT_SYNTAX n) 3
  let s := cnt s (F.DEC_CTX_CNT_INHERITED n) 4
  let s := cnt s (F.DEC_CTX_CNT_MARK_LOST n) 5
  let s := cnt s (F.DEC_CTX_CNT_SEQ_REJECTED n) 6
  let done := mkTime (recField r 42 6) (recField r 38 4) (recField r 36 2)
  (List.range 64).foldl (fun s e =>
    if s.get (F.ENC_CTX_STAT_STATE e) ∈ [1, 2] ∧ s.get (F.ENC_CTX_SRC_KIND e) = 1 ∧ s.get (F.ENC_CTX_SRC_INDEX e) = n then
      s.encOffer e { ts := recField r 28 4, time := done, concealed := conc, damaged := false, rec_ := none, slot := recField r 8 1,
                     record := r, buf := none, conf := [] }
    else s) s

/-- Store slots that canvas pipes or encoder copies hold (R97, R126, R167). -/
def State.decHeld (s : State) (n : Nat) : List Nat :=
  (s.cmp.holds.filterMap (fun h => if !h.choice.ingest && decide (h.choice.ctx = n) then some h.choice.slot else none)) ++
  ((List.range 64).filterMap (fun e =>
    if s.get (F.ENC_CTX_SRC_KIND e) = 1 ∧ s.get (F.ENC_CTX_SRC_INDEX e) = n then
      ((s.encCtx e).filling.map (fun p => p.slot)) else none))

/-- The lowest slot free for a new picture (R97; log entry 16). -/
def State.decFreeSlot (s : State) (n : Nat) : Option Nat :=
  let c := s.decCtx n
  let held := s.decHeld n
  (List.range (s.get (F.DEC_CTX_FMT_SLOTS n))).find? (fun k =>
    !held.contains k && !(c.pics.any (fun p => decide (p.slot = k) && (p.isRef || p.waiting.isSome))) &&
    !(match c.run with | some r => decide (r.slot = k) | none => false))

/-! ### Sequence checks (R74 to R77, R112, R113) -/

/-- Is a picture above the limits of size of its context (R75, R77)? -/
def State.picTooLarge (s : State) (n : Nat) (p : Pic) : Bool :=
  decide (8192 < p.width ∨ 4352 < p.height ∨ s.get (F.DEC_CTX_DIM_MAX_W n) < p.width ∨ s.get (F.DEC_CTX_DIM_MAX_H n) < p.height)

/-- Does the declared profile's row of R74 allow the sequence's chroma format and bit depth? -/
def seqFits (q : Sequence) (av1 : Bool) : Bool :=
  let chroma := if av1 then
      (if q.profile = 0 then [0, 1] else if q.profile = 1 then [0, 1, 3] else [])
    else if q.profile = 0 then [1]
    else if q.profile = 1 then [0, 1]
    else if q.profile = 2 then [0, 1, 2]
    else if q.profile = 3 then [0, 1, 2, 3] else []
  let depth := if !av1 && decide (q.profile = 0) then [8] else [8, 10]
  chroma.contains q.chroma && depth.contains q.depth

/-- The reason a sequence is rejected, 0 when it passes: the lowest value of R113 whose check fails, since R113 does not say which
stands when several do (log entry 116). The size counts where the picture that comes with it is decoded (`sized`). -/
def State.seqReject (s : State) (n : Nat) (q : Sequence) (p : Pic) (sized : Bool) : Nat :=
  let av1 := s.flag (F.DEC_CTX_CTL_CODEC n)
  if !seqFits q av1 then 1
  else if q.badTool then 2
  else if sized && s.picTooLarge n p then 3
  else if s.get (F.DEC_CTX_FMT_CHROMA n) < q.chroma ∨ (8 < q.depth ∧ !s.flag (F.DEC_CTX_FMT_DEPTH n)) then 4
  else if s.get (F.DEC_CTX_FMT_SLOTS n) - 3 < (if av1 then 8 else q.dpb) then 5
  else if (if av1 then 61 else 62) < q.level then 6
  else 0

/-- Is an AV1 picture outside the operating point DEC_CTX_CTL.OP, so that its OBUs are discarded (R76)? Where the sequence header has
no such point, which R76 leaves open, no layer is (log entry 116). -/
def State.outsideOp (s : State) (n : Nat) (q : Option Sequence) (p : Pic) : Bool :=
  let idc := match q with | some q => q.ops.getD (s.get (F.DEC_CTX_CTL_OP n)) 0 | none => 0
  s.flag (F.DEC_CTX_CTL_CODEC n) && decide (idc ≠ 0) && !(idc.testBit p.temporal && idc.testBit (8 + p.spatial))

/-! ### The forecast (R93, R94) -/

/-- The pace ratio of R93: PI, the pace over the reference of the slowest monitor (R447). -/
def State.paceRatio (s : State) : Q := Q.frac (s.get F.GLB_PACE_PS_PACE) (s.get F.GLB_PACE_PS_REF)

/-- Remaining work of a run, in units of time at the rating point: never below 0, and all of it while it waits for engines. -/
def State.runLeft (s : State) (r : DecRun) (place : List Nat) : Q :=
  if r.engines.isEmpty then r.work place else Q.max (Q.ofNat 0) ((r.work place).minus (Q.ofNat (s.tim.elapsed - r.startAt)))

/-- Work of a waiting record: the declared size, on the whole placement (log entry 17). -/
def State.decWaitWork (s : State) (n : Nat) (r : EsRec) : Q :=
  workTime (s.get (F.DEC_CTX_DIM_MAX_W n)) (s.get (F.DEC_CTX_DIM_MAX_H n)) (s.get (F.DEC_CTX_FMT_CHROMA n)) (r.len * 8)
    (max 1 (s.get (F.DEC_CTX_STAT_NENG n)))

/-- Saturated signed nanoseconds of a rational number of units. -/
def slackNs (q : Q) : Nat := sat32 ((q.over Config.ns).num.tdiv ((q.over Config.ns).den : Int))

/-- A picture or a part of a replay as the forecast sees it: its context, its engines, its remaining work, and the DEADLINE and PRIO
of a picture. `runs` holds while it is on its engines. -/
structure Forecast where
  ctx : Nat
  engines : List Nat
  work : Q
  deadline : Option Nat
  prio : Nat
  runs : Bool
  deriving DecidableEq, Repr

/-- What a context has running and waiting, in its own order. -/
def State.decWork (s : State) (n : Nat) : List Forecast :=
  let c := s.decCtx n
  let es := setBitsOf 16 (s.get (F.DEC_CTX_ENGS n))
  let prio := c.prio
  let ofRun (r : DecRun) : Forecast :=
    ⟨n, if r.engines.isEmpty then es else r.engines, s.runLeft r es, if r.replay then none else some r.deadline, prio, !r.engines.isEmpty⟩
  let again := (c.replay.drop 1).map (fun q =>
    (⟨n, es, workTime q.pic.coded q.pic.height q.chroma (q.rec_.len * 8) (max 1 (picEngines q.pic es).length), none, prio, false⟩ : Forecast))
  let failing := (c.failing.map (fun r => ofRun { r with engines := [] })).toList
  let held := match c.run with | some r => !r.gone | none => false
  let wait := if es.isEmpty then [] else
    ((if held then c.recs.drop 1 else c.recs).filter (fun r => decide (r.kind = 1))).map (fun r =>
      (⟨n, es, s.decWaitWork n r, some (s.decDeadline n r), prio, false⟩ : Forecast))
  (c.run.map ofRun).toList ++ again ++ failing ++ wait

/-- Does a picture of another context come before picture `p` on an engine (R85): it runs, or `p` waits and it has the earlier
DEADLINE, the higher PRIO, the lower number? -/
def Forecast.before (q p : Forecast) : Bool :=
  q.runs || (match q.deadline, p.deadline with
    | some a, some b => decide (a < b) || (decide (a = b) && (decide (p.prio < q.prio) || (decide (p.prio = q.prio) && decide (q.ctx < p.ctx))))
    | _, _ => true)

/-- The slack of the pictures of a context in its order: after the work of the pictures before each on the busiest engine of its
placement (R93). `own` is the work of the context before the pictures in the list. -/
def State.decSlacks (s : State) (all : List Forecast) (own : Q) : List Forecast → List Q
  | [] => []
  | p :: r =>
    let rest := s.decSlacks all (own.plus p.work) r
    match p.deadline with
    | none => rest
    | some dl =>
      let on (e : Nat) : Q := all.foldl (fun (a : Q) q =>
        if q.ctx ≠ p.ctx ∧ q.engines.contains e ∧ q.before p then a.plus q.work else a) own
      let ahead := if p.runs then Q.ofNat 0 else p.engines.foldl (fun (a : Q) e => Q.max a (on e)) own
      ((Q.ofNat dl).minus ((Q.ofNat s.tim.now).plus (Q.times (ahead.plus p.work) s.paceRatio))) :: rest

/-- The least of some slacks as signed nanoseconds; the largest value where there is none. -/
def leastSlack (l : List Q) : Nat :=
  match l with
  | [] => 0x7FFFFFFF
  | q :: r => slackNs (r.foldl Q.min q)

/-- R94: refresh the forecast; event 101 when the least slack falls below the margin. -/
def State.decForecast (s : State) : State :=
  let work := s.dec.ctx.map (fun p => (p.1, s.decWork p.1))
  let all := work.flatMap (fun p => p.2)
  let per := work.map (fun p => (p.1, s.decSlacks all (Q.ofNat 0) p.2))
  let s := per.foldl (fun s p => s.wr (R.DEC_CTX_SLACK p.1) (leastSlack p.2)) s
  let g := leastSlack (per.flatMap (fun p => p.2))
  let s := s.wr R.DEC_GLB_SLACK g
  let risk := decide (signed 32 g < (s.get F.DEC_GLB_MARGIN * 1000 : Nat))
  let was := s.dec.riskRaised
  let s := { s with dec := { s.dec with riskRaised := risk } }
  let s := if risk && !was then s.raiseU 101 else s
  s.setCond 101 s.unstated risk

/-! ### Chains (R109 to R111) -/

/-- A picture with these CAUSE bits goes out concealed: a chain opens or grows. -/
def State.chainPic (s : State) (n : Nat) : State :=
  if s.flag (F.DEC_CTX_CONC_STAT_CHAIN n) then s.inc (F.DEC_CTX_CHAIN_LEN n)
  else ((s.putB (F.DEC_CTX_CONC_STAT_CHAIN n) true).put (F.DEC_CTX_CHAIN_LEN n) 1).raiseU 112

/-- A clean random access point ends the chain; the RASL pictures of a CRA that ends one are discarded (R111). -/
def State.chainEnd (s : State) (n : Nat) (cra : Bool) : State :=
  let c := s.decCtx n
  let drop := c.dropRasl || (cra && s.flag (F.DEC_CTX_CONC_STAT_CHAIN n))
  let s := s.setDec n { c with markLost := false, av1Unknown := false, dropRasl := drop }
  if s.flag (F.DEC_CTX_CONC_STAT_CHAIN n) then (s.putB (F.DEC_CTX_CONC_STAT_CHAIN n) false).raiseU 113 else s

/-! ### Reference handling -/

/-- The picture a reference names, when it is there (R103): by position in HEVC, by AV1 reference slot. -/
def DecCtx.refPic (c : DecCtx) (av1 : Bool) (r : RefUse) : Option DecPic :=
  if av1 then
    match SMap.get (fun _ => none) c.av1Slots r.slot with
    | some num => c.pics.find? (fun p => p.isRef && decide (p.picNum = num))
    | none => none
  else c.pics.find? (fun p => p.isRef && decide (r.pos = some p.pos))

/-- Is a reference missing: not there, released by R97, or unreadable (R103, R117)? -/
def DecCtx.refMissing (c : DecCtx) (av1 : Bool) (r : RefUse) : Bool :=
  match c.refPic av1 r with
  | some q => q.unreadable
  | none => true

/-- The pictures a picture predicts from, with substitutes for missing ones; none stands for MID_GREY (R103 to R105). -/
def DecCtx.refsOf (c : DecCtx) (av1 : Bool) (p : Pic) (slot : Nat) (cur : Int) : List (Option DecPic) :=
  p.refs.map (fun u =>
    if c.refMissing av1 u then substitute (c.candidates p slot) p.hintBits (u.pos.getD cur) else c.refPic av1 u)

/-- The pictures stay reference as the new picture's marking says, and with it, where it `counts` as one, at most `limit` in all
(R97). -/
def DecCtx.mark (c : DecCtx) (av1 counts : Bool) (p : Pic) (limit : Nat) : DecCtx :=
  let pics := c.pics.map (fun q =>
    if p.newSeq then { q with isRef := false, current := false }
    else if av1 then { q with isRef := q.isRef && c.av1Slots.any (fun e => decide (e.2 = some q.picNum)) }
    else { q with isRef := q.isRef && p.keep.contains q.pos })
  let refs := pics.filter (fun q => q.isRef)
  let surplus := refs.length + (if counts then 1 else 0) - limit
  let drop := ((sortBy (fun a b => decide (a.picNum ≤ b.picNum)) refs).take surplus).map (fun q => q.picNum)
  { c with pics := pics.map (fun q => if drop.contains q.picNum then { q with isRef := false } else q) }

/-- AV1 reference slots after a frame that refreshes some of them. -/
def DecCtx.refreshSlots (c : DecCtx) (p : Pic) (picNum : Nat) (pos : Int) : DecCtx :=
  let base := if p.newSeq then [] else c.av1Slots
  { c with
    av1Slots := p.refresh.foldl (fun m i => SMap.set (fun _ => none) m i (some picNum)) base
    av1Last := p.refresh.foldl (fun m i => SMap.set (fun _ => none) m i (some pos)) c.av1Last }

/-! ### Output order -/

/-- Output waiting pictures in ascending position until at most `k` wait. -/
def State.decBump (s : State) (n k : Nat) : Nat → State
  | 0 => s
  | f + 1 =>
    let c := s.decCtx n
    let ws := c.pics.filter (fun p => p.waiting.isSome)
    if ws.length ≤ k then s
    else
      match sortBy (fun a b => decide (a.pos ≤ b.pos)) ws with
      | [] => s
      | p :: _ =>
        match p.waiting with
        | none => s
        | some r =>
          let s := s.setDec n { c with
            pics := c.pics.map (fun q => if q.picNum = p.picNum then { q with waiting := none } else q)
            lastPos := some p.pos }
          (s.decPublish n r).decBump n k f

/-! ### Dispatch (R84 to R88) -/

/-- The next record with a picture that a context waits to dispatch. -/
def State.decNext (s : State) (n : Nat) : Option EsRec := ((s.decCtx n).recs.find? (fun r => decide (r.kind = 1)))

/-- DEADLINE of what a context waits to run: a picture that runs again, or the next one. -/
def State.decNextDl (s : State) (n : Nat) : Option Nat :=
  match (s.decCtx n).run with
  | some r => some r.deadline
  | none => (s.decNext n).map (fun r => s.decDeadline n r)

/-- Is context `n` waiting for its engines with a picture that could go now? One dispatched before goes on in WAIT_RAP too, where a
restart of the source has put the context (R557). -/
def State.decWaiting (s : State) (n : Nat) : Bool :=
  let st := s.get (F.DEC_CTX_STAT_STATE n)
  decide (s.get (F.DEC_CTX_ENGS n) ≠ 0) &&
    (match (s.decCtx n).run with
     | some r => decide (st = 1 ∨ st = 2) && r.engines.isEmpty
     | none => decide (st = 2) && (s.decNext n).isSome && (s.decFreeSlot n).isSome)

/-- Are the engines of the placement free of other pictures, and none of them retired (R84, R92)? -/
def State.decEnginesFree (s : State) (n : Nat) : Bool :=
  (setBitsOf 16 (s.get (F.DEC_CTX_ENGS n))).all (fun e =>
    !s.flag (F.DEC_ENG_STAT_BUSY e) && s.flag (F.DEC_ENG_STAT_IN_SERVICE e) && !s.decRetiring e)

/-- R85: does context `m` come before context `n` on an engine both wait for? -/
def State.decBefore (s : State) (m n : Nat) : Bool :=
  match s.decNextDl m, s.decNextDl n with
  | some da, some db =>
    let pa := (s.decCtx m).prio
    let pb := (s.decCtx n).prio
    decide (da < db) || (decide (da = db) && (decide (pb < pa) || (decide (pa = pb) && decide (m < n))))
  | _, _ => false

/-- May context `n` dispatch now (R84, R85)? Only contexts whose engines are all free compete: R85 does not say whether a free engine
is kept for the picture of a context whose other engines are busy, and the model does not keep it (log entry 116). -/
def State.decMayDispatch (s : State) (n : Nat) : Bool :=
  s.decWaiting n && s.decEnginesFree n &&
    (List.range 256).all (fun m => decide (m = n) || !s.decWaiting m || !s.decEnginesFree m ||
      decide (s.get (F.DEC_CTX_ENGS m) &&& s.get (F.DEC_CTX_ENGS n) = 0) || !s.decBefore m n)

/-- Gap records at the head of the queue are met in ES order (R103, R110). -/
def State.decMeetGaps (s : State) (n : Nat) : Nat → State
  | 0 => s
  | k + 1 =>
    match (s.decCtx n).recs with
    | r :: _ =>
      if r.kind = 2 then
        let c := s.decCtx n
        let s := s.setDec n { c with gapPending := true, av1Unknown := c.av1Unknown || s.flag (F.DEC_CTX_CTL_CODEC n) }
        (s.decRelease n).decMeetGaps n k
      else s
    | [] => s

/-- A picture of the record at the head is done with: the record is released with its last one (R81). -/
def State.decNextPart (s : State) (n : Nat) (more : Bool) : State :=
  if more then s.setDec n { s.decCtx n with part := (s.decCtx n).part + 1 } else s.decRelease n

/-- One more tile `i` of `size` for the engine with the least so far, of equal ones the lower. -/
def giveTile (shares : List (Nat × List Nat)) (i size : Nat) : List (Nat × List Nat) :=
  let least := shares.foldl (fun m x => min m x.1) (match shares with | x :: _ => x.1 | [] => 0)
  let at_ := shares.findIdx (fun x => decide (x.1 = least))
  (List.range shares.length).map (fun k =>
    let x := shares.getD k (0, [])
    if k = at_ then (x.1 + size, x.2 ++ [i]) else x)

/-- What each of `k` engines gets of a picture, in ascending engine number (R86): CTU rows modulo `k`, or tiles in tile-scan order
to the engine with the fewest CTUs or superblocks. -/
def partShares (k : Nat) : PicParts → List (List Nat)
  | .rows n => (List.range k).map (fun e => (List.range n).filter (fun r => decide (r % k = e)))
  | .tiles l => (((List.range l.length).foldl (fun sh i => giveTile sh i (l.getD i 0)) (List.replicate k (0, []))).map
      (fun x => x.2))

/-- A run on the placement of its context: as many engines as the picture has units, each with its share (R86). -/
def State.decOn (s : State) (n : Nat) (r : DecRun) : DecRun :=
  let place := setBitsOf 16 (s.get (F.DEC_CTX_ENGS n))
  let es := picEngines r.pic place
  { r with engines := es, owing := es, shares := partShares es.length r.pic.parts, short := decide (es.length < place.length),
           epoch := s.get (F.DEC_CTX_STAT_EPOCH n), startAt := s.tim.elapsed }

/-- Start a run of a picture on its engines (R86), and refresh the forecast, as at every dispatch (R94). -/
def State.decStartRun (s : State) (n : Nat) (r : DecRun) : State :=
  let s := s.setDec n { s.decCtx n with run := some r }
  (r.engines.foldl (fun s e =>
    ((s.putB (F.DEC_ENG_STAT_BUSY e) true).put (F.DEC_ENG_STAT_CTX e) n).put (F.DEC_ENG_STAT_EPOCH e) r.epoch) s).decForecast

/-- A stopping context with nothing on engines and no slot held reaches OFF, and the register changes that waited
apply. -/
def State.decMaybeOff (s : State) (n : Nat) : State :=
  let c := s.decCtx n
  if s.get (F.DEC_CTX_STAT_STATE n) = 4 ∧ c.run.isNone ∧ s.decHeld n = [] then
    let s := (s.put (F.DEC_CTX_STAT_STATE n) 0).putB (F.DEC_CTX_STAT_IDLE n) true
    let s := s.wr (R.DEC_CTX_SLACK n) 0x7FFFFFFF
    let s := c.deferred.foldl (fun s e => s.lay e) s
    s.setDec n DecCtx.init
  else s

/-- Run a picture again from its access unit (R90, R116, R117): on the placement that stands, at once when its engines are
free, else by a later dispatch. A context that was shed or stops has no placement, and the picture is discarded. -/
def State.decAgain (s : State) (n : Nat) (r : DecRun) : State :=
  let s := s.setDec n { s.decCtx n with run := some { r with engines := [], owing := [] } }
  if 3 ≤ s.get (F.DEC_CTX_STAT_STATE n) then ((s.decDiscard n).decFlushAll n).decMaybeOff n
  else
    let s := match (s.decCtx n).planned with
      | some m => s.decPlace n m
      | none => s
    if s.decEnginesFree n ∧ s.get (F.DEC_CTX_ENGS n) ≠ 0 then s.decStartRun n (s.decOn n r) else s

/-- FORMAT of R98 from chroma format, bit depth and codec. -/
def formatWord (chroma depth : Nat) (av1 : Bool) : Nat := chroma + bit (decide (8 < depth)) 2 + bit av1 3

/-- A record with the format, the output window and the colour of another one. -/
def likeRecord (r form : List Byte) : List Byte := r.take 14 ++ slice form 14 14 ++ r.drop 28

/-- Chroma format and depth of the sequence in force; before the first one, of the store. -/
def State.decForm (s : State) (n : Nat) : Nat × Nat :=
  match (s.decCtx n).seq with
  | some q => (q.chroma, q.depth)
  | none => (s.get (F.DEC_CTX_FMT_CHROMA n), if s.flag (F.DEC_CTX_FMT_DEPTH n) then 10 else 8)

/-- Offset of a record in the ES buffer of the context. -/
def State.decEsOff (s : State) (n : Nat) (r : EsRec) : Nat := r.lin % (max 1 (s.esSize (s.get (F.DEC_CTX_CTL_SRC_ING n))))

/-- A rejected sequence (R112). The pictures before it go out first; its record names the substitute's own slot, in the substitute's
format (log entry 92). Where no picture has been output, R112 gives no position, and the model takes 0 (log entry 116). -/
def State.decReject (s : State) (n why : Nat) (p : Pic) (r : EsRec) : State :=
  let s := s.decBump n 0 ((s.decCtx n).pics.length + 1)
  let c := s.decCtx n
  let t := s.decStore n
  let sub := substitute (c.pics.filter (fun q => q.current && !q.unreadable)) p.hintBits (c.lastPos.getD 0)
  let slot := match sub with | some q => q.slot | none => (s.decFreeSlot n).getD 0
  let w := min p.width t.wa
  let h := min p.height t.ha
  let s := match sub with
    | some _ => s
    | none => (s.fillFrom t t.chroma slot ⟨0, 0, w, h⟩ none w h).inc (F.DEC_CTX_CNT_GREY n)
  let cause := causeRejected + (if c.gapPending then causeGap else 0) + (if c.markLost then causeMark else 0)
  let s := s.setDec n { s.decCtx n with gapPending := false, rejected := true, nextPic := (c.nextPic + 1) % 2 ^ 32 }
  let s := s.chainPic n
  let flags := 1 + bit p.rap 1 + bit true 2 + bit (r.flags.testBit 1) 8
  let form := match p.seq with | some q => (min q.chroma t.chroma, q.depth) | none => s.decForm n
  let own := pictureRecord c.nextPic 0 slot (s.get (F.DEC_CTX_STAT_EPOCH n)) flags cause
    (formatWord form.1 form.2 (s.flag (F.DEC_CTX_CTL_CODEC n))) p r.ts s.tim.now (s.decDeadline n r) (s.decEsOff n r)
  let s := s.decPublish n (match sub with
    | some q => ⟨likeRecord own q.record, 0⟩
    | none => ⟨own, w * h⟩)
  let s := ((s.put (F.DEC_CTX_CONC_STAT_REJECT n) why).raiseU 114).faultUnit 40 n
  ((s.decRelease n).put (F.DEC_CTX_STAT_STATE n) 1).decFlushAll n

/-- A shown frame of AV1's show_existing_frame: a new record naming the existing slot (R98), concealed where its picture is, and
where the slots are unknown (R109, R110). The first record of a hidden frame carries the causes and the area of its own damage
(R103, R107); a later one inherits, and counts in CHAIN_LEN again, which R109 leaves open (log entry 116). A key frame shown so
refreshes slots, and a rewind repeats that. -/
def State.decRepeat (s : State) (n : Nat) (p : Pic) (r : EsRec) (q : DecPic) : State :=
  let c := s.decCtx n
  let conc := q.concealed || c.av1Unknown
  let own := if !q.concealed then 0 else if q.told then causeInherited else recField q.record 12 2
  let cause := if !conc then 0 else
    (own ||| (if own = 0 ∧ !c.gapPending then causeInherited else 0)) ||| (if c.gapPending then causeGap else 0) |||
      (if c.markLost then causeMark else 0)
  let s := if conc then s.chainPic n else s
  let c := (s.decCtx n).refreshSlots p q.picNum q.pos
  let again : DecPast := ⟨p, r, q.picNum, 0, 0, c.part⟩
  let s := s.setDec n { c with
    gapPending := false, lastPos := some q.pos, past := if p.refresh.isEmpty then c.past else c.past ++ [again]
    pics := c.pics.map (fun x => if x.picNum = q.picNum then { x with told := true } else x) }
  let flags := 1 + bit p.rap 1 + bit conc 2 + bit p.grain 5 + bit true 6 + bit p.field 7 + bit (r.flags.testBit 1) 8
  let own := pictureRecord q.picNum 0 q.slot (s.get (F.DEC_CTX_STAT_EPOCH n)) flags cause 0 p r.ts s.tim.now (s.decDeadline n r)
    (s.decEsOff n r)
  (s.decPublish n ⟨likeRecord own q.record, if q.told then 0 else q.area⟩).decNextPart n p.more

/-- The picture as the decoder takes it: one whose lost headers cannot be recovered is a reference picture, output at its decoding
position, after all that wait (R107; log entry 95); one that would show a frame that is missing stands where the slot last held
one, or at the last output (R103). -/
def DecCtx.asTaken (c : DecCtx) (p : Pic) : Pic :=
  match p.showExisting with
  | some i =>
    { p with pos := match SMap.get (fun _ => none) c.av1Last i with | some x => some x | none => c.lastPos }
  | none =>
    if p.badHeader && !p.recovered then
      { p with newSeq := false, rap := false, cra := false, rasl := false, isRef := true, refs := [], refresh := [],
               keep := c.pics.map (fun q => q.pos), shown := true, reorder := 0,
               pos := c.pics.foldl (fun m q => match m with
                 | none => some (q.pos + 1)
                 | some x => some (max x (q.pos + 1))) none }
    else p

/-- The damage that a picture itself shows, as CAUSE bits (R103, R109). -/
def State.decDamage (s : State) (n : Nat) (p : Pic) (r : EsRec) : Nat :=
  let c := s.decCtx n
  let av1 := s.flag (F.DEC_CTX_CTL_CODEC n)
  (if r.flags.testBit 1 || !p.lost.isEmpty then causeLost else 0) +
    (if p.refs.any (fun u => c.refMissing av1 u) || p.showExisting.isSome then causeRef else 0) +
    (if !p.corrupt.isEmpty || p.badHeader then causeSyntax else 0) +
    (if p.refs.any (fun u => match c.refPic av1 u with | some q => q.concealed | none => false) then causeInherited else 0)

/-- The CAUSE bits of a picture at its dispatch: its damage, and what a gap, a lost mark and unknown slots add (R103, R110, R117). -/
def State.decCauses (s : State) (n : Nat) (p : Pic) (r : EsRec) : Nat :=
  let c := s.decCtx n
  let av1 := s.flag (F.DEC_CTX_CTL_CODEC n)
  let base := s.decDamage n p r
  let unknown := av1 && c.av1Unknown && !(p.rap && decide (base = 0))
  let more := (if c.gapPending then causeGap else 0) + (if c.markLost then causeMark else 0) +
    (if unknown && !c.gapPending && !base.testBit 4 then causeInherited else 0)
  if base ≠ 0 ∨ unknown then base + more else 0

/-- The area of a picture that substitute samples fill: all of a whole lost one, else its damaged regions (R107). -/
def picArea (p : Pic) (whole : Bool) : Nat :=
  if whole then p.width * p.height else (p.lost ++ p.corrupt).foldl (fun a x => a + x.w * x.h) 0

/-- Dispatch the picture at the head of a context's queue (R84 to R88, R103, R112). -/
def State.decDispatch (s : State) (n : Nat) (p : Pic) : State :=
  let s := s.decMeetGaps n ((s.decCtx n).recs.length + 1)
  match (s.decCtx n).run, s.decNext n with
  | some r, _ => if s.decMayDispatch n then s.decAgain n r else s
  | none, none => s
  | none, some r =>
    if s.get (F.DEC_CTX_STAT_STATE n) ≠ 2 then s
    else
    let c := s.decCtx n
    let av1 := s.flag (F.DEC_CTX_CTL_CODEC n)
    let dl := s.decDeadline n r
    let seq := match p.seq with | some q => some q | none => c.seq
    let out := s.outsideOp n seq p
    let why := match p.seq with
      | some q => s.seqReject n q p (!out)
      | none => if !out && s.picTooLarge n p then 3 else 0
    if p.seq.isNone && c.rejected then
      (((s.decRelease n).inc (F.DEC_CTX_SKIPPED n)).put (F.DEC_CTX_STAT_STATE n) 1).decFlushAll n
    else if why = 0 ∧ out then (s.setDec n { c with seq := seq, rejected := false }).decNextPart n p.more
    else if why = 0 ∧ !p.isRef ∧ s.flag (F.DEC_CTX_CTL_LATE_SKIP n) ∧ dl ≤ s.tim.now then
      (((s.setDec n { c with seq := seq, rejected := false }).decNextPart n p.more).inc (F.DEC_CTX_SKIPPED n)).raiseU 97
    else if !s.decMayDispatch n then s
    else
      let s := s.setDec n { c with seq := seq, rejected := false }
      if why ≠ 0 then s.decReject n why p r
      else if p.rasl && c.dropRasl then (s.decNextPart n p.more).inc (F.DEC_CTX_SKIPPED n)
      else
        match p.showExisting.bind (fun i => (s.decCtx n).refPic true ⟨none, i⟩) with
        | some q => s.decRepeat n p r q
        | none =>
          let c := s.decCtx n
          let q := c.asTaken p
          let cause := s.decCauses n q r
          let whole := p.badHeader || p.showExisting.isSome
          let form := s.decForm n
          let s := s.setDec n { c with
            gapPending := c.gapPending && decide (cause = 0)
            av1Unknown := c.av1Unknown || (av1 && p.badHeader)
            nextPic := (c.nextPic + 1) % 2 ^ 32
            begun := true
            dropRasl := if q.rap then q.newSeq else c.dropRasl }
          s.decStartRun n (s.decOn n
            { pic := q, rec_ := r, picNum := c.nextPic, slot := (s.decFreeSlot n).getD 0, owing := [], engines := [], shares := [],
              short := false, epoch := 0, attempt := 1, firstFailed := 0, startAt := 0, deadline := dl, causes := cause,
              concealed := decide (cause ≠ 0), whole := whole, area := picArea q whole,
              chroma := form.1, depth := form.2, part := c.part, replay := false, gone := false, old := false, lead := !c.begun })

/-! ### Completion (R87, R93, R98, R106, R107) -/

/-- Bytes of a record's payload in the ES buffer. -/
def State.esPayload (s : State) (ing lin : Nat) : Nat → List Byte
  | 0 => []
  | k + 1 => s.byte (s.esBase ing + lin % (max 1 (s.esSize ing))) :: s.esPayload ing (lin + 1) k

/-- Write the decoded samples of a picture into its slot, then its concealed regions (R96, R106, R107). An 8-bit stream has its
samples times 4 in a 10-bit store. -/
def State.decWrite (s : State) (n : Nat) (r : DecRun) (pos : Int) : State :=
  let c := s.decCtx n
  let t := s.decStore n
  let p := r.pic
  let full : Rect := ⟨0, 0, p.width, p.height⟩
  let sub := substitute (c.candidates p r.slot) p.hintBits pos
  if r.whole then s.fillFrom t r.chroma r.slot full sub p.width p.height
  else
    let payload := s.esPayload (s.get (F.DEC_CTX_CTL_SRC_ING n)) (r.rec_.lin + 32) r.rec_.len
    let refs := (c.refsOf (s.flag (F.DEC_CTX_CTL_CODEC n)) p r.slot pos).map (fun q =>
      q.map (fun q => s.bytes (t.base + q.slot * t.slotBytes) t.slotBytes))
    let damage := p.lost ++ p.corrupt
    let edges := damage.map (fun q => (q.x, q.y, q.w, q.h))
    let up := if r.depth = 8 ∧ t.deep then 4 else 1
    let s := s.fillRect t r.chroma r.slot full (fun _ pl x y =>
      Config.decodeSample payload r.part refs edges pl x y % 2 ^ r.depth * up)
    damage.foldl (fun s q => s.fillFrom t r.chroma r.slot q sub p.width p.height) s

/-- Was MID_GREY used in a picture (R105)? -/
def State.decGrey (s : State) (n : Nat) (r : DecRun) (pos : Int) : Bool :=
  let c := s.decCtx n
  let p := r.pic
  let filled := r.whole || !(p.lost ++ p.corrupt).isEmpty
  (filled && (match substitute (c.candidates p r.slot) p.hintBits pos with
    | some q => decide (q.width ≠ p.width ∨ q.height ≠ p.height)
    | none => true)) ||
  (!r.whole && (c.refsOf (s.flag (F.DEC_CTX_CTL_CODEC n)) p r.slot pos).contains none)

/-- The mark is set to a clean random access point (R114), and the reference pictures since are kept for a rewind. -/
def State.decMark (s : State) (n : Nat) (r : DecRun) : State :=
  let q : DecPast := ⟨r.pic, r.rec_, r.picNum, r.chroma, r.depth, r.part⟩
  if r.gone || r.old then s
  else if r.rec_.flags % 2 = 1 ∧ r.lead ∧ !r.concealed then
    let s := (s.wr (R.DEC_CTX_MARK n) (s.decEsOff n r.rec_ + 2 ^ 31)).wr (R.DEC_CTX_MARK_PIC n) r.picNum
    s.setDec n { s.decCtx n with dirtySinceMark := false, past := [q] }
  else if r.pic.isRef then s.setDec n { s.decCtx n with past := (s.decCtx n).past ++ [q] }
  else s

/-- The record of a picture that completes now (R98). -/
def State.decNewRecord (s : State) (n : Nat) (r : DecRun) : List Byte :=
  let p := r.pic
  let flags := 1 + bit p.rap 1 + bit r.concealed 2 + bit (!r.replay && decide (r.deadline ≤ s.tim.now)) 3 + bit r.short 4 +
    bit p.grain 5 + bit p.field 7 + bit (r.rec_.flags.testBit 1) 8 + bit (decide (r.attempt = 2)) 9
  pictureRecord r.picNum 0 r.slot r.epoch flags r.causes (formatWord r.chroma r.depth (s.flag (F.DEC_CTX_CTL_CODEC n))) p
    r.rec_.ts s.tim.now r.deadline (s.decEsOff n r.rec_)

/-- A completed picture enters the store with `waiting` to be output, and reference pictures are marked anew (R97, R107); one of
before a shed serves as no reference (R100). -/
def State.decStorePic (s : State) (n : Nat) (r : DecRun) (pos : Int) (waiting : Option OutRec) : State :=
  let p := r.pic
  let av1 := s.flag (F.DEC_CTX_CTL_CODEC n)
  let c := s.decCtx n
  let c := if av1 && !r.old then c.refreshSlots p r.picNum pos else c
  let isRef := !r.old && (!av1 || !p.refresh.isEmpty || (r.whole && p.isRef))
  let c := if r.old then c else c.mark av1 isRef p (s.get (F.DEC_CTX_FMT_SLOTS n) - 3)
  let new : DecPic :=
    { slot := r.slot, picNum := r.picNum, pos := pos, hintBits := p.hintBits,
      isRef := isRef, concealed := r.concealed, waiting := waiting,
      record := s.decNewRecord n r, width := p.width, height := p.height, unreadable := false, current := !r.old,
      area := r.area, told := p.shown }
  s.setDec n { c with pics := c.pics.filter (fun q => decide (q.slot ≠ r.slot)) ++ [new] }

/-- A planned placement takes effect at a picture boundary (R89). -/
def State.decPlanned (s : State) (n : Nat) : State :=
  match (s.decCtx n).planned with
  | some m => if s.get (F.DEC_CTX_STAT_STATE n) = 3 then s else s.decPlace n m
  | none => s

/-- The picture of a run is complete: its samples are written, references marked, its record published or held for
reordering, a planned placement taken, and the forecast refreshed (R87, R89, R93, R94, R98, R109). A CRA that ends a chain starts a coded video sequence,
as NoRaslOutputFlag = 1 has it (R111). -/
def State.decComplete (s : State) (n : Nat) (r : DecRun) : State :=
  let starts := r.pic.newSeq || (r.pic.cra && !r.concealed && s.flag (F.DEC_CTX_CONC_STAT_CHAIN n))
  let p := { r.pic with newSeq := starts }
  let r := { r with pic := p }
  let pos := p.pos.getD (r.picNum : Int)
  let grey := s.decGrey n r pos
  let s := s.decWrite n r pos
  let late := decide (r.deadline ≤ s.tim.now)
  let s := if late then ((s.inc (F.DEC_CTX_LATE n)).raiseU 96).faultUnit 34 n else s
  let s := s.inc (F.DEC_CTX_PICS n)
  let s := if grey then s.inc (F.DEC_CTX_CNT_GREY n) else s
  let s := if r.concealed then s.chainPic n else if p.rap then s.chainEnd n p.cra else s
  let s := if !r.concealed && p.shown then s.setDec n { s.decCtx n with gapPending := false } else s
  let s := if p.newSeq then s.decBump n 0 ((s.decCtx n).pics.length + 1) else s
  let s := s.decStorePic n r pos (if p.shown then some ⟨s.decNewRecord n r, r.area⟩ else none)
  let s := s.setDec n { s.decCtx n with run := none }
  let s := s.decMark n r
  let s := s.decBump n p.reorder ((s.decCtx n).pics.length + 1)
  let s := s.decIdleEngines n r.engines
  let s := if r.gone then s else s.decNextPart n (p.more && !r.old)
  (((s.decPlanned n).decFlushAll n).decMaybeOff n).decForecast

/-! ### Rewinds (R116 to R118) -/

/-- Conditions of R116 for a failing picture. -/
def State.decCanRewind (s : State) (n picNum : Nat) : Bool :=
  s.flag (F.DEC_CTX_CONC_CTL_REWIND_EN n) && s.flag (F.DEC_CTX_MARK_VALID n) &&
    decide ((picNum + 2 ^ 32 - s.rd (R.DEC_CTX_MARK_PIC n)) % 2 ^ 32 ≤ s.get (F.DEC_CTX_CONC_CTL_REWIND_MAX n)) &&
    !(s.decCtx n).dirtySinceMark

/-- A picture is dispatched again in a new slot: the failing one after a replay, or one that is concealed. -/
def State.decRestart (s : State) (n : Nat) (r : DecRun) : State :=
  let s := s.setDec n { s.decCtx n with run := none }
  s.decAgain n { r with attempt := 1, slot := (s.decFreeSlot n).getD r.slot }

/-- Repeats of hidden key frames that come next in a replay need no engine: their refreshes of the slots take place again. -/
def State.decReplayShows (s : State) (n : Nat) : Nat → State
  | 0 => s
  | k + 1 =>
    let c := s.decCtx n
    match c.replay with
    | q :: rest =>
      match q.pic.showExisting with
      | none => s
      | some i =>
        let c := match c.refPic true ⟨none, i⟩ with
          | some x => c.refreshSlots q.pic x.picNum x.pos
          | none => c
        (s.setDec n { c with replay := rest }).decReplayShows n k
    | [] => s

/-- The next step of a rewind (R116): the next reference picture is decoded again, or, after the last one, the failing picture as
normal, with the damage that it then has (R103, R109) and with the skip of R88. A picture decoded again that shows damage is
concealed like any other. -/
def State.decReplayNext (s : State) (n : Nat) : State :=
  let s := s.decReplayShows n (s.decCtx n).replay.length
  let c := s.decCtx n
  let mark := if c.markLost then causeMark else 0
  match c.replay, c.failing with
  | q :: _, some f =>
    let base := s.decDamage n q.pic q.rec_
    (s.putB (F.DEC_CTX_CONC_STAT_REWINDING n) true).decRestart n
      { f with pic := q.pic, rec_ := q.rec_, picNum := q.picNum, chroma := q.chroma, depth := q.depth, part := q.part,
               firstFailed := 0, causes := if base = 0 then 0 else base ||| mark, concealed := decide (base ≠ 0),
               whole := q.pic.badHeader, area := picArea q.pic q.pic.badHeader, replay := true, old := false }
  | _, some f =>
    let s := s.putB (F.DEC_CTX_CONC_STAT_REWINDING n) false
    let s := s.setDec n { c with failing := none, owed := [] }
    if !f.pic.isRef ∧ s.flag (F.DEC_CTX_CTL_LATE_SKIP n) ∧ f.deadline ≤ s.tim.now then
      let s := s.setDec n { s.decCtx n with run := none }
      let s := if f.gone then s else s.decNextPart n (f.pic.more && !f.old)
      ((((s.inc (F.DEC_CTX_SKIPPED n)).raiseU 97).decPlanned n).decFlushAll n).decMaybeOff n
    else
      let base := f.causes ||| s.decDamage n f.pic f.rec_
      let cause := if base = 0 then 0 else (base ||| mark) ||| (if c.gapPending then causeGap else 0)
      let s := s.setDec n { s.decCtx n with gapPending := c.gapPending && decide (base = 0) }
      s.decRestart n { f with causes := cause, concealed := decide (cause ≠ 0) }
  | _, none => s

/-- A rewind starts: what no canvas pipe holds is dropped from the store, and every reference picture from the mark to the failing
one is decoded again. Their records that wait for output keep their place; a waiting picture that is no reference picture is
dropped with its record (R116; log entry 96). What is held serves as a reference no more. -/
def State.decReplayFrom (s : State) (n : Nat) (f : DecRun) : State :=
  let held := s.decHeld n
  let c := s.decCtx n
  let todo := c.past.filter (fun q => q.pic.isRef || (q.pic.showExisting.isSome && !q.pic.refresh.isEmpty))
  let again := fun (num : Nat) => todo.any (fun q => decide (q.picNum = num))
  let owed := c.owed ++ c.pics.filterMap (fun q =>
    if held.contains q.slot || !again q.picNum then none else q.waiting.map (fun w => (q.picNum, w)))
  let kept := (c.pics.filter (fun q => held.contains q.slot)).map (fun q => { q with isRef := false, current := false })
  let s := s.setDec n { c with run := none, failing := some f, replay := todo, owed := owed, pics := kept, av1Slots := [] }
  ((s.inc (F.DEC_CTX_REWINDS n)).raiseU 116).decReplayNext n

/-- A rewind trigger that is concealed instead (R117): the unreadable slot is a missing reference, the poisoned picture a whole lost
one. The run as it goes on. -/
def State.decConceal (s : State) (n : Nat) (slot : Option Nat) (r : DecRun) : DecRun × State :=
  let s := (s.inc (F.DEC_CTX_REWIND_REFUSED n)).raiseU 117
  let c := s.decCtx n
  let lost := c.markLost || !s.flag (F.DEC_CTX_MARK_VALID n)
  let bits := (r.causes ||| (if slot.isSome then causeRef else causeSyntax)) ||| (if lost then causeMark else 0)
  let s := s.setDec n { c with
    markLost := lost
    gapPending := c.gapPending && r.replay
    pics := c.pics.map (fun q => if slot = some q.slot then { q with unreadable := true } else q) }
  ({ r with
    causes := bits ||| (if c.gapPending && !r.replay then causeGap else 0)
    concealed := true
    whole := r.whole || slot.isNone
    area := if slot.isNone then r.pic.width * r.pic.height else r.area }, s)

/-- A rewind trigger in a context that was shed or stops: no engine takes another of its pictures (R99), so that no rewind can run.
A picture with an unreadable reference goes on where it is, and a poisoned one, whose samples need no engine, completes as it
stands (log entry 97). -/
def State.decTriggerLast (s : State) (n : Nat) (slot : Option Nat) (r : DecRun) : State :=
  let (r', s) := s.decConceal n slot r
  if slot.isSome then s.setDec n { s.decCtx n with run := some r' }
  else if r.replay then ((s.decDiscard n).decFlushAll n).decMaybeOff n
  else s.decComplete n r'

/-- A rewind trigger while a picture runs, a replayed one included: an unreadable slot, or (none) a picture poisoned by R90 step 4. Its
engines are free of it; one that was retired leaves service, and the admission that follows may shed the context with the
picture. -/
def State.decRewind (s : State) (n : Nat) (slot : Option Nat) : State :=
  match (s.decCtx n).run with
  | none => s
  | some r =>
    if slot.isNone && decide (r.attempt ≠ 4) then s
    else
      let s := if slot.isSome then s.faultUnit 41 n else s
      if 3 ≤ s.get (F.DEC_CTX_STAT_STATE n) then (s.decTriggerLast n slot r).decRetires
      else
        let s := s.decIdleEngines n r.engines
        let r := { r with engines := [], owing := [] }
        let s := (s.setDec n { s.decCtx n with run := some r }).decRetires
        if (s.decCtx n).run.isNone then (s.inc (F.DEC_CTX_REWIND_REFUSED n)).raiseU 117
        else if s.decCanRewind n r.picNum then s.decReplayFrom n ((s.decCtx n).failing.getD r)
        else
          let (r', s) := s.decConceal n slot r
          s.decRestart n r'

/-- A replayed reference picture completes (R116 step 2): it writes no record, but the record of it that still waits for output names
its new slot, and its damage where this time it was concealed. -/
def State.decReplayed (s : State) (n : Nat) (r : DecRun) : State :=
  let pos := r.pic.pos.getD (r.picNum : Int)
  let grey := s.decGrey n r pos
  let s := s.decWrite n r pos
  let s := if grey then s.inc (F.DEC_CTX_CNT_GREY n) else s
  let c := s.decCtx n
  let owed := (c.owed.find? (fun o => decide (o.1 = r.picNum))).map (fun o =>
    let b := o.2.bytes
    let flags := recField b 10 2 ||| bit r.concealed 2
    (⟨b.take 8 ++ bytesLE 1 r.slot ++ slice b 9 1 ++ bytesLE 2 flags ++ bytesLE 2 (recField b 12 2 ||| r.causes) ++ b.drop 14,
      if r.concealed then r.area else o.2.area⟩ : OutRec))
  let s := s.decStorePic n r pos owed
  let c := s.decCtx n
  let s := s.setDec n { c with run := none, replay := c.replay.drop 1, owed := c.owed.filter (fun o => decide (o.1 ≠ r.picNum)) }
  let s := (s.inc (F.DEC_CTX_REPLAYED n)).decIdleEngines n r.engines
  (s.decReplayNext n).decForecast

/-! ### Parts of pictures and engine failures (R87, R90, R91) -/

/-- Every part of a run is complete. A second attempt that succeeds was a transient failure, and a third one retires the suspect
engine (R90); engines that were retired leave once they run no picture (R92). -/
def State.decRunDone (s : State) (n : Nat) (r : DecRun) : State :=
  let s := if r.attempt = 2 then
      (s.inc (F.DEC_ENG_RETRIES r.firstFailed)).faultTransient 32 r.firstFailed s.unstated
    else s
  let sus := if r.attempt = 3 then (s.decCtx n).suspect else none
  let s := s.setDec n { s.decCtx n with suspect := if sus.isSome then none else (s.decCtx n).suspect }
  let s := if r.replay then s.decReplayed n r else s.decComplete n r
  let s := match sus with
    | some x =>
      (((s.stick (F.DEC_ENG_STAT_RETIRED_FAULT x)).putB (F.DEC_ENG_STAT_SUSPECT x) false).raise 4 x).faultUnit 32 x
    | none => s
  s.decRetires

/-- A result of a placement that is no more (R91). -/
def State.decStale (s : State) (n : Nat) : State := (s.inc (F.DEC_CTX_STALE n)).raiseU 103

/-- Engines finish their parts of a run. -/
def State.decParts (s : State) (n : Nat) (r : DecRun) (es : List Nat) : State :=
  let s := es.foldl (fun s e => (s.inc (F.DEC_ENG_PICS e)).putB (F.DEC_ENG_STAT_BUSY e) false) s
  let r := { r with owing := r.owing.filter (fun e => !es.contains e) }
  if r.owing.isEmpty then s.decRunDone n r else s.setDec n { s.decCtx n with run := some r }

/-- An engine returns a part of a picture with the epoch it was dispatched under (R87, R90, R91). -/
def State.decPartDone (s : State) (n e epoch : Nat) : State :=
  if epoch ≠ s.get (F.DEC_CTX_STAT_EPOCH n) then s.decStale n
  else
    match (s.decCtx n).run with
    | none => s
    | some r => if !r.owing.contains e || decide (3 < r.attempt) then s else s.decParts n r [e]

/-- A replayed picture completes: all that its engines still owe of it (R91, R116, R118). -/
def State.decReplayDone (s : State) (n epoch : Nat) : State :=
  if epoch ≠ s.get (F.DEC_CTX_STAT_EPOCH n) then s.decStale n
  else
    match (s.decCtx n).run with
    | none => s
    | some r => if !r.replay || r.owing.isEmpty || decide (3 < r.attempt) then s else s.decParts n r r.owing

/-- An engine failure during the picture of context `n`, a replayed one included. -/
def State.decFail (s : State) (n e : Nat) : State :=
  match (s.decCtx n).run with
  | none => s
  | some r =>
    if !r.engines.contains e || decide (3 < r.attempt) then s
    else if r.attempt = 1 then
      (s.decIdleEngines n r.engines).decStartRun n
        { r with attempt := 2, firstFailed := e, owing := r.engines, startAt := s.tim.elapsed }
    else if r.attempt = 2 then
      let s := s.decIdleEngines n r.engines
      let s := if r.firstFailed ≠ e then s.inc (F.DEC_ENG_RETRIES r.firstFailed) else s
      let s := (s.putB (F.DEC_ENG_STAT_SUSPECT e) true).putB (F.DEC_ENG_STAT_IN_SERVICE e) false
      let s := s.setDec n { s.decCtx n with run := some { r with attempt := 3, engines := [], owing := [] }, suspect := some e }
      let s := s.decLeave.decAdmit false (some n)
      match (s.decCtx n).run with
      | some r => s.decAgain n r
      | none => s
    else
      let s := (s.decIdleEngines n r.engines).faultUnit 33 n
      let s := match (s.decCtx n).suspect with
        | some x => (s.putB (F.DEC_ENG_STAT_SUSPECT x) false).putB (F.DEC_ENG_STAT_IN_SERVICE x) true
        | none => s
      let s := s.setDec n { s.decCtx n with suspect := none, run := some { r with attempt := 4, owing := [] } }
      s.decLeave.decAdmit true none

/-- ENGINE_COMPLETION_TIMEOUT: a picture without completion within 4 × its work time + 1 ms (R87, R90). -/
def State.decTimeout (s : State) (n e : Nat) : State :=
  match (s.decCtx n).run with
  | some r =>
    let limit := (Q.times (Q.ofNat 4) (r.work [])).plus (Q.ofNat Config.ms)
    if (Q.ofNat (s.tim.elapsed - r.startAt)).lt limit then s else s.decFail n e
  | none => s

/-! ### Enabling and stopping a context, and the restart of its source (R79, R557) -/

/-- EN = 1 is applied with IDLE = 1 and a placement; no layer holds on to a picture of an earlier run (R120). -/
def State.decStart (s : State) (n : Nat) (es : List Nat) : State :=
  let ing := s.get (F.DEC_CTX_CTL_SRC_ING n)
  let s := s.setDec n { DecCtx.init with prio := s.get (F.DEC_CTX_CTL_PRIO n) }
  let old := fun (p : Nat × Option Choice) => match p.2 with | some c => !c.ingest && decide (c.ctx = n) | none => false
  let s := { s with cmp := { s.cmp with choice := s.cmp.choice.filter (fun p => !old p) } }
  let s := (s.put (F.DEC_CTX_STAT_STATE n) 1).putB (F.DEC_CTX_STAT_IDLE n) false
  let s := s.wr (R.DEC_CTX_CONC_STAT n) 0
  let s := s.wr (R.DEC_CTX_MARK n) 0
  let s := s.wr (R.DEC_CTX_LAST_OUT n) 0
  let s := s.wr (R.DEC_CTX_SLACK n) 0x7FFFFFFF
  let s := s.wr (R.DEC_CTX_SLOT_BYTES n) (s.decStore n).slotBytes
  let s := s.put (F.DEC_CTX_ENGS n) 0
  let s := if es = [] then s else s.decPlace n (maskOf es)
  let s := s.setIng ing { s.ingCtx ing with released := (s.ingCtx ing).pub }
  s.wr (R.DEC_CTX_ESB_RD n) (s.rd (R.ING_CTX_ESB_WR ing))

/-- What runs for a context that stops: a picture on engines goes on; a picture that waits for engines, and a rewind, are given up
(log entry 97). -/
def State.decGiveUp (s : State) (n : Nat) : State :=
  let c := s.decCtx n
  let keep := match c.run with | some r => c.onEngines && !r.replay | none => false
  let s := match c.run with
    | some r => if keep then s else s.decIdleEngines n r.engines
    | none => s
  let s := s.setDec n { s.decCtx n with replay := [], failing := none, owed := [], run := if keep then c.run else none }
  s.putB (F.DEC_CTX_CONC_STAT_REWINDING n) false

/-- EN = 0 is applied. -/
def State.decStop (s : State) (n : Nat) : State :=
  let s := s.put (F.DEC_CTX_STAT_STATE n) 4
  let s := ((s.put (F.DEC_CTX_ENGS n) 0).put (F.DEC_CTX_STAT_NENG n) 0).decGiveUp n
  let c := s.decCtx n
  let head := match c.run with | some r => if r.gone then [] else [r.rec_] | none => []
  (s.setDec n { c with planned := none, recs := head }).decMaybeOff n

/-- The ingest context of a live stream context leaves OFF: its read offset moves to 0. What was dispatched completes, a rewind in
progress included, and its record is not the context's to release any more (R557). -/
def State.decSourceRestart (s : State) (ing : Nat) : State :=
  match s.decConsumer ing with
  | none => s
  | some n =>
    let s := s.wr (R.DEC_CTX_ESB_RD n) 0
    let c := s.decCtx n
    let lost (r : DecRun) : DecRun := { r with gone := true }
    let s := s.setDec n { c with recs := [], part := 0, begun := false, run := c.run.map lost, failing := c.failing.map lost }
    let s := if s.flag (F.DEC_CTX_MARK_VALID n) then (s.putB (F.DEC_CTX_MARK_VALID n) false).raiseU 115 else s
    if s.get (F.DEC_CTX_STAT_STATE n) = 2 then s.put (F.DEC_CTX_STAT_STATE n) 1 else s

/-- DEC_RATE_WINDOW: a one-second window of R95 ends. -/
def State.decWindow (s : State) : State :=
  let ctx := s.dec.ctx.map (fun (p : Nat × DecCtx) => (p.1, s.decNewWindow p.2))
  { s with dec := { s.dec with ctx := ctx } }

end Sys2Proof.Machine
end

