-- ==== Sys2Proof/Machine/Ptp.lean ====
section
/-! DEFINITION. The PTP messages that the time base sends (R227 to R232), in the formats of IEEE 1588-2019 (log
entry 13). -/

namespace Sys2Proof.Machine

/-- A timestamp of a PTP message: seconds and whole nanoseconds. -/
def ptpStamp (t : Nat) : List Byte := bytesBE 6 (timeS t) ++ bytesBE 4 (timeNs t)

/-- A PTP message with its header: type, flags, correction in units, sequence number, controlField and
logMessageInterval. -/
def State.ptpMessage (s : State) (l type flags : Nat) (corr : Int) (seq control log : Nat) (body : List Byte) : List Byte :=
  bytesBE 1 type ++ bytesBE 1 0x12 ++ bytesBE 2 (34 + body.length) ++ bytesBE 1 (s.get F.TIM_CTL_DOMAIN) ++ bytesBE 1 0 ++
    bytesBE 2 flags ++ bytesBE 8 (unsigned 64 corr) ++ bytesBE 4 0 ++ bytesBE 8 s.clockId ++ bytesBE 2 (l + 1) ++
    bytesBE 2 seq ++ bytesBE 1 control ++ bytesBE 1 log ++ body

/-- The frame of a PTP message in the transport of R228. -/
def State.ptpFrame (s : State) (l : Nat) (event : Bool) (msg : List Byte) : List Byte :=
  let p := if event then 319 else 320
  match s.get F.TIM_CTL_TRANSPORT with
  | 0 => s.ethHeader l 0x011B19000000 0x88F7 ++ msg
  | 1 => s.udpFrame l false (groupMac false 0xE0000181) 0xE0000181 p p Config.ttl msg
  | _ =>
    let g := 0xFF0E * 2 ^ 112 + 0x181
    s.udpFrame l true (groupMac true g) g p p Config.ttl msg

/-- What a waiting PTP frame is, for the stamp it gets as it leaves (R231, R232). -/
def leavePlain : Nat := 0
def leaveDelayReq : Nat := 1
def leaveSyncOne : Nat := 2
def leaveSyncTwo : Nat := 3

/-- Queue a PTP message, of kind `k` and sequence number `seq`, on port `l`; it is counted as sent. -/
def State.ptpSend (s : State) (l k seq : Nat) (event : Bool) (msg : List Byte) : State :=
  let bs := s.ptpFrame l event msg
  (s.send l ⟨.ptp, l, k * 65536 + seq % 65536, s.counted l bs.length, bs, none⟩).inc (F.TIM_PORT_TX_MSGS l)

/-- Sync with an origin time: one-step Sync carries it, two-step Sync announces a Follow_Up (R232). -/
def State.ptpSync (s : State) (l seq : Nat) (origin : Nat) (two : Bool) : List Byte :=
  s.ptpMessage l 0 (if two then 0x0200 else 0) (if two then 0 else timeSub origin) seq 0 (s.get F.TIM_PTP_INTV_LOG_SYNC)
    (ptpStamp (if two then 0 else origin))

/-- Follow_Up with the precise origin time. -/
def State.ptpFollowUp (s : State) (l seq : Nat) (origin : Nat) : List Byte :=
  s.ptpMessage l 8 0 (timeSub origin) seq 2 (s.get F.TIM_PTP_INTV_LOG_SYNC) (ptpStamp origin)

/-- Delay_Req: its correctionField takes the asymmetry of the port (R231). -/
def State.ptpDelayReq (s : State) (l seq : Nat) : List Byte :=
  s.ptpMessage l 1 0 (-s.asym l) seq 1 0x7F (ptpStamp 0)

/-- Delay_Resp to a Delay_Req stamped at `t` (R232). -/
def State.ptpDelayResp (s : State) (l : Nat) (h : PtpHdr) (t : Nat) : List Byte :=
  s.ptpMessage l 9 0 (h.corr - timeSub t) h.seq 3 (s.get F.TIM_PTP_INTV_LOG_DELAY_REQ)
    (ptpStamp t ++ bytesBE 8 h.srcId ++ bytesBE 2 h.srcPort)

/-- Announce of the dataset of the clock, or of its parent's (R229). What it says of traceability and of its time source
the spec does not state: free values. -/
def State.ptpAnnounce (s : State) (l seq : Nat) : List Byte :=
  let gm := s.flag F.TIM_STAT_GM
  let d : PtpData := if gm then s.ownData else
    match s.bestAnnounce with | some (_, d) => { d with steps := d.steps + 1 } | none => s.ownData
  let utc := if gm then s.rd R.TIM_UTC else s.rd R.TIM_PARENT_UTC
  let flags := bitsOf utc 17 1 + bitsOf utc 18 1 * 2 + bitsOf utc 16 1 * 4 + 8 + Config.freeNat s.draw % 4 * 16
  s.ptpMessage l 11 flags 0 seq 5 (s.get F.TIM_PTP_INTV_LOG_ANNOUNCE)
    (ptpStamp 0 ++ bytesBE 2 (utc % 65536) ++ bytesBE 1 0 ++ bytesBE 1 d.prio1 ++ bytesBE 1 d.cls ++ bytesBE 1 d.acc ++
      bytesBE 2 d.var ++ bytesBE 1 d.prio2 ++ bytesBE 8 d.gmId ++ bytesBE 2 d.steps ++ [Config.freeByte s.draw])

/-- A PTP frame leaves its port: a Delay_Req and a Sync are stamped as they cross (R231), a one-step Sync carries its stamp,
and the Follow_Up of a two-step Sync is sent (R232). Answers the bytes on the wire. -/
def State.ptpLeaves (s : State) (f : Frame) : List Byte × State :=
  let l := f.index
  let seq := f.frameNo % 65536
  let k := f.frameNo / 65536
  let t := s.egressStamp l
  if k = leaveDelayReq then
    (f.bytes, { s with tim := { s.tim with delayReq := SMap.set (fun _ => none) s.tim.delayReq l (some (seq, t)) } })
  else if k = leaveSyncOne then (s.ptpFrame l true (s.ptpSync l seq t false), s)
  else if k = leaveSyncTwo then (f.bytes, s.ptpSend l leavePlain seq false (s.ptpFollowUp l seq t))
  else (f.bytes, s)

/-- The sequence number of the next Sync (0), Announce (1) or Delay_Req (2) of a port, which moves on. -/
def State.ptpSeq (s : State) (l k : Nat) : Nat × State :=
  let v := SMap.get (fun _ => ((0, 0, 0) : Nat × Nat × Nat)) s.tim.seqIds l
  let up := fun n => (n + 1) % 65536
  let w : Nat × Nat × Nat :=
    if k = 0 then (up v.1, v.2.1, v.2.2) else if k = 1 then (v.1, up v.2.1, v.2.2) else (v.1, v.2.1, up v.2.2)
  (if k = 0 then v.1 else if k = 1 then v.2.1 else v.2.2,
    { s with tim := { s.tim with seqIds := SMap.set (fun _ => ((0, 0, 0) : Nat × Nat × Nat)) s.tim.seqIds l w } })

end Sys2Proof.Machine
end

