-- ==== Sys2Proof/Machine/Out.lean ====
section
/-! DEFINITION. Tile flows (spec/09, spec/10): TFP packets, their building and shaping, the choice of the next frame on a
port, the segment deadline and PRESENT, and receiver status. -/

namespace Sys2Proof.Machine

/-! ### TFP packets (R246 to R255) -/

/-- One step of the reflected CRC-32C for one bit. -/
def crcBit (c : Nat) : Nat := if c % 2 = 1 then c / 2 ^^^ 0x82F63B78 else c / 2

/-- CRC-32C of a byte list (R250). -/
def crc32c (bs : List Byte) : Nat :=
  bs.foldl (fun c b => crcBit (crcBit (crcBit (crcBit (crcBit (crcBit (crcBit (crcBit (c ^^^ b.toNat))))))))) 0xFFFFFFFF ^^^
    0xFFFFFFFF

/-- Codes of the packet types (R249). -/
def tfpData : Nat := 1
def tfpCommit : Nat := 2
def tfpPresent : Nat := 3
def tfpConfig : Nat := 4
def tfpFw : Nat := 5
def tfpStatus : Nat := 0x81

/-- A TFP packet: header, CRC and payload (R248, R250). -/
def tfpPacket (type flags device tile seg fmt frame seq : Nat) (spec payload : List Byte) : List Byte :=
  let h := bytesBE 1 1 ++ bytesBE 1 type ++ bytesBE 1 flags ++ bytesBE 1 device ++ bytesBE 2 tile ++ bytesBE 1 seg ++
    bytesBE 1 fmt ++ bytesBE 4 frame ++ bytesBE 2 seq ++ bytesBE 2 payload.length ++ spec
  h ++ bytesBE 4 (crc32c (h ++ payload)) ++ payload

/-- Bits per channel of a lamp format (R208). -/
def fmtBits (fmt : Nat) : Nat := if fmt = 0 then 16 else if fmt = 1 then 12 else 10

/-- Bytes of a lamp stream (R252). -/
def streamBytes (fmt w h : Nat) : Nat := ceilDiv (w * h * 3 * fmtBits fmt) 8

/-- Byte `m` of a lamp stream from the code of each component in stream order (R252). -/
def streamByte (n total m : Nat) (code : Nat → Nat) : Byte :=
  BitVec.ofNat 8 ((List.range 8).foldl (fun a j =>
    let bit := 8 * m + j
    2 * a + (if bit / n < total ∧ (code (bit / n)).testBit (n - 1 - bit % n) then 1 else 0)) 0)

/-- IPv6 destination of a tile's receiver (R272). -/
def State.tileIp6 (s : State) (t : Nat) : Nat :=
  let g := s.get (F.OUT_TILE_CTL_SEG t)
  ipv6Of (s.rd (R.OUT_SEG_PFX g 0)) (s.rd (R.OUT_SEG_PFX g 1)) (s.rd (R.OUT_SEG_PFX g 2)) (s.rd (R.OUT_TILE_RX_IP t))

/-- MAC address of a tile's receiver. -/
def State.tileMac (s : State) (t : Nat) : Nat := s.get (F.OUT_TILE_RX_MAC_HI_MAC t) * 2 ^ 32 + s.rd (R.OUT_TILE_RX_MAC_LO t)

/-- A TFP packet of tile `t` in its encapsulation, as port `l` sends it (R246, R272). -/
def State.tileFrameBytes (s : State) (t l : Nat) (tfp : List Byte) : List Byte :=
  let e := s.get (F.OUT_TILE_CTL_ENCAP t)
  let dport := s.get (F.OUT_TILE_RX_MAC_HI_UDP t)
  if e = 0 then s.udpFrame l false (s.tileMac t) (s.rd (R.OUT_TILE_RX_IP t)) (s.get F.OUT_GLB_TFP_PORT) dport (Config.ttl % 256) tfp
  else if e = 1 then s.udpFrame l true (s.tileMac t) (s.tileIp6 t) (s.get F.OUT_GLB_TFP_PORT) dport (Config.ttl % 256) tfp
  else s.ethHeader l (s.tileMac t) 0x88B5 ++ tfp

/-- Bytes before the TFP payload in a frame of a tile on port `l`. -/
def State.tileHeader (s : State) (t l : Nat) : Nat :=
  let e := s.get (F.OUT_TILE_CTL_ENCAP t)
  (if e = 0 then 74 else if e = 1 then 94 else 46) + (if s.flag (F.NET_LP_CTL_VLAN_MODE l) then 4 else 0)

/-- Overhead h of R286 for a tile on port `l`: the counted length of its frame, with its FCS, minus the TFP payload. -/
def State.tileOverhead (s : State) (t l : Nat) : Nat := s.tileHeader t l + 4 + s.get (F.OUT_PORT_CTL_OVERHEAD l)

/-! ### Tiles, segments and canvases -/

/-- Segment of a tile. -/
def State.tileSeg (s : State) (t : Nat) : Nat := s.get (F.OUT_TILE_CTL_SEG t)

/-- The enabled tiles, in ascending number. CMP_TILE_POS.EN resets to 0, so every enabled tile is a listed register. -/
def State.tilesOn (s : State) : List Nat :=
  s.regs.filterMap (fun p => if 0x740000 ≤ p.1 ∧ p.1 < 0x748000 ∧ p.1 % 8 = 0 ∧ p.2.toNat / 2 ^ 31 = 1 then
    some ((p.1 - 0x740000) / 8) else none)

/-- The enabled tiles of a canvas. -/
def State.tilesOf (s : State) (c : Nat) : List Nat := s.tilesOn.filter (fun t => decide (s.get (F.CMP_TILE_POS_CANVAS t) = c))

/-- The segments that hold an enabled tile of a canvas. -/
def State.segsOf (s : State) (c : Nat) : List Nat := ((s.tilesOf c).map s.tileSeg).eraseDups

/-- Those of them that are enabled: no latch belongs to a disabled segment (R235). -/
def State.segsLive (s : State) (c : Nat) : List Nat := (s.segsOf c).filter (fun g => s.flag (F.TIM_SEG_CTL_EN g))

/-- The port a tile's frames leave on: its configured port, or the one R440 moved it to; none when no port fits. -/
def State.tilePort (s : State) (t : Nat) : Option Nat :=
  let l := s.get (F.OUT_TILE_CTL_PORT t)
  match SMap.get (fun _ => none) s.flt.moved t with
  | some m => if m.1 = l then m.2 else some l
  | none => some l

/-! ### Flows and their packets (R271 to R276) -/

/-- Packets a flow holds. -/
def FlowState.held (f : FlowState) : Nat := f.configs.length + (f.frames.map (fun (x : TileFrame) => x.pkts.length)).foldl (· + ·) 0

/-- Set a flow, its QUEUED count, and IDLE once a removed flow has nothing more to send (R284). -/
def State.putFlow (s : State) (t : Nat) (f : FlowState) : State :=
  let s := (s.setFlow t f).put (F.OUT_TILE_STAT_QUEUED t) f.held
  if !f.exists_ && f.frames.all (fun (x : TileFrame) => x.aborted || x.unsent) && f.configs.isEmpty then
    s.putB (F.OUT_TILE_STAT_IDLE t) true
  else s

/-- The oldest frame of a flow that has something to send. -/
def FlowState.front (f : FlowState) : Option TileFrame :=
  f.frames.find? (fun (x : TileFrame) => !x.aborted && !x.unsent && !(x.sent && x.pkts.isEmpty))

/-- The waiting TILE_CONFIG of the earliest frame. -/
def FlowState.nextConfig (f : FlowState) : Option TilePkt :=
  f.configs.foldl (fun (b : Option TilePkt) p => match b with
    | none => some p
    | some q => if p.n < q.n then some p else some q) none

/-- The head packet of a flow: frames leave in order, and within one frame a TILE_CONFIG due before it goes first (R271). -/
def FlowState.head (f : FlowState) : Option TilePkt :=
  match f.nextConfig, f.front with
  | some p, some x => if p.n ≤ x.n then some p else x.pkts.head?
  | some p, none => some p
  | none, some x => x.pkts.head?
  | none, none => none

/-- Port of the head packet (R273). -/
def State.headPort (s : State) (t : Nat) : Option Nat := (s.flow t).head.map (fun p => p.port)

/-- Units of time that `bytes` take at RATE Mbit/s. -/
def rateUnits (bytes : Q) (rate : Nat) : Nat :=
  ((bytes.times (Q.ofNat (8 * Config.sec))).over (max 1 rate * 1000000)).ceil.toNat

/-- A refill of a flow (R275): the tokens are recomputed with RATE and BURST as they stand, and QUANTUM is taken (R273). -/
def State.refillTokens (s : State) (t : Nat) : State :=
  let f := s.flow t
  let cap := Q.ofNat (64 * s.get (F.OUT_TILE_RATE_BURST t))
  let gain := (Q.ofNat ((s.tim.now - f.refilled) * s.get (F.OUT_TILE_RATE_RATE t) * 1000000)).over (8 * Config.sec)
  s.setFlow t { f with tokens := (Q.min cap (f.tokens.plus gain)).norm, refilled := s.tim.now, quantum := s.get (F.OUT_TILE_SHAPE_QUANTUM t) }

/-- A refill of a flow whose head is `p` (R275): the flow joins selection or waits for its eligible time on the wheel or the overflow
list (R277). -/
def State.refill (s : State) (t : Nat) (p : TilePkt) : State :=
  let s := s.refillTokens t
  let f := s.flow t
  let need := Q.ofNat p.len
  let place := if need.le f.tokens then FlowPlace.eligible
    else
      let at_ := s.tim.now + rateUnits (need.minus f.tokens) (s.get (F.OUT_TILE_RATE_RATE t))
      if s.tim.now + 262144 * Config.ns ≤ at_ then FlowPlace.overflow at_ else FlowPlace.wheel at_
  s.setFlow t { f with place := place }

/-- A built head packet of an idle flow brings a refill (R275), and so does one that took the place of a shorter head for which the
newest refill found enough tokens (R276). A flow without a head packet is idle. -/
def State.flowHead (s : State) (t : Nat) : State :=
  let f := s.flow t
  match f.head with
  | some p =>
    let short := decide (f.place = FlowPlace.eligible) && !(Q.ofNat p.len).le f.tokens
    if p.buf.isSome && (decide (f.place = FlowPlace.idle) || short) then s.refill t p else s
  | none => s.setFlow t { f with place := .idle }

/-- Take the buffer of a packet of tile `t`: it holds the frame, to which the port appends the FCS (R274, log
entry 115). A request that has waited is not counted again. -/
def State.pktBuf (s : State) (t : Nat) (p : TilePkt) (again : Bool) : Option (Nat × Nat) × State :=
  let n := (s.view p.conf).tileHeader t p.port + p.payload.length
  let o := ownSegment ((s.view p.conf).tileSeg t)
  if again then s.retryBuf o n else s.takeBuf o n

/-- The counted length of a packet of tile `t` with a payload of `n` bytes on port `l`. -/
def State.pktLen (s : State) (t l n : Nat) : Nat := s.tileOverhead t l + n

/-- The open segment frame of a segment and frame number. -/
def State.segFrame (s : State) (g n : Nat) : Option SegFrame := s.out.segFrames.find? (fun x => decide (x.seg = g) && decide (x.n = n))

/-- Change a segment frame. -/
def State.updSegFrame (s : State) (g n : Nat) (h : SegFrame → SegFrame) : State :=
  { s with out := { s.out with segFrames := s.out.segFrames.map (fun (x : SegFrame) => if x.seg = g ∧ x.n = n then h x else x) } }

/-- A build that finds no buffer waits (R274): counted, with event 225 once per segment frame. -/
def State.bufWait (s : State) (g n : Nat) : State :=
  let s := s.inc (F.OUT_SEG_BUF_WAITS g)
  if s.out.bufWaits.contains (g, n) then s
  else ({ s with out := { s.out with bufWaits := (g, n) :: s.out.bufWaits } }).raiseU 225

/-- Data packets of a tile frame (R253). -/
def TileFrame.pktCount (x : TileFrame) (maxp : Nat) : Nat := ceilDiv (streamBytes x.fmt x.width x.height) (max 1 maxp)

/-- Code of component `q` of a tile frame's lamp stream. -/
def TileFrame.code (x : TileFrame) (q : Nat) : Nat := (SMap.get (fun _ => none) x.codes q).getD 0

/-- Stream bytes [a, b) of a tile frame. -/
def TileFrame.stream (x : TileFrame) (a b : Nat) : List Byte :=
  (List.range (b - a)).map (fun k => streamByte (fmtBits x.fmt) (x.width * x.height * 3) (a + k) x.code)

/-- Are the codes of stream bytes [a, b) all there? -/
def TileFrame.ready (x : TileFrame) (a b : Nat) : Bool :=
  let n := fmtBits x.fmt
  let hi := min ((8 * b - 1) / n) (x.width * x.height * 3 - 1)
  (List.range (hi + 1 - 8 * a / n)).all (fun k => (SMap.get (fun _ => none) x.codes (8 * a / n + k)).isSome)

/-- Build the next packet of tile frame `x` if its codes are there (R253, R255, R274); none when there is nothing to build
now. The flag says that a buffer was asked for. -/
def State.nextPkt (s : State) (t : Nat) (x : TileFrame) : Option TilePkt :=
  let k := s.view x.conf
  let maxp := k.get (F.OUT_TILE_SHAPE_MAX_PAYLOAD t)
  let n := x.pktCount maxp
  let total := streamBytes x.fmt x.width x.height
  if x.aborted || x.unsent || decide (n < x.next) then none
  else if x.next = n then
    some ⟨tfpCommit, 0, x.n, timeBE x.present, bytesBE 2 n ++ bytesBE 2 0 ++ bytesBE 4 total ++
      bytesBE 4 (crc32c (x.stream 0 total)) ++ bytesBE 4 (x.n / 2 ^ 32), k.pktLen t x.port 16, none, x.port, x.conf⟩
  else
    let a := x.next * maxp
    let b := min total (a + maxp)
    if x.ready a b then
      some ⟨tfpData, if x.next + 1 = n then 1 else 0, x.n, bytesBE 4 a ++ bytesBE 2 x.next ++ bytesBE 2 n ++
        bytesBE 2 x.width ++ bytesBE 2 x.height, x.stream a b, k.pktLen t x.port (b - a), none, x.port, x.conf⟩
    else none

/-- Build what can be built of the flow's frames, oldest first; a frame that cannot go on does not hold up the flow's
packets already built (R274). -/
def State.buildFrames (s : State) (t : Nat) : Nat → State
  | 0 => s
  | fuel + 1 =>
    match (s.flow t).frames.find? (fun (x : TileFrame) => (s.nextPkt t x).isSome) with
    | none => s
    | some x =>
      match s.nextPkt t x with
      | none => s
      | some p =>
        let (b, s) := s.pktBuf t p x.waiting
        let f := s.flow t
        let upd := fun (y : TileFrame) => { f with frames := f.frames.map (fun (z : TileFrame) => if z.n = x.n then y else z) }
        match b with
        | none => if x.waiting then s else (s.setFlow t (upd { x with waiting := true })).bufWait x.segment x.n
        | some _ => (s.putFlow t (upd { x with pkts := x.pkts ++ [{ p with buf := b }], next := x.next + 1, waiting := false })).buildFrames t fuel

/-- Give buffers to the configurations that wait for one. -/
def State.buildConfigs (s : State) (t : Nat) : State :=
  let (cs, s) := (s.flow t).configs.foldl (fun (a : List TilePkt × State) p =>
    if p.buf.isSome then (a.1 ++ [p], a.2)
    else
      let (b, s) := a.2.pktBuf t p true
      (a.1 ++ [{ p with buf := b }], s)) ([], s)
  s.putFlow t { s.flow t with configs := cs }

/-- Build a flow's packets and refill the flow when it was idle (R274, R275). -/
def State.buildFlow (s : State) (t : Nat) : State :=
  let n := ((s.flow t).frames.map (fun (x : TileFrame) => x.width * x.height + 2)).foldl (· + ·) 1
  ((s.buildConfigs t).buildFrames t n).flowHead t

/-! ### Configuration (R261, R262) -/

/-- TILE_CONFIG payload without CONFIG_ID and FRAME_HI, from the registers in force. -/
def State.configBody (s : State) (t : Nat) : List Byte × List Byte :=
  let g := s.tileSeg t
  let l := (s.tilePort t).getD (s.get (F.OUT_TILE_CTL_PORT t))
  let e := s.get (F.OUT_TILE_CTL_ENCAP t)
  let ip := if e = 0 then 0xFFFF * 2 ^ 32 + s.rd (R.NET_LP_IPV4 l) else if e = 1 then s.portIp6 l else 0
  (bytesBE 2 (s.get (F.CMP_TILE_SIZE_W t)) ++ bytesBE 2 (s.get (F.CMP_TILE_SIZE_H t)) ++ bytesBE 1 (s.get (F.CAL_SEG_CTL_FMT g)) ++
    bytesBE 1 0 ++ bytesBE 2 (s.get (F.OUT_TILE_SHAPE_MAX_PAYLOAD t)) ++ bytesBE 2 (s.get (F.TIM_SEG_RATE_NUM g)) ++
    bytesBE 2 (s.get (F.TIM_SEG_RATE_DEN g)) ++ bytesBE 4 (s.get (F.OUT_TILE_ACCEPT t)) ++
    bytesBE 4 (s.get (F.OUT_SEG_GUARD_GUARD_US g)) ++ bytesBE 4 (s.get (F.OUT_SEG_RX_HOLD_MS g)) ++
    bytesBE 2 (s.get (F.OUT_SEG_RX_STATUS_MS g)) ++ bytesBE 2 (if e = 2 then 0 else s.get F.OUT_GLB_TFP_PORT) ++ bytesBE 16 ip ++
    bytesBE 6 (s.portMac l) ++ bytesBE 2 0,
   bytesBE 4 (s.get (F.TIM_SEG_DELAY g)))

/-- The TILE_CONFIG of a tile for frame `n` with a CONFIG_ID, from the registers in force. -/
def State.configPacket (s : State) (t n id : Nat) : TilePkt :=
  let l := (s.tilePort t).getD (s.get (F.OUT_TILE_CTL_PORT t))
  let b := s.configBody t
  ⟨tfpConfig, 0, n, timeBE (s.segP (s.tileSeg t) n), b.1 ++ bytesBE 4 id ++ b.2 ++ bytesBE 4 (n / 2 ^ 32), s.pktLen t l 64, none, l, s.regs⟩

/-- Queue a TILE_CONFIG on the tile's port, in a buffer of its own; nothing is sent where no port fits the tile (R440). -/
def State.sendConfig (s : State) (t : Nat) (p : TilePkt) : State :=
  match s.tilePort t with
  | none => s
  | some l =>
    let k := s.view p.conf
    let p := { p with port := l, len := k.pktLen t l 64, buf := none }
    let (buf, s) := s.pktBuf t p false
    let s := if buf.isNone then s.bufWait (k.tileSeg t) p.n else s
    (s.putFlow t { s.flow t with configs := (s.flow t).configs ++ [{ p with buf := buf }] }).buildFlow t

/-- The configuration of a tile from frame `n` on (R262). A changed one takes a new CONFIG_ID and goes out now and twice more, 1 ms
and 2 ms later. -/
def State.configure (s : State) (t n : Nat) : State :=
  let f := s.flow t
  let b := s.configBody t
  if f.config = b.1 ++ b.2 then s.setFlow t { f with configPkt := some (s.configPacket t n f.configId) }
  else
    let id := (f.configId + 1) % 2 ^ 32
    let p := s.configPacket t n id
    let again := sortBy (fun a b => decide (a.1 ≤ b.1)) (f.resend ++ [(s.tim.elapsed + Config.ms, p), (s.tim.elapsed + 2 * Config.ms, p)])
    let s := s.setFlow t { f with config := b.1 ++ b.2, configId := id, configPkt := some p, resend := again }
    s.sendConfig t p

/-- The next frame of a tile's segment that its canvas has not latched. -/
def State.nextFrame (s : State) (t : Nat) : Nat :=
  let g := s.tileSeg t
  let c := s.get (F.CMP_TILE_POS_CANVAS t)
  let lead := s.get (F.CMP_CV_LEAD c) * Config.us
  let num := s.get (F.TIM_SEG_RATE_NUM g)
  let den := s.get (F.TIM_SEG_RATE_DEN g)
  let from_ := match s.lastFired (64 + c) with | some u => max s.tim.now (u + 1) | none => s.tim.now
  let t0 := from_ + lead - s.get (F.TIM_SEG_DELAY g) * Config.ns
  frameFrom num den t0

/-- A tile is enabled: no status of it has been accepted yet, and its silence is counted from now (R265). -/
def State.tileEnabled (s : State) (t : Nat) : State :=
  let s := (s.setFlow t { s.flow t with status := [], statusAt := s.tim.elapsed, silent := false }).putB (F.OUT_TILE_STAT_SILENT t) false
  let anyS := s.out.flow.any (fun (q : Nat × FlowState) => q.2.silent)
  (s.setCause 80 anyS).setCond 209 s.unstated anyS

/-- A tile's flow comes into existence or goes (R271, R284): a new flow starts with a full bucket, SEQ 0 and its configuration sent.
A flow that goes keeps what its latched frames still need. -/
def State.flowSync (s : State) (t : Nat) : State :=
  let on := s.flag (F.CMP_TILE_POS_EN t) && s.flag (F.TIM_SEG_CTL_EN (s.tileSeg t))
  let f := s.flow t
  if on && !f.exists_ then
    let s := s.setFlow t { f with
      exists_ := true
      resend := []
      config := []
      seq := 0
      tokens := Q.ofNat (64 * s.get (F.OUT_TILE_RATE_BURST t))
      refilled := s.tim.now
      quantum := s.get (F.OUT_TILE_SHAPE_QUANTUM t)
      place := .idle
      repeatAt := s.tim.elapsed + Config.sec }
    (s.putB (F.OUT_TILE_STAT_IDLE t) false).configure t (s.nextFrame t)
  else if !on && f.exists_ then
    let needed := fun (p : TilePkt) => f.frames.any (fun (x : TileFrame) => !x.unsent && !x.aborted && decide (p.n ≤ x.n))
    let s := (f.configs.filter (fun p => !needed p)).foldl (fun s (p : TilePkt) => s.freeBuf p.buf) s
    (s.putFlow t { f with exists_ := false, configs := f.configs.filter needed, resend := [] }).flowHead t
  else s

/-- TILE_CONFIG_RESEND: a configuration goes again 1 ms and 2 ms after a change, as it was (R262). -/
def State.configResend (s : State) (t : Nat) : State :=
  let f := s.flow t
  match f.resend with
  | (u, p) :: rest => if s.tim.elapsed < u ∨ !f.exists_ then s else (s.setFlow t { f with resend := rest }).sendConfig t p
  | [] => s

/-- TILE_CONFIG_REPEAT: once a second the configuration in force goes out again, for the next frame not yet latched (R262). -/
def State.configRepeat (s : State) (t : Nat) : State :=
  let f := s.flow t
  match f.configPkt with
  | some p =>
    if !f.exists_ ∨ s.tim.elapsed < f.repeatAt then s
    else
      let n := s.nextFrame t
      let k := s.view p.conf
      (s.setFlow t { f with repeatAt := f.repeatAt + Config.sec }).sendConfig t
        { p with n := n, spec := timeBE (k.segP (k.tileSeg t) n), payload := p.payload.take 60 ++ bytesBE 4 (n / 2 ^ 32) }
  | none => s

/-! ### Choosing the next frame (R278 to R281) -/

/-- Is a port stopped by PAUSE (R35)? -/
def State.portPaused (s : State) (l : Nat) : Bool :=
  match SMap.get (fun _ => none) s.net.pause l with
  | some t => decide (s.tim.elapsed < t)
  | none => false

/-- May a flow's head packet leave now, PAUSE apart (R276)? The window of its frame is open, and the deadline of a tile frame has not
come (R254). -/
def State.windowOpen (s : State) (t : Nat) : Bool :=
  let f := s.flow t
  match f.head with
  | none => false
  | some p =>
    if p.type = tfpConfig then
      let k := s.view p.conf
      decide (k.segP (k.tileSeg t) p.n ≤ s.tim.now + k.get (F.OUT_TILE_ACCEPT t) * Config.us)
    else match f.front with
      | some x => decide (x.opens ≤ s.tim.now) && decide (s.tim.now < x.deadline)
      | none => false

/-- Is tile flow `t` eligible on port `l` (R276)? -/
def State.eligibleOn (s : State) (l t : Nat) : Bool :=
  decide ((s.flow t).place = FlowPlace.eligible) && decide (s.headPort t = some l) && s.windowOpen t && !s.portPaused l &&
    !s.sec.open_ && (match (s.flow t).head with | some p => p.buf.isSome | none => false)

/-- The privileged entry that serves the flows of an express segment on a port, if any (R279). -/
def State.segEntry (s : State) (l g : Nat) : Option Nat :=
  if s.flag (F.OUT_SEG_CTL_EXPRESS g) then
    (List.range 16).find? (fun i => decide (s.get (F.OUT_PORT_PRIV_KIND l i) = 4) && decide (s.get (F.OUT_PORT_PRIV_INDEX l i) = g))
  else none

/-- The DRR list a tile's flow belongs to on a port: an express entry's, or the port's at 16. -/
def State.drrOf (s : State) (l t : Nat) : Nat := l * 32 + (s.segEntry l (s.tileSeg t)).getD 16

/-- Number of the port's common flow in a DRR list. -/
def commonFlow : Nat := 4096

def State.queueAt (s : State) (l k : Nat) : List Frame := SMap.get (fun _ => []) s.out.queue (l * 32 + k)
def State.setQueueAt (s : State) (l k : Nat) (q : List Frame) : State :=
  { s with out := { s.out with queue := SMap.set (fun _ => []) s.out.queue (l * 32 + k) q } }

/-- Counted length of the head of a DRR member. -/
def State.drrLen (s : State) (l f : Nat) : Nat :=
  if f = commonFlow then (match s.queueAt l 16 with | x :: _ => x.len | [] => 0)
  else (match (s.flow f).head with | some p => p.len | none => 0)

/-- QUANTUM of a DRR member: of a tile flow, as its newest refill took it (R273). -/
def State.drrQuantum (s : State) (l f : Nat) : Nat :=
  if f = commonFlow then s.get (F.OUT_PORT_CTL_COMMON_QUANTUM l) else (s.flow f).quantum

/-- The DRR lists and the members they should have now: tile flows in ascending number, then the common flows (R278, R279). -/
def State.drrWant (s : State) : List (Nat × Nat) :=
  s.out.flow.filterMap (fun p =>
    match if p.2.place = FlowPlace.eligible then s.headPort p.1 else none with
    | some l => if s.eligibleOn l p.1 then some (s.drrOf l p.1, p.1) else none
    | none => none) ++
  (List.range 16).filterMap (fun l => if !(s.queueAt l 16).isEmpty ∧ !s.portPaused l then some (l * 32 + 16, commonFlow) else none)

def drrKey (l f : Nat) : Nat := l * 8192 + f

/-- Set a DRR list, and OUT_PORT_STAT.ELIGIBLE with the port's own. -/
def State.setDrr (s : State) (key : Nat) (l : List Nat) : State :=
  let s := { s with out := { s.out with drr := SMap.set (fun _ => []) s.out.drr key l } }
  if key % 32 = 16 then s.put (F.OUT_PORT_STAT_ELIGIBLE (key / 32)) l.length else s

/-- A member leaves a DRR list: its deficit becomes 0 and its fresh mark 1 (R281). -/
def State.drrLeave (s : State) (key f : Nat) : State :=
  let s := s.setDrr key ((SMap.get (fun _ => []) s.out.drr key).filter (fun x => decide (x ≠ f)))
  { s with out := { s.out with
    deficit := SMap.set (fun _ => 0) s.out.deficit (drrKey (key / 32) f) 0
    stale := SMap.set (fun _ => false) s.out.stale (drrKey (key / 32) f) false } }

/-- Bring the DRR lists up to date (R281): members no longer eligible leave, and new ones join at the tail. -/
def State.drrSync (s : State) : State :=
  let want := s.drrWant
  let s := s.out.drr.foldl (fun (s : State) q =>
    (q.2.filter (fun f => !want.contains (q.1, f))).foldl (fun (s : State) f => s.drrLeave q.1 f) s) s
  want.foldl (fun (s : State) p =>
    let l := SMap.get (fun _ => []) s.out.drr p.1
    if l.contains p.2 then s else s.setDrr p.1 (l ++ [p.2])) s

/-- drr_next of R281: the member to serve next, with the list, deficits and fresh marks after it. -/
def State.drrNext (s : State) (key : Nat) : Nat → Option (Nat × State)
  | 0 => none
  | fuel + 1 =>
    let l := key / 32
    match SMap.get (fun _ => []) s.out.drr key with
    | [] => none
    | f :: r =>
      let k := drrKey l f
      let d0 := SMap.get (fun _ => 0) s.out.deficit k
      let d := if SMap.get (fun _ => false) s.out.stale k then d0 else d0 + s.drrQuantum l f
      let len := s.drrLen l f
      if len ≤ d then
        some (f, { s with out := { s.out with
          deficit := SMap.set (fun _ => 0) s.out.deficit k (d - len)
          stale := SMap.set (fun _ => false) s.out.stale k true } })
      else
        State.drrNext { s with out := { s.out with
          deficit := SMap.set (fun _ => 0) s.out.deficit k d
          stale := SMap.set (fun _ => false) s.out.stale k false
          drr := SMap.set (fun _ => []) s.out.drr key (r ++ [f]) } } key fuel

/-- Rounds that a DRR list needs at most: a quantum is at least 1 and a frame at most 65,536 bytes long. -/
def State.drrFuel (s : State) (key : Nat) : Nat := 65536 * ((SMap.get (fun _ => []) s.out.drr key).length + 1)

/-- Length of the head frame of privileged entry `i`; none when it holds none. -/
def State.privLen (s : State) (l i : Nat) : Option Nat :=
  if s.get (F.OUT_PORT_PRIV_KIND l i) = 4 then
    match s.drrNext (l * 32 + i) (s.drrFuel (l * 32 + i)) with
    | some (f, _) => some (s.drrLen l f)
    | none => none
  else match s.queueAt l i with | x :: _ => some x.len | [] => none

def State.vtime (s : State) (l : Nat) : Q := SMap.get (fun _ => ⟨0, 1⟩) s.out.vtime l
def State.setVtime (s : State) (l : Nat) (q : Q) : State :=
  { s with out := { s.out with vtime := SMap.set (fun _ => ⟨0, 1⟩) s.out.vtime l q } }
def State.finishOf (s : State) (l i : Nat) : Option Q := SMap.get (fun _ => none) s.out.finish (l * 16 + i)
def State.setFinish (s : State) (l i : Nat) (q : Option Q) : State :=
  { s with out := { s.out with finish := SMap.set (fun _ => none) s.out.finish (l * 16 + i) q } }

/-- e.F as a frame of length `len` reaches the head of an entry (R280). -/
def State.wfqTag (s : State) (l i len : Nat) : Q :=
  ((Q.max (s.vtime l) ((s.finishOf l i).getD ⟨0, 1⟩)).plus (Q.frac len (s.get (F.OUT_PORT_PRIV_WEIGHT l i)))).norm

def State.isHeaded (s : State) (l i : Nat) : Bool := SMap.get (fun _ => false) s.out.headed (l * 16 + i)
def State.setHeaded (s : State) (l i : Nat) (b : Bool) : State :=
  { s with out := { s.out with headed := SMap.set (fun _ => false) s.out.headed (l * 16 + i) b } }

/-- Frames that have reached the head of an entry get their finish; with no entry holding a frame, V and every F return to 0
(R280). V moves only as a frame is taken, so this is done before and after each. -/
def State.wfqSync (s : State) (l : Nat) : State :=
  let s := (List.range 16).foldl (fun (s : State) i =>
    match s.privLen l i with
    | none => s.setHeaded l i false
    | some len => if s.isHeaded l i then s else (s.setFinish l i (some (s.wfqTag l i len))).setHeaded l i true) s
  if (List.range 16).all (fun i => !s.isHeaded l i) then
    ((List.range 16).foldl (fun (s : State) i => s.setFinish l i none) s).setVtime l ⟨0, 1⟩
  else s

/-- wfq_next of R280: the entry with a head frame and the least finish; a tie goes to the lower number. -/
def State.wfqNext (s : State) (l : Nat) : Option (Nat × Q) :=
  (List.range 16).foldl (fun (best : Option (Nat × Q)) i =>
    if !s.isHeaded l i then best
    else
      let q := (s.finishOf l i).getD ⟨0, 1⟩
      match best with
      | some (_, b) => if q.lt b then some (i, q) else best
      | none => some (i, q)) none

/-- A frame passes to port `l`, which it leaves at the port's rate (R30, R275). -/
def State.setWire (s : State) (l : Nat) (bs : List Byte) : State :=
  let done := s.tim.elapsed + s.counted l bs.length * 8 * Config.ns / s.portRate l
  { s with
    out := { s.out with wire := SMap.set (fun _ => []) s.out.wire l bs }
    net := { s.net with txEnd := SMap.set (fun _ => 0) s.net.txEnd l done } }

/-- Serve the head of a queue of whole frames: it passes, and its buffer returns to its pool. -/
def State.passQueued (s : State) (l k : Nat) : State :=
  match s.queueAt l k with
  | [] => s
  | f :: r =>
    let s := (s.setQueueAt l k r).freeBuf f.buf
    let r := if f.kind = .ptp then s.ptpLeaves f else (f.bytes, s)
    let s := r.2.setWire l r.1
    let s := if f.kind = .dma then s.inc F.DMA_GLB_FRAMES else s
    s.inc (F.NET_LP_TX_FRAMES l)

/-- What a flow does once its head packet has passed or been aborted: it is refilled, and so is the next head (R275). -/
def State.afterHead (s : State) (t : Nat) : State :=
  let f := s.flow t
  let f := { f with frames := f.frames.filter (fun (x : TileFrame) => !(x.sent && x.pkts.isEmpty)), place := FlowPlace.idle }
  (((s.putFlow t f).refillTokens t).buildFlow t)

/-- The head packet of tile flow `t` passes to port `l` (R275, R278, R254). -/
def State.passTile (s : State) (l t : Nat) : State :=
  let f := s.flow t
  match f.head with
  | none => s
  | some p =>
    let k := s.view p.conf
    let tfp := tfpPacket p.type p.flags (k.get F.GNG_CFG_DEVICE_ID) t (k.tileSeg t) (k.get (F.CAL_SEG_CTL_FMT (k.tileSeg t)))
      (p.n % 2 ^ 32) f.seq p.spec p.payload
    let s := s.freeBuf p.buf
    let s := s.setWire l (k.tileFrameBytes t l tfp)
    let s := (s.inc (F.NET_LP_TX_FRAMES l)).inc (F.OUT_PORT_TILE_FRAMES l)
    let f := { s.flow t with seq := (f.seq + 1) % 65536, tokens := (f.tokens.minus (Q.ofNat p.len)).norm }
    if p.type = tfpConfig then
      ((s.wr (R.OUT_TILE_CONFIG_ID t) (ofBytesBE (slice p.payload 52 4))).setFlow t { f with configs := f.configs.erase p }).afterHead t
    else
      let done := decide (p.type = tfpCommit)
      let s := s.setFlow t { f with frames := f.frames.map (fun (x : TileFrame) =>
        if x.n = p.n then { x with pkts := x.pkts.drop 1, sent := x.sent || done } else x) }
      let s := if done then
          let s := ((s.inc (F.OUT_TILE_FRAMES t)).putB (F.OUT_TILE_STAT_LAST_SENT t) true).putB (F.OUT_TILE_STAT_LAST_LATE t) false
          match f.front with
          | some x => s.updSegFrame x.segment x.n (fun y => { y with sent := y.sent ++ [t] })
          | none => s
        else s
      s.afterHead t

/-- An uncorrectable packet buffer read of the head of flow `t` (R283): it is not sent, and no further packet of its tile frame, the
one that a TILE_CONFIG was due before. -/
def State.abortTile (s : State) (t : Nat) : State :=
  let f := s.flow t
  match f.head with
  | none => s
  | some p =>
    let mine := f.frames.filter (fun (x : TileFrame) => decide (x.n = p.n))
    let s := if p.type = tfpConfig then s.freeBuf p.buf else s
    let s := (mine.flatMap (fun (x : TileFrame) => x.pkts)).foldl (fun s (q : TilePkt) => s.freeBuf q.buf) s
    let s := s.setFlow t { f with
      configs := f.configs.erase p
      frames := f.frames.map (fun (x : TileFrame) => if x.n = p.n then { x with pkts := [], aborted := true, waiting := false } else x) }
    let s := ((s.inc (F.OUT_TILE_ABORTED t)).raiseU 226).faultUnit 85 t
    let s := (s.putB (F.OUT_TILE_STAT_LAST_SENT t) false).putB (F.OUT_TILE_STAT_LAST_LATE t) false
    let f := { s.flow t with place := FlowPlace.idle }
    (s.putFlow t f).buildFlow t

/-- Can a port start a frame: it runs, its link is up and its arbiter is not frozen (R278, R315)? -/
def State.portCanSend (s : State) (l : Nat) : Bool :=
  s.portRuns l && s.flag (F.NET_LP_STAT_LINK l) && !s.flag (F.ARB_CTL_FREEZE (8 + l))

/-- A member of a DRR list passes, or is aborted on a bad packet buffer read. -/
def State.passMember (s : State) (l f : Nat) (bad : Bool) : State :=
  if f = commonFlow then s.passQueued l 16 else if bad then s.abortTile f else s.passTile l f

/-- FRAME_PASSES_TO_PORT (R278): MAC control, PRESENT, privileged entries by WFQ, then the port's DRR list. `bad` marks an
uncorrectable packet buffer read of a tile packet (R283). The spec numbers no source of an egress arbiter, so OWNER is a free
value (log entry 4). -/
def State.passFrame (s : State) (l : Nat) (bad : Bool) : State :=
  if !s.portCanSend l || s.sec.open_ then s
  else
    let s := s.drrSync
    let grant := fun (s : State) =>
      (((s.inc (F.ARB_GRANTS (8 + l))).put (F.ARB_STAT_OWNER (8 + l)) (Config.freeNat s.draw)).used).drrSync
    if !(s.queueAt l 17).isEmpty then grant ((s.passQueued l 17).inc (F.NET_LP_TX_PAUSE l))
    else if s.portPaused l then s
    else if !(s.queueAt l 18).isEmpty && !s.sec.open_ then grant (s.passQueued l 18)
    else
      let s := s.wfqSync l
      match s.wfqNext l with
      | some (i, q) =>
        let s := (s.setVtime l q).setHeaded l i false
        let sent := fun (s : State) => s.inc (F.OUT_PORT_PRIV_FRAMES l)
        if s.get (F.OUT_PORT_PRIV_KIND l i) = 4 then
          match s.drrNext (l * 32 + i) (s.drrFuel (l * 32 + i)) with
          | some (f, s) => (grant (s.passMember l f bad)).wfqSync l |> (if bad then id else sent)
          | none => s
        else sent ((grant (s.passQueued l i)).wfqSync l)
      | none =>
        match s.drrNext (l * 32 + 16) (s.drrFuel (l * 32 + 16)) with
        | some (f, s) => grant (s.passMember l f bad)
        | none => s

/-! ### The wheel and the overflow list (R277) -/

/-- Slot of the wheel that holds an eligible time. -/
def wheelSlot (t : Nat) : Nat := t / (32 * Config.ns) % 8192

/-- The wheel releases a slot at its close: each flow in it whose time has come is refilled, in ascending tile number. -/
def State.wheelRelease (s : State) (slot : Nat) : State :=
  s.out.flow.foldl (fun s q =>
    match (s.flow q.1).place with
    | .wheel at_ =>
      if wheelSlot at_ = slot ∧ at_ ≤ s.tim.now then
        match (s.flow q.1).head with
        | some p => s.refill q.1 p
        | none => s.setFlow q.1 { s.flow q.1 with place := .idle }
      else s
    | _ => s) s

/-- Once per revolution, overflow flows whose time falls within the next revolution move onto the wheel. -/
def State.overflowMove (s : State) : State :=
  s.out.flow.foldl (fun s q =>
    match (s.flow q.1).place with
    | .overflow at_ => if at_ < s.tim.now + 262144 * Config.ns then s.setFlow q.1 { s.flow q.1 with place := .wheel at_ } else s
    | _ => s) s

/-- Flows in the overflow list, which OUT_GLB_OVERFLOW counts (R277). -/
def State.overflowCount (s : State) : Nat :=
  (s.out.flow.filter (fun q => match q.2.place with | .overflow _ => true | _ => false)).length

/-- A forward step of device time releases every flow whose eligible time it passes, in ascending tile number (R277). -/
def State.wheelPassed (s : State) : State :=
  s.out.flow.foldl (fun s q =>
    match (s.flow q.1).place, (s.flow q.1).head with
    | .wheel at_, some p => if at_ ≤ s.tim.now then s.refill q.1 p else s
    | .overflow at_, some p => if at_ ≤ s.tim.now then s.refill q.1 p else s
    | _, _ => s) s

/-! ### Deadlines and PRESENT (R260, R282) -/

/-- The PRESENT packets of a segment frame, one on each in-service port of the set (R260). -/
def State.sendPresent (s : State) (x : SegFrame) : State :=
  let g := x.seg
  let seq := SMap.get (fun _ => 0) s.out.presSeq g
  let sent := (List.range 512).map (fun b => BitVec.ofNat 8
    ((List.range 8).foldl (fun a j => 2 * a + (if x.sent.contains (8 * b + j) then 1 else 0)) 0))
  let payload := bytesBE 4 (x.n / 2 ^ 32) ++ bytesBE 4 0 ++ sent
  let tfp := tfpPacket tfpPresent (if x.suppressed then 2 else 0) (s.get F.GNG_CFG_DEVICE_ID) 0 g x.fmt
    (x.n % 2 ^ 32) seq (timeBE x.present) payload
  let mac := s.get (F.OUT_SEG_PRES_MAC_HI_MAC g) * 2 ^ 32 + s.rd (R.OUT_SEG_PRES_MAC_LO g)
  let ip := fun i => s.rd (R.OUT_SEG_PRES_IP g i)
  let enc := s.get (F.OUT_SEG_CTL_PRES_ENCAP g)
  let frame := fun (s : State) l =>
    if enc = 0 then s.udpFrame l false mac (ip 0) (s.get F.OUT_GLB_TFP_PORT) (s.get (F.OUT_SEG_PRES_MAC_HI_UDP g)) (Config.ttl % 256) tfp
    else if enc = 1 then s.udpFrame l true mac (ipv6Of (ip 0) (ip 1) (ip 2) (ip 3)) (s.get F.OUT_GLB_TFP_PORT)
      (s.get (F.OUT_SEG_PRES_MAC_HI_UDP g)) (Config.ttl % 256) tfp
    else s.ethHeader l mac 0x88B5 ++ tfp
  let s := { s with out := { s.out with presSeq := SMap.set (fun _ => 0) s.out.presSeq g ((seq + 1) % 65536) } }
  let s := s.inc (F.OUT_SEG_PRES_SENT g)
  (setBitsOf 16 (s.get (F.OUT_SEG_CTL_PORTS g))).foldl (fun s l =>
    if s.portPresent l && !(s.get F.FLT_RETIRED_PORTS).testBit l && s.flag (F.NET_LP_CTL_EN l) then
      s.sendBytes l .present g (frame s l)
    else s) s

/-- A tile frame is late: counted, and the first of its segment frame with event 224 and fault 84 (R282). -/
def State.tileLate (s : State) (t : Nat) (x : TileFrame) : State :=
  let s := ((s.inc (F.OUT_TILE_LATE t)).putB (F.OUT_TILE_STAT_LAST_SENT t) false).putB (F.OUT_TILE_STAT_LAST_LATE t) true
  let s := s.inc (F.OUT_SEG_LATE_TILES x.segment)
  match s.segFrame x.segment x.n with
  | some y =>
    if y.late then s
    else (((s.updSegFrame x.segment x.n (fun y => { y with late := true })).inc (F.OUT_SEG_LATE_FRAMES x.segment)).raiseU 224).faultUnit 84 x.segment
  | none => s

/-- Discard packets of a flow: what is left of it, with the next head refilled where another packet has come to the head. -/
def State.flowCut (s : State) (t : Nat) (gone : List TilePkt) (f : FlowState) : State :=
  let old := (s.flow t).head
  let s := gone.foldl (fun s (p : TilePkt) => s.freeBuf p.buf) s
  (s.putFlow t { f with place := if f.head = old then f.place else .idle }).buildFlow t

/-- The deadline of tile frame `x` (R282): what has not passed of it is discarded, and it is late unless it is aborted. -/
def State.tileDeadline (s : State) (t : Nat) (x : TileFrame) : State :=
  let f := s.flow t
  let gone := f.configs.filter (fun (p : TilePkt) => decide (p.n = x.n))
  let s := s.flowCut t (x.pkts ++ gone) { f with
    frames := f.frames.filter (fun (y : TileFrame) => decide (y.n ≠ x.n))
    configs := f.configs.filter (fun (p : TilePkt) => decide (p.n ≠ x.n)) }
  if x.sent || x.aborted then s else s.tileLate t x

/-- The entries of express segments on every port, once flows have lost head frames (R280). -/
def State.entryEmpties (s : State) : State := (List.range 16).foldl (fun (s : State) l => s.wfqSync l) s.drrSync

/-- The deadline of a segment frame (R282), with its PRESENT (R260): of an enabled segment, unless its boundary was skipped; of a
disabled one, where a canvas has latched it. A TILE_CONFIG of the frame that has not passed is discarded. -/
def State.segDeadline (s : State) (x : SegFrame) : State :=
  let s := s.out.flow.foldl (fun (s : State) q =>
    let f := s.flow q.1
    let mine := fun (p : TilePkt) => decide (p.n = x.n) && decide ((s.view p.conf).tileSeg q.1 = x.seg) &&
      !f.frames.any (fun (y : TileFrame) => decide (y.n = x.n))
    if f.configs.any mine then s.flowCut q.1 (f.configs.filter mine) { f with configs := f.configs.filter (fun p => !mine p) } else s) s
  let s := s.updSegFrame x.seg x.n (fun y => { y with closed := true })
  let y := (s.segFrame x.seg x.n).getD x
  let due := if s.flag (F.TIM_SEG_CTL_EN x.seg) then x.fired || decide (s.tim.now < s.segT x.seg x.n) else x.latched
  let s := if s.flag (F.OUT_SEG_CTL_PRESENT_EN x.seg) && due then s.sendPresent y else s
  let used := fun (z : SegFrame) => s.out.flow.any (fun q => q.2.frames.any (fun (y : TileFrame) => decide (y.n = z.n ∧ y.segment = z.seg)))
  { s with out := { s.out with
    segFrames := s.out.segFrames.filter (fun (z : SegFrame) => decide (z.seg ≠ x.seg ∨ !z.closed ∨ x.n ≤ z.n) || used z)
    bufWaits := s.out.bufWaits.filter (fun w => decide (w.1 ≠ x.seg ∨ x.n < w.2)) } }

/-- Open the segment frame of segment `g` and frame `n` unless it is open: at its boundary (`latch` false), or at a canvas latch, which
fixes its FMT (R249) and its GUARD_US (R273; the latest deadline where the latches of two canvases differ, log entry 116). -/
def State.openSegFrame (s : State) (g n : Nat) (latch : Bool) : State :=
  let p := s.segP g n
  let d := p - s.get (F.OUT_SEG_GUARD_GUARD_US g) * Config.us
  match s.segFrame g n with
  | some _ => s.updSegFrame g n (fun x =>
      if latch then { x with latched := true, fmt := s.get (F.CAL_SEG_CTL_FMT g), deadline := if x.latched then max x.deadline d else d }
      else { x with fired := true })
  | none => { s with out := { s.out with segFrames := s.out.segFrames ++
      [⟨g, n, [], false, false, false, p, d, !latch, latch, s.get (F.CAL_SEG_CTL_FMT g)⟩] } }

/-- EN = 0 of a segment: only the frames that a canvas has latched keep their PRESENT (R235, R260). -/
def State.segFramesEnd (s : State) (g : Nat) : State :=
  { s with out := { s.out with segFrames := s.out.segFrames.filter (fun (x : SegFrame) => decide (x.seg ≠ g) || x.latched) } }

/-- SEGMENT_DEADLINE: every tile frame and every open frame of the segment whose deadline has come, oldest first. A frame whose
deadline lies before its boundary is opened here. -/
def State.segDeadlines (s : State) (g : Nat) : State :=
  let lead := s.get (F.OUT_SEG_GUARD_GUARD_US g) * Config.us
  let n := frameAt (s.get (F.TIM_SEG_RATE_NUM g)) (s.get (F.TIM_SEG_RATE_DEN g)) (s.tim.now + lead - s.get (F.TIM_SEG_DELAY g) * Config.ns)
  let s := if s.flag (F.TIM_SEG_CTL_EN g) ∧ s.tim.now < s.segT g n ∧ (s.segTime g).first ≤ n ∧ (s.segFrame g n).isNone then
      (s.openSegFrame g n false).updSegFrame g n (fun x => { x with fired := false })
    else s
  let s := s.out.flow.foldl (fun (s : State) q =>
    ((s.flow q.1).frames.filter (fun (x : TileFrame) => decide (x.segment = g) && decide (x.deadline ≤ s.tim.now))).foldl
      (fun (s : State) x => s.tileDeadline q.1 x) s) s
  let s := (s.out.segFrames.filter (fun (x : SegFrame) => decide (x.seg = g) && !x.closed && decide (x.deadline ≤ s.tim.now))).foldl
    (fun s x => s.segDeadline x) s
  s.entryEmpties

/-! ### Receiver status (R265, R287, R288) -/

/-- Fields of a stored status payload of 64 bytes. -/
def statusField (p : List Byte) (off n : Nat) : Nat := ofBytesBE (slice p off n)

/-- B of R258 for a tile. -/
def State.buffersNeed (s : State) (t : Nat) : Nat :=
  let g := s.tileSeg t
  1 + ceilDiv (s.get (F.OUT_TILE_ACCEPT t) * s.get (F.TIM_SEG_RATE_NUM g)) (max 1 (s.get (F.TIM_SEG_RATE_DEN g)) * 1000000)

/-- Is a received TFP packet a TILE_STATUS that R265 accepts? The source must be the tile's receiver address. -/
def State.statusOk (s : State) (packet : List Byte) (mac ip : Nat) : Bool :=
  let t := statusField packet 4 2
  let e := s.get (F.OUT_TILE_CTL_ENCAP t)
  decide (packet.length = 96) && decide (statusField packet 0 1 = 1) && decide (statusField packet 1 1 = tfpStatus) &&
    decide (statusField packet 14 2 = 64) &&
    decide (crc32c (packet.take 28 ++ packet.drop 32) = statusField packet 28 4) &&
    decide (statusField packet 3 1 = s.get F.GNG_CFG_DEVICE_ID) && decide (t < 4096) && s.flag (F.CMP_TILE_POS_EN t) &&
    decide (mac = s.tileMac t) &&
    (decide (e = 2) || decide (ip = (if e = 1 then s.tileIp6 t else s.rd (R.OUT_TILE_RX_IP t))))

/-- The status entry of R288, COUNT last. -/
def State.statusEntry (s : State) (t arr count : Nat) (packet : List Byte) : State :=
  if s.flag F.OUT_GLB_STATUS_LO_EN then
    let base := s.get F.OUT_GLB_STATUS_HI * 2 ^ 32 + s.get F.OUT_GLB_STATUS_LO * 128 + t * 128
    ((s.setBytes base (packet ++ timeLE arr)).setBytes (base + 112) (List.replicate 16 0)).setBytes (base + 108) (bytesLE 4 count)
  else s

/-- TILE_STATUS (R265, R287). -/
def State.tileStatus (s : State) (packet : List Byte) (mac ip arr : Nat) : State :=
  if s.statusOk packet mac ip then
    let t := statusField packet 4 2
    let p := packet.drop 32
    let f := s.flow t
    let old := fun off n => statusField f.status off n
    let new := fun off n => statusField p off n
    let back := s.flag (F.OUT_TILE_STAT_SILENT t)
    let s := s.setFlow t { f with status := p, statusAt := s.tim.elapsed, statuses := (f.statuses + 1) % 2 ^ 32, silent := false }
    let s := s.statusEntry t arr ((f.statuses + 1) % 2 ^ 32) packet
    let s := if back then (s.putB (F.OUT_TILE_STAT_SILENT t) false).raiseU 210 else s
    let s := if old 24 2 ≠ new 24 2 then s.raiseU 208 else s
    let s := if s.get (F.OUT_SEG_GUARD_GUARD_US (s.tileSeg t)) < new 36 4 then s.raiseU 211 else s
    let s := if new 40 1 < s.buffersNeed t then s.raiseU 212 else s
    let s := if old 48 4 ≠ new 48 4 ∨ old 41 1 ≠ new 41 1 then s.raiseU 213 else s
    let rose := fun k => (new 24 2).testBit k && !(old 24 2).testBit k
    let s := if rose 3 || rose 4 then s.faultUnit 81 t else s
    let anyS := s.out.flow.any (fun (q : Nat × FlowState) => q.2.silent)
    let s := (s.setCause 80 anyS).setCond 209 s.unstated anyS
    s.setCause 81 (s.out.flow.any (fun q => (statusField q.2.status 24 2).testBit 3 || (statusField q.2.status 24 2).testBit 4))
  else s.inc F.OUT_GLB_STATUS_DROP

/-- An enabled tile becomes silent (R265): 3 × STATUS_MS after it was enabled, or after that time has passed since its newest status. -/
def State.tileSilent (s : State) (t : Nat) : State :=
  let f := s.flow t
  let due := f.statusAt + 3 * s.get (F.OUT_SEG_RX_STATUS_MS (s.tileSeg t)) * Config.ms
  if s.flag (F.CMP_TILE_POS_EN t) && !f.silent && (if f.status.isEmpty then decide (due ≤ s.tim.elapsed) else decide (due < s.tim.elapsed)) then
    let s := (s.setFlow t { f with silent := true }).putB (F.OUT_TILE_STAT_SILENT t) true
    ((((s.raiseU 209).setCond 209 s.unstated true).setCause 80 true).faultUnit 80 t)
  else s

end Sys2Proof.Machine
end

