-- ==== Sys2Proof/Machine/Fixed.lean ====
section
/-! DEFINITION. Powers, roots and logarithms of rational numbers in fixed point, for the transfer functions of R125 and R176 and the
rate control of R145. Every result is the exact one cut off at the stated unit (log entry 98). -/

namespace Sys2Proof

/-- The largest natural number whose square is at most `n`, below 2^k. -/
def rootBits (n : Nat) : Nat → Nat → Nat
  | 0, r => r
  | k + 1, r => rootBits n k (if (r + 2 ^ k) * (r + 2 ^ k) ≤ n then r + 2 ^ k else r)

/-- The largest natural number whose square is at most `n`. -/
def sqrtFloor (n : Nat) : Nat := rootBits n (n.log2 / 2 + 1) 0

/-- The largest natural number below 2^k whose `p`-th power is at most `n`. -/
def powBits (p n : Nat) : Nat → Nat → Nat
  | 0, r => r
  | k + 1, r => powBits p n k (if (r + 2 ^ k) ^ p ≤ n then r + 2 ^ k else r)

/-- The largest natural number whose `p`-th power is at most `n`. -/
def rootFloor (p n : Nat) : Nat := powBits p n (n.log2 / max 1 p + 1) 0

/-- One unit of the inner calculations: 2^-96. -/
def fixOne : Nat := 2 ^ 96

/-- `k` more binary digits of the logarithm to base 2 of `m`, which counts units of 2^-96 and lies from 1 to 2. -/
def logBits : Nat → Nat → Nat → Nat
  | 0, _, acc => acc
  | k + 1, m, acc =>
    let sq := m * m / fixOne
    if 2 * fixOne ≤ sq then logBits k (sq / 2) (2 * acc + 1) else logBits k sq (2 * acc)

/-- The logarithm to base 2 of `x` units of 2^-f, in units of 2^-64; `x` is not 0. -/
def logFix (x f : Nat) : Int :=
  let n := x.log2
  ((n : Int) - f) * 2 ^ 64 + logBits 64 (x * fixOne / 2 ^ n) 0

/-- 2 to the power of the binary fraction that the lowest `k` bits of `e` give, in units of 2^-96. -/
def expBits (e : Nat) : Nat → Nat → Nat
  | 0, y => y
  | k + 1, y => expBits (e / 2) k (sqrtFloor ((if e % 2 = 1 then 2 * y else y) * fixOne))

/-- 2 to the power of `e` units of 2^-64, in units of 2^-64. -/
def expFix (e : Int) : Nat :=
  let whole := e / (2 ^ 64 : Int)
  let y := expBits (e % (2 ^ 64 : Int)).toNat 64 fixOne
  if 0 ≤ whole then y * 2 ^ whole.toNat / 2 ^ 32 else y / 2 ^ 32 / 2 ^ (-whole).toNat

/-- `x` to the power p / q, both in units of 2^-64. -/
def powFix (x p q : Nat) : Nat := if x = 0 then 0 else expFix (logFix x 64 * p / (max 1 q : Nat))

/-- round(6 × log2(a / b)) of two positive numbers, exact: no such value lies half way between two integers. -/
def sixLog2 (a b : Nat) : Int :=
  let x := 2 * a ^ 12
  let y := b ^ 12
  let l : Int := if y ≤ x then ((x / y).log2 : Nat) else -(((y - 1) / x).log2 + 1 : Nat)
  l / 2

end Sys2Proof
end

