-- ==== Sys2Proof/Machine/Pixel.lean ====
section
/-! DEFINITION. The number formats of composition (R174 to R179): FP16 and FP32 as exact rationals with rounding to
nearest even, the polyphase filters, and the colour conversions. -/

namespace Sys2Proof

/-! ### Floating point -/

/-- 2 to an integer power. -/
def pow2 (e : Int) : Q := if 0 ≤ e then ⟨(2 ^ e.toNat : Nat), 1⟩ else ⟨1, 2 ^ (-e).toNat⟩

/-- Nearest integer of a non-negative quotient, ties to even. -/
def nearestEven (n d : Nat) : Nat :=
  let q := n / d
  let r := n % d
  if 2 * r < d then q else if d < 2 * r then q + 1 else if q % 2 = 0 then q else q + 1

/-- The binary exponent of a positive quotient: the e with 2^e ≤ n / d < 2^(e+1). -/
def binExp (n d : Nat) : Int :=
  let e : Int := (Nat.log2 n : Int) - (Nat.log2 d : Int)
  if (pow2 e).le ⟨n, d⟩ then e else e - 1

/-- A rational rounded to nearest even with `p` significant bits and least exponent `emin`. -/
def Q.roundTo (p : Nat) (emin : Int) (x : Q) : Q :=
  if x.num = 0 then ⟨0, 1⟩
  else
    let n := x.num.natAbs
    let e0 := binExp n x.den
    let e := (if e0 < emin then emin else e0) - ((p : Int) - 1)
    let m := if 0 ≤ e then nearestEven n (x.den * 2 ^ e.toNat) else nearestEven (n * 2 ^ (-e).toNat) x.den
    let v := Q.times ⟨if x.num < 0 then -(m : Int) else m, 1⟩ (pow2 e)
    v.norm

/-- Round to FP32. -/
def Q.fp32 (x : Q) : Q := x.roundTo 24 (-126)

/-- Round to FP16, magnitudes clipped to 65,504 (R174). -/
def Q.fp16 (x : Q) : Q := Q.clamp (x.roundTo 11 (-14)) ⟨-65504, 1⟩ ⟨65504, 1⟩

/-- The value of an FP16 code as the surfaces read it: NaN is 0, ±infinity ±65,504, subnormals kept (R174, R179). -/
def fp16Val (w : Nat) : Q :=
  let e := bitsOf w 10 5
  let m := bitsOf w 0 10
  let v : Q := if e = 31 then (if m = 0 then ⟨65504, 1⟩ else ⟨0, 1⟩)
    else if e = 0 then ⟨m, 2 ^ 24⟩
    else Q.times ⟨(1024 + m : Nat), 1⟩ (pow2 ((e : Int) - 25))
  if bitsOf w 15 1 = 1 then (Q.ofNat 0).minus v else v

/-- The FP16 code of a rational. -/
def fp16Code (x : Q) : Nat :=
  let v := x.fp16
  if v.num = 0 then 0
  else
    let n := v.num.natAbs
    let sign := if v.num < 0 then 32768 else 0
    let e := binExp n v.den
    if e < -14 then sign + n * 2 ^ 24 / v.den
    else sign + (e + 15).toNat * 1024 + ((Q.times ⟨n, v.den⟩ (pow2 (10 - e))).floor.toNat - 1024)

/-- One lamp's colour and alpha as FP16 codes: R, G, B, A. -/
abbrev Rgba := Nat × Nat × Nat × Nat

/-- FP16 code of 1.0. -/
def fp16One : Nat := 0x3C00

/-- One component of premultiplied "over" (R179), computed in FP32 and rounded once to FP16 (R174; log entry 18). -/
def overComp (cs as_ c : Nat) : Nat :=
  let inv := ((Q.ofNat 1).minus (fp16Val as_)).fp32
  fp16Code ((fp16Val cs).plus (inv.times (fp16Val c)).fp32).fp32

/-- A layer over what lies below it (R179). -/
def overRgba (top below : Rgba) : Rgba :=
  (overComp top.1 top.2.2.2 below.1, overComp top.2.1 top.2.2.2 below.2.1,
    overComp top.2.2.1 top.2.2.2 below.2.2.1, overComp top.2.2.2 top.2.2.2 below.2.2.2)

/-! ### Polyphase filters (R172) -/

/-- π to 40 decimals. -/
def piQ : Q := ⟨31415926535897932384626433832795028841971, 10 ^ 40⟩

/-- Sine by its power series with 40 terms; every intermediate is kept to 2^-120. -/
def sinTerms (x2 : Q) : Nat → Q → Nat → Q
  | 0, _, _ => Q.ofNat 0
  | k + 1, t, i =>
    let t' := Q.over ((Q.ofNat 0).minus (t.times x2)) ((i + 1) * (i + 2))
    let t'' : Q := ⟨(t'.times ⟨(2 ^ 120 : Nat), 1⟩).floor, 2 ^ 120⟩
    t.plus (sinTerms x2 k t'' (i + 2))

def sinQ (x : Q) : Q := let y : Q := ⟨(x.times ⟨(2 ^ 120 : Nat), 1⟩).floor, 2 ^ 120⟩; sinTerms (y.times y) 40 y 1

/-- sin(π x) / (π x). -/
def sincQ (x : Q) : Q :=
  if x.num = 0 then Q.ofNat 1
  else
    let y := piQ.times x
    let v := sinQ y
    ⟨v.num * (y.den : Int) * (if y.num < 0 then -1 else 1), v.den * y.num.natAbs⟩

/-- A built-in coefficient (R172) before the remainder: Lanczos kernel of `a` lobes with cutoff `c` at distance `x`,
rounded half up to Q3.12 (log entry 20). -/
def lanczos (a : Nat) (c x : Q) : Int :=
  let u := c.times x
  if (Q.ofNat a).le u || u.le ((Q.ofNat 0).minus (Q.ofNat a)) then 0
  else ((((c.times (sincQ u)).times (sincQ (u.over a))).times (Q.ofNat 4096)).plus ⟨1, 2⟩).floor

/-- The taps of one phase of the built-in set: tap `ctr` is the centre and takes the remainder. `src` and `dst` are the
sizes after predecimation. -/
def builtinTaps (taps ctr src dst phase : Nat) : List Int :=
  let c := Q.min (Q.ofNat 1) (Q.frac dst src)
  let raw := (List.range taps).map (fun (k : Nat) => lanczos (taps / 2) c ⟨64 * ((k : Int) - (ctr : Int)) - (phase : Int), 64⟩)
  let sum := raw.foldl (· + ·) 0
  (List.range taps).map (fun k => raw.getD k 0 + (if k = ctr then 4096 - sum else 0))

/-- The taps of one phase of a filter table of 1,792 bytes (R172). -/
def tableTaps (tbl : List Byte) (horizontal : Bool) (phase : Nat) : List Int :=
  let base := if horizontal then 16 * phase else 1024 + 12 * phase
  (List.range (if horizontal then 8 else 6)).map (fun k => signed 16 (ofBytesLE (slice tbl (base + 2 * k) 2)))

/-- Do the taps of every phase sum to 4,096 (R172)? -/
def filterValid (tbl : List Byte) : Bool :=
  (List.range 64).all (fun p => decide ((tableTaps tbl true p).foldl (· + ·) 0 = 4096) &&
    decide ((tableTaps tbl false p).foldl (· + ·) 0 = 4096))

/-- Round half up and clip to 12 bits. -/
def clip12 (v : Int) : Nat := (max 0 (min 4095 v)).toNat

/-- Weighted sum of samples in Q3.12, rounded half up and clipped to 12 bits (R174). -/
def fir (taps : List Int) (f : Nat → Nat) : Nat :=
  clip12 (((List.range taps.length).foldl (fun a k => a + taps.getD k 0 * (f k : Int)) 2048) / 4096)

/-- Predecimation exponent (R170): the least d with src / (2^d dst) ≤ 2. -/
def predec (src dst : Nat) : Nat := ((List.range 16).find? (fun d => decide (src ≤ 2 * 2 ^ d * dst))).getD 15

/-- Integer source position and phase of destination offset `k` (R171). -/
def srcPos (src dst k : Nat) : Nat × Nat :=
  let step := src * 65536 / dst
  let p := (2 * k + 1) * step / 2 - 32768
  (p / 65536, p / 1024 % 64)

/-! ### Colour (R175 to R177) -/

/-- Kr and Kb of an H.273 matrix code, as ten-thousandths (R175). -/
def matrixK (code : Nat) : Option (Nat × Nat) :=
  if code = 1 then some (2126, 722) else if code = 9 then some (2627, 593)
  else if code = 5 ∨ code = 6 then some (2990, 1140) else none

/-- A rational rounded half up to 16 fractional bits. -/
def Q.q16 (x : Q) : Int := ((x.times (Q.ofNat 65536)).plus ⟨1, 2⟩).floor

/-- Scale and offset of a luma or RGB input, and of a chroma input, on c / 4,096 (R175). -/
def csScale (full : Bool) (depth : Nat) : (Q × Q) × (Q × Q) :=
  if full then
    let n := 4096 - 2 ^ (12 - depth)
    ((⟨4096, n⟩, ⟨0, 1⟩), (⟨4096, n⟩, ⟨-2048, n⟩))
  else ((⟨4096, 3504⟩, ⟨-256, 3504⟩), (⟨4096, 3584⟩, ⟨-2048, 3584⟩))

/-- The 12 coefficients that AUTO_CSC derives (R175); none when the MATRIX code uses the registers. -/
def autoMatrix (code : Nat) (full : Bool) (depth : Nat) : Option (List Int) :=
  let sc := csScale full depth
  let a := sc.1.1
  let b := sc.1.2
  let c := sc.2.1
  let d := sc.2.2
  let z : Q := ⟨0, 1⟩
  if code = 0 then some ([z, z, a, b, a, z, z, b, z, a, z, b].map Q.q16)
  else
    match matrixK code with
    | none => none
    | some (kr, kb) =>
      let kg := 10000 - kr - kb
      let r : Q := ⟨(2 * (10000 - kr) : Nat), 10000⟩
      let bb : Q := ⟨(2 * (10000 - kb) : Nat), 10000⟩
      let gb : Q := ⟨-((2 * kb * (10000 - kb) : Nat) : Int), 10000 * kg⟩
      let gr : Q := ⟨-((2 * kr * (10000 - kr) : Nat) : Int), 10000 * kg⟩
      some ([a, z, r.times c, b.plus (r.times d),
        a, gb.times c, gr.times c, (b.plus (gb.times d)).plus (gr.times d),
        a, bb.times c, z, b.plus (bb.times d)].map Q.q16)

/-- One output of a 3×4 matrix of Q3.16 coefficients. -/
def matrixRow (m : List Int) (r : Nat) (v : Q × Q × Q) : Q :=
  let k := fun i => (⟨m.getD (4 * r + i) 0, 65536⟩ : Q)
  ((((k 0).times v.1).plus ((k 1).times v.2.1)).plus ((k 2).times v.2.2)).plus (k 3)

/-- The matrix stage (R174): 16 fractional bits clipped to 0 to 1, in units of 2^-16. -/
def matrixCode (m : List Int) (r : Nat) (v : Q × Q × Q) : Nat :=
  (max 0 (min 65536 ((matrixRow m r v).q16))).toNat

/-! ### Transfer functions (R125, R176), on values in units of 2^-64 (log entries 8, 98 and 100) -/

/-- 1.0 in units of 2^-64. -/
def one64 : Nat := 2 ^ 64

/-- log2(e) and ln(2) in units of 2^-64. -/
def log2e : Nat := 14426950408889634073599246810018921374266 * 2 ^ 64 / 10 ^ 40
def ln2 : Nat := 6931471805599453094172321214581765680755 * 2 ^ 64 / 10 ^ 40

/-- SMPTE ST 2084 EOTF, over 10,000 cd/m². -/
def pqEotf (v : Nat) : Nat :=
  let x := powFix v 32 2523
  let den := 2413 * one64 / 128 - 2392 * x / 128
  powFix ((x - 3424 * one64 / 4096) * one64 / max 1 den) 16384 2610

/-- Its inverse. -/
def pqInverse (l : Nat) : Nat :=
  let x := powFix l 2610 16384
  powFix ((3424 * one64 / 4096 + 2413 * x / 128) * one64 / (one64 + 2392 * x / 128)) 2523 32

/-- BT.2100 HLG inverse OETF. -/
def hlgInverseOetf (v : Nat) : Nat :=
  if 2 * v ≤ one64 then v * v / one64 / 3
  else
    let z : Int := ((v * 100000000 : Nat) - (55991073 * one64 : Nat) : Int) / 17883277
    (expFix (z * log2e / (one64 : Int)) + 28466892 * one64 / 100000000) / 12

/-- BT.2100 HLG OETF. -/
def hlgOetf (e : Nat) : Nat :=
  if 12 * e ≤ one64 then powFix (3 * e) 1 2
  else
    let l := logFix (12 * e - 28466892 * one64 / 100000000) 64 * ln2 / (one64 : Int)
    (l * 17883277 / 100000000 + (55991073 * one64 / 100000000 : Nat)).toNat

/-- Luminance of a triple by the weights of R176's primaries: 0 BT.709, 2 P3-D65, else BT.2020. -/
def lumaOf (prim r g b : Nat) : Nat :=
  let k := if prim = 0 then (2126, 7152, 722) else if prim = 2 then (2290, 6917, 793) else (2627, 6780, 593)
  (k.1 * r + k.2.1 * g + k.2.2 * b) / 10000

/-- Channel `ch` of the exact linear value that a non-linear triple in units of 2^-16 gives (R176). -/
def transferExact (tf prim : Nat) (v : Nat × Nat × Nat) (ch : Nat) : Nat :=
  let at_ := fun k => (if k = 0 then v.1 else if k = 1 then v.2.1 else v.2.2) * 2 ^ 48
  let x := at_ ch
  if tf = 0 then powFix x 12 5
  else if tf = 1 then
    if x * 100000 ≤ 4045 * one64 then x * 100 / 1292 else powFix ((1000 * x + 55 * one64) / 1055) 12 5
  else if tf = 2 then 10000 * pqEotf x / 203
  else
    let e := fun k => hlgInverseOetf (at_ k)
    let y := powFix (lumaOf prim (e 0) (e 1) (e 2)) 1 5
    1000 * (y * e ch / one64) / 203

/-- One unit in the last place of FP16 at a value in units of 2^-64, in the same units. -/
def fp16Ulp (x : Nat) : Nat := 2 ^ (max 50 x.log2 - 10)

/-- The value the transfer stage gives: within 2 FP16 units in the last place of the exact one, and free there (R174). -/
def transferValue (tf prim : Nat) (v : Nat × Nat × Nat) (ch : Nat) : Nat :=
  let x := transferExact tf prim v ch
  let w := 2 * fp16Ulp x
  max (x - w) (min (x + w) (Config.transfer tf prim v.1 v.2.1 v.2.2 ch))

/-- Channel `ch` of the non-linear value that an encode tap gives a linear triple, on the scale with 1.0 at 203 cd/m² (R125). The
value of a negative input by PQ or HLG is not stated, and `free` stands for it. -/
def inverseTransfer (tf : Nat) (v : Int × Int × Int) (ch free : Nat) : Nat :=
  let at_ := fun k => if k = 0 then v.1 else if k = 1 then v.2.1 else v.2.2
  if tf = 0 then
    let row : Int × Int × Int := if ch = 0 then (16605, -5876, -728) else if ch = 1 then (-1246, 11329, -83) else (-182, -1006, 11187)
    let x := (row.1 * v.1 + row.2.1 * v.2.1 + row.2.2 * v.2.2) / 10000
    powFix (max 0 (min (one64 : Int) x)).toNat 5 12
  else if v.1 < 0 ∨ v.2.1 < 0 ∨ v.2.2 < 0 then free
  else if tf = 1 then pqInverse (203 * (at_ ch).toNat / 10000)
  else
    let f := fun k => 203 * (at_ k).toNat / 1000
    let y := lumaOf 1 (f 0) (f 1) (f 2)
    if y = 0 then 0 else hlgOetf (f ch * one64 / max 1 (powFix y 1 6))

/-- Linear light of a triple after the matrix and transfer stages (R174, R176). -/
def linearOf (tf prim : Nat) (m : List Int) (v : Q × Q × Q) : Q × Q × Q :=
  if tf = 4 then ((matrixRow m 0 v).fp32, (matrixRow m 1 v).fp32, (matrixRow m 2 v).fp32)
  else
    let r := matrixCode m 0 v
    let g := matrixCode m 1 v
    let b := matrixCode m 2 v
    let f := fun ch => (⟨(transferValue tf prim (r, g, b) ch : Nat), 2 ^ 64⟩ : Q).fp32
    (f 0, f 1, f 2)

/-- Conversion to BT.2020 primaries, in ten-thousandths (R177). -/
def primRow (prim r : Nat) : Int × Int × Int :=
  let t : List (Int × Int × Int) :=
    if prim = 0 then [(6274, 3293, 433), (691, 9195, 114), (164, 880, 8956)]
    else if prim = 2 then [(7538, 1986, 476), (457, 9418, 125), (-12, 176, 9836)]
    else [(10000, 0, 0), (0, 10000, 0), (0, 0, 10000)]
  t.getD r (0, 0, 0)

/-- Primaries, gain and alpha (R177): the colour times `mul`, rounded once to FP16. -/
def primColour (prim gain : Nat) (mul : Q) (v : Q × Q × Q) (r : Nat) : Nat :=
  let k := primRow prim r
  let x := (((⟨k.1, 10000⟩ : Q).times v.1).plus ((⟨k.2.1, 10000⟩ : Q).times v.2.1)).plus ((⟨k.2.2, 10000⟩ : Q).times v.2.2)
  fp16Code ((x.times ⟨gain, 4096⟩).times mul)

/-- The lamps of a rectangle in raster order. -/
def Rect.points (r : Rect) : List (Nat × Nat) :=
  (List.range r.h).flatMap (fun j => (List.range r.w).map (fun i => (r.x + i, r.y + j)))

/-- Round half up, as the scale stage of R198 needs it. -/
def Q.halfUp (x : Q) : Int := (x.plus ⟨1, 2⟩).floor

end Sys2Proof
end

