-- ==== Sys2Proof/Machine/Cmp.lean ====
section
/-! DEFINITION. Composition (R156 to R193): layer pictures and their choice, scaling and colour of each lamp, blending,
flattening and culling, and the pieces of a canvas frame. -/

namespace Sys2Proof.Machine

/-! ### Pictures of video layers (R165 to R168) -/

/-- Does an ingest record count as concealed for freeze-on-conceal (R166): TRUNCATED or GAP_INSIDE? -/
def EsRec.damaged (r : EsRec) : Bool := r.flags.testBit 1 || r.flags.testBit 3

/-- The picture record `back` outputs before the newest of a stream context, while the array still holds it. -/
def State.decRecord (s : State) (n back : Nat) : Option (List Byte) :=
  let c := s.decCtx n
  let size := 2 ^ s.get (F.DEC_CTX_FMT_REC_LOG2 n)
  if back < c.nextOut ∧ back < size then some (s.bytes (s.decRecBase n + (c.nextOut - 1 - back) % size * 64) 64) else none

/-- A choice of a stream context's record. -/
def decChoice (n : Nat) (r : List Byte) : Choice := ⟨false, n, recField r 8 1, r, none, recField r 4 4⟩

/-- Published records of a layer's source, newest first (R166); none while the source is OFF or SHED. -/
def State.layerRecords (s : State) (v : Nat) : List Choice :=
  let src := s.get (F.CMP_VL_CTL_SRC v)
  if s.get (F.CMP_VL_CTL_SRC_KIND v) = 0 then
    if s.get (F.DEC_CTX_STAT_STATE src) = 0 ∨ s.get (F.DEC_CTX_STAT_STATE src) = 3 then []
    else
      let size := 2 ^ s.get (F.DEC_CTX_FMT_REC_LOG2 src)
      (List.range (min size (s.decCtx src).nextOut)).filterMap (fun k => (s.decRecord src k).map (decChoice src))
  else if s.get (F.ING_CTX_STAT_STATE src) = 0 then []
  else ((s.ingCtx src).recs.filter (fun (r : EsRec) => decide (r.kind = 1))).reverse.map
    (fun (r : EsRec) => (⟨true, src, 0, [], some r, r.lin⟩ : Choice))

/-- Media time of a choice, nearest to `p` (R166). -/
def Choice.mediaTime (c : Choice) (p : Nat) : Nat :=
  match c.es with
  | some r => ticksNear (r.ts % 2 ^ 32) p
  | none => ticksNear (recField c.record 28 4) p

/-- Does freeze-on-conceal allow a choice (R120, R166)? -/
def Choice.clean (c : Choice) : Bool :=
  match c.es with
  | some r => !r.damaged
  | none => (recField c.record 10 2).testBit 0 && !(recField c.record 10 2).testBit 2

/-- The same record as another choice? -/
def Choice.same (a b : Choice) : Bool := a.ingest == b.ingest && decide (a.ctx = b.ctx) && decide (a.num = b.num)

/-- The record that R166 chooses for a frame with present time `p`, and whether FREEZE held back a newer one. -/
def State.layerChoice (s : State) (v p : Nat) : Option Choice × Bool :=
  let recs := s.layerRecords v
  let due := fun (c : Choice) => !s.flag (F.CMP_VL_CTL_SEL_MODE v) ||
    decide (c.mediaTime p + s.get (F.CMP_VL_OFFSET v) * Config.us ≤ p)
  let timed := recs.filter due
  if s.flag (F.CMP_VL_CTL_FREEZE v) then
    let old := if recs.isEmpty || s.flag (F.CMP_VL_CTL_SRC_KIND v) then none
      else ((s.decCtx (s.get (F.CMP_VL_CTL_SRC v))).lastClean.map (decChoice (s.get (F.CMP_VL_CTL_SRC v)))).filter due
    let best := (timed.find? (fun (c : Choice) => c.clean)).or old
    (best, match best, timed.head? with | some a, some b => !a.same b | none, some _ => true | _, none => false)
  else (timed.head?, false)

/-- Output size of a choice. -/
def State.choiceSize (s : State) (c : Choice) : Nat × Nat :=
  if c.ingest then (s.get (F.ING_CTX_RAW_WIDTH c.ctx), s.get (F.ING_CTX_RAW_HEIGHT c.ctx))
  else (recField c.record 16 2, recField c.record 18 2)

/-- The limits of R169 on source and destination sizes. -/
def scaleOk (sw sh dw dh : Nat) : Bool :=
  decide (1 ≤ sw) && decide (1 ≤ sh) && decide (1 ≤ dw) && decide (1 ≤ dh) && decide (dw ≤ sw * 16) && decide (sw ≤ dw * 8) &&
    decide (dh ≤ sh * 16) && decide (sh ≤ dh * 8) && decide (sw ≤ 8192) && decide (sh ≤ 4352)

/-- With CROP_AUTO, may a choice be shown (R169)? -/
def State.cropOk (s : State) (v : Nat) (c : Choice) : Bool :=
  !s.flag (F.CMP_VL_CTL_CROP_AUTO v) ||
    scaleOk (s.choiceSize c).1 (s.choiceSize c).2 (s.get (F.CMP_VL_DST_WH_DW v)) (s.get (F.CMP_VL_DST_WH_DH v))

/-- The DEADLINE in a picture record (R98). -/
def recDeadline (r : List Byte) : Nat := mkTime (recField r 54 6) (recField r 50 4) (recField r 48 2)

/-- The DEADLINEs of the unpublished pictures that a stream context holds: the one dispatched (of a rewind the one that failed), the
records that wait for dispatch, and the decoded pictures that wait for output (R168). -/
def State.heldDeadlines (s : State) (n : Nat) : List Nat :=
  let c := s.decCtx n
  let run := match c.run with | some r => if r.replay then none else some r | none => none
  let recs := c.recs.filter (fun (r : EsRec) => decide (r.kind = 1))
  ((run.toList ++ c.failing.toList).map (fun (r : DecRun) => r.deadline)) ++
    ((if run.any (fun (r : DecRun) => !r.gone) || c.failing.isSome then recs.drop 1 else recs).map (fun (r : EsRec) => s.decDeadline n r)) ++
    ((c.pics.filterMap (fun (p : DecPic) => p.waiting)) ++ c.owed.map (fun p => p.2)).map (fun (o : OutRec) => recDeadline o.bytes)

/-- Does the layer's stream context hold an unpublished picture with its DEADLINE at or before now (R168)? -/
def State.layerMissed (s : State) (v : Nat) : Bool :=
  let src := s.get (F.CMP_VL_CTL_SRC v)
  !s.flag (F.CMP_VL_CTL_SRC_KIND v) && decide (s.get (F.DEC_CTX_STAT_STATE src) ∉ [0, 3]) &&
    (s.heldDeadlines src).any (fun d => decide (d ≤ s.tim.now))

/-- The video layers of a canvas but those of `keep` show nothing at this latch; those that its order does not hold forget their
choice (R159, R166). -/
def State.hideLayers (s : State) (c : Nat) (order keep : List Nat) : State :=
  ((List.range 16).filter (fun v => decide (s.get (F.CMP_VL_CTL_CANVAS v) = c) && !keep.contains v)).foldl (fun s v =>
    let s := (s.putB (F.CMP_VL_STAT_SHOWING v) false).putB (F.CMP_VL_STAT_FROZEN v) false
    if order.contains v then s else { s with cmp := { s.cmp with choice := SMap.set (fun _ => none) s.cmp.choice v none } }) s

/-- One video layer at a latch of canvas `c` for frame `n` with present time `p` (R166 to R169): the choice it shows, its
counters and its hold. -/
def State.latchLayer (s : State) (c n p v : Nat) : Option (Nat × Choice) × State :=
  let prev := SMap.get (fun _ => none) s.cmp.choice v
  let missed := s.layerMissed v
  let (want, frozen) := s.layerChoice v p
  let s := if missed then (((s.inc (F.CMP_VL_MISSES v)).raiseU 144).faultU 56) else s
  let bad := match want with | some w => !s.cropOk v w | none => false
  let pick := if missed || bad then prev else want
  let again := !missed && (bad || (s.flag (F.CMP_VL_STAT_SHOWING v) && match pick, prev with | some a, some b => a.same b | _, _ => false))
  let s := if again then s.inc (F.CMP_VL_REPEATS v) else s
  let s := (s.putB (F.CMP_VL_STAT_SHOWING v) pick.isSome).putB (F.CMP_VL_STAT_FROZEN v) (frozen && pick.isSome)
  let s := match pick with
    | some w => if w.ingest then (s.put (F.CMP_VL_STAT_OUT_NUM v) s.unstated).used else s.put (F.CMP_VL_STAT_OUT_NUM v) (w.num % 2 ^ 24)
    | none => s
  let s := { s with cmp := { s.cmp with choice := SMap.set (fun _ => none) s.cmp.choice v pick } }
  match pick with
  | some w => (some (v, w), { s with cmp := { s.cmp with holds := s.cmp.holds ++ [⟨v, c, n, w⟩] } })
  | none => (none, s)

/-- Release the holds of a canvas frame (R167). -/
def State.dropHolds (s : State) (c n : Nat) : State :=
  { s with cmp := { s.cmp with holds := s.cmp.holds.filter (fun (h : Hold) => decide (h.canvas ≠ c ∨ h.frame ≠ n)) } }

/-! ### Samples of a chosen picture (R173) -/

/-- Chroma format of a choice: 0 4:0:0, 1 4:2:0, 2 4:2:2, 3 4:4:4. -/
def State.choiceChroma (s : State) (c : Choice) : Nat :=
  if c.ingest then (if s.flag (F.ING_CTX_RAW_SAMPLING c.ctx) then 3 else 2) else recField c.record 14 2 % 4

/-- Sample `i` of `w` bits in a row of pgroups, most significant bit first (R47; ST 2110-20, log entry 19). -/
def State.pgroupSample (s : State) (c : Choice) (row w i : Nat) : Nat :=
  let r := (c.es.map (fun (r : EsRec) => r.lin)).getD 0
  let wd := s.get (F.ING_CTX_RAW_WIDTH c.ctx)
  let off := 32 + row * (if w = 12 then wd * 36 / 8 else wd * 20 / 8) + w * i / 8
  let b := fun k => (s.byte (s.esBase c.ctx + (r + off + k) % max 1 (s.esSize c.ctx))).toNat
  (b 0 * 65536 + b 1 * 256 + b 2) / 2 ^ (24 - w - w * i % 8) % 2 ^ w

/-- The stored sample of plane `pl` (0 luma or first, 1 Cb, 2 Cr) at plane coordinates, as a 12-bit code (R174). `rgb`
declares a 4:4:4 ingest source as R'G'B'. -/
def State.planeCode (s : State) (c : Choice) (rgb : Bool) (pl x y : Nat) : Nat :=
  if c.ingest then
    if s.flag (F.ING_CTX_RAW_SAMPLING c.ctx) then
      s.pgroupSample c y 12 (3 * x + (if rgb then pl else if pl = 0 then 1 else if pl = 1 then 0 else 2))
    else s.pgroupSample c y 10 (if pl = 0 then 2 * x + 1 else 4 * x + (if pl = 1 then 0 else 2)) * 4
  else
    let t := s.decStore c.ctx
    s.getSample t c.slot pl x y * (if t.deep then 4 else 16)

/-- A coordinate held between two bounds. -/
def hold (v : Int) (lo hi : Nat) : Nat := (max (lo : Int) (min (hi : Int) v)).toNat

/-- Component `k` of a choice at source position (x, y) of its output window, at luma resolution (R173): outside the window
the nearest sample inside, chroma interpolated horizontally and then vertically (log entry 23). -/
def State.compCode (s : State) (c : Choice) (rgb : Bool) (k : Nat) (x y : Int) : Nat :=
  let (w, h) := s.choiceSize c
  let cx := if c.ingest then 0 else recField c.record 20 2
  let cy := if c.ingest then 0 else recField c.record 22 2
  let ax := cx + hold x 0 (w - 1)
  let ay := cy + hold y 0 (h - 1)
  let ch := s.choiceChroma c
  if k = 0 then s.planeCode c rgb 0 ax ay
  else if ch = 0 then 2048
  else if ch = 3 then s.planeCode c rgb k ax ay
  else
    let dy := if ch = 1 then 2 else 1
    let at_ := fun (i j : Int) => s.planeCode c rgb k (hold i (cx / 2) ((cx + w - 1) / 2)) (hold j (cy / dy) ((cy + h - 1) / dy))
    let row := fun (j : Int) =>
      let i : Int := (ax / 2 : Nat)
      if ax % 2 = 0 then at_ i j
      else clip12 ((9 * (at_ i j : Int) + 9 * (at_ (i + 1) j : Int) - (at_ (i - 1) j : Int) - (at_ (i + 2) j : Int) + 8) / 16)
    if ch = 2 then row (ay : Int)
    else
      let j : Int := (ay / 2 : Nat)
      if ay % 2 = 0 then (row (j - 1) + 3 * row j + 2) / 4 else (3 * row j + row (j + 1) + 2) / 4

/-! ### Scaling (R169 to R172) -/

/-- Mean of 2^d values from index i × 2^d, rounded half up (R170). -/
def mean2 (d : Nat) (f : Int → Nat) (i : Int) : Nat :=
  ((List.range (2 ^ d)).foldl (fun (a : Nat) (k : Nat) => a + f (i * ((2 ^ d : Nat) : Int) + (k : Int))) (2 ^ d / 2)) / 2 ^ d

/-- Taps of a filter of layer `v`: the table named at COMMIT, or the built-in set (R172). -/
def State.layerTaps (s : State) (v : Nat) (horizontal : Bool) (src dst phase : Nat) : List Int :=
  match SMap.get (fun _ => []) s.cmp.filt v with
  | [] => if horizontal then builtinTaps 8 3 src dst phase else builtinTaps 6 2 src dst phase
  | t => tableTaps t horizontal phase

/-- Source rectangle of a layer for a choice (R169). -/
def State.sourceRect (s : State) (v : Nat) (c : Choice) : Rect :=
  if s.flag (F.CMP_VL_CTL_CROP_AUTO v) then ⟨0, 0, (s.choiceSize c).1, (s.choiceSize c).2⟩
  else ⟨s.get (F.CMP_VL_CROP_XY_SX v), s.get (F.CMP_VL_CROP_XY_SY v), s.get (F.CMP_VL_CROP_WH_SW v), s.get (F.CMP_VL_CROP_WH_SH v)⟩

/-- Component `k` of layer `v` at column i and row j of its destination, as a 12-bit code (R170 to R174; log entry 23). The size
after the mean, SW / 2^d, need not be whole: it enters as SW over 2^d × DW. -/
def State.scaledCode (s : State) (v : Nat) (c : Choice) (k i j : Nat) : Nat :=
  let r := s.sourceRect v c
  let dw := s.get (F.CMP_VL_DST_WH_DW v)
  let dh := s.get (F.CMP_VL_DST_WH_DH v)
  let rgb := c.ingest && s.flag (F.CMP_VL_CTL_RGB_SRC v)
  let ex := predec r.w dw
  let ey := predec r.h dh
  let xw := dw * 2 ^ ex
  let yh := dh * 2 ^ ey
  let (n, px) := srcPos r.w xw i
  let (m, py) := srcPos r.h yh j
  let src := fun (a b : Int) => s.compCode c rgb k ((r.x : Int) + a) ((r.y : Int) + b)
  let dec := fun (a b : Int) => mean2 ey (fun y => mean2 ex (fun x => src x y) a) b
  let ht := s.layerTaps v true r.w xw px
  let vt := s.layerTaps v false r.h yh py
  fir vt (fun q => fir ht (fun p => dec ((n : Int) - 3 + p) ((m : Int) - 2 + q)))

/-! ### Colour of a layer at a lamp (R174 to R178) -/

/-- Transfer function and primaries of a video layer for a choice (R176, R177). -/
def State.layerTf (s : State) (v : Nat) (c : Choice) : Nat × Nat :=
  let tf := s.get (F.CMP_VL_CSC_TF v)
  let prim := s.get (F.CMP_VL_CSC_PRIM v)
  if s.flag (F.CMP_VL_CTL_AUTO_CSC v) && !c.ingest then
    let t := recField c.record 25 1
    let p := recField c.record 24 1
    (if t ∈ [1, 6, 14, 15] then 0 else if t = 13 then 1 else if t = 16 then 2 else if t = 18 then 3 else if t = 8 then 4 else tf,
     if p = 1 then 0 else if p = 9 then 1 else if p = 12 then 2 else prim)
  else (tf, prim)

/-- The matrix registers of a layer as Q3.16 integers. -/
def State.mtxRegs (s : State) (f : Nat → Fld) : List Int := (List.range 12).map (fun i => signed 20 (s.get (f i)))

/-- The matrix of a video layer for a choice (R175). -/
def State.layerMtx (s : State) (v : Nat) (c : Choice) : List Int :=
  let regs := s.mtxRegs (F.CMP_VL_MTX v)
  if s.flag (F.CMP_VL_CTL_AUTO_CSC v) && !c.ingest then
    (autoMatrix (recField c.record 26 1) ((recField c.record 27 1).testBit 0) (if (recField c.record 14 2).testBit 2 then 10 else 8)).getD regs
  else regs

/-- A 16-bit signed position register. -/
def pos16 (v : Nat) : Int := signed 16 v

/-- Colour of a video layer at a canvas lamp; none where the layer does not cover it. -/
def State.videoLamp (s : State) (v : Nat) (c : Choice) (x y : Nat) : Option Rgba :=
  let dx := pos16 (s.get (F.CMP_VL_DST_XY_DX v))
  let dy := pos16 (s.get (F.CMP_VL_DST_XY_DY v))
  let i := (x : Int) - dx
  let j := (y : Int) - dy
  if i < 0 ∨ j < 0 ∨ (s.get (F.CMP_VL_DST_WH_DW v) : Int) ≤ i ∨ (s.get (F.CMP_VL_DST_WH_DH v) : Int) ≤ j then none
  else
    let cc := fun k => (⟨(s.scaledCode v c k i.toNat j.toNat : Nat), 4096⟩ : Q)
    let (tf, prim) := s.layerTf v c
    let lin := linearOf tf prim (s.layerMtx v c) (cc 0, cc 1, cc 2)
    let al := Q.frac (s.get (F.CMP_VL_GALPHA v)) 1023
    let f := primColour prim (s.get (F.CMP_VL_CSC_GAIN v)) al lin
    some (f 0, f 1, f 2, fp16Code al)

/-- The stored pixel of a graphic surface: inputs of the matrix stage and the surface's alpha (R174, R177, R178). -/
def State.surfacePixel (s : State) (a fmt : Nat) : (Q × Q × Q) × Q :=
  if fmt = 2 then
    let h := fun k => ofBytesLE (s.bytes (a + 2 * k) 2)
    ((fp16Val (h 0), fp16Val (h 1), fp16Val (h 2)), Q.clamp (fp16Val (h 3)) ⟨0, 1⟩ ⟨1, 1⟩)
  else
    let w := ofBytesLE (s.bytes a 4)
    if fmt = 0 then
      ((⟨bitsOf w 16 8 * 16, 4096⟩, ⟨bitsOf w 8 8 * 16, 4096⟩, ⟨bitsOf w 0 8 * 16, 4096⟩), Q.frac (bitsOf w 24 8) 255)
    else ((⟨bitsOf w 20 10 * 4, 4096⟩, ⟨bitsOf w 10 10 * 4, 4096⟩, ⟨bitsOf w 0 10 * 4, 4096⟩), Q.frac (bitsOf w 30 2) 3)

/-- Bytes of a pixel of a graphic format. -/
def pixelBytes (fmt : Nat) : Nat := if fmt = 2 then 8 else 4

/-- Colour of a surface pixel through the pipeline (R174 to R177). -/
def State.surfaceColour (s : State) (a fmt tf prim gain galpha : Nat) (premult : Bool) (m : List Int) : Rgba :=
  let (v, sa) := s.surfacePixel a fmt
  let ga := Q.frac galpha 1023
  let al := sa.times ga
  let f := primColour prim gain (if premult then ga else al) (linearOf tf prim m v)
  (f 0, f 1, f 2, fp16Code al)

/-- Colour of a graphic layer at a canvas lamp; none where the layer does not cover it (R178). -/
def State.graphicLamp (s : State) (g x y : Nat) : Option Rgba :=
  let i := (x : Int) - pos16 (s.get (F.CMP_GL_POS_DX g))
  let j := (y : Int) - pos16 (s.get (F.CMP_GL_POS_DY g))
  if i < 0 ∨ j < 0 ∨ (s.get (F.CMP_GL_SIZE_W g) : Int) ≤ i ∨ (s.get (F.CMP_GL_SIZE_H g) : Int) ≤ j then none
  else
    let fmt := s.get (F.CMP_GL_CTL_FMT g)
    let base := s.get (F.CMP_GL_BASE_HI g) * 2 ^ 32 + s.get (F.CMP_GL_BASE_LO g) * 64
    let a := base + j.toNat * s.get (F.CMP_GL_PITCH g) + i.toNat * pixelBytes fmt
    some (s.surfaceColour a fmt (s.get (F.CMP_GL_CTL_TF g)) (s.get (F.CMP_GL_CTL_PRIM g)) (s.get (F.CMP_GL_GAIN g))
      (s.get (F.CMP_GL_GALPHA g)) (s.flag (F.CMP_GL_CTL_PREMULT g)) (s.mtxRegs (F.CMP_GL_MTX g)))

/-- Base of a Lantern surface. -/
def State.ltBase (s : State) (c : Nat) : Nat := s.get (F.CMP_LT_BASE_HI c) * 2 ^ 32 + s.get (F.CMP_LT_BASE_LO c) * 64

/-- Colour of the Lantern layer of canvas `c` at a lamp (R188). -/
def State.lanternLamp (s : State) (c x y : Nat) : Option Rgba :=
  let x0 := s.get (F.CMP_LT_POS_X c)
  let y0 := s.get (F.CMP_LT_POS_Y c)
  if x < x0 ∨ y < y0 ∨ x0 + s.get (F.CMP_LT_SIZE_W c) ≤ x ∨ y0 + s.get (F.CMP_LT_SIZE_H c) ≤ y then none
  else
    let a := s.ltBase c + (y - y0) * s.get (F.CMP_LT_PITCH c) + (x - x0) * 4
    some (s.surfaceColour a 0 1 0 4096 (s.get (F.CMP_LT_GALPHA c)) false [65536, 0, 0, 0, 0, 65536, 0, 0, 0, 0, 65536, 0])

/-! ### Blend order (R180, R181) -/

/-- Layer IDs: the Lantern layer and the flatten group take numbers of their own. -/
def idLantern : Nat := 64
def idGroup : Nat := 65

/-- Is layer `id` enabled on canvas `c`? -/
def State.layerOn (s : State) (c id : Nat) : Bool :=
  if id < 16 then s.flag (F.CMP_VL_CTL_EN id) && decide (s.get (F.CMP_VL_CTL_CANVAS id) = c)
  else s.flag (F.CMP_GL_CTL_EN (id - 16)) && decide (s.get (F.CMP_GL_CTL_CANVAS (id - 16)) = c)

def State.layerZ (s : State) (id : Nat) : Nat := if id < 16 then s.get (F.CMP_VL_CTL_Z id) else s.get (F.CMP_GL_CTL_Z (id - 16))

/-- The entries of an order table, bottom first. -/
def State.orderTable (s : State) (c sel : Nat) : List Nat :=
  (List.range 64).map (fun e => bitsOf (s.rd (if sel = 0 then R.CMP_CV_ORDER_A c (e / 4) else R.CMP_CV_ORDER_B c (e / 4))) (8 * (e % 4)) 8)

/-- The composed layers of canvas `c`, bottom first (R180). -/
def State.blendOrder (s : State) (c : Nat) : List Nat :=
  let on := (List.range 64).filter (fun id => s.layerOn c id)
  if s.flag (F.CMP_CV_CTL_ORDER_MODE c) then
    (((s.orderTable c (s.get (F.CMP_CV_CTL_ORDER_SEL c))).filterMap (fun e =>
      if e.testBit 7 then some (e % 64) else none)).filter (fun id => on.contains id)).eraseDups
  else sortBy (fun a b => decide (s.layerZ a < s.layerZ b) || (decide (s.layerZ a = s.layerZ b) && decide (a ≤ b))) on

/-- Does SAVE include FLATTEN, or CULL? -/
def State.saveFlat (s : State) (c : Nat) : Bool := decide (s.get (F.CMP_CV_CTL_SAVE c) = 1 ∨ s.get (F.CMP_CV_CTL_SAVE c) = 3)
def State.saveCull (s : State) (c : Nat) : Bool := decide (2 ≤ s.get (F.CMP_CV_CTL_SAVE c))

/-- The flatten group of an order, and whether flattening is suspended (R181). -/
def State.flatGroup (s : State) (c : Nat) (order : List Nat) : List Nat × Bool :=
  let a := s.get (F.CMP_CV_FLAT_RANGE_FIRST c)
  let b := s.get (F.CMP_CV_FLAT_RANGE_LAST c)
  if !s.saveFlat c || decide (b < a) then ([], false)
  else
    let m := (order.drop a).take (b + 1 - a)
    if order.length ≤ b ∨ m.any (fun id => decide (id < 16)) then ([], true) else (m, false)

/-! ### Bricks and pieces (R160, R182 to R184) -/

/-- Bricks across a canvas. -/
def State.brickCols (s : State) (c : Nat) : Nat := ceilDiv (s.get (F.CMP_CV_SIZE_W c)) 64

/-- Rectangle of a tile on its canvas (R157). -/
def State.tileRect (s : State) (t : Nat) : Rect :=
  ⟨s.get (F.CMP_TILE_POS_X t), s.get (F.CMP_TILE_POS_Y t), s.get (F.CMP_TILE_SIZE_W t), s.get (F.CMP_TILE_SIZE_H t)⟩

/-- The intersection of a rectangle with brick (bx, by). -/
def brickCut (r : Rect) (bx by_ : Nat) : Rect :=
  let x := max r.x (64 * bx)
  let y := max r.y (64 * by_)
  ⟨x, y, min (r.x + r.w) (64 * bx + 64) - x, min (r.y + r.h) (64 * by_ + 64) - y⟩

/-- The pieces of a canvas's enabled tiles, in the order of R160: tile, brick column, brick row. -/
def State.piecesOf (s : State) (c : Nat) : List (Nat × Nat × Nat) :=
  (s.tilesOf c).flatMap (fun t =>
    let r := s.tileRect t
    (List.range ((r.y + r.h - 1) / 64 + 1 - r.y / 64)).flatMap (fun j =>
      (List.range ((r.x + r.w - 1) / 64 + 1 - r.x / 64)).map (fun i => (t, r.x / 64 + i, r.y / 64 + j))))

/-- Address of the brick's lamp in the flatten surface (R182). -/
def State.flatAddr (s : State) (c x y : Nat) : Nat :=
  s.get (F.CMP_CV_FLAT_HI c) * 2 ^ 32 + s.get (F.CMP_CV_FLAT_LO c) * 4096 +
    (y / 64 * s.brickCols c + x / 64) * 32768 + (y % 64 * 64 + x % 64) * 8

def brickKey (id b : Nat) : Nat := id * 65536 + b

/-- Colour of layer `id` (0 to 64) of a canvas frame at a lamp. -/
def State.layerLamp (k : State) (fr : CvFrame) (c id x y : Nat) : Option Rgba :=
  if id = idLantern then k.lanternLamp c x y
  else if id < 16 then
    match fr.choices.find? (fun p => decide (p.1 = id)) with
    | some (_, ch) => k.videoLamp id ch x y
    | none => none
  else k.graphicLamp (id - 16) x y

/-- The composite of the flatten group over transparent (R181). -/
def State.groupLamp (k : State) (fr : CvFrame) (c x y : Nat) : Rgba :=
  fr.flat.foldl (fun a id => match k.layerLamp fr c id x y with | some p => overRgba p a | none => a) (0, 0, 0, 0)

/-- The items of a frame, bottom first: layers, the flatten group in place of its members, and the Lantern layer last
(R181, R188, R193). -/
def CvFrame.items (fr : CvFrame) (hide : Bool) : List Nat :=
  (if hide then [] else
    (fr.order.foldl (fun (a : List Nat) id =>
      if fr.flat.contains id then (if a.contains idGroup then a else a ++ [idGroup]) else a ++ [id]) [])) ++
  (if fr.lantern then [idLantern] else [])

/-- Destination rectangle of a video layer covers every canvas lamp of the brick (R184). -/
def State.videoCovers (k : State) (c v bx by_ : Nat) : Bool :=
  let dx := pos16 (k.get (F.CMP_VL_DST_XY_DX v))
  let dy := pos16 (k.get (F.CMP_VL_DST_XY_DY v))
  let x1 := min (64 * bx + 64) (k.get (F.CMP_CV_SIZE_W c))
  let y1 := min (64 * by_ + 64) (k.get (F.CMP_CV_SIZE_H c))
  decide (dx ≤ (64 * bx : Nat)) && decide (dy ≤ (64 * by_ : Nat)) &&
    decide ((x1 : Int) ≤ dx + (k.get (F.CMP_VL_DST_WH_DW v) : Nat)) && decide ((y1 : Int) ≤ dy + (k.get (F.CMP_VL_DST_WH_DH v) : Nat))

/-- Is an item opaque in a brick, as a frame uses it (R184)? -/
def State.itemOpaque (k : State) (fr : CvFrame) (c id bx by_ : Nat) : Bool :=
  if id < 16 then
    (fr.choices.any (fun p => decide (p.1 = id))) && decide (k.get (F.CMP_VL_GALPHA id) = 1023) && k.videoCovers c id bx by_
  else fr.opaque_.contains (brickKey id (by_ * k.brickCols c + bx))

/-- The items of a frame that a piece blends, bottom first, and the number of layer pieces culled (R184). -/
def State.blended (k : State) (fr : CvFrame) (c bx by_ : Nat) (r : Rect) (items : List Nat) : List Nat × Nat :=
  if !k.saveCull c then (items, 0)
  else
    let top := (items.reverse.takeWhile (fun id => !k.itemOpaque fr c id bx by_)).length
    let keep := items.drop (items.length - (top + 1))
    let gone := items.take (items.length - (top + 1))
    (keep, (gone.filter (fun id => decide (id = idGroup) || r.points.any (fun p => (k.layerLamp fr c id p.1 p.2).isSome))).length)

/-- State of a flatten brick. -/
def State.brick (s : State) (c b : Nat) : Brick := SMap.get (fun _ => Brick.invalid) (s.cvState c).bricks b
def State.setBrick (s : State) (c b : Nat) (v : Brick) : State :=
  s.setCv c { s.cvState c with bricks := SMap.set (fun _ => Brick.invalid) (s.cvState c).bricks b v }

/-- Bytes of a colour as the flatten surface holds it. -/
def rgbaBytes (p : Rgba) : List Byte := bytesLE 2 p.1 ++ bytesLE 2 p.2.1 ++ bytesLE 2 p.2.2.1 ++ bytesLE 2 p.2.2.2
def State.rgbaAt (s : State) (a : Nat) : Rgba :=
  let h := fun k => ofBytesLE (s.bytes (a + 2 * k) 2)
  (h 0, h 1, h 2, h 3)

/-- Background of a canvas (R179). -/
def State.background (k : State) (c : Nat) : Rgba :=
  (fp16Code (fp16Val (k.get (F.CMP_CV_BG_RG_R c))), fp16Code (fp16Val (k.get (F.CMP_CV_BG_RG_G c))),
    fp16Code (fp16Val (k.get (F.CMP_CV_BG_B_B c))), fp16One)

/-- The machine with what a canvas frame fixed at its latch: the registers and the filter tables (R159). -/
def State.frameView (s : State) (fr : CvFrame) : State := { s with regs := fr.conf, cmp := { s.cmp with filt := fr.filt } }

/-- Render the group into the flatten surface over a piece (R182); a piece whose members are written meanwhile leaves free values
(R187). -/
def State.renderPiece (s : State) (fr : CvFrame) (c : Nat) (r : Rect) (torn : Bool) : State :=
  r.points.foldl (fun s p =>
    let k := s.frameView fr
    if torn then s.freeBytes (k.flatAddr c p.1 p.2) 8
    else s.setBytes (k.flatAddr c p.1 p.2) (rgbaBytes (k.groupLamp fr c p.1 p.2))) s

/-- The state a rendered brick takes from the alpha of its lamps in enabled tiles (R182). -/
def State.brickResult (s : State) (fr : CvFrame) (c bx by_ : Nat) : Brick :=
  let k := s.frameView fr
  let lamps := (k.piecesOf c).flatMap (fun p => if p.2.1 = bx ∧ p.2.2 = by_ then (brickCut (k.tileRect p.1) bx by_).points else [])
  let al := lamps.map (fun p => (s.rgbaAt (k.flatAddr c p.1 p.2)).2.2.2)
  if al.all (fun a => decide (a = 0)) then .empty else if al.all (fun a => decide (a = fp16One)) then .opaque else .partly

/-- Colour of an item at a lamp while a piece is composed: a flatten brick in use comes from the surface. -/
def State.itemLamp (k : State) (fr : CvFrame) (c id x y : Nat) (empty : Bool) : Option Rgba :=
  if id = idGroup then (if empty then none else some (k.rgbaAt (k.flatAddr c x y))) else k.layerLamp fr c id x y

/-- The pixels of graphic layer `g` over a rectangle of canvas `c`, as a range to watch. -/
def State.pixelWatch (k : State) (c g : Nat) (what : WatchFor) (r : Rect) (hits : List Nat) : List Watch :=
  let dx := pos16 (k.get (F.CMP_GL_POS_DX g))
  let dy := pos16 (k.get (F.CMP_GL_POS_DY g))
  let n := pixelBytes (k.get (F.CMP_GL_CTL_FMT g))
  let x0 := ((r.x : Int) - dx).toNat
  let y0 := ((r.y : Int) - dy).toNat
  let x1 := min (((r.x + r.w : Nat) : Int) - dx).toNat (k.get (F.CMP_GL_SIZE_W g))
  let y1 := min (((r.y + r.h : Nat) : Int) - dy).toNat (k.get (F.CMP_GL_SIZE_H g))
  if x1 ≤ x0 ∨ y1 ≤ y0 then []
  else [⟨c, what, k.get (F.CMP_GL_BASE_HI g) * 2 ^ 32 + k.get (F.CMP_GL_BASE_LO g) * 64, k.get (F.CMP_GL_PITCH g),
    x0 * n, x1 * n, y0, y1, hits⟩]

/-- Keep the watches that `keep` says, and add some. -/
def State.rewatch (s : State) (keep : Watch → Bool) (new : List Watch) : State :=
  { s with cmp := { s.cmp with watch := s.cmp.watch.filter keep ++ new } }

/-- Is a watch one of the pieces, or of the cleared opacity bits, of canvas `c`? -/
def Watch.ofPiece (w : Watch) (c : Nat) : Bool :=
  decide (w.canvas = c) && match w.what with | .piece _ => true | _ => false
def Watch.ofPast (w : Watch) (c : Nat) : Bool :=
  decide (w.canvas = c) && match w.what with | .past _ => true | _ => false

/-- Is a watch one of the matrix banks that frame `n` of canvas `c` uses? -/
def Watch.ofFrame (w : Watch) (c n : Nat) : Bool :=
  decide (w.canvas = c) && match w.what with | .matrix m _ => decide (m = n) | _ => false

/-- Watch the pixels of the graphic layers that the next piece of a canvas fetches (R187). -/
def State.watchPiece (s : State) (c : Nat) : State :=
  let new := match (s.cvState c).cur with
    | some fr =>
      match fr.pieces with
      | (t, bx, by_) :: _ =>
        let k := s.frameView fr
        (fr.order.filter (fun id => decide (16 ≤ id))).flatMap (fun id =>
          k.pixelWatch c (id - 16) (.piece id) (brickCut (k.tileRect t) bx by_) [])
      | [] => []
    | none => []
  s.rewatch (fun w => !w.ofPiece c) new

/-- Is a graphic layer, alone or in the group when that is rendered, written while its piece is fetched (R187)? -/
def State.tornPiece (s : State) (fr : CvFrame) (c : Nat) (keep : List Nat) (render : Bool) : Bool :=
  s.cmp.watch.any (fun w => w.ofPiece c && !w.hits.isEmpty && match w.what with
    | .piece id => keep.contains id || (render && fr.flat.contains id)
    | _ => false)

/-- Has a brick of a graphic layer been written since its opacity bit came to be, with no invalidation since (R183)? -/
def State.staleBrick (s : State) (fr : CvFrame) (c b : Nat) (items : List Nat) : Bool :=
  let of := fun key => decide (key % 65536 = b) && items.contains (key / 65536) && fr.opaque_.contains key
  s.cmp.watch.any (fun w => decide (w.canvas = c) && !w.hits.isEmpty && match w.what with
    | .opacity key => of key
    | .past key => of key
    | _ => false)

/-- A fetched piece of an item had alpha exactly 1.0 at every lamp: note it, and set the item's opacity bit once every
piece of the brick has (R184). The pixels behind it are watched from the first such piece on (R183). -/
def State.notePiece (s : State) (fr : CvFrame) (c id t bx by_ : Nat) : State :=
  let k := s.frameView fr
  let b := by_ * k.brickCols c + bx
  let v := s.cvState c
  if fr.blocked.contains (brickKey id b) then s
  else
    let key := brickKey id b
    let old := s.cmp.watch.any (fun w => decide (w.canvas = c ∧ w.what = .opacity key))
    let torn := s.cmp.watch.any (fun w => decide (w.canvas = c ∧ w.what = .piece id) && !w.hits.isEmpty)
    let whole := brickCut ⟨0, 0, k.get (F.CMP_CV_SIZE_W c), k.get (F.CMP_CV_SIZE_H c)⟩ bx by_
    let s := if old || decide (id < 16) || decide (idLantern ≤ id) then s
      else s.rewatch (fun _ => true) (k.pixelWatch c (id - 16) (.opacity key) whole (if torn then [0] else []))
    let seen := SMap.set (fun _ => false) v.seen (brickKey id b * 4096 + t) true
    let all := ((k.piecesOf c).filter (fun p => decide (p.2.1 = bx ∧ p.2.2 = by_))).all (fun p =>
      SMap.get (fun _ => false) seen (brickKey id b * 4096 + p.1))
    s.setCv c { v with
      seen := seen
      opaque_ := if all then SMap.set (fun _ => false) v.opaque_ (brickKey id b) true else v.opaque_ }

/-- Lamp rate of a pipe at the rating point. -/
def pipeRate : Nat := 2013265920

/-- Refresh the forecast of a canvas (R163) and its risk. -/
def State.cvForecast (s : State) (c : Nat) : State :=
  let v := s.cvState c
  let slack := match v.cur with
    | none => 0x7FFFFFFF
    | some fr =>
      let k := s.frameView fr
      let dl := (k.segsOf c).foldl (fun (a : Option Nat) g =>
        let d := fr.present - k.get (F.OUT_SEG_GUARD_GUARD_US g) * Config.us
        some (match a with | some b => min b d | none => d)) none
      match dl with
      | none => 0x7FFFFFFF
      | some d =>
        let work := ((Q.ofNat (fr.lamps * Config.sec)).over pipeRate).times s.paceRatio
        slackNs ((Q.ofNat d).minus ((Q.ofNat s.tim.now).plus work))
  let s := s.wr (R.CMP_CV_SLACK c) slack
  let low := fun (s : State) q => decide (signed 32 (s.rd (R.CMP_CV_SLACK q)) < (s.get F.CMP_GLB_MARGIN * 1000 : Nat))
  let risk := low s c
  let s := s.setCv c { s.cvState c with riskRaised := risk }
  let s := if risk && !v.riskRaised then s.raiseU 146 else s
  s.setCond 146 s.unstated ((List.range 4).any (fun q => low s q))

/-- A stopping canvas with no frame and no hold reaches OFF (R164). -/
def State.cvMaybeOff (s : State) (c : Nat) : State :=
  let v := s.cvState c
  if s.get (F.CMP_CV_STAT_STATE c) = 2 ∧ v.cur.isNone ∧ v.waiting.isNone ∧ !s.cmp.holds.any (fun (h : Hold) => decide (h.canvas = c)) then
    (s.put (F.CMP_CV_STAT_STATE c) 0).putB (F.CMP_CV_STAT_IDLE c) true
  else s

/-- CANVAS_FRAME_START: the latched frame starts once the previous one is composed (R161). -/
def State.cvFrameStart (s : State) (c : Nat) : State :=
  let v := s.cvState c
  match v.cur, v.waiting with
  | none, some fr => if s.sec.open_ then s else ((s.setCv c { v with cur := some fr, waiting := none }).watchPiece c).cvForecast c
  | _, _ => s

/-- Does a tile of the canvas wait for a packet buffer, so that the pipe waits with it (R274)? -/
def State.pipeWaits (s : State) (fr : CvFrame) (c : Nat) : Bool :=
  ((s.frameView fr).tilesOf c).any (fun t => (s.flow t).frames.any (fun (x : TileFrame) => x.waiting))

/-- Free FP16 colours for the lamps of a piece. -/
def State.drawLamps (s : State) : Nat → List (Nat × Nat × Nat) × State
  | 0 => ([], s)
  | n + 1 =>
    let f := fun i => Config.freeNat (s.draw + i) % 65536
    let (r, s') := State.drawLamps { s with draw := s.draw + 3 } n
    ((f 0, f 1, f 2) :: r, s')

/-- An uncorrectable read of a flatten brick clears the group's opacity bit there (R183). -/
def State.groupUnseen (s : State) (c b : Nat) : State :=
  let v := s.cvState c
  let key := brickKey idGroup b
  s.setCv c { v with opaque_ := v.opaque_.filter (fun p => decide (p.1 ≠ key)), seen := v.seen.filter (fun p => decide (p.1 / 4096 ≠ key)) }

/-- TILE_PIECE_COMPOSED (R160): the next piece of the canvas frame in progress. `bad` marks an uncorrectable read of the
piece's flatten brick, which is then rendered from the members (R183). -/
def State.composePiece (s : State) (c : Nat) (bad : Bool) : State :=
  match (if s.sec.open_ then none else (s.cvState c).cur) with
  | none => s
  | some fr =>
    match fr.pieces with
    | [] => s
    | (t, bx, by_) :: rest =>
      if s.pipeWaits fr c then s
      else
        let k := s.frameView fr
        let r := brickCut (k.tileRect t) bx by_
        let b := by_ * k.brickCols c + bx
        let hide := fr.lantern && (k.flag (F.CMP_LT_CTL_HIDE_BELOW c) || decide (k.get F.FLT_GLB_STAT_STATE = 4))
        let items := fr.items hide
        let (keep, culled) := k.blended fr c bx by_ r items
        let s := s.add (F.CMP_CV_CULLED c) culled
        let useGroup := keep.contains idGroup
        let s := if useGroup && bad then (s.setBrick c b .invalid).groupUnseen c b else s
        let render := useGroup && decide (s.brick c b = Brick.invalid)
        let first := !((k.piecesOf c).take ((k.piecesOf c).length - fr.pieces.length)).any (fun p => decide (p.2.1 = bx ∧ p.2.2 = by_))
        let lastOf := !rest.any (fun p => decide (p.2.1 = bx ∧ p.2.2 = by_))
        let torn := s.tornPiece fr c keep render
        let s := if render then s.renderPiece fr c r torn else s
        let rendered := if render && first then fr.rendered ++ [b] else if useGroup && !render then fr.rendered.filter (· ≠ b) else fr.rendered
        let s := if render && lastOf && rendered.contains b && !fr.blocked.contains (brickKey idGroup b) then
            (s.setBrick c b (s.brickResult fr c bx by_)).inc (F.CMP_CV_FLAT_RENDERS c)
          else s
        let empty := decide (s.brick c b = Brick.empty)
        let k := s.frameView fr
        let s := if k.saveCull c then keep.foldl (fun s id =>
            if 16 ≤ id ∧ r.points.all (fun p => match k.itemLamp fr c id p.1 p.2 empty with
                | some q => decide (q.2.2.2 = fp16One) | none => false) then s.notePiece fr c id t bx by_ else s) s
          else s
        let exact := r.points.map (fun p =>
          let q := keep.foldl (fun a id => match k.itemLamp fr c id p.1 p.2 empty with | some l => overRgba l a | none => a) (k.background c)
          (q.1, q.2.1, q.2.2.1))
        let (lamps, s) := if torn || (k.saveCull c && s.staleBrick fr c b items) then s.drawLamps exact.length else (exact, s)
        let fr' := { fr with pieces := rest, lamps := fr.lamps - lamps.length, rendered := rendered }
        let s := { s with cal := { s.cal with pieces := s.cal.pieces ++ [(⟨c, fr', t, r, lamps, rest.isEmpty⟩ : Piece)] } }
        if rest.isEmpty then
          ((((s.setCv c { s.cvState c with cur := none }).rewatch (fun w => !w.ofPiece c && !w.ofPast c) []).dropHolds c fr.n).inc (F.CMP_CV_FRAMES c)).cvForecast c |>.cvMaybeOff c
        else ((s.setCv c { s.cvState c with cur := some fr' }).watchPiece c).cvForecast c

/-! ### Invalidations (R183) -/

/-- Forget the opacity bits and brick states of some bricks of canvas `c`: `hit` says which keys. A frame in progress or
latched may no longer set them. -/
def State.cvForget (s : State) (c : Nat) (hit : Nat → Bool) : State :=
  let v := s.cvState c
  let bricks := (s.brickCols c) * ceilDiv (s.get (F.CMP_CV_SIZE_H c)) 64
  let keys := (List.range 66).flatMap (fun id => ((List.range bricks).filter (fun b => hit (brickKey id b))).map (brickKey id))
  let mine := fun (w : Watch) => decide (w.canvas = c) && match w.what with | .opacity key => hit key | _ => false
  let past := if v.cur.isNone then []
    else (s.cmp.watch.filter mine).map (fun w => { w with what := match w.what with | .opacity key => .past key | x => x })
  (s.rewatch (fun w => !mine w) past).setCv c { v with
    bricks := v.bricks.filter (fun p => !hit (brickKey idGroup p.1))
    opaque_ := v.opaque_.filter (fun p => !hit p.1)
    seen := v.seen.filter (fun p => !hit (p.1 / 4096))
    waiting := v.waiting.map (fun (fr : CvFrame) => { fr with blocked := (fr.blocked ++ keys).eraseDups })
    cur := v.cur.map (fun (fr : CvFrame) => { fr with blocked := (fr.blocked ++ keys).eraseDups }) }

/-- The surface invalidation of every brick is still to be told by event 147 (R183). -/
def State.flatLose (s : State) (c : Nat) : State := s.setCv c { s.cvState c with flatLost := true }

/-- Every brick of the canvas becomes INVALID and the opacity bits of `ids` are cleared. -/
def State.cvInvalidate (s : State) (c : Nat) (ids : List Nat) : State :=
  (s.cvForget c (fun k => decide (k / 65536 = idGroup) || ids.contains (k / 65536))).flatLose c

/-- A written DIRTY of graphic layer `g` is applied at a latch of its canvas (R183). -/
def State.applyDirty (s : State) (c g : Nat) : State :=
  let cols := s.brickCols c
  let hit := fun k =>
    let id := k / 65536
    let b := k % 65536
    decide (id = idGroup ∨ id = 16 + g) && decide (s.get (F.CMP_GL_DIRTY_X_X0 g) ≤ b % cols) && decide (b % cols < s.get (F.CMP_GL_DIRTY_X_X1 g)) &&
      decide (s.get (F.CMP_GL_DIRTY_Y_Y0 g) ≤ b / cols) && decide (b / cols < s.get (F.CMP_GL_DIRTY_Y_Y1 g))
  let all := (List.range (cols * ceilDiv (s.get (F.CMP_CV_SIZE_H c)) 64)).all (fun b => hit (brickKey idGroup b))
  let s := if all then s.flatLose c else s
  (s.cvForget c hit).putB (F.CMP_GL_CMD_DIRTY g) false

/-! ### The Lantern layer (R188 to R193) -/

/-- Is the Lantern layer of canvas `c` shown now (R192)? -/
def State.ltShownNow (s : State) (c : Nat) : Bool :=
  decide (s.get (F.CMP_LT_CTL_MODE c) = 1) ||
    (decide (s.get (F.CMP_LT_CTL_MODE c) = 2) && (s.get F.CMP_GLB_LT_MASK).testBit c &&
      (s.flag F.CMP_GLB_LT_PIN_ALARM || s.flag (F.CMP_LT_STAT_LATCHED c)))

/-- The protected range of a Lantern surface in use (R191). -/
def State.ltRange (s : State) (c : Nat) : Option (Nat × Nat × Nat) :=
  if s.get (F.CMP_LT_CTL_MODE c) = 0 then none
  else some (c, s.ltBase c, s.ltBase c + s.get (F.CMP_LT_PITCH c) * s.get (F.CMP_LT_SIZE_H c))

/-- Bytes of a Lantern surface that its digest covers: W × 4 of each row, top row first (R190). -/
def State.ltBytes (s : State) (c : Nat) : List Byte :=
  (List.range (s.get (F.CMP_LT_SIZE_H c))).flatMap (fun j =>
    s.bytes (s.ltBase c + j * s.get (F.CMP_LT_PITCH c)) (s.get (F.CMP_LT_SIZE_W c) * 4))

/-- Does the digest of the Lantern surface match CMP_LT_HASH (R190)? -/
def State.ltMatch (s : State) (c : Nat) : Bool :=
  sha384 (s.ltBytes c) == ((List.range 12).flatMap (fun i => bytesBE 4 (s.rd (R.CMP_LT_HASH c i))))

/-- Would a write of `n` bytes at `a` touch a protected range (R191)? -/
def State.isProtected (s : State) (a n : Nat) : Bool :=
  s.cmp.protected_.any (fun p => decide (a < p.2.2) && decide (p.2.1 < a + n))

/-- The filtered alarm of LANTERN_N changes once the pin has held its level for 1 ms (R192). -/
def State.lanternFilter (s : State) : State :=
  if s.cmp.ltLow = s.flag F.CMP_GLB_LT_PIN_ALARM ∨ s.tim.elapsed < s.cmp.ltEdge + Config.ms then s
  else
    let s := ((s.putB F.CMP_GLB_LT_PIN_ALARM s.cmp.ltLow).raiseU 150).setCond 150 s.unstated s.cmp.ltLow
    if s.cmp.ltLow then
      (List.range 4).foldl (fun s c => if s.flag (F.CMP_LT_CTL_LATCH c) then s.putB (F.CMP_LT_STAT_LATCHED c) true else s) s
    else s

/-! ### Fetch load (R186) -/

/-- Bytes per sample of a stream source or an ingest source (R186). -/
def State.sourceBps (s : State) (kind n : Nat) : Q :=
  if kind = 1 then (if s.flag (F.ING_CTX_RAW_SAMPLING n) then ⟨9, 2⟩ else ⟨5, 2⟩)
  else
    let base : Q := [(⟨1, 1⟩ : Q), ⟨3, 2⟩, ⟨2, 1⟩, ⟨3, 1⟩].getD (s.get (F.DEC_CTX_FMT_CHROMA n)) ⟨1, 1⟩
    if s.flag (F.DEC_CTX_FMT_DEPTH n) then base.times ⟨4, 3⟩ else base

/-- Declared maximum size of a layer's source (R169). -/
def State.sourceMax (s : State) (v : Nat) : Nat × Nat :=
  let n := s.get (F.CMP_VL_CTL_SRC v)
  if s.flag (F.CMP_VL_CTL_SRC_KIND v) then (s.get (F.ING_CTX_RAW_WIDTH n), s.get (F.ING_CTX_RAW_HEIGHT n))
  else (s.get (F.DEC_CTX_DIM_MAX_W n), s.get (F.DEC_CTX_DIM_MAX_H n))

/-- Frame rate of a canvas as a rational. -/
def State.cvRate (s : State) (c : Nat) : Q :=
  let g := s.get (F.CMP_CV_CTL_SEG c)
  Q.frac (s.get (F.TIM_SEG_RATE_NUM g)) (s.get (F.TIM_SEG_RATE_DEN g))

/-- Fetch load of a layer, in bytes/s. -/
def State.layerLoad (s : State) (id : Nat) : Q :=
  if id < 16 then
    let (w, h) := if s.flag (F.CMP_VL_CTL_CROP_AUTO id) then s.sourceMax id else (s.get (F.CMP_VL_CROP_WH_SW id), s.get (F.CMP_VL_CROP_WH_SH id))
    (((Q.ofNat (w * h)).times (s.sourceBps (s.get (F.CMP_VL_CTL_SRC_KIND id)) (s.get (F.CMP_VL_CTL_SRC id)))).times
      (s.cvRate (s.get (F.CMP_VL_CTL_CANVAS id)))).times ⟨5, 4⟩
  else
    let g := id - 16
    (Q.ofNat (s.get (F.CMP_GL_SIZE_W g) * s.get (F.CMP_GL_SIZE_H g) * pixelBytes (s.get (F.CMP_GL_CTL_FMT g)))).times
      (s.cvRate (s.get (F.CMP_GL_CTL_CANVAS g)))

/-- Fetch load of the Lantern layer of a canvas. -/
def State.lanternLoad (s : State) (c : Nat) : Q :=
  if s.get (F.CMP_LT_CTL_MODE c) = 0 then Q.ofNat 0
  else (Q.ofNat (s.get (F.CMP_LT_SIZE_W c) * s.get (F.CMP_LT_SIZE_H c) * 4)).times (s.cvRate c)

/-- Fetch load of a canvas (R186). -/
def State.cvLoad (s : State) (c : Nat) : Q :=
  (((List.range 64).filter (fun id => s.layerOn c id)).foldl (fun (a : Q) id => (a.plus (s.layerLoad id)).norm) (s.lanternLoad c)).norm

/-- Megabytes per second, rounded up. -/
def mbCeil (q : Q) : Nat := (q.over 1000000).ceil.toNat

/-- Registers of a stream context that report what its declared parameters come to: the size of a slot (R96) and its load (R102). -/
def State.decDerived (s : State) (off : Nat) : Option Nat :=
  match regIdx off (R.DEC_CTX_SLOT_BYTES 0) 0x100 256, regIdx off (R.DEC_CTX_LOAD 0) 0x100 256 with
  | some n, _ => some ((s.decStore n).slotBytes % 2 ^ 32)
  | none, some n => some (((s.decJob n).l.over 1000000).ceil.toNat % 2 ^ 14)
  | none, none => none

/-- The fetch load registers, worked out as they are read: 0 for a layer or canvas that is not enabled (R186, R197). -/
def State.loadReg (s : State) (off : Nat) : Option Nat :=
  if off = R.CMP_GLB_LOAD then
    some (mbCeil ((List.range 4).foldl (fun (a : Q) c => if s.flag (F.CMP_CV_CTL_EN c) then a.plus (s.cvLoad c) else a) (Q.ofNat 0)) % 2 ^ 17)
  else match regIdx off (R.CMP_VL_LOAD 0) 0x100 16 with
    | some v => some (if s.flag (F.CMP_VL_CTL_EN v) then mbCeil (s.layerLoad v) % 2 ^ 17 else 0)
    | none => match regIdx off (R.CMP_GL_LOAD 0) 0x100 48 with
      | some g => some (if s.flag (F.CMP_GL_CTL_EN g) then mbCeil (s.layerLoad (16 + g)) % 2 ^ 17 else 0)
      | none => (regIdx off (R.CMP_CV_LOAD 0) 0x400 4).map (fun c => if s.flag (F.CMP_CV_CTL_EN c) then mbCeil (s.cvLoad c) % 2 ^ 17 else 0)

end Sys2Proof.Machine
end

