-- ==== Sys2Proof/Machine/Mem.lean ====
section
/-! DEFINITION. The DRAM channels and the arbiters (spec/11): queues and scheduling, refresh and Leap windows, live
retraining, read errors, panic, grants, hold cut-off and freeze. -/

namespace Sys2Proof.Machine

/-! ### Address map (R293) -/

/-- Channel of a DRAM address. -/
def dramChannel (a : Nat) : Nat := bitsOf a 7 3 ^^^ bitsOf a 15 3 ^^^ bitsOf a 23 3

/-- Subchannel and bank of a DRAM address as one number. -/
def dramBank (a : Nat) : Nat := bitsOf a 6 1 * 16 + (bitsOf a 15 4 ^^^ bitsOf a 19 4)

/-- Column of a DRAM address, in 64-byte units. -/
def dramColumn (a : Nat) : Nat := bitsOf a 10 5

/-- Row of a DRAM address. -/
def dramRow (a : Nat) : Nat := bitsOf a 19 17

def State.memQueue (s : State) (ch : Nat) : List MemReq := SMap.get (fun _ => []) s.memc.queue ch
def State.memReads (s : State) (ch : Nat) : List MemReq := SMap.get (fun _ => []) s.memc.reads ch
def State.setReads (s : State) (ch : Nat) (q : List MemReq) : State :=
  { s with memc := { s.memc with reads := SMap.set (fun _ => []) s.memc.reads ch q } }

/-- Is a request's owner in panic (R300)? -/
def State.inPanic (s : State) (r : MemReq) : Bool := s.flag (F.ARB_OWN_PANIC 0 r.owner)

/-- A channel queue changes: QUEUED, and PANIC with the time a panic request has been queued. -/
def State.setMemQueue0 (s : State) (ch : Nat) (q : List MemReq) : State :=
  let s := { s with memc := { s.memc with queue := SMap.set (fun _ => []) s.memc.queue ch q } }
  let s := s.put (F.MEM_CH_STAT_QUEUED ch) q.length
  let pan := q.any (fun (r : MemReq) => s.inPanic r)
  match SMap.get (fun _ => none) s.memc.panicAt ch with
  | none =>
    let s := s.putB (F.MEM_CH_STAT_PANIC ch) pan
    if pan then { s with memc := { s.memc with panicAt := SMap.set (fun _ => none) s.memc.panicAt ch (some s.tim.elapsed) } } else s
  | some t =>
    if pan then s
    else
      let tot := SMap.get (fun _ => 0) s.memc.panicTotal ch + (s.tim.elapsed - t)
      let s := { s with memc := { s.memc with
        panicAt := SMap.set (fun _ => none) s.memc.panicAt ch none
        panicTotal := SMap.set (fun _ => 0) s.memc.panicTotal ch tot } }
      (s.putB (F.MEM_CH_STAT_PANIC ch) false).wr (R.MEM_CH_PANIC_US ch) (tot / Config.us)

/-- The same, with the condition of event 245 (R443). -/
def State.setMemQueue (s : State) (ch : Nat) (q : List MemReq) : State :=
  let s := s.setMemQueue0 ch q
  s.setCond 245 s.unstated ((List.range 8).any (fun k => s.flag (F.MEM_CH_STAT_PANIC k)))

/-! ### Arbiters (R311 to R315) -/

def State.grantOf (s : State) (a : Nat) : Option (Nat × Nat) := SMap.get (fun _ => none) s.memc.grant a
def State.setGrant (s : State) (a : Nat) (g : Option (Nat × Nat)) : State :=
  ({ s with memc := { s.memc with grant := SMap.set (fun _ => none) s.memc.grant a g } }).putB (F.ARB_STAT_ACTIVE a) g.isSome

/-- Does the arbiter's resource hold accepted work (R315)? -/
def State.resourceBusy (s : State) (a : Nat) : Bool :=
  if a < 8 then !(s.memQueue a).isEmpty
  else if a < 24 then decide (s.tim.elapsed < SMap.get (fun _ => 0) s.net.txEnd (a - 8))
  else s.dma.chan.any (fun p => p.2.mover.isSome)

/-- A frozen arbiter with no grant active and no accepted work is drained (R315). -/
def State.drainCheck (s : State) (a : Nat) : State :=
  if s.flag (F.ARB_CTL_FREEZE a) && (s.grantOf a).isNone && !s.resourceBusy a && !s.flag (F.ARB_STAT_DRAINED a) then
    (s.putB (F.ARB_STAT_DRAINED a) true).raiseU 244
  else s

/-- Priority of an owner at a DRAM arbiter (R311). -/
def State.ownPrio (s : State) (a o : Nat) : Nat := if s.flag (F.ARB_OWN_PANIC a o) then 7 else s.get (F.ARB_OWN_PRIO a o)

/-- The winner among requesting owners below `n`: highest priority, ties ascending after the last owner (R311). -/
def arbWinner (n last : Nat) (prio : Nat → Nat) (want : Nat → Bool) : Option Nat :=
  let order := (List.range n).map (fun k => (last + 1 + k) % n)
  (order.filter want).foldl (fun (b : Option Nat) o =>
    match b with | some w => if prio w < prio o then some o else b | none => some o) none

/-- Requests that wait for a grant of a DRAM arbiter, and the owners that request one: those with such a request and those that the
newest arbitration phase named. -/
def State.memWaiting (s : State) (ch : Nat) : List MemReq := SMap.get (fun _ => []) s.memc.waiting ch
def State.setWaiting (s : State) (ch : Nat) (q : List MemReq) : State :=
  { s with memc := { s.memc with waiting := SMap.set (fun _ => []) s.memc.waiting ch q } }
def State.asks (s : State) (a o : Nat) : Bool :=
  (SMap.get (fun _ => 0) s.memc.asking a).testBit o || (s.memWaiting a).any (fun (r : MemReq) => decide (r.owner = o))

/-- The owners that request a DRAM arbiter, by bit, as an arbitration phase finds them. -/
def State.setAsking (s : State) (a requests : Nat) : State :=
  { s with memc := { s.memc with asking := SMap.set (fun _ => 0) s.memc.asking a requests } }

/-- A grant ends when its owner drops its request (R312). -/
def State.grantDropped (s : State) (a : Nat) : State :=
  if (s.grantOf a).isSome && !s.asks a (s.get (F.ARB_STAT_OWNER a)) then s.setGrant a none else s

/-- Grant a free DRAM arbiter to the winner among the requesting owners; not while it is frozen or its channel queue is full
(R311, R312, R314, R315). -/
def State.arbTake (s : State) (a : Nat) : State :=
  if s.flag (F.ARB_CTL_FREEZE a) ∨ 1024 ≤ (s.memQueue a).length then s.drainCheck a
  else
    match arbWinner 29 (s.get (F.ARB_STAT_OWNER a)) (fun o => s.ownPrio a o) (fun o => s.asks a o) with
    | some o => ((s.put (F.ARB_STAT_OWNER a) o).inc (F.ARB_GRANTS a)).setGrant a (some (0, s.tim.elapsed))
    | none => s.drainCheck a

/-- ARB_GRANT at a DRAM arbiter: an owner that still requests keeps its grant to the end of R312. -/
def State.arbGrant (s : State) (a requests : Nat) : State :=
  let s := (s.setAsking a requests).grantDropped a
  if (s.grantOf a).isSome then s else s.arbTake a

/-- The owner that has held a grant for HOLD is cut off, and the winner of the next phase follows it (R313). -/
def State.holdCutoff (s : State) (a requests : Nat) : State :=
  match s.grantOf a with
  | some (_, t) =>
    let h := s.get (F.ARB_CTL_HOLD a)
    if (8 ≤ a ∧ a < 24) ∨ h = 0 ∨ s.tim.elapsed < t + h * 16 * Config.ns then s
    else
      let o := s.get (F.ARB_STAT_OWNER a)
      let s := ((s.stick (F.ARB_STAT_HOG a)).inc (F.ARB_HOGS a)).put (F.ARB_LAST_HOG a) o
      ((((s.setGrant a none).raiseU 243).faultU 91).setAsking a requests).arbTake a
  | none => s

/-- A unit of the current owner's grant is used; at BURST_LIMIT the grant ends (R312). -/
def State.grantUnit (s : State) (a o : Nat) : State :=
  match s.grantOf a with
  | some (u, t) =>
    if s.get (F.ARB_STAT_OWNER a) ≠ o then s
    else if max 1 (s.get (F.ARB_CTL_BURST_LIMIT a)) ≤ u + 1 then (s.setGrant a none).drainCheck a
    else s.setGrant a (some (u + 1, t))
  | none => s

/-! ### Queues (R297 to R299) -/

def memKey (ch : Nat) (a : Nat) : Nat := ch * 32 + dramBank a

/-- What a write does to a read of its unit that is still in flight, of another requester: the read returns the old or the new data
(R299). -/
def MemReq.meet (w r : MemReq) : MemReq :=
  if w.write && !r.write && decide (w.owner ≠ r.owner) && decide (w.addr / 64 = r.addr / 64) then { r with mixed := true } else r

/-- A request under a grant enters its channel's queue. A write completes then, a read finds what has been written, and a read
behind a queued write to the same bank and row puts the bank in in-order mode until that write is issued (R298, R299). -/
def State.memEnter (s : State) (ch : Nat) (r : MemReq) : State :=
  let s := if r.write then s.setBytes r.addr r.data else s
  let r := { r with at_ := s.tim.elapsed, data := if r.write then r.data else s.bytes (r.addr / 64 * 64) 64 }
  let s := if r.write then s.setReads ch ((s.memReads ch).map (fun x => r.meet x)) else s
  let q := s.memQueue ch
  let k := memKey ch r.addr
  let rows := SMap.get (fun _ => []) s.memc.inOrder k
  let hit := !r.write && q.any (fun (x : MemReq) => x.write && decide (dramBank x.addr = dramBank r.addr) && decide (dramRow x.addr = dramRow r.addr))
  let s := if hit then
      let s := { s with memc := { s.memc with inOrder := SMap.set (fun _ => []) s.memc.inOrder k (dramRow r.addr :: rows).eraseDups } }
      if rows.isEmpty then s.inc (F.MEM_CH_INORDER ch) else s
    else s
  (s.setMemQueue ch ((if r.write then q.map (fun x => r.meet x) else q) ++ [r])).grantUnit ch r.owner

/-- The requests that wait at a DRAM arbiter enter the channel queue: those of the owner of the grant, as far as the grant and the
queue go, and then those of the next winner (R311, R312). -/
def State.arbServe (s : State) (ch : Nat) : Nat → State
  | 0 => s
  | fuel + 1 =>
    let w := s.memWaiting ch
    if 1024 ≤ (s.memQueue ch).length then s.grantDropped ch
    else match s.grantOf ch with
      | some _ =>
        match w.find? (fun (r : MemReq) => decide (r.owner = s.get (F.ARB_STAT_OWNER ch))) with
        | some r => ((s.setWaiting ch (w.erase r)).memEnter ch r).arbServe ch fuel
        | none => if s.asks ch (s.get (F.ARB_STAT_OWNER ch)) then s else ((s.setGrant ch none).drainCheck ch).arbServe ch fuel
      | none => if s.flag (F.ARB_CTL_FREEZE ch) || w.isEmpty then s else (s.arbTake ch).arbServe ch fuel

/-- The same, as far as it goes. -/
def State.arbRun (s : State) (ch : Nat) : State := s.arbServe ch (3 * (s.memWaiting ch).length)

/-- A write of ARB_CTL.FREEZE (R315): with FREEZE = 0 the requests that wait at a DRAM arbiter are granted again. -/
def State.freeze (s : State) (a : Nat) (on : Bool) : State :=
  let s := s.putB (F.ARB_CTL_FREEZE a) on
  if on then s.drainCheck a
  else
    let s := s.putB (F.ARB_STAT_DRAINED a) false
    if a < 8 then s.arbRun a else s

/-- A request joins those that wait at its channel's arbiter, and enters the queue once it is granted. -/
def State.memAsk (s : State) (ch : Nat) (r : MemReq) : State := (s.setWaiting ch (s.memWaiting ch ++ [r])).arbRun ch

/-- DRAM_REQUEST: a request of an owner for one 64-byte unit goes to its channel; data is that of a write. -/
def State.dramRequest (s : State) (owner addr : Nat) (data : Option (List Byte)) : State :=
  if !s.inDram addr 1 then s
  else
    let bs := (data.getD []).take (64 - addr % 64)
    s.memAsk (dramChannel addr) ⟨owner, data.isSome, data.isSome && decide (bs.length < 64), addr, s.tim.elapsed, bs, false⟩

/-- Is a class real-time? -/
def realTime (cls : Nat) : Bool := decide (4 ≤ cls)

/-- Class of a queued request (R295). -/
def MemReq.cls (r : MemReq) : Nat := fabricClass r.owner

/-- May a request issue now: its bank is ready, the in-order rule allows it, and no older write to the same unit waits
(R297, R298)? -/
def State.candidate (s : State) (ch ready : Nat) (q : List MemReq) (r : MemReq) : Bool :=
  let older := q.takeWhile (fun (x : MemReq) => decide (x ≠ r))
  ready.testBit (dramBank r.addr) &&
    ((SMap.get (fun _ => []) s.memc.inOrder (memKey ch r.addr)).isEmpty ||
      !older.any (fun (x : MemReq) => decide (dramBank x.addr = dramBank r.addr))) &&
    !(r.write && older.any (fun (x : MemReq) => x.write && decide (x.addr / 64 = r.addr / 64)))

/-- Does a request hit the open row of its bank? -/
def State.rowHit (s : State) (ch : Nat) (r : MemReq) : Bool :=
  decide (SMap.get (fun _ => none) s.memc.row (memKey ch r.addr) = some (dramRow r.addr))

/-- The best of a list of requests, oldest first, by a rank; ties go to the oldest. -/
def bestReq (rank : MemReq → Nat) (q : List MemReq) : Option MemReq :=
  q.foldl (fun (b : Option MemReq) r => match b with | some w => if rank w < rank r then some r else b | none => some r) none

/-- The request R297 picks among the candidates. -/
def State.nextReq (s : State) (ch : Nat) (c : List MemReq) : Option MemReq :=
  let hit := fun (r : MemReq) => if s.rowHit ch r then 1 else 0
  let pan := c.filter (fun r => s.inPanic r)
  let aged := c.filter (fun (r : MemReq) => decide (s.get (F.MEM_AGE r.cls) ≠ 0) &&
    decide (r.at_ + s.get (F.MEM_AGE r.cls) * 16 * Config.ns ≤ s.tim.elapsed))
  let rt := c.filter (fun (r : MemReq) => realTime r.cls)
  let bw := c.filter (fun (r : MemReq) => !realTime r.cls && r.write)
  let br := c.filter (fun (r : MemReq) => !realTime r.cls && !r.write)
  if !pan.isEmpty then bestReq MemReq.cls pan
  else if !aged.isEmpty then aged.head?
  else if !rt.isEmpty then bestReq (fun r => 2 * r.cls + hit r) rt
  else if SMap.get (fun _ => false) s.memc.drain ch then bestReq hit bw
  else if !br.isEmpty then bestReq hit br
  else bestReq hit bw

/-- All rows of a channel close (R296, R301). -/
def State.closeRows (s : State) (ch : Nat) : State :=
  { s with memc := { s.memc with row := s.memc.row.filter (fun p => decide (p.1 / 32 ≠ ch)) } }

/-- Is a real-time request or a panic request queued on the channel? -/
def State.rtQueued (s : State) (ch : Nat) : Bool := (s.memQueue ch).any (fun (r : MemReq) => realTime r.cls || s.inPanic r)

/-- The drain mark of R297 follows the bulk writes queued. -/
def State.drainMark (s : State) (ch : Nat) : State :=
  let w := ((s.memQueue ch).filter (fun (r : MemReq) => !realTime r.cls && r.write)).length
  let d := SMap.get (fun _ => false) s.memc.drain ch
  let d := if s.get F.MEM_WM_HIGH ≤ w then true else d
  let d := if w ≤ s.get F.MEM_WM_LOW then false else d
  { s with memc := { s.memc with drain := SMap.set (fun _ => false) s.memc.drain ch d } }

/-- DRAM_ISSUE (R297): the channel issues a postponed refresh or its next request. A channel in a retraining step issues
nothing (R304). With inline ECC a write shorter than 64 bytes costs a read of its unit too (R307). -/
def State.dramIssue (s : State) (ch ready : Nat) : State :=
  if s.flag (F.MEM_CH_STAT_TRAINING ch) then s
  else if 0 < s.get (F.MEM_CH_STAT_DEBT ch) ∧ !s.rtQueued ch then (s.decr (F.MEM_CH_STAT_DEBT ch)).closeRows ch
  else
    let q := s.memQueue ch
    match s.nextReq ch (q.filter (fun r => s.candidate ch ready q r)) with
    | none => s.drainMark ch
    | some r =>
      let k := memKey ch r.addr
      let s := { s with memc := { s.memc with row := SMap.set (fun _ => none) s.memc.row k (some (dramRow r.addr)) } }
      let q := q.erase r
      let s := s.setMemQueue ch q
      let rows := (SMap.get (fun _ => []) s.memc.inOrder k).filter (fun row => q.any (fun (x : MemReq) =>
        x.write && decide (dramBank x.addr = dramBank r.addr) && decide (dramRow x.addr = row)))
      let s := { s with memc := { s.memc with inOrder := SMap.set (fun _ => []) s.memc.inOrder k rows } }
      let s := if r.write && r.short && s.flag F.MEM_CFG_INLINE_ECC then s.inc (F.MEM_CH_RD_UNITS ch) else s
      let s := if r.write then s.inc (F.MEM_CH_WR_UNITS ch) else (s.inc (F.MEM_CH_RD_UNITS ch)).setReads ch (s.memReads ch ++ [r])
      ((s.drainMark ch).arbRun ch).drainCheck ch

/-- The data of a read that returns: of a unit that another requester's write met in flight, the old or the new (R299); where an error
is not detected, undefined (R307). -/
def State.readData (s : State) (r : MemReq) (wrong : Bool) : List Byte × State :=
  if wrong then s.drawBytes 64
  else if r.mixed then (if Config.freeBool s.draw then s.bytes (r.addr / 64 * 64) 64 else r.data, s.used)
  else (r.data, s)

/-- DRAM_READ_RETURN (R307, R308): error 0 none, 1 corrected, 2 uncorrectable. The data goes to the requester, marked as poisoned where
an error could not be corrected. An array error is not detected while inline ECC is off. -/
def State.readReturn (s : State) (ch error : Nat) (link : Bool) : State :=
  match s.memReads ch with
  | [] => s
  | r :: rest =>
    let s := s.setReads ch rest
    let inl := s.flag F.MEM_CFG_INLINE_ECC
    let seen := decide (error ≠ 0) && (link || inl)
    let (bs, s) := s.readData r (decide (error ≠ 0) && !seen)
    let s := { s with memc := { s.memc with back := SMap.set (fun _ => none) s.memc.back r.owner (some ⟨r.addr, bs, seen && decide (error = 2)⟩) } }
    if !seen then s
    else if error = 1 then
      let s := (s.inc (F.MEM_CH_CE ch)).raiseLimited (240 + ch * 4096) Config.ms 240 s.unstated
      if inl && !link then s.memAsk ch ⟨28, true, false, r.addr, s.tim.elapsed, [], false⟩ else s
    else
      let s := s.inc (F.MEM_CH_UE ch)
      let s := (s.put (F.MEM_CH_UE_ADDR_LO ch) (r.addr / 64 % 2 ^ 26)).put (F.MEM_CH_UE_ADDR_HI_ADDR ch) (r.addr / 2 ^ 32)
      (s.putB (F.MEM_CH_UE_ADDR_HI_LINK ch) link).faultU 89

/-- PANIC_CHANGE (R300): the read buffer of a real-time port is filled to `fill` / 64. -/
def State.panicChange (s : State) (owner fill : Nat) : State :=
  let cls := fabricClass owner
  if !realTime cls then s
  else
    let was := s.flag (F.ARB_OWN_PANIC 0 owner)
    let on := if was then decide (fill < s.get (F.MEM_PANIC_OFF (cls - 4))) else decide (fill < s.get (F.MEM_PANIC_ON (cls - 4)))
    let s := (List.range 8).foldl (fun s a => s.putB (F.ARB_OWN_PANIC a owner) on) s
    let s := (List.range 8).foldl (fun s ch => s.setMemQueue ch (s.memQueue ch)) s
    if on && !was then s.raiseU 245 else s

/-! ### Refresh, Leap windows and retraining (R301 to R305) -/

/-- What a refresh that falls due does outside a Leap window (R301). -/
def State.refreshFalls (s : State) (ch : Nat) : State :=
  let debt := s.get (F.MEM_CH_STAT_DEBT ch)
  if 0 < s.get (F.MEM_CH_STAT_CREDIT ch) then s.decr (F.MEM_CH_STAT_CREDIT ch)
  else if 8 ≤ debt then (s.inc (F.MEM_CH_REF_FORCED ch)).closeRows ch
  else if s.rtQueued ch then
    let s := s.put (F.MEM_CH_STAT_DEBT ch) (debt + 1)
    if debt + 1 = 8 ∧ !SMap.get (fun _ => false) s.memc.debtFull ch then
      ({ s with memc := { s.memc with debtFull := SMap.set (fun _ => false) s.memc.debtFull ch true } }).raiseU 241
    else s
  else s.closeRows ch

/-- The canvases that run. -/
def State.cvRunning (s : State) : List Nat := (List.range 4).filter (fun c => decide (s.get (F.CMP_CV_STAT_STATE c) = 1))

/-- Latch time of frame `n` of a canvas (R158). -/
def State.latchTime (s : State) (c n : Nat) : Nat :=
  s.segP (s.get (F.CMP_CV_CTL_SEG c)) n - s.get (F.CMP_CV_LEAD c) * Config.us

/-- The first frame of a canvas whose latch is later than now. -/
def State.nextLatchFrame (s : State) (c : Nat) : Nat :=
  let g := s.get (F.CMP_CV_CTL_SEG c)
  frameFrom (s.get (F.TIM_SEG_RATE_NUM g)) (s.get (F.TIM_SEG_RATE_DEN g))
    (s.tim.now + 1 + s.get (F.CMP_CV_LEAD c) * Config.us - s.get (F.TIM_SEG_DELAY g) * Config.ns)

/-- The earliest next latch of any running canvas; none while no canvas runs on an enabled segment. -/
def State.nextLatch (s : State) : Option Nat :=
  (s.cvRunning.filter (fun c => s.flag (F.TIM_SEG_CTL_EN (s.get (F.CMP_CV_CTL_SEG c))))).foldl (fun (a : Option Nat) c =>
    let t := s.latchTime c (s.nextLatchFrame c)
    some (match a with | some b => min b t | none => t)) none

/-- Does the open Leap window leave time `t` for something that ends before its close, on a channel whose refresh burst has ended?
One without a latch to close it always does (R303). -/
def State.leapHas (s : State) (ch t : Nat) : Bool :=
  match s.memc.leap with
  | some (_, some close) => decide (max s.tim.now (SMap.get (fun _ => 0) s.memc.refreshEnd ch) + t < close)
  | some (_, none) => true
  | none => false

/-- Refreshes a channel issues in a Leap window (R303, R306): the postponed ones first, then up to CREDIT 8, as many as end
before the close at 280 ns each. -/
def State.leapBurst (s : State) (ch : Nat) : Nat × Nat :=
  let debt := s.get (F.MEM_CH_STAT_DEBT ch)
  let credit := s.get (F.MEM_CH_STAT_CREDIT ch)
  match s.memc.leap with
  | some (_, some close) =>
    let from_ := max s.tim.now (SMap.get (fun _ => 0) s.memc.refreshEnd ch)
    let room := (close - from_ - 1) / (280 * Config.ns)
    (min debt room, min (8 - credit) (room - min debt room))
  | some (_, none) => (debt, 8 - credit)
  | none => (0, 0)

/-- A channel issues the refreshes of the open Leap window. -/
def State.leapFill (s : State) (ch : Nat) : State :=
  let b := s.leapBurst ch
  if b.1 + b.2 = 0 then s
  else
    let s := (s.put (F.MEM_CH_STAT_DEBT ch) (s.get (F.MEM_CH_STAT_DEBT ch) - b.1)).put (F.MEM_CH_STAT_CREDIT ch)
      (s.get (F.MEM_CH_STAT_CREDIT ch) + b.2)
    let till := max s.tim.now (SMap.get (fun _ => 0) s.memc.refreshEnd ch) + (b.1 + b.2) * 280 * Config.ns
    let s := { s with memc := { s.memc with refreshEnd := SMap.set (fun _ => 0) s.memc.refreshEnd ch till } }
    (s.add (F.MEM_CH_REF_LEAP ch) (b.1 + b.2)).closeRows ch

/-- REFRESH_DUE (R301); inside a Leap window the channel goes on to its refreshes of R303. -/
def State.refreshDue (s : State) (ch : Nat) : State := (s.refreshFalls ch).leapFill ch

/-- Start the next retraining step if the Leap window leaves room for it after the channel's refreshes: 20 µs, on one channel at a time, in ascending number among those due (R303, R304, R306). A channel whose retraining has begun is
finished first. -/
def State.trainNext (s : State) : State :=
  if (List.range 8).any (fun ch => s.flag (F.MEM_CH_STAT_TRAINING ch)) then s
  else
    let due := (List.range 8).filter (fun ch => (SMap.get (fun _ => none) s.memc.due ch).isSome)
    let begun := due.filter (fun ch => decide (0 < SMap.get (fun _ => 0) s.memc.steps ch))
    match (begun ++ due).head? with
    | some ch =>
      if s.leapHas ch (20 * Config.us) then
        ((s.put F.MEM_STAT_TRAIN_CH ch).putB F.MEM_STAT_TRAINING true).putB (F.MEM_CH_STAT_TRAINING ch) true
      else s.putB F.MEM_STAT_TRAINING (!begun.isEmpty)
    | none => s.putB F.MEM_STAT_TRAINING false

/-- What the channels do as a Leap window opens (R303). -/
def State.leapRun (s : State) : State :=
  ((List.range 8).foldl (fun s ch => s.leapFill ch) s).trainNext

/-- Open a Leap window when no canvas pipe composes and calibration has finished, with MIN_US to the earliest latch (R302).
Without a latch to come it stays open. -/
def State.leapOpen (s : State) : State :=
  let idle := (List.range 4).all (fun c => (s.cvState c).cur.isNone && (s.cvState c).waiting.isNone) && s.cal.pieces.isEmpty
  let close := s.nextLatch
  let room := match close with | some c => decide (s.tim.now + s.get F.MEM_LEAP_MIN_US * Config.us ≤ c) | none => true
  if s.memc.leap.isNone && idle && room then
    (({ s with memc := { s.memc with leap := some (s.tim.now, close), debtFull := [] } }).putB F.MEM_STAT_LEAP true).inc
      F.MEM_LEAP_COUNT |>.leapRun
  else s

/-- A canvas or a segment started or stopped: the open window closes at what is now the earliest latch (R302), or one opens. -/
def State.leapFollow (s : State) : State :=
  match s.memc.leap with
  | some (t, _) => { s with memc := { s.memc with leap := some (t, s.nextLatch) } }
  | none => s.leapOpen

/-- A latch closes the Leap window (R302). -/
def State.leapClose (s : State) : State :=
  match s.memc.leap with
  | some (t, _) =>
    let tot := s.memc.leapTotal + (s.tim.now - t)
    let s := { s with memc := { s.memc with leap := none, leapTotal := tot } }
    (s.putB F.MEM_STAT_LEAP false).wr R.MEM_LEAP_TIME (tot / Config.us)
  | none => s

/-- RETRAIN_DUE (R304): the channel falls due by its period or by its temperature. The temperature of the training at start-up
is taken to be that of the first report (log entry 113). -/
def State.retrainDue (s : State) (ch : Nat) (temp : Int) : State :=
  let base := (SMap.get (fun _ => none) s.memc.temp ch).getD temp
  let s := { s with memc := { s.memc with
    newTemp := SMap.set (fun _ => none) s.memc.newTemp ch (some temp), temp := SMap.set (fun _ => none) s.memc.temp ch (some base) } }
  let late := decide (SMap.get (fun _ => 0) s.memc.lastTrain ch + s.get F.MEM_TRAIN_PERIOD_MS * Config.ms ≤ s.tim.elapsed)
  let hot := decide (s.get F.MEM_TRAIN_TEMP_DELTA ≤ (temp - base).natAbs) && decide (temp ≠ base)
  if (SMap.get (fun _ => none) s.memc.due ch).isNone && (late || hot) then
    (({ s with memc := { s.memc with due := SMap.set (fun _ => none) s.memc.due ch (some s.tim.elapsed) } }).leapOpen).trainNext
  else s

/-- RETRAIN_STEP_DONE (R304): 12 steps make a retraining. -/
def State.retrainStepDone (s : State) : State :=
  match (List.range 8).find? (fun ch => s.flag (F.MEM_CH_STAT_TRAINING ch)) with
  | none => s
  | some ch =>
    let n := SMap.get (fun _ => 0) s.memc.steps ch + 1
    let s := (s.putB (F.MEM_CH_STAT_TRAINING ch) false).inc (F.MEM_CH_TRAIN_STEPS ch)
    let s := { s with memc := { s.memc with steps := SMap.set (fun _ => 0) s.memc.steps ch (n % 12) } }
    let s := if n = 12 then
        let s := { s with memc := { s.memc with
          due := SMap.set (fun _ => none) s.memc.due ch none
          overdue := SMap.set (fun _ => false) s.memc.overdue ch false
          lastTrain := SMap.set (fun _ => 0) s.memc.lastTrain ch s.tim.elapsed
          temp := SMap.set (fun _ => none) s.memc.temp ch (SMap.get (fun _ => none) s.memc.newTemp ch) } }
        (((s.inc (F.MEM_CH_TRAIN_DONE ch)).raiseU 242).putB F.MEM_STAT_TRAINING false).setCause 90
          ((List.range 8).any (fun k => SMap.get (fun _ => false) s.memc.overdue k))
      else s
    s.trainNext

/-- RETRAIN_OVERDUE (R305). -/
def State.retrainOverdue (s : State) (ch : Nat) : State :=
  match SMap.get (fun _ => none) s.memc.due ch with
  | some t =>
    if t + s.get F.MEM_TRAIN_LIMIT_LIMIT_MS * Config.ms ≤ s.tim.elapsed ∧ !SMap.get (fun _ => false) s.memc.overdue ch then
      ((({ s with memc := { s.memc with overdue := SMap.set (fun _ => false) s.memc.overdue ch true } }).setCause 90 true)).faultU 90
    else s
  | none => s

/-! ### Memory need (R309) -/

/-- Lamps per second of the enabled tiles with a matrix (R309), as a rational. -/
def State.lampRate (s : State) (onlyMtx : Bool) : Q :=
  s.tilesOn.foldl (fun (a : Q) t =>
    if onlyMtx && !s.flag (F.CAL_TILE_CTL_MTX_EN t) then a
    else (a.plus ((Q.ofNat (s.get (F.CMP_TILE_SIZE_W t) * s.get (F.CMP_TILE_SIZE_H t))).times (Q.frac (s.get (F.TIM_SEG_RATE_NUM (s.tileSeg t))) (s.get (F.TIM_SEG_RATE_DEN (s.tileSeg t)))))).norm)
    (Q.ofNat 0)

/-- The memory need in bytes/s (R309). -/
def State.memNeed (s : State) : Q :=
  let g := fun (q : Q) (a : Q) => (a.plus q).norm
  g ((Q.ofNat 18).times (s.lampRate true)) (g ((Q.ofNat (s.get F.DEC_GLB_CAP_SAMPLES * 1000000)).times ⟨647, 100⟩)
    (g ((Q.ofNat (s.get F.ENC_GLB_CAP_SAMPLES * 1000000)).times ⟨977, 100⟩)
      (g (Q.ofNat (s.get F.CMP_GLB_FETCH * 1000000000)) (Q.ofNat (s.get F.MEM_BULK_RESERVE * 1000000000)))))

/-- Supply in bytes/s (R309). -/
def State.memSupplyQ (s : State) : Q :=
  let cfg := s.rd R.MEM_CFG
  let rate := if bitsOf cfg 0 2 = 0 then 6400 else if bitsOf cfg 0 2 = 1 then 7500 else 8533
  let q := (Q.ofNat (9 * 32 * rate * 1000000)).over 10
  if bitsOf cfg 4 1 = 1 then (q.times (Q.ofNat 8)).over 9 else q

/-- Bring MEM_NEED and MEM_SUPPLY up to date. -/
def State.memLoads (s : State) : State :=
  (s.put F.MEM_NEED ((s.memNeed.over 10000000).ceil.toNat)).put F.MEM_SUPPLY (memSupply (s.rd R.MEM_CFG))

end Sys2Proof.Machine
end

