-- ==== Sys2Proof/Machine/Rng.lean ====
section
/-! DEFINITION. Descriptor rings (R348 to R364): positions, enabling and disabling, prefetching, starting and finishing
entries, completion records and their hold. -/

namespace Sys2Proof.Machine

def RingState.init : RingState := ⟨[], [], 0, 0, 0, 0, [], 0, 0, false, []⟩
def State.ring (s : State) (r : Nat) : RingState := SMap.get (fun _ => RingState.init) s.rng r
def State.setRing (s : State) (r : Nat) (v : RingState) : State :=
  { s with rng := SMap.set (fun _ => RingState.init) s.rng r v }

/-! ### Positions (R352) -/

/-- A position: index and phase. -/
abbrev Pos := Nat × Nat

/-- advance of R352. -/
def posAdvance (n : Nat) (p : Pos) (k : Nat) : Pos := if n ≤ p.1 + k then (p.1 + k - n, 1 - p.2) else (p.1 + k, p.2)

/-- used of R352. -/
def posUsed (n : Nat) (h t : Pos) : Int := (t.1 : Int) - (h.1 : Int) + (if t.2 = h.2 then 0 else (n : Int))

/-- N of a ring. -/
def State.ringN (s : State) (r : Nat) : Nat := 2 ^ s.get (F.RNG_RING_CTL_LOG2SIZE r)
def State.ringHead (s : State) (r : Nat) : Pos := (s.get (F.RNG_RING_HEAD_INDEX r), s.get (F.RNG_RING_HEAD_PHASE r))
def State.ringTail (s : State) (r : Nat) : Pos := (s.get (F.RNG_RING_TAIL_INDEX r), s.get (F.RNG_RING_TAIL_PHASE r))
def State.setHead (s : State) (r : Nat) (p : Pos) : State := s.wr (R.RNG_RING_HEAD r) (p.1 + p.2 * 65536)
def State.setTail (s : State) (r : Nat) (p : Pos) : State := s.wr (R.RNG_RING_TAIL r) (p.1 + p.2 * 65536)
/-- Entries between HEAD and TAIL. -/
def State.ringUsed (s : State) (r : Nat) : Int := posUsed (s.ringN r) (s.ringHead r) (s.ringTail r)
def State.ringBase (s : State) (r : Nat) : Nat :=
  s.get (F.RNG_RING_BASE_HI r) * 2 ^ 32 + s.get (F.RNG_RING_BASE_LO r) * 64

/-! ### Kinds (R348) -/

/-- DIR, PROD and CONS of a ring. -/
def State.ringKind (s : State) (r : Nat) : Nat × Nat × Nat :=
  (s.get (F.RNG_RING_CTL_DIR r), s.get (F.RNG_RING_CTL_PROD r), s.get (F.RNG_RING_CTL_CONS r))
def State.ringOn (s : State) (r : Nat) : Bool := s.flag (F.RNG_RING_CTL_EN r)
def State.isSub (s : State) (r : Nat) : Bool := decide (s.get (F.RNG_RING_CTL_DIR r) = 0)
def State.hostFed (s : State) (r : Nat) : Bool := s.ringOn r && decide (s.ringKind r = (0, 0, 1))
def State.chipFed (s : State) (r : Nat) : Bool := s.ringOn r && decide (s.ringKind r = (0, 1, 1))
def State.hostCq (s : State) (r : Nat) : Bool := decide (s.ringKind r = (1, 2, 0))
def State.chipCq (s : State) (r : Nat) : Bool := s.ringOn r && decide (s.ringKind r = (1, 2, 2))

/-- The enabled rings, in ascending number. EN resets to 0, so the register of an enabled ring is listed. -/
def State.ringsOn (s : State) : List Nat :=
  s.regs.filterMap (fun p => if 0x280000 ≤ p.1 ∧ p.1 < 0x290000 ∧ p.1 % 0x40 = 0 ∧ p.2.toNat % 2 = 1 then some ((p.1 - 0x280000) / 0x40)
    else none)

/-- Bytes of an entry. -/
def State.entryBytes (s : State) (r : Nat) : Nat := if s.isSub r then 64 else 16

/-- May the ring be enabled (R349), IDLE apart? -/
def State.ringValid (s : State) (r : Nat) : Bool :=
  decide (s.ringKind r ∈ [(0, 0, 1), (0, 1, 1), (1, 2, 0), (1, 2, 2)]) &&
  decide (4 ≤ s.get (F.RNG_RING_CTL_LOG2SIZE r)) && decide (s.get (F.RNG_RING_CTL_LOG2SIZE r) ≤ 16) &&
  s.inDram (s.ringBase r) (s.ringN r * s.entryBytes r) &&
  (!s.isSub r ||
    (s.ringOn (s.get (F.RNG_RING_BIND_CQ r)) && !s.isSub (s.get (F.RNG_RING_BIND_CQ r)) &&
      !s.ringsOn.any (fun q => decide (q ≠ r) && s.isSub q &&
        decide (s.get (F.RNG_RING_BIND_CONS_INDEX q) = s.get (F.RNG_RING_BIND_CONS_INDEX r)))))

/-- The submission rings that name completion ring `c`: enabled, finishing their work, or with a record in its hold. -/
def State.subsOf (s : State) (c : Nat) : List Nat :=
  ((s.ringsOn ++ s.rng.map (fun p => p.1)).filter (fun r => s.isSub r && decide ((s.ring r).cq = c)) ++
    (s.ring c).hold.map (fun p => p.1)).eraseDups

/-! ### Prefetching (R355, R356) -/

/-- Address of the slot of a position. -/
def State.slotAddr (s : State) (r : Nat) (p : Pos) : Nat := s.ringBase r + p.1 * s.entryBytes r

/-- The 64 bytes of the slot `k` places from HEAD. -/
def State.slotEntry (s : State) (r k : Nat) : List Byte := s.bytes (s.slotAddr r (posAdvance (s.ringN r) (s.ringHead r) k)) 64

/-- Extend the mirror of a host-fed ring, never at or beyond TAIL (R355). -/
def State.prefetchHost (s : State) (r : Nat) : Nat → State
  | 0 => s
  | fuel + 1 =>
    let m := (s.ring r).mirror
    if m.length < s.get (F.RNG_RING_CTL_PREFETCH r) + 1 ∧ (m.length : Int) < s.ringUsed r then
      (s.setRing r { s.ring r with mirror := m ++ [s.slotEntry r m.length] }).prefetchHost r fuel
    else s

/-- Does the slot `k` places from HEAD hold an entry of its position (R352, R356)? -/
def State.slotOwned (s : State) (r k : Nat) : Bool :=
  decide ((((s.slotEntry r k).getD 1 0).toNat / 2) % 2 = 1 - (posAdvance (s.ringN r) (s.ringHead r) k).2)

/-- Read the slots of an on-chip ring up to PREFETCH + 1 from HEAD, beyond TAIL too (R356). Copies without the expected OWN are
discarded; those slots are read again once TAIL has advanced, each counted. -/
def State.prefetchChip (s : State) (r : Nat) : State :=
  let v := s.ring r
  let k := v.mirror.length
  let s := if v.again then s.add (F.RNG_RING_REFETCH r) (v.read - k) else s
  let read := if v.again then k else v.read
  let w := max read (s.get (F.RNG_RING_CTL_PREFETCH r) + 1)
  let new := if read = k then
      (((List.range (w - k)).map (fun j => k + j)).takeWhile (fun j => s.slotOwned r j)).map (fun j => s.slotEntry r j)
    else []
  s.setRing r { v with mirror := v.mirror ++ new, read := w, again := false }

/-- Prefetch for an enabled submission ring whose completion ring is not full (R355, R356, R360). -/
def State.prefetch (s : State) (r : Nat) : State :=
  if s.ringOn r && s.isSub r && !s.flag (F.RNG_RING_STAT_CQ_FULL (s.ring r).cq) then
    if s.hostFed r then s.prefetchHost r 16 else s.prefetchChip r
  else s

/-- An on-chip producer advanced TAIL: the unowned slots of the prefetch window are read again, at once or when fetching resumes
(R356, R360). -/
def State.chipAdvance (s : State) (r : Nat) : State := (s.setRing r { s.ring r with again := true }).prefetch r

/-- Host software wrote the word at DRAM address `a`: a slot below TAIL of a host-fed ring that HEAD has not passed gives undefined work
(R355). -/
def State.hostWrote (s : State) (a : Nat) : State :=
  (s.ringsOn.filter (fun r => s.hostFed r && decide (s.ringBase r ≤ a) && decide (a < s.ringBase r + s.ringN r * 64))).foldl
    (fun (s : State) r =>
      let i := (a - s.ringBase r) / 64
      let v := s.ring r
      if decide ((((i + s.ringN r - (s.ringHead r).1) % s.ringN r : Nat) : Int) < s.ringUsed r) && !v.spoiled.contains i then
        s.setRing r { v with spoiled := v.spoiled ++ [i] }
      else s) s

/-- The entry that the consumer of ring `r` finds at HEAD: free bytes where its slot was rewritten (R355). -/
def State.ringFront (s : State) (r : Nat) : Option (List Byte) :=
  match (s.ring r).mirror with
  | [] => none
  | e :: _ => some (if (s.ring r).spoiled.contains (s.ringHead r).1 then (List.range 64).map (fun k => Config.freeByte (s.draw + k)) else e)

/-! ### Completion records (R358 to R361) -/

/-- Reservations of a completion ring's hold: entries in progress and records that wait (R359). -/
def State.reserved (s : State) (c : Nat) : Nat :=
  (s.subsOf c).foldl (fun a r => a + (s.ring r).inProg.length) 0 + (s.ring c).hold.length

/-- Bring HOLD and INFLIGHT of a completion ring, and INFLIGHT of a submission ring, up to date. -/
def State.ringCounts (s : State) (r : Nat) : State :=
  if s.isSub r then s.put (F.RNG_RING_STAT_INFLIGHT r) (s.ring r).inProg.length
  else (s.put (F.RNG_RING_STAT_HOLD r) (s.ring r).hold.length).put (F.RNG_RING_STAT_INFLIGHT r) (s.reserved r)

/-- An enabled submission ring parks while its completion ring is full and it has no entry in progress (R360). -/
def State.parkSubs (s : State) (c : Nat) : State :=
  ((s.subsOf c).filter (fun r => s.ringOn r)).foldl (fun s r => s.putB (F.RNG_RING_STAT_PARKED r)
    (s.flag (F.RNG_RING_STAT_CQ_FULL c) && (s.ring r).inProg.isEmpty)) s

/-- A disabled submission ring with no entry in progress and no waiting record becomes idle (R362). -/
def State.ringIdle (s : State) (r : Nat) : State :=
  let c := (s.ring r).cq
  if s.isSub r && !s.ringOn r && !s.flag (F.RNG_RING_STAT_IDLE r) && (s.ring r).inProg.isEmpty && decide ((s.ring r).finished = 0) &&
      !(s.ring c).hold.any (fun x => decide (x.1 = r)) then
    (s.putB (F.RNG_RING_STAT_IDLE r) true).raiseU 274
  else s

/-- Does any completion ring hold records for want of room? -/
def State.anyCqFull (s : State) : Bool := s.ringsOn.any (fun r => s.flag (F.RNG_RING_STAT_CQ_FULL r))

/-- Write a record at TAIL (R351, R359, R361). -/
def State.cqWrite (s : State) (c : Nat) (rec_ : List Byte) : State :=
  let t := s.ringTail c
  let w := ofBytesLE (slice rec_ 6 2) % 32768 + (1 - t.2) * 32768
  let s := s.setBytes (s.slotAddr c t) (rec_.take 6 ++ bytesLE 2 w ++ rec_.drop 8)
  let s := (s.setTail c (posAdvance (s.ringN c) t 1)).inc (F.RNG_RING_ENTRIES c)
  let s := if ofBytesLE (slice rec_ 4 2) = 0 then s else s.inc (F.RNG_RING_ERRORS c)
  if s.flag (F.RNG_RING_CTL_NOTIFY c) then s.raise 272 c else s

/-- Does a record go straight to the ring, which is not full, behind none in the hold (R359)? -/
def State.cqRoom (s : State) (c : Nat) : Bool := (s.ring c).hold.isEmpty && decide (s.ringUsed c < (s.ringN c : Int))

/-- A record of submission ring `r` for completion ring `c`: to the ring, or into the hold when it is full (R359, R360). -/
def State.cqPost (s : State) (c r : Nat) (rec_ : List Byte) : State :=
  let v := s.ring c
  if s.cqRoom c then s.cqWrite c rec_
  else
    let s := s.setRing c { v with hold := v.hold ++ [(r, rec_)] }
    if s.flag (F.RNG_RING_STAT_CQ_FULL c) then s
    else
      let s := ((s.putB (F.RNG_RING_STAT_CQ_FULL c) true).inc (F.RNG_RING_STALLS c)).raiseU 273
      (s.setCond 273 0 true).parkSubs c

/-- Records leave the hold into freed slots, oldest first (R359, R360). -/
def State.cqDrain (s : State) (c : Nat) : Nat → State
  | 0 => s
  | fuel + 1 =>
    let v := s.ring c
    match v.hold with
    | [] => s
    | (_, rec_) :: rest =>
      if s.ringUsed c < (s.ringN c : Int) then ((s.setRing c { v with hold := rest }).cqWrite c rec_).cqDrain c fuel else s

/-- The record that covers the finished, uncovered entries of a submission ring (R351, R358). -/
def State.ringRecord (s : State) (r status : Nat) (forced : Bool) : State :=
  let v := s.ring r
  if v.finished = 0 then s
  else
    let c := v.cq
    let rec_ := bytesLE 2 v.lastIdx ++ bytesLE 2 r ++ bytesLE 2 status ++
      bytesLE 2 (v.finished + (if forced then 16384 else 0)) ++ bytesLE 4 v.lastTag ++ bytesLE 4 v.lastDetail
    (((s.setRing r { v with finished := 0 }).cqPost c r rec_).ringCounts c).ringCounts r

/-- A disabled submission ring writes the FORCED record of its finished, uncovered entries (R358). Nothing is reserved for it: without room
in the ring or in the hold of 32 records, it is written once there is some (R359). -/
def State.ringForce (s : State) (r : Nat) : State :=
  if !s.ringOn r && (s.cqRoom (s.ring r).cq || decide (s.reserved (s.ring r).cq < 32)) then s.ringRecord r 0 true else s

/-- HEAD of a completion ring has advanced (R360). -/
def State.cqHeadMoved (s : State) (c : Nat) : State :=
  let full := s.flag (F.RNG_RING_STAT_CQ_FULL c)
  let subs := s.subsOf c
  let s := s.cqDrain c 33
  let s := if full && (s.ring c).hold.isEmpty then
      let s := (s.putB (F.RNG_RING_STAT_CQ_FULL c) false).parkSubs c
      subs.foldl (fun s r => s.prefetch r) (s.setCond 273 0 s.anyCqFull)
    else s
  subs.foldl (fun s r => (s.ringForce r).ringIdle r) (s.ringCounts c)

/-- A write of RNG_RING_HEAD (R361). -/
def State.ringHeadWrite (s : State) (r v : Nat) : State :=
  if !s.hostCq r then s
  else
    let n := s.ringN r
    let new : Pos := (v % 65536, bitsOf v 16 1)
    let u := posUsed n (s.ringHead r) new
    if new.1 < n ∧ 0 ≤ u ∧ u ≤ s.ringUsed r then (s.setHead r new).cqHeadMoved r
    else s.stick (F.RNG_RING_STAT_HEAD_INVALID r)

/-! ### Entries -/

/-- May the consumer of ring `r` start an entry (R359, R360)? HEAD never passes TAIL (R352). -/
def State.ringReady (s : State) (r : Nat) : Bool :=
  let c := (s.ring r).cq
  s.ringOn r && s.isSub r && !(s.ring r).mirror.isEmpty && decide (0 < s.ringUsed r) && !s.flag (F.RNG_RING_STAT_CQ_FULL c) && decide (s.reserved c < 32)

/-- Start the entry at HEAD (R355): its index and its TAG are in progress, and its slot is free. -/
def State.ringStart (s : State) (r : Nat) : State :=
  let v := s.ring r
  match s.ringFront r with
  | none => s
  | some e =>
    let h := s.ringHead r
    let spoiled := v.spoiled.contains h.1
    let s := if spoiled then { s with draw := s.draw + 64 } else s
    let s := s.setRing r { v with
      mirror := v.mirror.drop 1, inProg := v.inProg ++ [(h.1, ofBytesLE (slice e 4 4))], read := v.read - 1, spoiled := v.spoiled.erase h.1 }
    let s := (s.setHead r (posAdvance (s.ringN r) h 1)).inc (F.RNG_RING_ENTRIES r)
    ((s.prefetch r).ringCounts r).ringCounts v.cq

/-- An entry finishes (R358): a record when it is asked for, on an error, at 4,096 entries, or on a disabled ring. -/
def State.ringFinish (s : State) (r idx tag : Nat) (compl : Bool) (status detail : Nat) : State :=
  let v := s.ring r
  let s := s.setRing r { v with
    inProg := v.inProg.filter (fun p => decide (p.1 ≠ idx)), finished := v.finished + 1
    lastIdx := idx, lastTag := tag, lastDetail := detail % 2 ^ 32 }
  let s := if compl || decide (status ≠ 0) then s.ringRecord r status false
    else if v.finished + 1 = 4096 ∨ !s.ringOn r then s.ringRecord r 0 true
    else s
  let subs := s.subsOf v.cq
  let s := subs.foldl (fun (s : State) q => s.ringForce q) (((s.ringCounts r).ringCounts v.cq).parkSubs v.cq)
  (subs ++ [r]).foldl (fun (s : State) q => s.ringIdle q) s

/-! ### Enabling and disabling (R349, R362, R363) -/

/-- EN = 1 is written. -/
def State.ringEnable (s : State) (r : Nat) : State :=
  if s.ringOn r then s
  else
    let idle := s.flag (F.RNG_RING_STAT_IDLE r)
    if idle && s.ringValid r then
      let s := ((s.putB (F.RNG_RING_CTL_EN r) true).putB (F.RNG_RING_STAT_IDLE r) false).inc F.RNG_GLB_ENABLED
      let c := if s.isSub r then s.get (F.RNG_RING_BIND_CQ r) else 0
      let s := ((s.setHead r (0, 0)).setTail r (0, 0)).setRing r { RingState.init with cq := c }
      if s.isSub r then (s.prefetch r).parkSubs c else s
    else
      let s := if idle then s else s.stick (F.RNG_RING_STAT_REENABLE_REFUSED r)
      s.stick (F.RNG_RING_STAT_CFG_INVALID r)

/-- A submission ring that names completion ring `c` is enabled or has not reached IDLE (R363; log entry 117). -/
def State.cqNamed (s : State) (c : Nat) : Bool :=
  (s.subsOf c).any (fun q => s.ringOn q || !s.flag (F.RNG_RING_STAT_IDLE q))

/-- EN = 0 is written. -/
def State.ringDisable (s : State) (r : Nat) : State :=
  if !s.ringOn r then s
  else if s.isSub r then
    let s := (s.putB (F.RNG_RING_CTL_EN r) false).decr F.RNG_GLB_ENABLED
    let v := s.ring r
    let s := (s.setRing r { v with mirror := [], read := 0, again := false, spoiled := [] }).ringForce r
    (s.putB (F.RNG_RING_STAT_PARKED r) false).ringIdle r
  else if s.cqNamed r then
    s.stick (F.RNG_RING_STAT_CFG_INVALID r)
  else ((s.putB (F.RNG_RING_CTL_EN r) false).decr F.RNG_GLB_ENABLED).putB (F.RNG_RING_STAT_IDLE r) true

/-! ### Host-fed rings (R353, R354) -/

/-- RING_WRITE (R353): status, DONE and the state. -/
def State.ringWrite (s : State) (r index : Nat) (entries : List (List Byte)) : (Nat × Nat) × State :=
  let n := s.ringN r
  if 1024 ≤ r ∨ n ≤ index then ((0xD0, 0), s)
  else if !s.hostFed r then ((0xD1, 0), s)
  else
    let t := (s.ringTail r).1
    let surplus := (List.range entries.length).any (fun k =>
      decide ((n : Int) - s.ringUsed r ≤ (((index + k) % n + n - t) % n : Nat)))
    if surplus then ((0xD2, 0), s)
    else
      let s := (entries.zip (List.range entries.length)).foldl (fun s p =>
        s.setBytes (s.ringBase r + (index + p.2) % n * 64) (p.1.take 64)) s
      ((0, entries.length), s)

/-- DOORBELL (R354): status, DONE and the state. RING_RANGE applies to the index that TAIL carries as to INDEX of R353 (log entry
114). -/
def State.doorbell (s : State) (r tail : Nat) : (Nat × Nat) × State :=
  if 1024 ≤ r ∨ s.ringN r ≤ tail % 65536 then ((0xD0, 0), s)
  else if !s.hostFed r then ((0xD1, 0), s)
  else
    let n := s.ringN r
    let new : Pos := (tail % 65536, bitsOf tail 16 1)
    let u := posUsed n (s.ringHead r) new
    if s.ringUsed r ≤ u ∧ u ≤ (n : Int) then
      ((0, u.toNat), (s.setTail r new).prefetch r)
    else ((0xD3, 0), s)

end Sys2Proof.Machine
end

