-- ==== Sys2Proof/Machine/DmaCtl.lean ====
section
/-! DEFINITION. DMA channels and movers (R369 to R387): the mover pool, enabling, halting, resuming and arming a channel,
the retirement of a descriptor, and the request lines. -/

namespace Sys2Proof.Machine

def ChanState.init : ChanState :=
  { desc := none, inline := none, moved := 0, granted := 0, src := ⟨0, 0, 0⟩, dst := ⟨0, 0, 0⟩, funnel := [], bad := none, refused := false,
    tmpl := [], entry := none, mover := none, used := 0, since := 0 }
def State.chan (s : State) (n : Nat) : ChanState := SMap.get (fun _ => ChanState.init) s.dma.chan n
def State.setChan (s : State) (n : Nat) (v : ChanState) : State :=
  { s with dma := { s.dma with chan := SMap.set (fun _ => ChanState.init) s.dma.chan n v } }

/-- STATE of a channel. -/
def State.chanState (s : State) (n : Nat) : Nat := s.get (F.DMA_CH_STAT_STATE n)

/-- DMA_CH_CUR. -/
def State.cur (s : State) (n : Nat) : Nat := s.get (F.DMA_CH_CUR_HI_ADDR n) * 2 ^ 32 + s.get (F.DMA_CH_CUR_LO n) * 32
def State.setCur (s : State) (n a : Nat) (end_ : Bool) : State :=
  (s.wr (R.DMA_CH_CUR_LO n) (a % 2 ^ 32 / 32 * 32)).wr (R.DMA_CH_CUR_HI n) (a / 2 ^ 32 % 65536 + if end_ then 2 ^ 31 else 0)
def State.descAddr (s : State) (n : Nat) : Nat := s.get (F.DMA_CH_DESC_HI n) * 2 ^ 32 + s.get (F.DMA_CH_DESC_LO n) * 32
def State.shdAddr (s : State) (n : Nat) : Nat := s.get (F.DMA_CH_SHD_DESC_HI n) * 2 ^ 32 + s.get (F.DMA_CH_SHD_DESC_LO n) * 32

/-! ### Descriptor flags (R372) -/

def Desc.flag (d : Desc) (k : Nat) : Bool := d.flags.testBit k
def Desc.last (d : Desc) : Bool := d.flag 0
def Desc.srcSg (d : Desc) : Bool := d.flag 1
def Desc.dstSg (d : Desc) : Bool := d.flag 2
def Desc.srcFixed (d : Desc) : Bool := d.flag 3
def Desc.dstFixed (d : Desc) : Bool := d.flag 4
def Desc.dstPort (d : Desc) : Bool := d.flag 5
def Desc.evt (d : Desc) : Bool := d.flag 6
def Desc.waitReq (d : Desc) : Bool := d.flag 7
def Desc.fill (d : Desc) : Bool := d.flag 12
/-- Bytes of a granule. -/
def Desc.gran (d : Desc) : Nat := 2 ^ (bitsOf d.flags 8 4 + 2)

/-! ### Request lines (R379, R380) -/

/-- Pending requests of a line; an external line shows the level of its APP_DREQ. -/
def State.linePend (s : State) (l : Nat) : Nat :=
  if l < 256 then SMap.get (fun _ => 0) s.dma.lines l
  else if s.flag F.APP_CTL_EN && (s.get F.APP_DREQ_DREQ).testBit (l - 256) && !(s.get F.APP_DREQ_DACK).testBit (l - 256) then 1 else 0

/-- DMA_GLB_REQ_PEND of a line. -/
def State.lineShow (s : State) (l : Nat) : State :=
  let f := F.DMA_GLB_REQ_PEND (l / 32)
  s.put f (setBits (s.get f) (l % 32) 1 (if s.linePend l = 0 then 0 else 1))

/-- One request on an internal line: counted up to 255, and lost beyond (R379). -/
def State.lineRequest (s : State) (l : Nat) : State :=
  if 255 ≤ s.linePend l then s.inc F.DMA_GLB_REQ_LOST
  else ({ s with dma := { s.dma with lines := SMap.set (fun _ => 0) s.dma.lines l (s.linePend l + 1) } }).lineShow l

/-- One pending request of a line is consumed (R380). An external line's request ends with its acknowledge (R393). -/
def State.lineConsume (s : State) (l : Nat) : State :=
  if l < 256 then ({ s with dma := { s.dma with lines := SMap.set (fun _ => 0) s.dma.lines l (s.linePend l - 1) } }).lineShow l
  else (s.put F.APP_DREQ_DACK (setBits (s.get F.APP_DREQ_DACK) (l - 256) 1 1)).lineShow l

/-- Does the descriptor of channel `n` wait for requests? -/
def State.waits (s : State) (n : Nat) (d : Desc) : Bool := d.waitReq && s.flag (F.DMA_CH_CTL_REQ_EN n)

/-! ### Movers (R369) -/

/-- The ring that channel `n` consumes (R348). -/
def State.chanRing (s : State) (n : Nat) : Option Nat :=
  s.ringsOn.find? (fun r => s.isSub r && decide (s.get (F.RNG_RING_BIND_CONS_INDEX r) = n))

/-- Can ring `r` give its channel an entry now? -/
def State.ringGives (s : State) (n : Nat) : Bool := match s.chanRing n with | some r => s.ringReady r | none => false

/-- Bytes of a template's CHUNK (R376). -/
def tmplChunk (t : List Byte) : Nat := ofBytesLE (slice t 4 2)

/-- Has the granule that the newest request asked for moved? Into the frames of a port it moves through the funnel (R376, R380). -/
def ChanState.granuleDone (c : ChanState) (d : Desc) : Bool :=
  decide (c.granted ≤ c.moved + if d.dstPort then c.funnel.length else 0)

/-- Does a channel hold a whole chunk for a frame of its port (R376)? -/
def ChanState.chunkDue (c : ChanState) (d : Desc) : Bool :=
  d.dstPort && decide (0 < c.funnel.length) && decide (min (tmplChunk c.tmpl) (d.length - c.moved) ≤ c.funnel.length)

/-- Does a channel request a mover (R369)? -/
def State.chanWants (s : State) (n : Nat) : Bool :=
  let c := s.chan n
  decide (s.chanState n = 1) &&
  match c.desc with
  | some d => !s.waits n d || !c.granuleDone d || decide (d.length ≤ c.moved) || c.chunkDue d ||
      decide (0 < s.linePend (s.get (F.DMA_CH_CTL_REQ_LINE n)))
  | none =>
    if s.flag (F.DMA_CH_CTL_MODE n) then c.entry.isSome || s.ringGives n
    else !s.flag (F.DMA_CH_CUR_HI_END n)

/-- The enabled channels, in ascending number. EN resets to 0, so the register of an enabled channel is listed. -/
def State.chansOn (s : State) : List Nat :=
  s.regs.filterMap (fun p => if 0x200000 ≤ p.1 ∧ p.1 < 0x240000 ∧ p.1 % 0x40 = 0 ∧ p.2.toNat % 2 = 1 then some ((p.1 - 0x200000) / 0x40)
    else none)

/-- The movers held, as DMA_GLB_STAT shows them. -/
def State.moversBusy (s : State) : State :=
  let n := (s.dma.chan.filter (fun p => p.2.mover.isSome)).length
  (s.put F.DMA_GLB_STAT_MOVERS_BUSY n).putB (F.ARB_STAT_ACTIVE 24) (decide (0 < n))

/-- A channel's mover is released. -/
def State.moverRelease (s : State) (n : Nat) : State :=
  match (s.chan n).mover with
  | none => s
  | some m =>
    let s := s.setChan n { s.chan n with mover := none, used := 0 }
    let s := (s.putB (F.DMA_MOV_STAT_BUSY m) false).putB (F.DMA_CH_STAT_MOVER n) false
    (s.moversBusy).drainCheck 24

/-- The lowest-numbered mover in service that no channel holds. -/
def State.moverFree (s : State) : Option Nat :=
  (List.range 32).find? (fun m => !(s.get F.FLT_RETIRED_MOVERS).testBit m &&
    !s.dma.chan.any (fun p => decide (p.2.mover = some m)))

/-- The mover pool grants free movers to the requesting channels: highest PRIO first, ties in ascending channel number after
the last owner (R311, R369). -/
def State.moverGrant (s : State) : Nat → State
  | 0 => s
  | fuel + 1 =>
    if s.flag (F.ARB_CTL_FREEZE 24) then s.drainCheck 24
    else
      match s.moverFree with
      | none => s
      | some m =>
        let last := s.get (F.ARB_STAT_OWNER 24)
        let want := s.chansOn.filter (fun n => (s.chan n).mover.isNone && s.chanWants n)
        let dist := fun (n : Nat) => (n + 4095 - last) % 4096
        let before := fun (a b : Nat) => decide (s.get (F.DMA_CH_CTL_PRIO b) < s.get (F.DMA_CH_CTL_PRIO a)) ||
          (decide (s.get (F.DMA_CH_CTL_PRIO a) = s.get (F.DMA_CH_CTL_PRIO b)) && decide (dist a ≤ dist b))
        match sortBy before want with
        | [] => s
        | n :: _ =>
          let s := s.setChan n { s.chan n with mover := some m, used := 0, since := s.tim.elapsed }
          let s := (s.putB (F.DMA_MOV_STAT_BUSY m) true).put (F.DMA_MOV_STAT_CHANNEL m) n
          let s := ((s.putB (F.DMA_CH_STAT_MOVER n) true).put (F.ARB_STAT_OWNER 24) n).inc (F.ARB_GRANTS 24)
          (s.moversBusy).moverGrant fuel

/-- Movers go to channels that request one, and leave channels that no longer do. -/
def State.moverSync (s : State) : State :=
  let s := (s.dma.chan.map (fun p => p.1)).foldl (fun s n =>
    if (s.chan n).mover.isSome && !s.chanWants n && decide (s.chanState n ≠ 5) then s.moverRelease n else s) s
  s.moverGrant 33

/-- The hold limit of the mover pool (R313): every channel that has held its mover for HOLD is cut off. -/
def State.moverCutoff (s : State) : State :=
  let h := s.get (F.ARB_CTL_HOLD 24)
  (s.dma.chan.map (fun p => p.1)).foldl (fun s n =>
    if (s.chan n).mover.isNone || decide (h = 0) || decide (s.tim.elapsed < (s.chan n).since + h * 16 * Config.ns) then s
    else
      let s := ((s.stick (F.ARB_STAT_HOG 24)).inc (F.ARB_HOGS 24)).put (F.ARB_LAST_HOG 24) n
      ((s.moverRelease n).raiseU 243).faultU 91) s

/-! ### Starting and stopping (state table, R381 to R386) -/

/-- Start of the chain that CUR names. -/
def State.chanRun (s : State) (n : Nat) : State := (s.put (F.DMA_CH_STAT_STATE n) 1).moverSync

/-- HALTED, with event 291 (R384). -/
def State.chanHalted (s : State) (n : Nat) : State :=
  let s := (s.put (F.DMA_CH_STAT_STATE n) 3).putB (F.DMA_CH_CMD_HALT n) false
  ((s.raiseU 291).moverRelease n).moverSync

/-- Is the configuration of a channel valid (R380)? -/
def State.chanValid (s : State) (n : Nat) : Bool :=
  let line := s.get (F.DMA_CH_CTL_REQ_LINE n)
  decide (line ≤ 271) &&
  !(s.flag (F.DMA_CH_CTL_REQ_EN n) && s.chansOn.any (fun m => decide (m ≠ n) &&
      s.flag (F.DMA_CH_CTL_REQ_EN m) && decide (s.get (F.DMA_CH_CTL_REQ_LINE m) = line)))

/-- EN = 1 is written (R380, R385, R386). -/
def State.dmaEnable (s : State) (n : Nat) : State :=
  if s.flag (F.DMA_CH_CTL_EN n) then s
  else if !s.flag (F.DMA_CH_STAT_IDLE n) then s.stick (F.DMA_CH_STAT_REENABLE_REFUSED n)
  else if !s.chanValid n then s.stick (F.DMA_CH_STAT_CFG_INVALID n)
  else
    let s := ((s.putB (F.DMA_CH_CTL_EN n) true).putB (F.DMA_CH_STAT_IDLE n) false).inc F.DMA_GLB_STAT_CHANNELS_ON
    let s := (s.wr (R.DMA_CH_BYTES n) 0).wr (R.DMA_CH_DESCS n) 0
    let s := s.setChan n ChanState.init
    (s.setCur n (s.descAddr n) (s.flag (F.DMA_CH_CTL_MODE n))).chanRun n

/-- The destination ranges of a descriptor: its range, or the entries of its scatter-gather list up to LENGTH (R373). -/
def State.sgRanges (s : State) (a left : Nat) : Nat → List (Nat × Nat)
  | 0 => []
  | fuel + 1 =>
    let len := ofBytesLE (s.bytes (a + 8) 3)
    if left = 0 ∨ len = 0 ∨ left < len then []
    else (ofBytesLE (s.bytes a 6), len) :: s.sgRanges (a + 16) (left - len) fuel

def State.dstRanges (s : State) (d : Desc) : List (Nat × Nat) :=
  if d.dstPort then []
  else if d.dstSg then s.sgRanges d.dst d.length d.length
  else [(d.dst, if d.dstFixed then 4 else d.length)]

/-- Leave the memory bytes of a range undefined (R384, R387): free values, but for bytes of a protected Lantern range, which
no DMA write reaches (R191). -/
def State.undefBytes (s : State) (a n : Nat) : State :=
  (List.range n).foldl (fun s k =>
    let p := s.place (a + k)
    let prot := s.cmp.protected_.any (fun r => decide (r.2.1 ≤ a + k) && decide (a + k < r.2.2))
    if (p = .dram ∨ p = .packetBuf ∨ p = .contexts) ∧ !prot then s.freeBytes (a + k) 1 else s) s

/-- The entry a channel runs finishes (R358, R386). -/
def State.entryFinish (s : State) (n status : Nat) : State :=
  match (s.chan n).entry with
  | none => s
  | some e => (s.setChan n { s.chan n with entry := none, inline := none }).ringFinish e.ring e.idx e.tag e.compl status e.moved

/-- EN = 0 is written (R384). What R384 leaves undefined is free. -/
def State.dmaDisable (s : State) (n : Nat) : State :=
  if !s.flag (F.DMA_CH_CTL_EN n) then s
  else
    let s := ((s.putB (F.DMA_CH_CTL_EN n) false).putB (F.DMA_CH_SHD_CTL_ARM n) false).put (F.DMA_CH_STAT_STATE n) 5
    let s := s.putB (F.DMA_CH_CMD_HALT n) false
    let s := match (s.chan n).desc with
      | some d => (s.dstRanges d).foldl (fun (s : State) (p : Nat × Nat) => s.undefBytes p.1 p.2) s
      | none => s
    let s := s.setChan n { s.chan n with desc := none }
    let s := s.entryFinish n 0xE6
    let s := (s.wr (R.DMA_CH_BYTES n) s.unstated).used
    let s := (s.wr (R.DMA_CH_DESCS n) s.unstated).used
    let s := (s.put (F.DMA_CH_CUR_LO n) s.unstated).used
    let s := (s.put (F.DMA_CH_CUR_HI_ADDR n) (s.unstated % 65536)).used
    (s.put (F.DMA_CH_CUR_HI_END n) (s.unstated % 2)).used

/-- DMA_CHANNEL_IDLE: a stopping channel reaches OFF (state table). -/
def State.dmaIdle (s : State) (n : Nat) : State :=
  if s.chanState n ≠ 5 then s
  else
    let s := ((s.put (F.DMA_CH_STAT_STATE n) 0).putB (F.DMA_CH_STAT_IDLE n) true).moverRelease n
    let s := (s.setChan n ChanState.init).decr F.DMA_GLB_STAT_CHANNELS_ON
    (s.raiseU 293).moverSync

/-- HALT is written (R384). -/
def State.dmaHalt (s : State) (n : Nat) : State :=
  let st := s.chanState n
  if st = 2 then s.chanHalted n
  else if st = 1 then (if (s.chan n).desc.isNone then s.chanHalted n else s.putB (F.DMA_CH_CMD_HALT n) true)
  else s

/-- The shadow chain is taken (R381): SHD_DESC becomes CUR and ARM clears. -/
def State.takeShadow (s : State) (n : Nat) : State := (s.setCur n (s.shdAddr n) false).putB (F.DMA_CH_SHD_CTL_ARM n) false

/-- RESUME is written (state table). -/
def State.dmaResume (s : State) (n : Nat) : State :=
  let st := s.chanState n
  if st = 3 then
    if s.flag (F.DMA_CH_CTL_MODE n) || !s.flag (F.DMA_CH_CUR_HI_END n) then s.chanRun n
    else if s.flag (F.DMA_CH_SHD_CTL_ARM n) then (s.takeShadow n).chanRun n
    else s.put (F.DMA_CH_STAT_STATE n) 2
  else if st = 4 then s.chanRun n
  else s

/-- A write of DMA_CH_SHD_CTL with ARM = `arm` (R381 to R383, R386). -/
def State.dmaArm (s : State) (n : Nat) (arm : Bool) : State :=
  if s.flag (F.DMA_CH_SHD_CTL_ARM n) then s.stick (F.DMA_CH_STAT_SHADOW_BUSY n)
  else if !arm then s
  else if s.flag (F.DMA_CH_CTL_MODE n) then s.stick (F.DMA_CH_STAT_CFG_INVALID n)
  else if s.chanState n = 2 then
    let s := ((s.takeShadow n).stick (F.DMA_CH_STAT_GAP n)).inc (F.DMA_CH_GAPS n)
    (s.raiseU 290).chanRun n
  else s.putB (F.DMA_CH_SHD_CTL_ARM n) true

/-! ### The end of a descriptor (R370, R381, R386, R387) -/

/-- The channel reaches a descriptor boundary with a HALT pending, or goes on. -/
def State.chanBoundary (s : State) (n : Nat) : State := if s.flag (F.DMA_CH_CMD_HALT n) then s.chanHalted n else s.moverSync

/-- Bytes that a grant of the mover pool may move (R312, R369). -/
def State.grantBytes (s : State) : Nat := max 1 (s.get (F.ARB_CTL_BURST_LIMIT 24)) * 4096

/-- Has a channel moved BURST_LIMIT units of 4 KiB in its grant? -/
def State.grantOver (s : State) (n : Nat) : Bool := (s.chan n).mover.isSome && decide (s.grantBytes ≤ (s.chan n).used)

/-- A descriptor retires (R370): it is counted, and the channel goes on by its flags. -/
def State.descRetire (s : State) (n : Nat) (d : Desc) : State :=
  let s := ((s.add (F.DMA_CH_BYTES n) d.length).inc (F.DMA_CH_DESCS n))
  let total := s.get F.DMA_GLB_BYTES_HI * 2 ^ 32 + s.get F.DMA_GLB_BYTES_LO + d.length
  let s := (s.wr R.DMA_GLB_BYTES_LO (total % 2 ^ 32)).wr R.DMA_GLB_BYTES_HI (total / 2 ^ 32 % 2 ^ 32)
  let s := if d.evt then s.raise 288 n else s
  let c := s.chan n
  let s := (s.setChan n { c with desc := none, inline := none, entry := c.entry.map (fun (e : EntryRun) =>
    { e with moved := e.moved + d.length }) })
  if !d.last then (s.setCur n (d.next % 2 ^ 48) false).chanBoundary n
  else
    let s := (s.inc (F.DMA_CH_CHAINS n)).raise 289 n
    if s.flag (F.DMA_CH_CTL_MODE n) then ((s.setCur n (s.cur n) true).entryFinish n 0).chanBoundary n
    else if s.flag (F.DMA_CH_SHD_CTL_ARM n) then (s.takeShadow n).chanBoundary n
    else
      let s := s.setCur n (s.cur n) true
      if s.flag (F.DMA_CH_CMD_HALT n) then s.chanHalted n
      else ((s.put (F.DMA_CH_STAT_STATE n) 2).moverRelease n).moverSync

/-- A descriptor ends with a status other than OK (R386, R387). -/
def State.descFail (s : State) (n status : Nat) : State :=
  let s := (s.put (F.DMA_CH_STAT_ERR n) status).inc (F.DMA_CH_ERRORS n)
  let s := (s.setChan n { s.chan n with desc := none, moved := 0, granted := 0 }).raise 292 n
  if s.flag (F.DMA_CH_CTL_MODE n) then
    let s := (s.setCur n (s.cur n) true).entryFinish n status
    if s.flag (F.DMA_CH_CTL_STOP_ON_ERR n) then s.chanHalted n else s.chanBoundary n
  else ((s.put (F.DMA_CH_STAT_STATE n) 4).moverRelease n).moverSync

end Sys2Proof.Machine
end

