-- ==== Sys2Proof/Machine/Evt.lean ====
section
/-! DEFINITION. The event controller's deliveries (R422 to R429): route changes, delivery attempts, the queues of internal
targets and remote sinks, the event rings, and the sampling of level sources. -/

namespace Sys2Proof.Machine

/-- Is a session slot OPEN? -/
def State.sessOpen (s : State) (i : Nat) : Bool := decide (s.get (F.SEC_SESS_STAT_STATE i) = 2)

/-- Is sink `i` awake: its slot is OPEN, and not a slot that a gang head opened on a member (R342, R343, R521)? -/
def State.sinkLive (s : State) (i : Nat) : Bool :=
  s.sessOpen i && !s.ctl.sess.any (fun (p : Nat × SessState) => decide (p.1 = i) && p.2.relayed)

/-- Show a sink's queue and whether it is dormant (R343, R347, R446). -/
def State.sinkShow (s : State) (i : Nat) : State :=
  let q := s.queueOf (8 + i)
  let dorm := !s.sinkLive i
  let s := s.putB (F.EVT_SINK_STAT_DORMANT i) dorm
  let s := s.put (F.SEC_SESS_STAT_EVT_HELD i) (if dorm then (q.filter (fun r => !r.overflow)).length else 0)
  s.putB (F.SEC_SESS_STAT_EVT_OVERFLOW i) (dorm && q.any (fun r => r.overflow))

/-- Set the queue of a destination with everything that shows it. -/
def State.putQueue (s : State) (d : Nat) (q : List EvRec) : State :=
  let busy := s.sinkBusy d
  let s := s.setQueue d q
  if d < 8 then s
  else
    let s := if busy && !s.sinkBusy d then
        { s with evt := { s.evt with idleFrom := SMap.set (fun _ => 0) s.evt.idleFrom (d - 8) s.tim.elapsed
                                     bypass := SMap.set (fun _ => false) s.evt.bypass (d - 8) false } }
      else s
    s.sinkShow (d - 8)

/-- Does a queue that the record of source `n` entered at attempt `b` still hold it (R429)? A dormant sink's hold does not count. -/
def State.evtOpen (s : State) (n b : Nat) : Bool :=
  (List.range 24).any (fun d => (decide (d < 8) || s.sinkLive (d - 8)) && (s.queueOf d).any (fun r => decide (r.src = n ∧ r.batch = b)))

/-- A record of source `n` that was delivered at attempt `b` has left a queue: once it has left all of them it is complete, and a level
source that is still asserted occurs again (R429). -/
def State.evtComplete (s : State) (n b : Nat) : State :=
  if s.flag (F.EVT_SRC_CFG_LEVEL n) && s.flag (F.EVT_SRC_STAT_ASSERTED n) && !s.evtOpen n b then (s.occur n s.unstated).used else s

/-- Records have left a queue. -/
def State.evtsComplete (s : State) (rs : List EvRec) : State :=
  (((rs.filter (fun r => !r.overflow)).map (fun r => (r.src, r.batch))).eraseDups).foldl (fun (s : State) p => s.evtComplete p.1 p.2) s

/-! ### Route changes (R422) -/

/-- A write of EVT_SRC_ROUTE: the old route stays in force until the source's next delivery attempt. With no record of the
source pending there is none to wait for, and the new route is in force at once (log entry 90). -/
def State.routeWrite (s : State) (n v : Nat) : State :=
  let old := if s.anyPend n then some (s.route n) else none
  let s := { s with evt := { s.evt with oldRoute := SMap.set (fun _ => none) s.evt.oldRoute n old } }
  s.wr (R.EVT_SRC_ROUTE n) (v % 2 ^ 24)

/-- Merge two records by R422: the larger count, and the earlier time with its DATA. -/
def EvRec.merge (a b : EvRec) : EvRec :=
  let first := if a.time ≤ b.time then a else b
  { first with count := max a.count b.count }

/-- The waiting route change of a source takes effect (R422). -/
def State.applyRoute (s : State) (n : Nat) : State :=
  match SMap.get (fun _ => none) s.evt.oldRoute n with
  | none => s
  | some old =>
    let s := { s with evt := { s.evt with oldRoute := SMap.set (fun _ => none) s.evt.oldRoute n none } }
    let new := routeDests (s.route n)
    let added := new.filter (fun d => !(routeDests old).contains d)
    let gone := (List.range 24).filter (fun d => !new.contains d && (s.pendOf n d).isSome && decide (n ≠ 256 ∨ d < 8))
    let merged := (gone.filterMap (fun d => s.pendOf n d)).foldl (fun (a : Option EvRec) r =>
      match a with | some q => some (q.merge r) | none => some r) none
    let s := gone.foldl (fun s d => s.setPend n d none) s
    match merged with
    | none => s
    | some m =>
      if added = [] then s.add F.EVT_GLB_DROPPED m.count
      else added.foldl (fun s d =>
        s.setPend n d (some (match s.pendOf n d with | some q => q.merge m | none => m))) s

/-! ### Deliveries (R423 to R425, R428, R343) -/

/-- Has a pending record of source `n` an attempt at destination `d`, which has room in its queue (R423)? HOLD does not bind
event 256 at a sink (R424). -/
def State.canAttempt (s : State) (n d : Nat) : Bool :=
  (s.pendOf n d).isSome &&
  (!s.flag F.EVT_GLB_CTL_HOLD || (decide (n = 256) && decide (8 ≤ d))) &&
  (if d < 8 then decide (d = 4) || decide ((s.queueOf d).length < 32)
   else !s.sinkLive (d - 8) || decide ((s.queueOf d).length < 64))

/-- Is destination `d` masked? A mask set in this instant counts as coming after the queue entries of the same instant (R423). -/
def State.destMasked (s : State) (d : Nat) : Bool :=
  (if d < 8 then s.flag (F.EVT_TGT_CTL_MASK d) else s.flag (F.EVT_SINK_CTL_MASK (d - 8))) &&
    decide (SMap.get (fun _ => none) s.evt.maskAt d ≠ some s.tim.elapsed)

/-- MASK of destination `d` is written. -/
def State.maskWrite (s : State) (d : Nat) (b : Bool) : State :=
  let f := if d < 8 then F.EVT_TGT_CTL_MASK d else F.EVT_SINK_CTL_MASK (d - 8)
  let at_ := if !b then none else if s.flag f then SMap.get (fun _ => none) s.evt.maskAt d else some s.tim.elapsed
  ({ s with evt := { s.evt with maskAt := SMap.set (fun _ => none) s.evt.maskAt d at_ } }).putB f b

/-- May a pending record of source `n` enter the queue of destination `d` now? A masked destination receives nothing. -/
def State.canDeliver (s : State) (n d : Nat) : Bool := s.canAttempt n d && !s.destMasked d

/-- Does an attempt of source `n` at destination `d` do anything: it delivers, or a change of the route waits for it (R422)? -/
def State.attemptDue (s : State) (n d : Nat) : Bool :=
  s.canDeliver n d || (s.canAttempt n d && (SMap.get (fun _ => none) s.evt.oldRoute n).isSome)

/-- A record enters the hold of a dormant sink (R343). -/
def State.sinkHold (s : State) (i : Nat) (r : EvRec) : State :=
  let q := s.queueOf (8 + i)
  match q.getLast? with
  | some o =>
    if o.overflow then s.putQueue (8 + i) (q.dropLast ++ [{ o with count := (o.count + 1) % 2 ^ 32 }])
    else if q.length < 64 then s.putQueue (8 + i) (q ++ [r])
    else
      let surplus : EvRec := ⟨0xFFFF, 1, s.unstated, r.time, true, 0⟩
      (((s.used.putQueue (8 + i) (q ++ [surplus])).inc (F.EVT_SINK_OVERFLOWS i)).raiseU 7).faultUnit 1 i
  | none => s.putQueue (8 + i) [r]

/-- Delivery of the pending record of source `n` to destination `d` at attempt `b`. -/
def State.deliver (s : State) (n d b : Nat) : State :=
  match s.pendOf n d with
  | none => s
  | some q =>
    let r : EvRec := { q with batch := b }
    let s := s.setPend n d none
    if d = 4 then (s.inc (F.EVT_TGT_DELIVERED 4)).lineRequest (s.get (F.EVT_SRC_CFG_LINE n))
    else if d < 8 then (s.inc (F.EVT_TGT_DELIVERED d)).putQueue d (s.queueOf d ++ [r])
    else if s.sinkLive (d - 8) then s.putQueue d (s.queueOf d ++ [r])
    else s.sinkHold (d - 8) r

/-- DELIVERY_ATTEMPT (R422, R423): the lowest-numbered source with a record that some destination takes, or whose waiting route
change an attempt brings into force. -/
def State.deliveryAttempt (s : State) : State :=
  let src := s.evt.pend.foldl (fun (a : Option Nat) p =>
    if s.attemptDue (p.1 / 24) (p.1 % 24) then (match a with | some m => some (min m (p.1 / 24)) | none => some (p.1 / 24)) else a) none
  match src with
  | none => s
  | some n =>
    let s := s.applyRoute n
    let b := s.evt.attempts
    let ds := (List.range 24).filter (fun d => s.canDeliver n d)
    let s := { s with evt := { s.evt with attempts := b + 1 } }
    let s := ds.foldl (fun s d => s.deliver n d b) s
    if ds.isEmpty then s else s.evtComplete n b

/-! ### Event rings (R426) -/

def State.evRingN (s : State) (t : Nat) : Nat := 2 ^ s.get (F.EVT_TGT_RING_HI_LOG2SIZE t)
def State.evRingBase (s : State) (t : Nat) : Nat :=
  s.get (F.EVT_TGT_RING_HI_BASE t) * 2 ^ 32 + s.get (F.EVT_TGT_RING_LO_BASE t) * 64
def State.evHead (s : State) (t : Nat) : Pos := (s.get (F.EVT_TGT_RING_HEAD_INDEX t), s.get (F.EVT_TGT_RING_HEAD_PHASE t))
def State.evTail (s : State) (t : Nat) : Pos := (s.get (F.EVT_TGT_RING_TAIL_INDEX t), s.get (F.EVT_TGT_RING_TAIL_PHASE t))

/-- The 32 bytes of an event record (R426). -/
def EvRec.bytes (r : EvRec) (phase : Nat) : List Byte :=
  bytesLE 2 r.src ++ [0, BitVec.ofNat 8 ((1 - phase) * 128)] ++ bytesLE 4 r.count ++ bytesLE 4 r.data ++
    bytesLE 2 (timeSub r.time) ++ bytesLE 4 (timeNs r.time) ++ bytesLE 6 (timeS r.time) ++ List.replicate 8 0

/-- EVENT_RING_WRITE (R426): a ring agent writes its oldest record, unless its ring is full or not enabled. -/
def State.eventRingWrite (s : State) (t : Nat) : State :=
  match s.queueOf t with
  | [] => s
  | r :: rest =>
    let n := s.evRingN t
    let tail := s.evTail t
    if t < 5 ∨ 8 ≤ t ∨ !s.flag (F.EVT_TGT_RING_LO_EN t) ∨ (n : Int) ≤ posUsed n (s.evHead t) tail ∨ !s.inDram (s.evRingBase t) (32 * n) then s
    else
      let s := s.setBytes (s.evRingBase t + tail.1 * 32) (r.bytes tail.2)
      let p := posAdvance n tail 1
      ((s.wr (R.EVT_TGT_RING_TAIL t) (p.1 + p.2 * 65536)).putQueue t rest).evtComplete r.src r.batch

/-- EVENT_RING_HEAD_WRITE (R426, with the validity rule of R361). -/
def State.eventHeadWrite (s : State) (t v : Nat) : State :=
  let n := s.evRingN t
  let new : Pos := (v % 65536, bitsOf v 16 1)
  let u := posUsed n (s.evHead t) new
  if 5 ≤ t ∧ t < 8 ∧ new.1 < n ∧ 0 ≤ u ∧ u ≤ posUsed n (s.evHead t) (s.evTail t) then
    s.wr (R.EVT_TGT_RING_HEAD t) (new.1 + new.2 * 65536)
  else s

/-! ### Remote sinks (R428) -/

/-- Is the send condition of sink `i` met? -/
def State.sinkDue (s : State) (i : Nat) : Bool :=
  let gap := s.get (F.EVT_SINK_MOD_INTERVAL_US i) * Config.us
  s.sinkLive i && (s.get (F.SEC_SESS_STAT_PERM i)).testBit 4 && !(s.queueOf (8 + i)).isEmpty &&
  (decide (gap = 0) || SMap.get (fun _ => false) s.evt.bypass i ||
    match SMap.get (fun _ => none) s.evt.lastMsg i with
    | some t => decide (t + gap ≤ s.tim.elapsed)
    | none => true)

/-- Does source 97 of the fault list, or another rate-limited one, allow a new report? See State.raiseLimited. -/
def State.limitOk (s : State) (k gap : Nat) : Bool :=
  match SMap.get (fun _ => none) s.evt.limited k with
  | none => true
  | some t => decide (t + gap ≤ s.tim.elapsed)

/-- Note the newest report of a rate-limited source. -/
def State.limitMark (s : State) (k : Nat) : State :=
  { s with evt := { s.evt with limited := SMap.set (fun _ => none) s.evt.limited k (some s.tim.elapsed) } }

end Sys2Proof.Machine
end

