-- ==== Sys2Proof/Machine/Ctl.lean ====
section
/-! DEFINITION. Control sessions (R319 to R337) and the sending side of Rilsar (R515 to R518): messages to hosts and to
gang peers, replies, the staged-change lock, and the end of a session. -/

namespace Sys2Proof.Machine

def SessState.init : SessState :=
  { hostNonce := [], hostEph := [], hostPub := [], hello := [], accept := [], hostId := 0, perm := 0, prevHost := none, port := 0,
    peer := ⟨false, 0, 0, 0, 0⟩, keys := [], setupAt := 0, lastAccept := 0, held := [], gapAt := none, gapTold := false, replies := [],
    owed := [], devSeq := 0, sinkSeq := 0, relayed := false }
def State.sess (s : State) (i : Nat) : SessState := SMap.get (fun _ => SessState.init) s.ctl.sess i
def State.setSess (s : State) (i : Nat) (v : SessState) : State :=
  { s with ctl := { s.ctl with sess := SMap.set (fun _ => SessState.init) s.ctl.sess i v } }

def LinkState.init : LinkState :=
  { linkId := 0, nonce := [], peerNonce := [], keys := [], hello := [], txSeq := 0, rxSeq := 0, seen := [], held := [], replies := [],
    waiting := [], lastRx := 0, lastReq := 0, resets := none, acceptAt := none, keepAt := 0, ephDraw := 0 }
def State.link (s : State) (d : Nat) : LinkState := SMap.get (fun _ => LinkState.init) s.gng d
def State.setLink (s : State) (d : Nat) (v : LinkState) : State :=
  { s with gng := SMap.set (fun _ => LinkState.init) s.gng d v }

/-! ### Messages to hosts (R319, R321, R323, R324) -/

/-- TYPE of a message (R325). -/
def msgCode : Msg → Nat
  | .close => 0x04
  | .read _ _ _ => 0x10
  | .write _ _ _ => 0x11
  | .maskedWrite _ _ _ => 0x12
  | .ringWrite _ _ _ => 0x13
  | .doorbell _ _ => 0x14
  | .lock _ => 0x20
  | .stage _ => 0x21
  | .commit _ => 0x22
  | .unlock => 0x23
  | .persist _ _ _ => 0x30
  | .attest _ => 0x31
  | .badType t => t % 256
  | .badLength t => t % 256

def reqCode : Req → Nat
  | .own m => msgCode m
  | .relay _ _ => 0x32

/-- The 20-byte header (R324). -/
def ctlHeader (type len session seq : Nat) : List Byte :=
  bytesBE 1 1 ++ bytesBE 1 type ++ bytesBE 2 len ++ bytesBE 4 session ++ bytesBE 8 seq ++ bytesBE 4 0

/-- Send a datagram from the control port to a host, from the address of port `l` that the host wrote to: its link-local one, or the
configured one (R319). -/
def State.toHost (s : State) (i l : Nat) (p : Peer) (bs : List Byte) : State :=
  let src := if p.ipv6 ∧ p.dst = s.linkLocal l then s.linkLocal l else s.portIp l p.ipv6
  s.sendBytes l .control i (s.udpFrom l p.ipv6 src p.mac p.ip (s.get F.SEC_CP_CFG_PORT) p.udp Config.ttl bs)

/-- Send a plain message (R321). -/
def State.ctlPlain (s : State) (i l : Nat) (p : Peer) (type session : Nat) (body : List Byte) : State :=
  s.toHost i l p (ctlHeader type body.length session 0 ++ body)

/-- Send a protected message of session `i` (R323). -/
def State.ctlSend (s : State) (i type : Nat) (body : List Byte) : State :=
  let v := s.sess i
  let seq := v.devSeq + 1
  let h := ctlHeader type body.length (s.rd (R.SEC_SESS_ID i)) seq
  let sealed := ofLength (body.length + 16) (Config.gcmSeal (slice v.keys 32 32) (slice v.keys 68 4 ++ bytesBE 8 seq) h body)
  ((s.setSess i { v with devSeq := seq }).toHost i v.port v.peer (h ++ sealed)).inc (F.SEC_SESS_TX_MSGS i)

/-- The body of a COMPLETION (R329). -/
def Reply.body (r : Reply) : List Byte :=
  bytesBE 8 r.reqSeq ++ bytesBE 1 r.reqType ++ bytesBE 1 0 ++ bytesBE 2 r.status ++ bytesBE 4 r.done ++ r.data

/-- Send the COMPLETION of a request and keep it among the session's last 32 (R326, R329). -/
def State.reply (s : State) (i : Nat) (r : Reply) : State :=
  (s.setSess i { s.sess i with replies := (r :: (s.sess i).replies).take 32 }).ctlSend i 0x41 r.body

/-- Send the replies that are known, up to the first that is not: the rest of what session `i` is owed. -/
def State.sendOwed (s : State) (i : Nat) : List (Nat × Option Reply) → State
  | (_, some r) :: l => (s.reply i r).sendOwed i l
  | l => s.setSess i { s.sess i with owed := l }

/-- Is a reply sent whenever its work ends: that of PERSIST and ATTEST (R329)? -/
def replyFree (type : Nat) : Bool := type == 0x30 || type == 0x31

/-- A request of session `i` whose reply comes later: the replies of the requests after it wait for it (R329). -/
def State.replyLater (s : State) (i seq : Nat) : State := s.setSess i { s.sess i with owed := (s.sess i).owed ++ [(seq, none)] }

/-- The reply of a request is known. Replies leave in the order in which the requests were applied (R329): one that was put off takes its
place, and one that no relayed request before it holds up leaves at once. -/
def State.complete (s : State) (i : Nat) (r : Reply) : State :=
  if !s.sessOpen i then s
  else
    let q := (s.sess i).owed
    if q.any (fun p => p.1 == r.reqSeq) then
      s.sendOwed i (q.map (fun p => if p.1 = r.reqSeq then (p.1, some r) else p))
    else if q.isEmpty || replyFree r.reqType then s.reply i r
    else s.setSess i { s.sess i with owed := q ++ [(r.reqSeq, some r)] }

/-! ### Messages to gang peers (R514 to R518) -/

/-- IPv4 or IPv6 address and MAC of a peer entry. -/
def State.peerIp (s : State) (d : Nat) : Nat :=
  if s.flag (F.GNG_PEER_CTL_IPV6 d) then
    ipv6Of (s.rd (R.GNG_PEER_IP d 0)) (s.rd (R.GNG_PEER_IP d 1)) (s.rd (R.GNG_PEER_IP d 2)) (s.rd (R.GNG_PEER_IP d 3))
  else s.rd (R.GNG_PEER_IP d 0)
def State.peerMac (s : State) (d : Nat) : Nat := s.rd (R.GNG_PEER_MAC_HI d) % 65536 * 2 ^ 32 + s.rd (R.GNG_PEER_MAC_LO d)

def State.isHead (s : State) : Bool := decide (s.get F.GNG_CFG_ROLE = 1)
def State.isMember (s : State) : Bool := decide (s.get F.GNG_CFG_ROLE = 2)
def State.ownId (s : State) : Nat := s.get F.GNG_CFG_DEVICE_ID
def State.peerState (s : State) (d : Nat) : Nat := s.get (F.GNG_PEER_STAT_STATE d)
/-- The enabled peer entries. -/
def State.peersOn (s : State) : List Nat := (List.range 64).filter (fun d => s.flag (F.GNG_PEER_CTL_EN d))

/-- The 24-byte header (R515). -/
def gangHeader (type len src dst linkId seq : Nat) : List Byte :=
  bytesBE 1 1 ++ bytesBE 1 type ++ bytesBE 2 len ++ bytesBE 1 (src % 64) ++ bytesBE 1 (dst % 64) ++ bytesBE 2 0 ++
    bytesBE 4 linkId ++ bytesBE 8 seq ++ bytesBE 4 0

/-- Send a datagram to peer `d`. -/
def State.toPeer (s : State) (d : Nat) (bs : List Byte) : State :=
  let l := s.get (F.GNG_PEER_CTL_PORT d)
  let p := s.get F.GNG_CFG_PORT
  s.sendBytes l .gang d (s.udpFrame l (s.flag (F.GNG_PEER_CTL_IPV6 d)) (s.peerMac d) (s.peerIp d) p p Config.ttl bs)

/-- The protected datagram of a link with a given SEQ (R515, R517). -/
def State.linkBytes (s : State) (d seq type : Nat) (body : List Byte) : List Byte :=
  let v := s.link d
  let h := gangHeader type body.length s.ownId d v.linkId seq
  let ko := if s.isHead then 0 else 32
  let no := if s.isHead then 64 else 68
  h ++ ofLength (body.length + 16) (Config.gcmSeal (slice v.keys ko 32) (slice v.keys no 4 ++ bytesBE 8 seq) h body)

/-- Send a protected message over the link to peer `d`. -/
def State.linkSend (s : State) (d type : Nat) (body : List Byte) : State :=
  let v := s.link d
  (s.setLink d { v with txSeq := v.txSeq + 1 }).toPeer d (s.linkBytes d (v.txSeq + 1) type body)

/-- A member's RELAY_REPLY to its head, kept among the last 32 (R516, R518). -/
def State.relayAnswer (s : State) (linkSeq reqId : Nat) (r : Reply) : State :=
  let h := s.get F.GNG_CFG_HEAD
  let v := s.link h
  if s.peerState h ≠ 2 then s
  else
    (s.setLink h { v with replies := ((linkSeq, { r with reqSeq := reqId }) :: v.replies).take 32 }).linkSend h 0x11
      (bytesBE 4 reqId ++ bytesBE 2 r.status ++ bytesBE 2 0 ++ bytesBE 4 r.done ++ r.data)

/-- Where a request came from: its session slot (16: a session that has ended), SEQ and TYPE, and on a member the link SEQ
and REQ_ID of the RELAY_REQ that brought it. -/
structure Asker where
  slot : Nat
  seq : Nat
  type : Nat
  relay : Option (Nat × Nat)
  deriving DecidableEq, Repr

/-- The one reply of a request (R329, R520). -/
def State.answer (s : State) (a : Asker) (status done : Nat) (data : List Byte) : State :=
  if 16 ≤ a.slot then s
  else
    let r : Reply := ⟨a.seq, a.type, status, done, data⟩
    match a.relay with
    | none => s.complete a.slot r
    | some (q, id) => s.relayAnswer q id r

/-- The reply of a request whose DONE no rule gives: a free value. -/
def State.answerD (s : State) (a : Asker) (status : Nat) (data : List Byte) : State := (s.answer a status s.unstated data).used

/-! ### The staged-change lock (R334, R335) -/

/-- Show the lock in its registers. -/
def State.lockShow (s : State) : State :=
  let k := s.ctl.lock
  let s := s.putB F.SEC_CP_LOCK_HELD k.holder.isSome
  let s := (s.put F.SEC_CP_LOCK_HOLDER (k.holder.getD 0)).put F.SEC_CP_LOCK_STAGED k.staged.length
  ((s.wr R.SEC_CP_LOCK_EXP_S_HI (timeS k.expiry / 2 ^ 32)).wr R.SEC_CP_LOCK_EXP_S_LO (timeS k.expiry % 2 ^ 32)).wr
    R.SEC_CP_LOCK_EXP_NS (timeNs k.expiry)

def State.setLock (s : State) (k : LockState) : State := ({ s with ctl := { s.ctl with lock := k } }).lockShow

/-- The surfaces that only a COMMIT without effect would have used are protected no longer (R191). -/
def State.ltRelease (s : State) (ranges : List (Nat × Nat × Nat)) : State :=
  { s with cmp := { s.cmp with protected_ := ranges.foldl (fun l r => l.erase r) s.cmp.protected_ } }

/-- A COMMIT whose surfaces or curves are still being read ends with LOCK_NOT_HELD. -/
def State.dropChecks (s : State) : State :=
  let jobs := s.cmp.checks
  let s := { s with cmp := { s.cmp with checks := [] } }
  let s := (jobs.flatMap (fun (j : CheckJob) => j.canvases)).foldl (fun (s : State) c => s.putB (F.CMP_LT_STAT_VERIFYING c) false) s
  let s := s.ltRelease (jobs.flatMap (fun (j : CheckJob) => j.verified))
  jobs.foldl (fun (s : State) (j : CheckJob) => s.answerD ⟨j.slot, j.seq, 0x22, j.relay⟩ 0x19 []) s

/-- The lock is freed and its staged entries discarded, without a word. -/
def State.lockFree (s : State) : State :=
  let s := s.dropChecks
  s.setLock { s.ctl.lock with holder := none, staged := [] }

/-- The lock is broken (R335): event 256 and fault 96. -/
def State.lockBreak (s : State) : State := ((s.lockFree.inc F.SEC_CP_LOCK_BROKEN).raiseU 256).faultU 96

/-- LEASE_EXPIRY (R335). -/
def State.leaseExpiry (s : State) : State :=
  if s.ctl.lock.holder.isSome && decide (s.ctl.lock.expiry ≤ s.tim.now) then s.lockBreak else s

/-- A session that ends while it holds the lock frees it (R335). -/
def State.lockEnd (s : State) (i : Nat) : State :=
  if s.ctl.lock.holder ≠ some i then s
  else if s.ctl.lock.staged.isEmpty then s.lockFree
  else s.lockBreak

/-! ### The end of a session (R322, R335, R520) -/

/-- Work that still owes a reply to session `i` owes it to nobody. -/
def State.forgetAsker (s : State) (i : Nat) : State :=
  let away := fun (k : Nat) => if k = i then 16 else k
  let s := { s with ctl := { s.ctl with attest := s.ctl.attest.map (fun (j : AttestJob) => { j with slot := away j.slot }) } }
  let s := { s with nvm := { s.nvm with
    persist := s.nvm.persist.map (fun (j : PersistJob) => { j with slot := away j.slot })
    writing := s.nvm.writing.map (fun (p : PersistJob × Nat) => ({ p.1 with slot := away p.1.slot }, p.2)) } }
  { s with gng := s.gng.map (fun (p : Nat × LinkState) =>
    (p.1, { p.2 with waiting := p.2.waiting.map (fun (j : RelayJob) => { j with slot := away j.slot }) })) }

/-- Slot `i` returns to FREE. -/
def State.sessFree (s : State) (i : Nat) : State :=
  let v := s.sess i
  let s := s.setSess i { SessState.init with prevHost := v.prevHost, hostId := v.hostId }
  ((s.put (F.SEC_SESS_STAT_STATE i) 0).put (F.SEC_SESS_STAT_HELD i) 0).wr (R.SEC_SESS_ID i) 0

/-- Replies that wait behind a relayed request leave before the session ends, since none can leave after it (log entry 116). -/
def State.flushOwed (s : State) (i : Nat) : State := ((s.sess i).owed.filterMap (fun p => p.2)).foldl (fun (s : State) r => s.reply i r) s

/-- An open session ends: its slot is FREE, its sink dormant, and event 258 is raised; a head tells its members. -/
def State.sessEnd (s : State) (i : Nat) : State :=
  if !s.sessOpen i then s
  else
    let s := s.flushOwed i
    let v := s.sess i
    let s := (((s.setSess i { v with prevHost := some v.hostId }).sessFree i).sinkShow i).evtsComplete (s.queueOf (8 + i))
    let s := (s.forgetAsker i).lockEnd i
    let s := if s.isHead then
        (s.peersOn.filter (fun d => decide (s.peerState d = 2))).foldl (fun s d =>
          s.linkSend d 0x12 (bytesBE 1 i ++ bytesBE 3 0)) s
      else s
    s.raiseU 258

/-- SEC_SESS_CMD.CLOSE is written. A session that writes its own gets the COMPLETION of that message first (R328, R329). -/
def State.sessClose (s : State) (i : Nat) : State :=
  match s.ctl.applying with
  | some (j, _) => if j = i then { s with ctl := { s.ctl with applying := some (j, true) } } else s.sessEnd i
  | none => s.sessEnd i

/-- SESSION_IDLE_TIMEOUT: no message accepted for IDLE_S seconds. A relayed slot has no such end (R520). -/
def State.sessIdle (s : State) (i : Nat) : State :=
  let v := s.sess i
  if !v.relayed && decide (v.lastAccept + s.get F.SEC_CP_TIMERS_IDLE_S * Config.sec ≤ s.tim.elapsed) then s.sessEnd i else s

/-- SETUP_TIMEOUT: SETUP_MS since ACCEPT without FINISH. -/
def State.setupTimeout (s : State) (i : Nat) : State :=
  if s.get (F.SEC_SESS_STAT_STATE i) = 1 ∧ (s.sess i).setupAt + s.get F.SEC_CP_TIMERS_SETUP_MS * Config.ms ≤ s.tim.elapsed then
    ((s.sessFree i).inc F.SEC_CP_SETUP_FAIL).raiseU 259
  else s

/-! ### Opening a session (R321, R322) -/

/-- A refusal of a HELLO or a FINISH: REFUSE, event 259. -/
def State.refuse (s : State) (i l : Nat) (p : Peer) (session status : Nat) : State :=
  ((s.ctlPlain i l p 0x05 session (bytesBE 2 status)).inc F.SEC_CP_SETUP_FAIL).raiseU 259

/-- The fields of a certificate (R319). -/
def certVersion (c : Cert) : Nat := be c.body 0 2
def certPerm (c : Cert) : Nat := be c.body 2 2
def certHostId (c : Cert) : Nat := be c.body 4 4
def certNotBefore (c : Cert) : Nat := be c.body 8 6
def certNotAfter (c : Cert) : Nat := be c.body 14 6
def certHostPub (c : Cert) : List Byte := slice c.body 20 97

/-- Does a certificate pass (R319, R321)? -/
def State.certOk (s : State) (c : Cert) : Bool :=
  let st := s.get F.TIM_STAT_STATE
  decide (certVersion c = 1) && Config.ecdsaVerify s.nvm.ownerPub c.body c.sig &&
    (!(decide (st = 2) || decide (st = 3)) ||
      (decide (certNotBefore c ≤ timeS s.tim.now) && (decide (certNotAfter c = 0) || decide (timeS s.tim.now < certNotAfter c))))

/-- The slot a HELLO of a host takes: the one that its HOST_ID last held, if that is FREE, else the lowest FREE one (R322). -/
def State.helloSlot (s : State) (hostId : Nat) : Option Nat :=
  let free := (List.range 16).filter (fun i => decide (s.get (F.SEC_SESS_STAT_STATE i) = 0))
  match SMap.get (fun _ => none) s.ctl.lastSlot hostId with
  | some i => if free.contains i then some i else free.head?
  | none => free.head?

/-- The body of a HELLO (R321). -/
def helloBody (nonce eph : List Byte) (c : Cert) : List Byte := nonce ++ eph ++ bytesBE 3 0 ++ c.body ++ c.sig

/-- HELLO (R321, R322, R507, R513). -/
def State.hello (s : State) (l : Nat) (p : Peer) (nonce eph : List Byte) (c : Cert) : State :=
  if s.sec.open_ then s.refuse 0 l p 0 0x132
  else if s.isMember then s.refuse 0 l p 0 0x144
  else if !s.certOk c then s.refuse 0 l p 0 0x1C
  else
    match s.helloSlot (certHostId c) with
    | none => s.refuse 0 l p 0 0x1B
    | some i =>
      let (idb, s) := s.random 4
      let id := if ofBytesBE idb = 0 then 1 else ofBytesBE idb
      let (devNonce, s) := s.random 32
      let d := s.draw
      let (devEph, s) := s.random 97
      let hb := helloBody nonce eph c
      let ab := bytesBE 4 id ++ bytesBE 1 i ++ bytesBE 3 0 ++ devNonce ++ devEph ++ bytesBE 3 0
      let accept := ab ++ identitySign (hb ++ ab)
      let keys := Config.hkdfEcdh d eph (nonce ++ devNonce) ("PW8 control".toList.map (fun ch => BitVec.ofNat 8 ch.toNat) ++ bytesBE 4 id) 72
      let s := s.setSess i { SessState.init with
        hostNonce := nonce, hostEph := eph, hostPub := certHostPub c, hello := hb, accept := accept, hostId := certHostId c
        perm := certPerm c % 64, prevHost := (s.sess i).prevHost, port := l, peer := p, keys := keys, setupAt := s.tim.elapsed }
      let s := (s.put (F.SEC_SESS_STAT_STATE i) 1).put (F.SEC_SESS_STAT_PERM i) (certPerm c % 64)
      let s := (s.wr (R.SEC_SESS_HOST_ID i) (certHostId c % 2 ^ 32)).wr (R.SEC_SESS_ID i) id
      s.ctlPlain i l p 0x02 id accept

/-- A slot opens: its sequence numbers start at 1 and its sink leaves dormancy, keeping what it holds only for the host that
held the slot before, or the first one (R326, R343). -/
def State.sessOpenSlot (s : State) (i hostId : Nat) : State :=
  let v := s.sess i
  let keep := match v.prevHost with | none => true | some h => decide (h = hostId)
  let s := { s with ctl := { s.ctl with lastSlot := SMap.set (fun _ => none) s.ctl.lastSlot hostId (some i) } }
  let s := s.setSess i { v with hostId := hostId, lastAccept := s.tim.elapsed, held := [], gapAt := none, gapTold := false, replies := [], owed := [], devSeq := 0, sinkSeq := 0 }
  let s := (s.put (F.SEC_SESS_STAT_STATE i) 2).put (F.SEC_SESS_STAT_HELD i) 0
  let s := ((s.wr (R.SEC_SESS_NEXT_SEQ_HI i) 0).wr (R.SEC_SESS_NEXT_SEQ_LO i) 1).wr (R.SEC_SESS_HOST_ID i) (hostId % 2 ^ 32)
  if keep then s.sinkShow i else s.putQueue (8 + i) []

/-- Port and sender of the message of session `i` that comes now: those of its oldest datagram, or the session's where none waits. -/
def State.senderOf (s : State) (i : Nat) : Nat × Peer :=
  match s.net.rx.find? (fun b => decide (b.owner = ownSession i)) with
  | some b => b.sender.getD ((s.sess i).port, (s.sess i).peer)
  | none => ((s.sess i).port, (s.sess i).peer)

/-- Session `i` answers the sender of its oldest datagram. -/
def State.heard (s : State) (i : Nat) : State := s.setSess i { s.sess i with port := (s.senderOf i).1, peer := (s.senderOf i).2 }

/-- FINISH (R321, R322). -/
def State.finish (s : State) (i : Nat) (sig : List Byte) : State :=
  let v := s.sess i
  if s.get (F.SEC_SESS_STAT_STATE i) ≠ 1 then s.inc F.SEC_CP_DROPPED
  else if !Config.ecdsaVerify v.hostPub (v.hello ++ v.accept) sig then
    let id := s.rd (R.SEC_SESS_ID i)
    (s.sessFree i).refuse i v.port v.peer id 0x1D
  else ((s.sessOpenSlot i v.hostId).ctlSend i 0x41 (Reply.body ⟨0, 0x03, 0, s.unstated, []⟩)).used.raiseU 257

end Sys2Proof.Machine
end

