-- ==== Sys2Proof/Machine/AlmCtl.lean ====
section
/-! DEFINITION. The Almanac sequencers (R397 to R412) but for the operations that reach registers: microwords, starting and
stopping, waits, the choice of the next address, errors, handshake flags; and the scrubbing and checking of the control stores
(R414 to R417). -/

namespace Sys2Proof.Machine

/-! ### Stores and microwords (R397, R400) -/

/-- Microword `w` of Almanac store `q`. -/
def State.almWord (s : State) (q w : Nat) : BitVec 128 := SMap.get (fun _ => 0) s.alm.store (q * 8192 + w)
def State.setAlmWord (s : State) (q w : Nat) (v : BitVec 128) : State :=
  { s with alm := { s.alm with store := SMap.set (fun _ => 0) s.alm.store (q * 8192 + w) v } }

/-- Is a word of store `k` (0 to 3 Almanac, 4 to 19 syntax) poisoned? -/
def State.poisoned (s : State) (k w : Nat) : Bool := SMap.get (fun _ => false) s.alm.poison (k * 8192 + w)

/-- POISONED and POISON_COUNT of a store, and the CAUSE of fault 120. -/
def State.poisonShow (s : State) (k : Nat) : State :=
  let n := (s.alm.poison.filter (fun p => decide (p.1 / 8192 = k))).length
  let s := (s.putB (F.MCS_STORE_STAT_POISONED k) (decide (0 < n))).put (F.MCS_STORE_STAT_POISON_COUNT k) n
  s.setCause 120 (s.alm.poison.any (fun p => decide (p.1 / 8192 < 4)))

def State.setPoison (s : State) (k w : Nat) (b : Bool) : State :=
  ({ s with alm := { s.alm with poison := SMap.set (fun _ => false) s.alm.poison (k * 8192 + w) b } }).poisonShow k

/-- The fields of a microword (R400). -/
structure Micro where
  target : Nat
  seq : Nat
  wait : Nat
  warg : Nat
  op : Nat
  ra : Nat
  rb : Nat
  addr : Nat
  imm : Nat
  mask : Nat
  deriving DecidableEq, Repr

def microOf (w : BitVec 128) : Micro :=
  let f := fun lo n => bitsOf w.toNat lo n
  ⟨f 0 13, f 13 3, f 16 2, f 18 10, f 28 5, f 33 4, f 37 4, f 41 22, f 64 32, f 96 32⟩

/-- IMM bits that an operation uses (R403). -/
def immBits (op : Nat) : Nat :=
  if op ∈ [1, 3, 4, 5, 7, 8, 10, 11] then 32 else if op = 12 then 6 else if op = 13 then 13 else if op = 15 then 3
  else if op = 16 then 8 else 0

/-- Is a microword valid (R400, R403, R404, R407), TSEG's segment apart? -/
def microValid (w : BitVec 128) : Bool :=
  let m := microOf w
  !w.toNat.testBit 63 && decide (m.op ≤ 16) &&
  decide (m.warg < (if m.wait = 0 then 1 else if m.wait = 1 then 4 else if m.wait = 2 then 1024 else 16)) &&
  decide (m.imm < 2 ^ immBits m.op) &&
  (!(decide (9 ≤ m.op) && decide (m.op ≤ 12)) || (decide (m.ra ≤ 3) && decide (m.rb ≤ 3))) &&
  (decide (m.op ≠ 11) || decide (m.mask < 1000000000)) && (decide (m.op ≠ 13) || decide (m.imm ≤ 8188))

/-! ### Registers of a sequencer (R401) -/

def State.almG (s : State) (q i : Nat) : Nat := s.rd (R.ALM_SEQ_G q i)
def State.setAlmG (s : State) (q i v : Nat) : State := s.wr (R.ALM_SEQ_G q i) (v % 2 ^ 32)

/-- A time register; its nanoseconds read at most 999,999,999 (R420). -/
def State.almT (s : State) (q j : Nat) : Nat :=
  mkTime (s.get (F.ALM_SEQ_T_S_HI q j) * 2 ^ 32 + s.rd (R.ALM_SEQ_T_S_LO q j)) (min 999999999 (s.rd (R.ALM_SEQ_T_NS q j))) 0
def State.setAlmT (s : State) (q j t : Nat) : State :=
  ((s.put (F.ALM_SEQ_T_S_HI q j) (timeS t / 2 ^ 32)).wr (R.ALM_SEQ_T_S_LO q j) (timeS t % 2 ^ 32)).wr (R.ALM_SEQ_T_NS q j) (timeNs t)
def State.setZ (s : State) (q : Nat) (b : Bool) : State := s.putB (F.ALM_SEQ_STAT_Z q) b
def State.almState (s : State) (q : Nat) : Nat := s.get (F.ALM_SEQ_STAT_STATE q)
def State.almPc (s : State) (q : Nat) : Nat := s.get (F.ALM_SEQ_STAT_PC q)
def State.almStack (s : State) (q : Nat) : List Nat := SMap.get (fun _ => []) s.alm.stack q
def State.setAlmStack (s : State) (q : Nat) (l : List Nat) : State :=
  ({ s with alm := { s.alm with stack := SMap.set (fun _ => []) s.alm.stack q l } }).put (F.ALM_SEQ_STAT_DEPTH q) l.length
def State.almWaitDone (s : State) (q : Nat) : Bool := SMap.get (fun _ => false) s.alm.waitDone q
def State.setWaitDone (s : State) (q : Nat) (b : Bool) : State :=
  { s with alm := { s.alm with waitDone := SMap.set (fun _ => false) s.alm.waitDone q b } }

/-- The microword at PC. -/
def State.almMicro (s : State) (q : Nat) : Micro := microOf (s.almWord q (s.almPc q))

/-- No wait is in progress: ALM_SEQ_WAIT and EVT_TGT_STAT.WAITING show it. -/
def State.almNoWait (s : State) (q : Nat) : State := (s.wr (R.ALM_SEQ_WAIT q) 0).putB (F.EVT_TGT_STAT_WAITING q) false

/-! ### The course of a program (R402, R404, R410, state table) -/

/-- ERROR with a code and a fault. -/
def State.almError (s : State) (q code flt_ : Nat) : State :=
  let s := (s.almNoWait q).put (F.ALM_SEQ_STAT_STATE q) 4
  let s := s.wr (R.ALM_SEQ_ERR q) (code + s.almPc q * 65536)
  (s.raise 312 q).faultUnit flt_ q

/-- The microword at `pc` begins: it is fetched and checked, and its wait begins. -/
def State.almBegin (s : State) (q pc : Nat) : State :=
  let s := ((s.put (F.ALM_SEQ_STAT_PC q) pc).put (F.ALM_SEQ_STAT_STATE q) 1).setWaitDone q false
  let w := s.almWord q pc
  let m := microOf w
  if s.poisoned q pc then s.almError q 0xF4 120
  else if !microValid w then s.almError q 0xF1 121
  else if m.wait = 0 then s
  else
    let s := (s.put (F.ALM_SEQ_STAT_STATE q) 2).wr (R.ALM_SEQ_WAIT q) (m.wait + m.warg * 4)
    s.putB (F.EVT_TGT_STAT_WAITING q) (decide (m.wait = 2))

/-- The wait of a sequencer ends: its operation is next. -/
def State.almWaitEnd (s : State) (q : Nat) : State := ((s.almNoWait q).put (F.ALM_SEQ_STAT_STATE q) 1).setWaitDone q true

/-- The operation is done: the next address (R402). -/
def State.almNext (s : State) (q : Nat) : State :=
  let s := s.inc (F.ALM_SEQ_WORDS q)
  let m := s.almMicro q
  let pc := s.almPc q
  let z := s.flag (F.ALM_SEQ_STAT_Z q)
  let go := fun (s : State) (n : Nat) => if n ≤ 8191 then s.almBegin q n else s.almError q 0xF1 121
  if m.seq = 7 then ((s.put (F.ALM_SEQ_STAT_STATE q) 3).setWaitDone q false).raise 312 q
  else if m.seq = 1 then go s m.target
  else if m.seq = 2 then go s (if z then m.target else pc + 1)
  else if m.seq = 3 then go s (if z then pc + 1 else m.target)
  else if m.seq = 4 then
    if 8 ≤ (s.almStack q).length then s.almError q 0xF2 121 else go (s.setAlmStack q ((pc + 1) :: s.almStack q)) m.target
  else if m.seq = 5 then
    match s.almStack q with
    | [] => s.almError q 0xF2 121
    | a :: r => go (s.setAlmStack q r) a
  else if m.seq = 6 then
    let v := (s.almG q 15 + 2 ^ 32 - 1) % 2 ^ 32
    go (s.setAlmG q 15 v) (if v = 0 then pc + 1 else m.target)
  else go s (pc + 1)

/-- EN = 1 is written. -/
def State.almEnable (s : State) (q : Nat) : State :=
  if s.flag (F.ALM_SEQ_CTL_EN q) then s
  else if s.almState q ≠ 0 ∨ !s.flag (F.ALM_SEQ_STAT_IDLE q) then s.stick (F.ALM_SEQ_STAT_REENABLE_REFUSED q)
  else
    let s := (s.putB (F.ALM_SEQ_CTL_EN q) true).putB (F.ALM_SEQ_STAT_IDLE q) false
    ((s.setAlmStack q []).setZ q false).almBegin q (s.get (F.ALM_SEQ_CTL_START q))

/-- EN = 0 is written (R410, R425): the wait is abandoned and the queue discarded. No write of the sequencer is under way, so
it reaches OFF at once. -/
def State.almDisable (s : State) (q : Nat) : State :=
  let old := s.queueOf q
  let s := (s.putQueue q []).evtsComplete old
  if !s.flag (F.ALM_SEQ_CTL_EN q) then s
  else
    let s := ((s.putB (F.ALM_SEQ_CTL_EN q) false).almNoWait q).setWaitDone q false
    ((s.put (F.ALM_SEQ_STAT_STATE q) 0).putB (F.ALM_SEQ_STAT_IDLE q) true).raiseU 316

/-! ### Waits (R404, R405, R409) -/

/-- Set the handshake flags and the registers that show them. -/
def State.setFlags (s : State) (v : BitVec 16) : State :=
  (({ s with alm := { s.alm with flags := v } }).put F.ALM_HS_SET v.toNat).put F.ALM_HS_CLR v.toNat

/-- The wait in progress of a sequencer: its kind and argument. -/
def State.almWaiting (s : State) (q : Nat) : Option (Nat × Nat) :=
  if s.almState q = 2 then some ((s.almMicro q).wait, (s.almMicro q).warg) else none

/-- An EVENT or HANDSHAKE wait of sequencer `q` ends when its condition holds. -/
def State.almWake1 (s : State) (q : Nat) : State :=
  match s.almWaiting q with
  | some (2, n) =>
    match (s.queueOf q).find? (fun r => decide (r.src = n)) with
    | some r =>
      let s := (s.putQueue q ((s.queueOf q).erase r)).evtComplete n r.batch
      ((s.setAlmG q 14 r.data).setAlmG q 13 r.count).almWaitEnd q
    | none => s
  | some (3, k) => if s.alm.flags.getLsbD k then (s.setFlags (s.alm.flags &&& ~~~(BitVec.twoPow 16 k))).almWaitEnd q else s
  | _ => s

/-- The sequencers look at their conditions, the lowest-numbered first (R404, R427). -/
def State.almWake (s : State) : State := (List.range 4).foldl (fun s q => s.almWake1 q) s

/-- Does GATE hold a TIME wait of the sequencer (R405)? -/
def State.almGated (s : State) (q : Nat) : Bool := s.flag (F.ALM_SEQ_CTL_GATE q) && !s.flag F.TIM_STAT_LIVE

/-- Is the TIME wait of a sequencer due? After a backward step it is not, until device time has passed the last condition of
the sequencer that ended one (R225). -/
def State.almDue (s : State) (q j : Nat) : Bool :=
  decide (s.almT q j ≤ s.tim.now) &&
    (match s.lastFired (76 + q) with | none => true | some u => decide (u < s.tim.now) || decide (u < s.almT q j))

/-- A TIME wait ends with a value of Z. -/
def State.almTimeEnd (s : State) (q j : Nat) (z : Bool) : State :=
  let t := match s.lastFired (76 + q) with | some u => max u (s.almT q j) | none => s.almT q j
  (((s.fired (76 + q) t).setZ q z).almWaitEnd q)

/-- Device time has stepped forward from `t0`: the TIME waits that it passed end with Z = 1 (R405). -/
def State.almSkip (s : State) (t0 : Nat) : State :=
  (List.range 4).foldl (fun s q =>
    match s.almWaiting q with
    | some (1, j) =>
      if t0 ≤ s.almT q j ∧ s.almT q j < s.tim.now ∧ !s.almGated q then
        (((s.almTimeEnd q j true).stick (F.ALM_SEQ_STAT_SKIPPED q)).inc (F.ALM_SEQ_SKIPS q)).raiseU 313
      else s
    | _ => s) s

/-- Carry out what may step device time, and then what a forward step does to the Almanac and to the calendar wheel (R225, R277,
R405). -/
def State.stepping (s : State) (f : State → State) : State :=
  let t0 := s.tim.now
  let n := s.rd R.TIM_STEPS
  let s := f s
  if s.rd R.TIM_STEPS ≠ n ∧ t0 < s.tim.now then (s.almSkip t0).wheelPassed else s

/-! ### Scrubbing and the store check (R414, R415, R417) -/

/-- STORE_SCRUB: an error found in word `w` of store `k`. A corrected one counts as any corrected SRAM error does (R441). What an
Almanac word holds after a double-bit error is a free value. -/
def State.storeScrub (s : State) (k w : Nat) (double : Bool) : State :=
  if !double then (((s.inc (F.MCS_CE k)).raiseLimited (315 + k) Config.ms 315 s.unstated).used).sramCorrected
  else if s.poisoned k w then s
  else
    let s := ((s.inc (F.MCS_UE k)).put (F.MCS_UE_ADDR k) w).setPoison k w true
    if k < 4 then ((s.setAlmWord k w (BitVec.ofNat 128 (Config.freeNat s.draw))).used).faultUnit 120 k
    else
      let clean := (List.range 16).any (fun e => !s.poisoned (4 + e) w)
      if clean then ((s.setPoison k w false).inc (F.MCS_REPAIRS k)).faultUnit 122 (k - 4) else s

/-- CAUSE of fault 122: a loaded syntax store whose check failed. -/
def State.storeCause (s : State) : State :=
  s.setCause 122 ((List.range 16).any (fun e =>
    s.flag (F.MCS_STORE_STAT_LOADED (4 + e)) && !s.flag (F.MCS_STORE_STAT_CHECK_OK (4 + e))))

/-- The reload of a syntax store before its check: a poisoned word is rewritten from a peer store whose copy is clean (R417). -/
def State.storeReload (s : State) (k : Nat) : State :=
  ((s.alm.poison.filter (fun p => decide (p.1 / 8192 = k))).map (fun p => p.1 % 8192)).foldl (fun (s : State) w =>
    if (List.range 16).any (fun e => decide (4 + e ≠ k) && !s.poisoned (4 + e) w) then s.setPoison k w false else s) s

/-- STORE_CHECK_DONE: the engine returns to service with event 5, or stays out with fault 122. -/
def State.storeCheckDone (s : State) (k : Nat) (ok : Bool) : State :=
  if k < 4 ∨ !s.dec.checking.contains (k - 4) then s
  else
    let e := k - 4
    let s := { s with dec := { s.dec with checking := s.dec.checking.erase e } }.storeReload k
    let s := (s.putB (F.MCS_STORE_STAT_CHECK_OK k) ok).storeCause
    if ok then
      let s := if s.flag (F.DEC_ENG_CTL_RETIRE e) then s else s.putB (F.DEC_ENG_STAT_IN_SERVICE e) true
      (s.raise 5 e).decAdmit true none
    else (s.stick (F.DEC_ENG_STAT_RETIRED_FAULT e)).faultUnit 122 e

/-- DEC_ENGINE_RETURN: 1 written to DEC_ENG_STAT.RETIRED_FAULT starts the store check (R92). -/
def State.decEngineReturn (s : State) (e : Nat) : State :=
  if !s.flag (F.DEC_ENG_STAT_RETIRED_FAULT e) then s
  else
    let s := (s.putB (F.DEC_ENG_STAT_RETIRED_FAULT e) false)
    { s with dec := { s.dec with checking := s.dec.checking ++ [e] } }

end Sys2Proof.Machine
end

