-- ==== Sys2Proof/Machine/EncRate.lean ====
section
/-! DEFINITION. The rules by which an encode engine chooses and spends bits (R130, R134, R139, R140, R142, R145): levels, tiles,
candidates and QP. -/

namespace Sys2Proof.Machine

/-! ### Levels (R130) -/

/-- H.265 Table A.8: general_level_idc, MaxLumaPs, MaxLumaSr, and MaxBR in kbit/s of the Main and the High tier, 0 where the level has
no High tier. -/
def levelTable : List (Nat × Nat × Nat × Nat × Nat) :=
  [(30, 36864, 552960, 128, 0), (60, 122880, 3686400, 1500, 0), (63, 245760, 7372800, 3000, 0),
   (90, 552960, 16588800, 6000, 0), (93, 983040, 33177600, 10000, 0), (120, 2228224, 66846720, 12000, 30000),
   (123, 2228224, 133693440, 20000, 50000), (150, 8912896, 267386880, 25000, 100000),
   (153, 8912896, 534773760, 40000, 160000), (156, 8912896, 1069547520, 60000, 240000),
   (180, 35651584, 1069547520, 60000, 240000), (183, 35651584, 2139095040, 120000, 480000),
   (186, 35651584, 4278190080, 240000, 800000)]

/-- general_level_idc: the lowest level that covers a picture size, a rate `num` / `den` and a bit rate in kbit/s. -/
def levelIdc (high : Bool) (w h num den kbits : Nat) : Option Nat :=
  (levelTable.find? (fun l => decide (w * h ≤ l.2.1 ∧ w * h * num ≤ l.2.2.1 * den ∧ kbits ≤ (if high then l.2.2.2.2 else l.2.2.2.1)))).map
    (fun l => l.1)

/-! ### Tiles (R134) -/

/-- Where part `i` of `k` begins among `n` CTUs, in uniform spacing. -/
def tileEdge (n k i : Nat) : Nat := i * n / max 1 k

/-- First CTU column and row of tile `t`, and its columns and rows. -/
def tileArea (w h cols rows t : Nat) : Rect :=
  let i := t % max 1 cols
  let j := t / max 1 cols
  ⟨tileEdge w cols i, tileEdge h rows j, tileEdge w cols (i + 1) - tileEdge w cols i, tileEdge h rows (j + 1) - tileEdge h rows j⟩

/-- CTUs of tile `t`. -/
def tileCtus (w h cols rows t : Nat) : Nat := (tileArea w h cols rows t).w * (tileArea w h cols rows t).h

/-! ### Candidates (R139, R140) -/

/-- May a vector be coded: within the range of R139, its block at most 64 luma samples outside a picture of size `w` by `h`? -/
def vecOk (w h : Nat) (v : MotionVec) : Bool :=
  decide (-4096 ≤ v.dx ∧ v.dx ≤ 4096 ∧ -2048 ≤ v.dy ∧ v.dy ≤ 2048) &&
    decide (-256 ≤ 4 * (v.x : Int) + v.dx ∧ 4 * ((v.x + v.w : Nat) - 1 : Int) + v.dx ≤ 4 * ((w : Int) - 1 + 64)) &&
    decide (-256 ≤ 4 * (v.y : Int) + v.dy ∧ 4 * ((v.y + v.h : Nat) - 1 : Int) + v.dy ≤ 4 * ((h : Int) - 1 + 64))

/-- One way to code a unit: its size, its kind (0 skip, 1 merge, 2 inter, 3 intra), its intra mode (0 planar, 1 DC, 2 to 34
angular), its cost, its bits and its vectors. -/
structure CuWay where
  size : Nat
  kind : Nat
  mode : Nat
  cost : Nat
  bits : List Bool
  vectors : List MotionVec
  deriving DecidableEq, Repr

/-- The lowest `k` bits of a number. -/
def bitsBelow (k v : Nat) : List Bool := (List.range k).map (fun i => v.testBit i)

/-- How many of a list lie below a value. -/
def countBelow (l : List Nat) (x : Nat) : Nat := (l.filter (fun y => decide (y < x))).length

/-- The intra candidates of a unit of 8 to 32 samples: planar, DC and the 33 angular modes (R140). What the engine evaluates for a
mode depends on its reconstruction; a mode that the operand leaves out has free values, `free` giving them. -/
def intraCands (free : Nat → Nat) (u : CuCode) : List IntraCand :=
  if u.size ≤ 32 then (List.range 35).map (fun m =>
    (u.intra.find? (fun i => decide (i.mode = m))).getD
      ⟨m, free (4 * m), free (4 * m + 1), bitsBelow (free (4 * m + 2) % 8192) (free (4 * m + 3))⟩) else []

/-- The ways to code a unit that R138 to R140 leave: no vector outside R139, inter vectors that the search ends at, and of the intra
modes those among the best three by SATD. -/
def cuWays (ok : MotionVec → Bool) (found : List (Int × Int) → MotionVec → Bool) (free : Nat → Nat) (u : CuCode) : List CuWay :=
  let moving := fun (k : Nat) (c : Option InterCand) (reach : InterCand → MotionVec → Bool) =>
    match c with
    | some c =>
      if !c.vectors.isEmpty && c.vectors.all (fun v => ok v && reach c v) then [(⟨u.size, k, 0, c.cost, c.bits, c.vectors⟩ : CuWay)]
      else []
    | none => []
  let intra := intraCands free u
  let satds := intra.map (fun i => i.satd)
  let still := intra.filter (fun i => decide (countBelow satds i.satd < 3))
  moving 0 u.skip (fun _ _ => true) ++ moving 1 u.merge (fun _ _ => true) ++ moving 2 u.inter (fun c v => found c.around v) ++
    still.map (fun i => (⟨u.size, 3, i.mode, i.cost, i.bits, []⟩ : CuWay))

/-- The least cost of some ways. -/
def leastCost (l : List CuWay) : Nat :=
  match l with
  | [] => 0
  | w :: r => r.foldl (fun m w => min m w.cost) w.cost

/-- The way a unit is coded (R140): the least cost; in skip-preferred coding, a skip or merge way whose cost is at most twice the
least of the others. Of equal ones the engine's own pick stands (log entry 99). -/
def cuPick (prefer : Bool) (ways : List CuWay) (pick : Nat) : Option CuWay :=
  let others := ways.filter (fun w => decide (2 ≤ w.kind))
  let cheap := ways.filter (fun w => decide (w.kind < 2) && (others.isEmpty || decide (w.cost ≤ 2 * leastCost others)))
  let pool := if prefer && !cheap.isEmpty then cheap else ways
  let best := pool.filter (fun w => decide (w.cost = leastCost pool))
  best[pick % max 1 best.length]?

/-! ### QP (R142, R145) -/

/-- A value clipped to a range. -/
def clipTo (lo hi x : Int) : Int := max lo (min hi x)

/-- The QP of a CTU whose row QP is `row` (R142): the lowest-numbered region that holds it decides; an offset is clipped
to QP_MIN and QP_MAX, an absolute QP is not. -/
def ctuQp (roi : List (List Byte)) (qmin qmax row : Int) (cx cy : Nat) : Int :=
  match roi.find? (fun e =>
      let f := fun k => (e.getD k 0).toNat
      decide (f 4 = 1 ∨ f 4 = 2) && decide (f 0 ≤ cx ∧ cx < f 2 ∧ f 1 ≤ cy ∧ cy < f 3)) with
  | some e =>
    let q := signed 8 (e.getD 5 0).toNat
    if (e.getD 4 0).toNat = 1 then clipTo qmin qmax (row + clipTo (-51) 51 q) else clipTo 0 51 q
  | none => row

/-- Qstep(q) = 2^((q − 4) / 6) of the mean QP `sum` / `ctus`, in units of 2^-40 (R145; log entry 98). -/
def qstepMean (sum : Int) (ctus : Nat) : Nat := expFix ((sum - 4 * (ctus : Int)) * 2 ^ 64 / (6 * max 1 ctus : Nat)) / 2 ^ 24

/-- λ = 0.57 × 2^((QP − 12) / 3) in units of 2^-40 (R138; log entry 98). -/
def lambda (qp : Int) : Nat := 57 * rootFloor 3 (2 ^ (108 + qp).toNat) / 100

/-- QPbase of a tile from α in units of 2^-40, the tile's cost and its target in bits: 4 + 6 × log2(α × cost / Tt), rounded. A cost or
α of 0 lies below every QP; a target that is not positive has no logarithm, and `free` stands for it. -/
def qpBase (alpha cost : Nat) (tt : Q) (qmin qmax free : Int) : Int :=
  if tt.num ≤ 0 then clipTo qmin qmax free
  else if alpha * cost = 0 then qmin
  else clipTo qmin qmax (4 + sixLog2 (alpha * cost * tt.den) (2 ^ 40 * tt.num.toNat))

/-- Δ of R145 from what a tile has spent and the share of its target that its rows so far had. -/
def qpDelta (spent : Nat) (cum : Q) : Int :=
  if spent = 0 ∨ cum.num ≤ 0 then 0 else clipTo (-4) 4 (sixLog2 (spent * cum.den) cum.num.toNat)

/-- α after a picture that measured `m`, both in units of 2^-40 (R145). -/
def alphaNext (old : Option Nat) (m : Nat) : Nat :=
  match old with
  | none => m
  | some a => (((3 * a + m) : Nat) / 4)

end Sys2Proof.Machine
end

