-- ==== Sys2Proof/Machine/EncBits.lean ====
section
/-! DEFINITION. The bits of an encoded stream (R125, R130, R145, R146): NAL units, the parameter sets and the slice headers, as H.265
writes them, and the rows of a tile. What H.265 lets an encoder choose and R130 does not fix is a free value (log entry 99). -/

namespace Sys2Proof.Machine

/-! ### Bits and NAL units -/

/-- A number in `n` bits, u(n). -/
def bitsU (n v : Nat) : List Bool := (List.range n).map (fun i => v.testBit (n - 1 - i))

/-- An Exp-Golomb code, ue(v). -/
def bitsUe (v : Nat) : List Bool :=
  let k := (v + 1).log2
  List.replicate k false ++ bitsU (k + 1) (v + 1)

/-- A signed Exp-Golomb code, se(v). -/
def bitsSe (v : Int) : List Bool := bitsUe (if v ≤ 0 then 2 * v.natAbs else 2 * v.natAbs - 1)

/-- A flag, u(1). -/
def bitsF (b : Bool) : List Bool := [b]

/-- Bits packed into bytes, the first one most significant; the last byte is filled with zeros. -/
def packBits (l : List Bool) : List Byte :=
  (List.range (ceilDiv l.length 8)).map (fun k =>
    BitVec.ofNat 8 ((List.range 8).foldl (fun (v : Nat) i => 2 * v + (if l.getD (8 * k + i) false then 1 else 0)) 0))

/-- Raw bytes of a NAL unit with emulation prevention: a byte 3 before one of at most 3 that follows two zeros. `z` zeros come
before. -/
def emulationSafe : Nat → List Byte → List Byte
  | _, [] => []
  | z, b :: r =>
    if 2 ≤ z ∧ b.toNat ≤ 3 then 3 :: b :: emulationSafe (if b = 0 then 1 else 0) r
    else b :: emulationSafe (if b = 0 then z + 1 else 0) r

/-- Bits that end with the stop bit of trailing bits, or of a byte alignment, in bytes with emulation prevention. -/
def sealBits (l : List Bool) : List Byte := emulationSafe 0 (packBits (l ++ [true]))

/-- Bits that the first bits of a tile's data take in its NAL unit, emulation prevention counted. -/
def writtenBits (l : List Bool) : Nat := 8 * (emulationSafe 0 (packBits l)).length

/-- A NAL unit with its start code: type, layer 0, TemporalId 0 (R130), then its raw bits. -/
def nalUnit (type : Nat) (body : List Bool) : List Byte := [0, 0, 0, 1] ++ bytesBE 1 (type * 2) ++ [1] ++ sealBits body

/-! ### What the encoder is free to write -/

/-- A free choice below `m`. -/
def encFree (k m : Nat) : Nat := Config.encChoice k % m

/-- A free flag. -/
def encFreeFlag (k : Nat) : Bool := decide (encFree k 2 = 1)

/-! ### Parameter sets -/

/-- profile_tier_level: Main, Main 10, or the 4:2:2 10 profile of the range extensions, with its constraints; tier and level. -/
def profileTier (p : EncParams) : List Bool :=
  let idc := if p.profile = 0 then 1 else if p.profile = 1 then 2 else 4
  let fits := fun (i : Nat) => decide (i = idc) || (decide (p.profile = 0) && decide (i = 2))
  bitsU 2 0 ++ bitsF p.highTier ++ bitsU 5 idc ++ (List.range 32).map fits ++
    bitsF true ++ bitsF false ++ bitsF (encFreeFlag 0) ++ bitsF true ++
    (if idc = 4 then [true, true, false, true, false, false, false, false, true] ++ bitsU 34 0 else bitsU 43 0) ++
    bitsU 1 0 ++ bitsU 8 p.levelIdc

/-- Picture buffers and the order of output: no reordering (R131). -/
def bufferBits (p : EncParams) : List Bool := bitsF true ++ bitsUe p.refs ++ bitsUe 0 ++ bitsUe 0

/-- The bits of the VPS. -/
def vpsBits (p : EncParams) : List Bool :=
  bitsU 4 0 ++ bitsF true ++ bitsF true ++ bitsU 6 0 ++ bitsU 3 0 ++ bitsF true ++ bitsU 16 65535 ++ profileTier p ++
    bufferBits p ++ bitsU 6 0 ++ bitsUe 0 ++ bitsF false ++ bitsF false

/-- The VUI: the colour description of R125, and the picture rate where the encoder writes it. -/
def vuiBits (p : EncParams) : List Bool :=
  let timing := encFreeFlag 1
  bitsF false ++ bitsF false ++
    bitsF true ++ bitsU 3 5 ++ bitsF p.fullRange ++ bitsF true ++ bitsU 8 p.primaries ++ bitsU 8 p.transfer ++ bitsU 8 p.matrix ++
    bitsF false ++ bitsF false ++ bitsF false ++ bitsF false ++ bitsF false ++
    bitsF timing ++ (if timing then bitsU 32 p.rateDen ++ bitsU 32 p.rateNum ++ bitsF false ++ bitsF false else []) ++ bitsF false

/-- Bits of slice_pic_order_cnt_lsb, 4 to 16. -/
def pocBits : Nat := 4 + encFree 2 13

/-- The bits of the SPS with the fixed choices of R130. -/
def spsBits (p : EncParams) : List Bool :=
  let depth := if p.profile = 0 then 0 else 2
  bitsU 4 0 ++ bitsU 3 0 ++ bitsF true ++ profileTier p ++ bitsUe 0 ++ bitsUe (if p.profile = 2 then 2 else 1) ++
    bitsUe p.width ++ bitsUe p.height ++ bitsF false ++ bitsUe depth ++ bitsUe depth ++ bitsUe (pocBits - 4) ++ bufferBits p ++
    bitsUe (p.minCu.log2 - 3) ++ bitsUe (p.ctuSize.log2 - p.minCu.log2) ++ bitsUe (p.minTu.log2 - 2) ++
    bitsUe (p.maxTu.log2 - p.minTu.log2) ++ bitsUe (encFree 3 5) ++ bitsUe (encFree 4 5) ++
    bitsF p.scalingLists ++ bitsF p.amp ++ bitsF p.sao ++ bitsF p.pcm ++ bitsUe 0 ++ bitsF p.longTermRefs ++ bitsF p.temporalMvp ++
    bitsF (encFreeFlag 5) ++ bitsF true ++ vuiBits p ++ bitsF false

/-- The bits of the PPS with the fixed choices of R130: tiles in uniform spacing (R134), a QP for each CTU. -/
def ppsBits (p : EncParams) : List Bool :=
  let tiles := decide (1 < p.cols * p.rows)
  bitsUe 0 ++ bitsUe 0 ++ bitsF false ++ bitsF false ++ bitsU 3 0 ++ bitsF p.signHiding ++ bitsF (encFreeFlag 6) ++ bitsUe 0 ++
    bitsUe 0 ++ bitsSe ((encFree 7 52 : Nat) - 26 : Int) ++ bitsF false ++ bitsF p.transformSkip ++ bitsF true ++ bitsUe (encFree 8 4) ++
    bitsSe ((encFree 9 25 : Nat) - 12 : Int) ++ bitsSe ((encFree 10 25 : Nat) - 12 : Int) ++ bitsF false ++ bitsF false ++ bitsF false ++
    bitsF false ++ bitsF tiles ++ bitsF p.wpp ++
    (if tiles then bitsUe (p.cols - 1) ++ bitsUe (p.rows - 1) ++ bitsF true ++ bitsF p.loopFilterAcrossTiles else []) ++
    bitsF (encFreeFlag 11) ++ bitsF (!p.deblocking) ++ bitsF false ++ bitsF false ++ bitsUe (encFree 12 5) ++ bitsF false ++ bitsF false

/-- VPS, SPS and PPS as NAL units (R130). -/
def encPsets (p : EncParams) : List (List Byte) := [nalUnit 32 (vpsBits p), nalUnit 33 (spsBits p), nalUnit 34 (ppsBits p)]

/-! ### Slice headers -/

/-- The reference pictures of a P picture that comes `since` pictures after the IDR picture: the newest ones (R131). -/
def encRefCount (p : EncParams) (since : Nat) : Nat := min since p.refs

/-- The bits of the header of the slice of tile `t`: one slice per tile (R130). -/
def sliceBits (p : EncParams) (since : Nat) (idr : Bool) (t : Nat) : List Bool :=
  let cols := roundUp p.width 64 / 64
  let rows := roundUp p.height 64 / 64
  let area := tileArea cols rows p.cols p.rows t
  let count := cols * rows
  let wide := if count ≤ 1 then 0 else (count - 1).log2 + 1
  let k := encRefCount p since
  bitsF (decide (t = 0)) ++ (if idr then bitsF (encFreeFlag 13) else []) ++ bitsUe 0 ++
    (if t = 0 then [] else bitsU wide (area.y * cols + area.x)) ++ bitsUe (if idr then 2 else 1) ++
    (if idr then [] else bitsU pocBits (since % 2 ^ pocBits) ++ bitsF false ++ bitsUe k ++ bitsUe 0 ++
      (List.range k).flatMap (fun _ => bitsUe 0 ++ bitsF true) ++ bitsF p.temporalMvp) ++
    bitsF p.sao ++ bitsF p.sao ++
    (if idr then [] else bitsF (decide (1 < k)) ++ (if 1 < k then bitsUe (k - 1) else []) ++
      (if encFreeFlag 6 then bitsF (encFreeFlag 14) else []) ++ (if 1 < k then bitsUe (encFree 15 k) else []) ++ bitsUe (encFree 16 5)) ++
    bitsSe ((encFree (20 + t) 52 : Nat) - (encFree 7 52 : Nat) : Int) ++ (if encFreeFlag 11 then bitsF (encFreeFlag 17) else []) ++
    (if 1 < p.cols * p.rows then bitsUe 0 else [])

/-- Start code and header of the slice of each tile (R130); every P picture is a reference picture. The header ends with the byte
alignment that the coded data follow. -/
def encHeads (p : EncParams) (since : Nat) (idr leading : Bool) : List (List Byte) :=
  (List.range (p.cols * p.rows)).map (fun t =>
    nalUnit (if idr then (if leading then 19 else 20) else 1) (sliceBits p since idr t))

/-! ### The rows of a tile (R145, R146) -/

/-- What a tile is coded with: its CTUs, its bounds Tt and Ht, cost_t and the costs of its CTUs by row, QPbase, the QP limits, whether
Δ is held at 0, the regions, and the checks on vectors. -/
structure TilePlan where
  area : Rect
  tt : Q
  ht : Q
  costs : List (List Nat)
  base : Int
  qmin : Int
  qmax : Int
  fixed : Bool
  roi : List (List Byte)
  picCols : Nat
  /-- The tile of an IDR picture. -/
  idr : Bool
  ok : MotionVec → Bool
  found : Int → List (Int × Int) → MotionVec → Bool
  free : Nat → Nat → Nat

/-- The progress of a tile: bits spent and written, the sum of QP, the exhausted budget, the fallback rows, the final vectors by CTU,
and the units as they are coded, with CTU and QP. -/
structure TileRun where
  spent : Nat
  bits : List Bool
  qpSum : Int
  spentOut : Bool
  fell : Bool
  skipRows : Nat
  vectors : List (Nat × Int × Int)
  units : List CodedUnit
  deriving DecidableEq, Repr

/-- The units of a CTU in a fallback row (R146): a skipped CTU in a P picture, one 64 × 64 intra unit with DC prediction and no
residual in an IDR picture. -/
def fallbackUnits (idr : Bool) (ctu : Nat) (qp : Int) : List CodedUnit := 
  [⟨ctu, qp, 64, if idr then 3 else 0, if idr then 1 else 0, true⟩]

/-- The bits of a fallback row of `w` CTUs after the bits `before` (R146): at most 24 bits for each CTU, as they are written. -/
def fallbackBits (w : Nat) (before row : List Bool) : List Bool :=
  if writtenBits (before ++ row) ≤ writtenBits before + 24 * w then row else []

/-- cost_t, or the cost of the rows before row `r`. -/
def costSum (costs : List (List Nat)) : Nat := costs.flatten.foldl (fun (a : Nat) x => a + x) 0

/-- Code CTU row `j` of a tile (R146): in a row buffer first; it stands if the bits left for fallback rows allow it, else it and the
rows after it are fallback rows. -/
def codeRow (p : TilePlan) (row : List CtuCode) (j : Nat) (a : TileRun) : TileRun :=
  let total := costSum p.costs
  let cum := (p.tt.times (Q.ofNat (costSum (p.costs.take j)))).over total
  let delta := if j = 0 ∨ p.fixed ∨ total = 0 then 0 else qpDelta a.spent cum
  let rowQp := clipTo p.qmin p.qmax (p.base + delta)
  let coded := (List.range p.area.w).map (fun i =>
    let ctu := row.getD i ⟨[], []⟩
    let qp := if a.spentOut then p.qmax else ctuQp p.roi p.qmin p.qmax rowQp (p.area.x + i) (p.area.y + j)
    let at_ := (p.area.y + j) * p.picCols + p.area.x + i
    let ways := ctu.cus.filterMap (fun u => cuPick a.spentOut (cuWays p.ok (p.found qp) (p.free at_) u) u.pick)
    (qp, ways, ctu.fallback.take 24, at_))
  let bits := coded.flatMap (fun c => c.2.1.flatMap (fun w => w.bits))
  let after := (p.area.h - 1 - j) * p.area.w
  let falls := a.fell || p.ht.lt (Q.ofNat (writtenBits (a.bits ++ bits) + 24 * after + 64))
  let out := if falls then fallbackBits p.area.w a.bits (coded.flatMap (fun c => c.2.2.1)) else bits
  let spent := writtenBits (a.bits ++ out)
  { spent := spent
    bits := a.bits ++ out
    qpSum := a.qpSum + coded.foldl (fun (q : Int) c => q + c.1) 0
    spentOut := a.spentOut || (decide (j + 1 < p.area.h) && p.tt.le (Q.ofNat spent))
    fell := falls
    skipRows := a.skipRows + (if falls then 1 else 0)
    vectors := a.vectors ++ (if falls then [] else coded.flatMap (fun c => c.2.1.flatMap (fun w =>
      w.vectors.map (fun v => (c.2.2.2, v.dx, v.dy)))))
    units := a.units ++ coded.flatMap (fun c =>
      if falls then fallbackUnits p.idr c.2.2.2 c.1
      else c.2.1.map (fun w => ⟨c.2.2.2, c.1, w.size, w.kind, w.mode, false⟩)) }

/-- Code the rows of a tile in order. -/
def codeTile (p : TilePlan) (code : TileCode) : TileRun :=
  (List.range p.area.h).foldl (fun a j => codeRow p (code.rows.getD j []) j a) ⟨0, [], 0, false, false, 0, [], []⟩

end Sys2Proof.Machine
end

