-- ==== Sys2Proof/Machine/EncTap.lean ====
section
/-! DEFINITION. What an encode context reads and predicts from: the samples its tap delivers (R123 to R125, R129), its source buffer
(R128), its reference store, and the motion search (R131, R138). -/

namespace Sys2Proof.Machine

/-! ### Taps (R123 to R125) -/

/-- Chroma format of the output profile (R129). -/
def State.encChroma (s : State) (n : Nat) : Nat := if s.get (F.ENC_CTX_CTL_PROFILE n) = 2 then 2 else 1

/-- CTU columns and rows of the coded picture. -/
def State.encCols (s : State) (n : Nat) : Nat := roundUp (s.get (F.ENC_CTX_DIM_W n)) 64 / 64
def State.encRows (s : State) (n : Nat) : Nat := roundUp (s.get (F.ENC_CTX_DIM_H n)) 64 / 64

/-- The level of the coded stream (R130). -/
def State.encLevel (s : State) (n : Nat) : Option Nat :=
  levelIdc (s.flag (F.ENC_CTX_CTL_TIER n)) (s.get (F.ENC_CTX_DIM_W n)) (s.get (F.ENC_CTX_DIM_H n)) (s.get (F.ENC_CTX_RATE_NUM n))
    (s.get (F.ENC_CTX_RATE_DEN n)) (max (s.get (F.ENC_CTX_RC_RATE_BITRATE n)) (s.get (F.ENC_CTX_RC_RATE_MAXRATE n)) * 100)

/-- Bytes of one slot of the reference store (R135 table, ENC_CTX_REF_BYTES). -/
def State.encRefBytes (s : State) (n : Nat) : Nat :=
  let t : Store := ⟨0, s.encCols n * 64, s.encRows n * 64, s.encChroma n, decide (s.get (F.ENC_CTX_CTL_PROFILE n) ≠ 0)⟩
  roundUp (t.pl * t.ha + t.pc * t.cRows + t.wa / 2 * (t.ha / 2) + t.wa / 4 * (t.ha / 4)) 4096

/-- The source buffer of an encode context, in the layout of R96 at 10 bits (R128). -/
def State.encStore (s : State) (n : Nat) : Store :=
  ⟨s.rd (R.ENC_CTX_SRCBUF_HI n) % 16 * 2 ^ 32 + s.rd (R.ENC_CTX_SRCBUF_LO n), s.encCols n * 64, s.encRows n * 64,
    s.encChroma n, true⟩

/-- A picture of 10-bit samples that a tap reads: its size, its chroma format and the sample of a plane. -/
structure TapPic where
  w : Nat
  h : Nat
  chroma : Nat
  at_ : Nat → Nat → Nat → Nat

/-- The least of a coordinate and the last one of a row or column. -/
def lastOf (k n : Nat) : Nat := min k (n - 1)

/-- A sample of a tap at the chroma format `to` (R124). Where the spec gives no conversion from the source's format, the
sample is a free value, drawn from `d` on. -/
def TapPic.toChroma (p : TapPic) (out d pl x y : Nat) : Nat :=
  if pl = 0 then p.at_ 0 x y
  else if p.chroma = 0 then 512
  else if p.chroma = out then p.at_ pl x y
  else if p.chroma = 1 then Config.freeNat (d + 2 * (y * 65536 + x) + pl) % 1024
  else
    let h := fun (x y : Nat) => if p.chroma = 2 then p.at_ pl x y
      else (p.at_ pl (2 * x - 1) y + 2 * p.at_ pl (2 * x) y + p.at_ pl (lastOf (2 * x + 1) p.w) y + 2) / 4
    if out = 2 then h x y else (h x (2 * y) + h x (lastOf (2 * y + 1) p.h) + 1) / 2

/-- The mean of a 2^s × 2^s block, rounded half up (R124). -/
def blockMean (s : Nat) (f : Nat → Nat → Nat) (x y : Nat) : Nat :=
  let n := 2 ^ s
  let sum := (List.range n).foldl (fun (a : Nat) j => (List.range n).foldl (fun (a : Nat) i => a + f (n * x + i) (n * y + j)) a) 0
  (sum + n * n / 2) / (n * n)

/-- R'G'B' numerators over `den` to narrow range (R125): plane 0 Y', 1 Cb, 2 Cr; Kr and Kb in ten-thousandths. -/
def narrowCode (kr kb den : Nat) (r g b : Nat) (pl : Nat) : Nat :=
  let y : Int := (kr * r + (10000 - kr - kb) * g + kb * b : Nat)
  let v : Q :=
    if pl = 0 then (Q.ofNat 64).plus ⟨876 * y, 10000 * den⟩
    else
      let c : Int := if pl = 1 then (10000 * b : Nat) else (10000 * r : Nat)
      let k := if pl = 1 then kb else kr
      (Q.ofNat 512).plus ⟨896 * (c - y), 2 * (10000 - k) * den⟩
  min 1019 (max 4 v.halfUp.toNat)

/-- Kr and Kb of the matrix of a TF row (R125). -/
def tapK (tf : Nat) : Nat × Nat := if tf = 0 then (2126, 722) else (2627, 593)

/-- A linear-light triple in units of 2^-40 converted by R125; values that the spec does not state are free from `d` on. -/
def linearCode (tf d : Nat) (v : Int × Int × Int) (pl : Nat) : Nat :=
  let u := (v.1 * 2 ^ 24, v.2.1 * 2 ^ 24, v.2.2 * 2 ^ 24)
  let e := fun ch => inverseTransfer tf u ch (Config.freeNat (d + ch) % one64)
  narrowCode (tapK tf).1 (tapK tf).2 one64 (e 0) (e 1) (e 2) pl

/-- An FP16 code in units of 2^-40. -/
def fp16Units (w : Nat) : Int := let q := fp16Val w; q.num * 2 ^ 40 / (q.den : Int)

/-- Mean of linear-light triples over a 2^s × 2^s block; every mean is a multiple of 2^-40. -/
def linearMean (s : Nat) (f : Nat → Nat → Int × Int × Int) (x y : Nat) : Int × Int × Int :=
  let n := 2 ^ s
  let sum := (List.range n).foldl (fun (a : Int × Int × Int) j => (List.range n).foldl (fun (a : Int × Int × Int) i =>
    let v := f (n * x + i) (n * y + j)
    (a.1 + v.1, a.2.1 + v.2.1, a.2.2 + v.2.2)) a) (0, 0, 0)
  let d : Int := (n * n : Nat)
  (sum.1 / d, sum.2.1 / d, sum.2.2 / d)

/-- The picture a DECODED tap reads: the record's output window at 10 bits (R124), in the record's chroma format, whose samples lie in
the planes of the store as they were written (log entry 116). -/
def State.decodedTap (s : State) (n : Nat) (p : EncSrc) : TapPic :=
  let d := s.get (F.ENC_CTX_SRC_INDEX n)
  let t := s.decStore d
  let chroma := recField p.record 14 2 % 4
  let dx := fun (pl : Nat) => if pl = 0 then 1 else chromaX chroma
  let dy := fun (pl : Nat) => if pl = 0 then 1 else chromaY chroma
  ⟨recField p.record 16 2, recField p.record 18 2, chroma, fun pl x y =>
    s.getSample t p.slot pl (recField p.record 20 2 / dx pl + x) (recField p.record 22 2 / dy pl + y) * (if t.deep then 1 else 4)⟩

/-- The picture a CANVAS tap delivers: the composed lamps; a lamp of no enabled tile is not composed and free (R123). The
scale is applied already. -/
def State.canvasTap (s : State) (n c : Nat) : TapPic :=
  let sc := s.get (F.ENC_CTX_SRC_SCALE n)
  let tf := s.get (F.ENC_CTX_SRC_TF n)
  let lamp := fun (x y : Nat) => SMap.get (fun k => (Config.freeNat (s.draw + 3 * k) % 65536,
    Config.freeNat (s.draw + 3 * k + 1) % 65536, Config.freeNat (s.draw + 3 * k + 2) % 65536)) (s.cvState c).taps (y * 65536 + x)
  ⟨s.get (F.CMP_CV_SIZE_W c) / 2 ^ sc, s.get (F.CMP_CV_SIZE_H c) / 2 ^ sc, 3, fun pl x y =>
    linearCode tf (s.draw + 2 ^ 34) (linearMean sc (fun x y => let l := lamp x y; (fp16Units l.1, fp16Units l.2.1, fp16Units l.2.2)) x y) pl⟩

/-- The picture a GRAPHIC tap delivers from the layer's surface, with `conf` the registers in force for its canvas frame (R123 to
R125). -/
def State.graphicTap (s : State) (conf : SMap Word) (n g : Nat) : TapPic :=
  let k := s.view conf
  let sc := s.get (F.ENC_CTX_SRC_SCALE n)
  let tf := s.get (F.ENC_CTX_SRC_TF n)
  let fmt := k.get (F.CMP_GL_CTL_FMT g)
  let base := k.get (F.CMP_GL_BASE_HI g) * 2 ^ 32 + k.get (F.CMP_GL_BASE_LO g) * 64
  let addr := fun (x y : Nat) => base + y * k.get (F.CMP_GL_PITCH g) + x * pixelBytes fmt
  ⟨k.get (F.CMP_GL_SIZE_W g) / 2 ^ sc, k.get (F.CMP_GL_SIZE_H g) / 2 ^ sc, 3, fun pl x y =>
    if fmt = 2 then
      let h := fun (a j : Nat) => fp16Units (ofBytesLE (k.bytes (a + 2 * j) 2))
      linearCode tf (s.draw + 2 ^ 34) (linearMean sc (fun x y => (h (addr x y) 0, h (addr x y) 1, h (addr x y) 2)) x y) pl
    else
      let w := if fmt = 0 then 8 else 10
      let ch := fun (j x y : Nat) => blockMean sc (fun x y => bitsOf (ofBytesLE (k.bytes (addr x y) 4)) (j * w) w) x y
      narrowCode (tapK tf).1 (tapK tf).2 (2 ^ w - 1) (ch 2 x y) (ch 1 x y) (ch 0 x y) pl⟩

/-- The picture an INGEST_RAW tap reads in place from its record (R47, R124): 4:2:2 samples as they are, 12-bit ones rounded to 10 bits;
a rounded one past 1,023 has no stated value and is free. -/
def State.rawTap (s : State) (n : Nat) (r : EsRec) : TapPic :=
  let i := s.get (F.ENC_CTX_SRC_INDEX n)
  let deep := s.flag (F.ING_CTX_RAW_SAMPLING i)
  let c : Choice := ⟨true, i, 0, [], some r, 0⟩
  ⟨s.get (F.ING_CTX_RAW_WIDTH i), s.get (F.ING_CTX_RAW_HEIGHT i), if deep then 3 else 2, fun pl x y =>
    let v := s.planeCode c false pl x y
    if !deep then v / 4
    else if 4094 ≤ v then Config.freeNat (s.draw + 2 ^ 35 + (y * 65536 + x) * 3 + pl) % 1024
    else (v + 2) / 4⟩

/-- The sample of a tap at a place of the coded picture (R124): at the top left, cropped to the picture, the rest Y' 64 and C 512.
`sc` is the scale still to be applied, `out` the chroma format of the output. -/
def TapPic.placed (p : TapPic) (out sc d pl x y : Nat) : Nat :=
  let w := if pl = 0 then p.w else ceilDiv p.w (chromaX out)
  let h := if pl = 0 then p.h else ceilDiv p.h (chromaY out)
  if w / 2 ^ sc ≤ x ∨ h / 2 ^ sc ≤ y then (if pl = 0 then 64 else 512) else blockMean sc (p.toChroma out d pl) x y

/-- Write a tap's picture into slot `slot` of the source buffer (R124, R128). -/
def State.encFill (s : State) (n slot sc : Nat) (p : TapPic) : State :=
  let t := s.encStore n
  let d := s.draw
  let full : Rect := ⟨0, 0, s.get (F.ENC_CTX_DIM_W n), s.get (F.ENC_CTX_DIM_H n)⟩
  let s := s.fillRect t t.chroma slot full (fun _ pl x y => p.placed t.chroma sc d pl x y)
  { s with draw := d + 2 ^ 36 }

/-- A sample of plane `pl` of the picture that is coded, at the bit depth of the output profile (R124, R129): 8-bit output rounds and
clips; beyond the coded size the edge is repeated. -/
def State.encInput (s : State) (n : Nat) (src : EncSrc) (pl x y : Nat) : Nat :=
  let out := s.encChroma n
  let a := lastOf x (if pl = 0 then s.get (F.ENC_CTX_DIM_W n) else s.get (F.ENC_CTX_DIM_W n) / chromaX out)
  let b := lastOf y (if pl = 0 then s.get (F.ENC_CTX_DIM_H n) else s.get (F.ENC_CTX_DIM_H n) / chromaY out)
  let v := match src.rec_ with
    | some r => (s.rawTap n r).placed out (s.get (F.ENC_CTX_SRC_SCALE n)) s.draw pl a b
    | none => s.getSample (s.encStore n) (src.buf.getD 0) pl a b
  if s.get (F.ENC_CTX_CTL_PROFILE n) = 0 then min 255 ((v + 2) / 4) else v

/-! ### The reference store and the motion search (R131, R138) -/

/-- Slot `k` of the reference store as a store of one picture (R155: the layout of R96 at the output's depth). -/
def State.encRef (s : State) (n k : Nat) : Store :=
  ⟨s.rd (R.ENC_CTX_REF_HI n) % 16 * 2 ^ 32 + s.rd (R.ENC_CTX_REF_LO n) + k * s.encRefBytes n, s.encCols n * 64, s.encRows n * 64,
    s.encChroma n, decide (s.get (F.ENC_CTX_CTL_PROFILE n) ≠ 0)⟩

/-- Address of a sample of the half-resolution (`level` 1) or quarter-resolution (2) luma plane of a reference slot: after the planes of
R96, first the half plane, row after row (log entry 99). -/
def Store.pyramid (t : Store) (level x y : Nat) : Nat :=
  let planes := t.base + t.pl * t.ha + t.pc * t.cRows
  if level = 1 then planes + y * (t.wa / 2) + x else planes + t.wa / 2 * (t.ha / 2) + y * (t.wa / 4) + x

/-- A sample of a plane of the pyramid; a place outside takes the nearest one inside. -/
def State.pyramidAt (s : State) (t : Store) (level : Nat) (x y : Int) : Nat :=
  let k := 2 ^ level
  (s.byte (t.pyramid level (hold x 0 (t.wa / k - 1)) (hold y 0 (t.ha / k - 1)))).toNat

/-- Write the half- and quarter-resolution planes of a picture (R138): 2 × 2 means, rounded half up, kept as the top 8 bits. -/
def State.encPyramid (s : State) (n k : Nat) (src : EncSrc) : State :=
  let t := s.encRef n k
  let drop := if t.deep then 4 else 1
  let plane := fun (s : State) (level : Nat) (f : State → Nat → Nat → Nat) =>
    (List.range (t.ha / 2 ^ level)).foldl (fun s y => (List.range (t.wa / 2 ^ level)).foldl (fun s x =>
      s.setByte (t.pyramid level x y) (BitVec.ofNat 8 (f s x y))) s) s
  let mean := fun (f : Nat → Nat → Nat) x y => (f (2 * x) (2 * y) + f (2 * x + 1) (2 * y) + f (2 * x) (2 * y + 1) + f (2 * x + 1) (2 * y + 1) + 2) / 4
  let s := plane s 1 (fun s x y => mean (s.encInput n src 0) x y / drop)
  plane s 2 (fun s x y => mean (fun x y => (s.byte (t.pyramid 1 x y)).toNat) x y)

/-- The sum of absolute differences of a 16 × 16 block of a pyramid plane at (x, y) with the reference's block moved by (dx, dy). -/
def State.blockSad (s : State) (cur ref : Store) (level x y : Nat) (dx dy : Int) : Nat :=
  (List.range 16).foldl (fun (a : Nat) j => (List.range 16).foldl (fun (a : Nat) i =>
    a + ((s.pyramidAt cur level (x + i : Nat) (y + j : Nat) : Int) -
      (s.pyramidAt ref level ((x + i : Nat) + dx) ((y + j : Nat) + dy) : Int)).natAbs) a) 0

/-- The integers from −k to k. -/
def aroundZero (k : Nat) : List Int := (List.range (2 * k + 1)).map (fun (i : Nat) => (i : Int) - (k : Int))

/-- The moves of a block of a pyramid plane that R139 allows, with their SAD. -/
def State.sads (s : State) (n : Nat) (cur ref : Store) (level x y : Nat) (moves : List (Int × Int)) : List (Nat × Int × Int) :=
  let k : Int := 2 ^ level
  (moves.filter (fun (d : Int × Int) => vecOk (s.get (F.ENC_CTX_DIM_W n)) (s.get (F.ENC_CTX_DIM_H n))
    ⟨0, 4 * k * d.1, 4 * k * d.2, 2 ^ level * x, 2 ^ level * y, 2 ^ level * 16, 2 ^ level * 16⟩)).map
      (fun (d : Int × Int) => (s.blockSad cur ref level x y d.1 d.2, d.1, d.2))

/-- The moves with fewer than `k` better ones: the `k` best, and what is equal to the last of them. -/
def bestMoves (k : Nat) (l : List (Nat × Int × Int)) : List (Int × Int) :=
  (l.filter (fun m => decide (countBelow (l.map (fun q => q.1)) m.1 < k))).map (fun m => (m.2.1, m.2.2))

/-- Level 2 of R138: every move of the CTU's quarter-resolution block in ±256 × ±128. -/
def State.levelTwo (s : State) (n : Nat) (cur ref : Store) (cx cy : Nat) : List (Nat × Int × Int) :=
  s.sads n cur ref 2 (16 * cx) (16 * cy) ((aroundZero 128).flatMap (fun dy => (aroundZero 256).map (fun dx => (dx, dy))))

/-- The vectors that level 2 keeps for a CTU: the 4 best, zero, and the final vectors of the co-located CTU, `last` in quarter
samples. -/
def State.keptTwo (s : State) (n : Nat) (cur ref : Store) (cx cy : Nat) (last : List (Int × Int)) : List (Int × Int) :=
  bestMoves 4 (s.levelTwo n cur ref cx cy) ++ [(0, 0)] ++ last.flatMap (fun v => [(v.1 / 16, v.2 / 16), ((v.1 + 15) / 16, (v.2 + 15) / 16)])

/-- The vectors that level 1 keeps for the 32 × 32 area at (x, y) in luma samples: the 2 best around each vector kept before. -/
def State.keptOne (s : State) (n : Nat) (cur ref : Store) (x y : Nat) (kept : List (Int × Int)) : List (Int × Int) :=
  let moves := kept.flatMap (fun v => (aroundZero 4).flatMap (fun j => (aroundZero 4).map (fun i => (2 * v.1 + i, 2 * v.2 + j))))
  bestMoves 2 (s.sads n cur ref 1 (x / 2) (y / 2) moves)

/-! ### The search at full resolution and its refinement (R138) -/

/-- Coefficients of H.265's luma interpolation for a quarter-sample fraction. -/
def lumaTaps (f : Nat) : List Int :=
  if f = 1 then [-1, 4, -10, 58, 17, -5, 1, 0] else if f = 2 then [-1, 4, -11, 40, 40, -11, 4, -1] else [0, 1, -5, 17, 58, -10, 4, -1]

/-- A sum of eight samples at `at_ - 3` to `at_ + 4` under some coefficients. -/
def tapSum (taps : List Int) (f : Int → Int) (at_ : Int) : Int :=
  (List.range 8).foldl (fun (a : Int) i => a + taps.getD i 0 * f (at_ - 3 + (i : Nat))) 0

/-- A luma sample of a reference picture at a place in full samples; a place outside takes the nearest one inside. -/
def State.refLuma (s : State) (t : Store) (w h : Nat) (x y : Int) : Int :=
  (s.getSample t 0 0 (hold x 0 (w - 1)) (hold y 0 (h - 1)) : Nat)

/-- A luma sample predicted from a place in quarter samples (H.265, 8.5.3.3.3), at the depth of the output. -/
def State.predLuma (s : State) (t : Store) (w h : Nat) (x y : Int) : Int :=
  let depth : Nat := if t.deep then 10 else 8
  let at_ := s.refLuma t w h
  let fx := (x % 4).toNat
  let fy := (y % 4).toNat
  let across := fun (y : Int) => if fx = 0 then at_ (x / 4) y * 2 ^ (14 - depth)
    else tapSum (lumaTaps fx) (fun i => at_ i y) (x / 4) / 2 ^ (depth - 8)
  let v := if fy = 0 then across (y / 4)
    else if fx = 0 then tapSum (lumaTaps fy) (fun j => at_ (x / 4) j) (y / 4) / 2 ^ (depth - 8)
    else tapSum (lumaTaps fy) across (y / 4) / 64
  max 0 (min (2 ^ depth - 1) ((v + 2 ^ (13 - depth)) / 2 ^ (14 - depth)))

/-- One pass of the Hadamard transform over eight values: sums and differences at distance `d`. -/
def hadamardPass (d : Nat) (l : List Int) : List Int :=
  (List.range 8).map (fun i => if i / d % 2 = 0 then l.getD i 0 + l.getD (i + d) 0 else l.getD (i - d) 0 - l.getD i 0)

def hadamard (l : List Int) : List Int := hadamardPass 1 (hadamardPass 2 (hadamardPass 4 l))

/-- The SATD of an 8 × 8 block of differences: the absolute values of its two-dimensional Hadamard transform, a quarter of their sum
rounded half up (PRESUMED, as the H.265 test model counts it; log entry 99). -/
def blockSatd (f : Nat → Nat → Int) : Nat :=
  let rows := (List.range 8).map (fun j => hadamard ((List.range 8).map (fun i => f i j)))
  let cols := (List.range 8).map (fun i => hadamard (rows.map (fun r => r.getD i 0)))
  ((cols.flatten.foldl (fun (a : Nat) v => a + v.natAbs) 0) + 2) / 4

/-- The SATD of a prediction block against the reference moved by a vector in quarter samples, by blocks of 8 × 8. -/
def State.vecSatd (s : State) (n : Nat) (src : EncSrc) (ref : Store) (v : MotionVec) (d : Int × Int) : Nat :=
  let w := s.get (F.ENC_CTX_DIM_W n)
  let h := s.get (F.ENC_CTX_DIM_H n)
  (List.range (ceilDiv v.h 8)).foldl (fun (a : Nat) j => (List.range (ceilDiv v.w 8)).foldl (fun (a : Nat) i =>
    a + blockSatd (fun x y =>
      let px := v.x + 8 * i + x
      let py := v.y + 8 * j + y
      (s.encInput n src 0 px py : Int) - s.predLuma ref w h (4 * (px : Int) + d.1) (4 * (py : Int) + d.2))) a) 0

/-- SATD + λ × bits of a vector, in units of 2^-40 (R138). -/
def State.vecCost (s : State) (n : Nat) (src : EncSrc) (ref : Store) (qp : Int) (around : List (Int × Int)) (v : MotionVec)
    (d : Int × Int) : Nat :=
  s.vecSatd n src ref v d * 2 ^ 40 + lambda qp * Config.vectorBits around d

/-- The vectors of least cost among some that R139 allows. -/
def bestVectors (ok : Int × Int → Bool) (cost : Int × Int → Nat) (l : List (Int × Int)) : List (Int × Int) :=
  let l := (l.filter ok).map (fun d => (cost d, d))
  (l.filter (fun p => decide (countBelow (l.map (fun q => q.1)) p.1 = 0))).map (fun p => p.2)

/-- One step of the refinement: a vector and those `k` quarter samples from it on each axis. -/
def stepAround (k : Int) (d : Int × Int) : List (Int × Int) :=
  (aroundZero 1).flatMap (fun j => (aroundZero 1).map (fun i => (d.1 + k * i, d.2 + k * j)))

/-- Can the search of R138 end at a vector: level 0 keeps the best position of ±4 full samples around each vector that level 1 kept
for the areas of the block, doubled, and around each merge and AMVP candidate, and the half-sample and quarter-sample steps keep
the best around it? Of equal ones any may stand (log entry 99). -/
def State.searchEnds (s : State) (n : Nat) (src : EncSrc) (cur : Store) (refs : List Store) (last : List (Nat × Int × Int)) (qp : Int)
    (around : List (Int × Int)) (v : MotionVec) : Bool :=
  match refs[v.ref]? with
  | none => false
  | some ref =>
    let areas := (List.range (ceilDiv v.h 32 + 1)).flatMap (fun j => (List.range (ceilDiv v.w 32 + 1)).map (fun i =>
      (v.x / 32 * 32 + 32 * i, v.y / 32 * 32 + 32 * j)))
    let kept := (areas.filter (fun (a : Nat × Nat) => decide (a.1 < v.x + v.w ∧ a.2 < v.y + v.h))).flatMap (fun a =>
      let ctu := a.2 / 64 * s.encCols n + a.1 / 64
      let seen := (last.filter (fun q => decide (q.1 = ctu))).map (fun q => q.2)
      (s.keptOne n cur ref a.1 a.2 (s.keptTwo n cur ref (a.1 / 64) (a.2 / 64) seen)).map (fun k => (2 * k.1, 2 * k.2)))
    let from_ := kept ++ around.map (fun c => ((c.1 + 2) / 4, (c.2 + 2) / 4))
    let ok := fun (d : Int × Int) => vecOk (s.get (F.ENC_CTX_DIM_W n)) (s.get (F.ENC_CTX_DIM_H n)) { v with dx := d.1, dy := d.2 }
    let cost := s.vecCost n src ref qp around v
    let full := bestVectors ok cost (from_.flatMap (fun c =>
      (aroundZero 4).flatMap (fun j => (aroundZero 4).map (fun i => (4 * (c.1 + i), 4 * (c.2 + j))))))
    full.any (fun a => (bestVectors ok cost (stepAround 2 a)).any (fun b =>
      (bestVectors ok cost (stepAround 1 b)).contains (v.dx, v.dy)))

/-- The cost of a CTU of a P picture (R145): its best level-2 SAD in any of its references. -/
def State.ctuSad (s : State) (n : Nat) (cur : Store) (refs : List Store) (cx cy : Nat) : Nat :=
  match refs.flatMap (fun ref => s.levelTwo n cur ref cx cy) with
  | [] => 0
  | m :: r => r.foldl (fun (b : Nat) q => min b q.1) m.1

/-- The cost of a CTU of an IDR picture (R145): the intra SATD of its block at level 2, whose prediction R145 does not give and which
is a free value of the block and what surrounds it. -/
def State.ctuIntra (s : State) (cur : Store) (cx cy : Nat) : Nat :=
  Config.intraSatd ((List.range 48).flatMap (fun j => (List.range 48).map (fun i =>
    s.pyramidAt cur 2 ((16 * cx + i : Nat) - 16 : Int) ((16 * cy + j : Nat) - 16 : Int))))

end Sys2Proof.Machine
end

