-- ==== Sys2Proof/Machine/Enc.lean ====
section
/-! DEFINITION. Encoding (R123 to R155): source pictures, admission, dispatch with rate control, tiles, coded records and RTP
packets. -/

namespace Sys2Proof.Machine

/-! ### Declared parameters -/

/-- The load of an encode context (R132). -/
def State.encJob (s : State) (n : Nat) : AdmJob :=
  let w := roundUp (s.get (F.ENC_CTX_DIM_W n)) 64
  let h := roundUp (s.get (F.ENC_CTX_DIM_H n)) 64
  ⟨n, s.get (F.ENC_CTX_CTL_PRIO n),
    (Q.times ⟨w * h * s.get (F.ENC_CTX_RATE_NUM n), 1⟩ (chromaWeight (s.encChroma n))).over (s.get (F.ENC_CTX_RATE_DEN n)),
    Q.ofNat 0, true⟩

def State.encLive (s : State) : List Nat :=
  (List.range 64).filter (fun n => s.get (F.ENC_CTX_STAT_STATE n) = 1 ∨ s.get (F.ENC_CTX_STAT_STATE n) = 2)

/-- The contexts of an admission run (R83, R132). -/
def State.encSet (s : State) (shed : Bool) : List Nat :=
  s.encLive.filter (fun n => shed || decide (s.get (F.ENC_CTX_STAT_STATE n) ≠ 2))

/-- Does a picture of the context run on engines? One that has to run again keeps none while it waits (R137). -/
def EncCtx.onEngines (c : EncCtx) : Bool := match c.run with | some r => !r.engines.isEmpty | none => false

def State.encEngines (s : State) : List Nat := (List.range 4).filter (fun e => s.flag (F.ENC_ENG_STAT_IN_SERVICE e))

def State.encPlan (s : State) (n : Nat) : List Nat :=
  match (s.encCtx n).planned with
  | some m => setBitsOf 4 m
  | none => setBitsOf 4 (s.get (F.ENC_CTX_ENGS n))

/-- The next epoch of a context: one up, past the values under which an engine still holds a tile of it (R91, R136). -/
def State.encNextEpoch (s : State) (n : Nat) : Nat :=
  let held := ((List.range 4).filter (fun e => s.flag (F.ENC_ENG_STAT_BUSY e) && decide (s.get (F.ENC_ENG_STAT_CTX e) = n))).map
    (fun e => s.get (F.ENC_ENG_STAT_EPOCH e))
  let now := s.get (F.ENC_CTX_STAT_EPOCH n)
  ((List.range 5).map (fun k => (now + 1 + k) % 256)).find? (fun x => !held.contains x) |>.getD 0

/-- A new placement takes effect (R136 with R89). -/
def State.encPlace (s : State) (n mask : Nat) : State :=
  let was := s.get (F.ENC_CTX_ENGS n)
  let s := s.setEnc n { s.encCtx n with planned := none, placed := true }
  let s := (s.put (F.ENC_CTX_ENGS n) mask).put (F.ENC_CTX_STAT_NENG n) (setBitsOf 4 mask).length
  let s := s.put (F.ENC_CTX_STAT_EPOCH n) (s.encNextEpoch n)
  if was = 0 then s else (s.inc (F.ENC_CTX_MIGRATIONS n)).raiseU 134

def State.encAssign (s : State) (n : Nat) (es : List Nat) : State :=
  if maskOf (s.encPlan n) = maskOf es then s
  else if (s.encCtx n).onEngines then
    s.setEnc n { s.encCtx n with planned := if s.get (F.ENC_CTX_ENGS n) = maskOf es then none else some (maskOf es) }
  else s.encPlace n (maskOf es)

/-- A planned placement takes effect at a picture boundary (R136 with R89). -/
def State.encPlanned (s : State) (n : Nat) : State :=
  match (s.encCtx n).planned with
  | some m => if s.get (F.ENC_CTX_STAT_STATE n) = 2 then s else s.encPlace n m
  | none => s

/-- Bring the load registers up to date. -/
def State.encLoads (s : State) : State :=
  let pl : Placed := s.encLive.filterMap (fun n => if s.encPlan n = [] then none else some (s.encJob n, s.encPlan n))
  let mega := fun (q : Q) => (q.over 1000000).ceil.toNat
  let s := (List.range 4).foldl (fun s e =>
    s.put (F.ENC_ENG_LOAD_SAMPLES e) (mega ((Q.ofNat 512000000).minus (freeS pl e)))) s
  let s := s.encLive.foldl (fun s n => s.put (F.ENC_CTX_LOAD n) (mega (s.encJob n).l)) s
  let s := (s.put F.ENC_GLB_ADMIT_LOAD (mega pl.sum)).put F.ENC_GLB_ADMIT_ENGINES s.encEngines.length
  s.put F.ENC_GLB_SHED (s.encLive.filter (fun n => s.get (F.ENC_CTX_STAT_STATE n) = 2)).length

def State.encIdleEngines (s : State) (n : Nat) (es : List Nat) : State :=
  es.foldl (fun s e => if s.flag (F.ENC_ENG_STAT_BUSY e) && decide (s.get (F.ENC_ENG_STAT_CTX e) = n) then
    s.putB (F.ENC_ENG_STAT_BUSY e) false else s) s

/-! ### Rate control (R143, R144) -/

/-- N and Nd of the rate control, in bits per picture. -/
def State.encN (s : State) (n : Nat) : Q :=
  Q.frac (s.get (F.ENC_CTX_RC_RATE_BITRATE n) * 100000 * s.get (F.ENC_CTX_RATE_DEN n)) (s.get (F.ENC_CTX_RATE_NUM n))
def State.encNd (s : State) (n : Nat) : Q :=
  Q.frac (s.get (F.ENC_CTX_RC_RATE_MAXRATE n) * 100000 * s.get (F.ENC_CTX_RATE_DEN n)) (s.get (F.ENC_CTX_RATE_NUM n))

/-- The drain per picture and the bucket size in bits. -/
def State.encDrain (s : State) (n : Nat) : Q := if s.get (F.ENC_CTX_CTL_RC_MODE n) = 1 then s.encNd n else s.encN n
def State.encBuf (s : State) (n : Nat) : Q :=
  let rate := if s.get (F.ENC_CTX_CTL_RC_MODE n) = 1 then s.get (F.ENC_CTX_RC_RATE_MAXRATE n)
    else s.get (F.ENC_CTX_RC_RATE_BITRATE n)
  Q.ofNat (rate * 100 * s.get (F.ENC_CTX_RC_BUF_BUF_MS n))

/-- Tile columns and rows for `k` engines (R134). -/
def State.encTiles (s : State) (n k : Nat) : Nat × Nat :=
  let c := max 1 (min (roundUp (s.get (F.ENC_CTX_DIM_W n)) 64 / 256) (min 10 (max k (s.get (F.ENC_CTX_GOP_COLS_MIN n)))))
  (c, ceilDiv k c)

/-- Cmin of R143 in bytes. -/
def State.encCmin (s : State) (n k : Nat) : Nat :=
  let t := s.encTiles n k
  1024 + 3 * (s.encCols n * s.encRows n) + 8 * (t.1 * t.2)

/-- H and T of R144 for the picture to dispatch. -/
def State.encBudget (s : State) (n k : Nat) (idr : Bool) : Q × Q :=
  let c := s.encCtx n
  let mode := s.get (F.ENC_CTX_CTL_RC_MODE n)
  let g := s.get (F.ENC_CTX_GOP_IDR_PERIOD n)
  let nb := s.encN n
  let tnom := if g = 0 then nb else (nb.times (Q.ofNat ((if idr then 4 else 1) * g))).over (g + 3)
  let cap8 := Q.ofNat (s.rd (R.ENC_CTX_CAP n) * 8)
  let buf := s.encBuf n
  let h := if mode = 2 then cap8 else Q.min cap8 ((buf.minus c.fill).plus (s.encDrain n))
  let h15 := (h.times (Q.ofNat 15)).over 16
  let tc := if mode = 0 then tnom.minus ((c.fill.minus (buf.over 2)).over 8)
    else if mode = 1 then tnom.minus ((c.excess.times (Q.ofNat (s.get (F.ENC_CTX_RATE_DEN n)))).over
      (2 * s.get (F.ENC_CTX_RATE_NUM n)))
    else h15
  let tc := if mode = 2 then tc else tc.clamp (tnom.over 4) (tnom.times (Q.ofNat 2))
  let t := (tc.minus c.debit).clamp (Q.ofNat (s.encCmin n k * 8)) h15
  (h.norm, t.norm)

/-- Registers of an encode context that report what its declared parameters come to: its load, and the size of a reference slot
(R155). -/
def State.encDerived (s : State) (off : Nat) : Option Nat :=
  match regIdx off (R.ENC_CTX_LOAD 0) 0x100 64, regIdx off (R.ENC_CTX_REF_BYTES 0) 0x100 64 with
  | some n, _ => some (((s.encJob n).l.over 1000000).ceil.toNat % 2 ^ 14)
  | none, some n => some (s.encRefBytes n % 2 ^ 32)
  | none, none => none

/-! ### Sources (R123, R126 to R128) -/

/-- A source picture is skipped (R128, R137, R149). -/
def State.encSkip (s : State) (n : Nat) (f : Fld) : State :=
  let c := s.encCtx n
  (s.setEnc n { c with skipped := min 65535 (c.skipped + 1) }).inc f

/-- A taken picture is complete in its slot: it waits, and a picture that waited is skipped (R128). -/
def State.encWait (s : State) (n : Nat) (p : EncSrc) : State :=
  let c := s.encCtx n
  let s := if c.waiting.isSome then (s.encSkip n (F.ENC_CTX_SKIPPED n)).raiseU 130 else s
  (s.setEnc n { s.encCtx n with waiting := some p }).encReleaseEs n

/-- Look at the oldest source picture offered (R123): one in DIV + 1 is taken. A decoded picture, and a scaled surface,
is copied first (R126, R135 step 2). -/
def State.encSource (s : State) (n : Nat) : State :=
  let c := s.encCtx n
  let kind := s.get (F.ENC_CTX_SRC_KIND n)
  match c.offers with
  | [] => s
  | p :: rest =>
    let copies := decide (kind = 1) || (decide (kind = 3) && decide (0 < s.get (F.ENC_CTX_SRC_SCALE n)))
    if copies && c.filling.isSome then s
    else
      let st := s.get (F.ENC_CTX_STAT_STATE n)
      let take := decide (c.seen % (s.get (F.ENC_CTX_SRC_DIV n) + 1) = 0)
      let s := s.setEnc n { c with offers := rest, seen := c.seen + 1 }
      if st ≠ 1 ∧ st ≠ 2 then s.encReleaseEs n
      else if !take then s.encReleaseEs n
      else
        let s := s.putB (F.ENC_CTX_STAT_SRC_IDLE n) false
        if st = 2 then (s.encSkip n (F.ENC_CTX_SKIPPED n)).encReleaseEs n
        else if copies then s.setEnc n { s.encCtx n with filling := some p }
        else s.encWait n p

/-! ### Shedding and starting -/

/-- ENC_CTX_FULLNESS shows F (R155). -/
def State.encShowFill (s : State) (n : Nat) : State :=
  s.wr (R.ENC_CTX_FULLNESS n) (min (s.encCtx n).fill.floor.toNat (2 ^ 32 - 1))

/-- Rate control as EN = 1 and re-admission set it (R144, R145); the next picture is an IDR picture (R131). -/
def State.encReset (s : State) (n : Nat) : State :=
  (s.setEnc n { s.encCtx n with
    fill := ((s.encBuf n).over 2).norm
    excess := ⟨0, 1⟩
    debit := ⟨0, 1⟩
    alphaIdr := none
    alphaP := none
    idrDue := true }).encShowFill n

def State.encShed (s : State) (n : Nat) : State :=
  if s.get (F.ENC_CTX_STAT_STATE n) = 2 then s
  else
    let s := s.put (F.ENC_CTX_STAT_STATE n) 2
    let s := (((s.put (F.ENC_CTX_ENGS n) 0).put (F.ENC_CTX_STAT_NENG n) 0).raiseU 132).faultU 50
    let c := s.encCtx n
    let drop := match c.run with
      | some r => r.engines.isEmpty || !(r.engines.all (fun e => s.flag (F.ENC_ENG_STAT_IN_SERVICE e)))
      | none => false
    let s := match c.run with | some r => if drop then s.encIdleEngines n r.engines else s | none => s
    let s := if c.waiting.isSome then s.encSkip n (F.ENC_CTX_SKIPPED n) else s
    let c := s.encCtx n
    (s.setEnc n { c with planned := none, waiting := none, run := if drop then none else c.run }).encReleaseEs n

def State.encApply (s : State) (js : List AdmJob) (a : Admission) : State :=
  let one := fun (s : State) (j : AdmJob) (es : List Nat) =>
    if es = [] then s.encShed j.id
    else
      let s := if s.get (F.ENC_CTX_STAT_STATE j.id) = 2 then
          ((s.encReset j.id).put (F.ENC_CTX_STAT_STATE j.id) 1).raiseU 133 else s
      s.encAssign j.id es
  let s := js.foldl (fun (s : State) j => s.setEnc j.id { s.encCtx j.id with prio := j.prio }) s
  match a with
  | .refused _ _ => s
  | .placed pl => (js.foldl (fun s j => one s j (pl.of j.id)) s).encLoads
  | .some_ pl => (js.foldl (fun s j => one s j (pl.of j.id)) s).encLoads

/-- An admission run that no COMMIT started (R83, R132), as `State.decAdmit`. -/
def State.encAdmit (s : State) (shed : Bool) (drop : Option Nat) : State :=
  let js := (s.encSet shed).map (fun n => s.encJob n)
  s.encApply js (admission (Q.ofNat (s.get F.ENC_GLB_CAP_SAMPLES * 1000000)) s.encEngines js
    (fun n => if drop = some n then [] else s.encPlan n) false)

/-- Is an engine one that a COMMIT or a fault retires, so that it takes no further picture (R92, R438)? -/
def State.encRetiring (s : State) (e : Nat) : Bool := s.flag (F.ENC_ENG_CTL_RETIRE e) || s.flag (F.ENC_ENG_STAT_RETIRED_FAULT e)

/-- Engines that a COMMIT or a fault retired leave service once they run no picture (R92, R438). -/
def State.encDue (s : State) : List Nat :=
  s.encEngines.filter (fun e => s.encRetiring e && !s.flag (F.ENC_ENG_STAT_BUSY e) &&
    !(s.enc.ctx.any (fun p => p.2.onEngines && (match p.2.run with | some r => r.engines.contains e | none => false))))

def State.encLeave (s : State) : State := s.encDue.foldl (fun s e => s.putB (F.ENC_ENG_STAT_IN_SERVICE e) false) s

/-- Retired engines leave service, and admission runs once for them. -/
def State.encRetires (s : State) : State := if s.encDue.isEmpty then s else s.encLeave.encAdmit false none

/-! ### Dispatch (R131, R134, R135, R142, R144, R149) -/

def State.encBsbBase (s : State) (n : Nat) : Nat := s.rd (R.ENC_CTX_BSB_HI n) % 16 * 2 ^ 32 + s.rd (R.ENC_CTX_BSB_LO n)
def State.encBsbSize (s : State) (n : Nat) : Nat := s.get (F.ENC_CTX_BSB_SIZE n) * 4096

def State.encEnginesFree (s : State) (n : Nat) : Bool :=
  (setBitsOf 4 (s.get (F.ENC_CTX_ENGS n))).all (fun e => !s.flag (F.ENC_ENG_STAT_BUSY e) && s.flag (F.ENC_ENG_STAT_IN_SERVICE e) &&
    !s.encRetiring e)

/-- The source picture a context would dispatch next: one that has to run again, or the one that waits. -/
def EncCtx.next (c : EncCtx) : Option EncSrc :=
  match c.run with
  | some r => if r.engines.isEmpty then some r.src else none
  | none => c.waiting

/-- Is a context ready but for its engines? -/
def State.encWaiting (s : State) (n : Nat) : Bool :=
  decide (s.get (F.ENC_CTX_STAT_STATE n) = 1) && (s.encCtx n).next.isSome && decide (s.get (F.ENC_CTX_ENGS n) ≠ 0)

/-- R135: earliest source time, then higher PRIO, then lower number. -/
def State.encBefore (s : State) (m n : Nat) : Bool :=
  match (s.encCtx m).next, (s.encCtx n).next with
  | some a, some b =>
    let pa := (s.encCtx m).prio
    let pb := (s.encCtx n).prio
    decide (a.time < b.time) || (decide (a.time = b.time) && (decide (pb < pa) || (decide (pa = pb) && decide (m < n))))
  | _, _ => false

def State.encMayDispatch (s : State) (n : Nat) : Bool :=
  s.encWaiting n && s.encEnginesFree n &&
    (List.range 64).all (fun m => decide (m = n) || !s.encWaiting m || !s.encEnginesFree m ||
      decide (s.get (F.ENC_CTX_ENGS m) &&& s.get (F.ENC_CTX_ENGS n) = 0) || !s.encBefore m n)

/-- The region entries a dispatch reads (R142). -/
def State.encRoi (s : State) (n : Nat) : List (List Byte) :=
  let base := s.rd (R.ENC_CTX_ROI_HI n) % 16 * 2 ^ 32 + s.rd (R.ENC_CTX_ROI_LO n) + s.get (F.ENC_CTX_ROI_SEL_SEL n) * 512
  (List.range (min 64 (s.get (F.ENC_CTX_ROI_SEL_COUNT n)))).map (fun i => s.bytes (base + i * 8) 8)

def State.encStartRun (s : State) (n : Nat) (r : EncRun) : State :=
  let s := s.setEnc n { s.encCtx n with run := some r }
  r.engines.foldl (fun s e =>
    ((s.putB (F.ENC_ENG_STAT_BUSY e) true).put (F.ENC_ENG_STAT_CTX e) n).put (F.ENC_ENG_STAT_EPOCH e) r.epoch) s

/-- A stopping context with nothing on engines, no copy and nothing left to send reaches OFF. The records of capture mode stay for
host software to read and release (R151). -/
def State.encMaybeOff (s : State) (n : Nat) : State :=
  let c := s.encCtx n
  if s.get (F.ENC_CTX_STAT_STATE n) = 3 ∧ c.run.isNone ∧ c.filling.isNone ∧
      (s.get (F.ENC_CTX_CTL_OUT n) = 1 ∨ c.recs.isEmpty) then
    let s := (s.put (F.ENC_CTX_STAT_STATE n) 0).putB (F.ENC_CTX_STAT_IDLE n) true
    let s := c.deferred.foldl (fun s e => s.lay e) s
    s.setEnc n { EncCtx.init with wrLin := c.wrLin, rdLin := c.rdLin, recs := c.recs }
  else s

/-- What the parameter sets of a stream declare (R125, R129, R130): the tap's colour description, that of the source record for a
decoded tap. -/
def State.encParams (s : State) (n cols rows : Nat) (src : EncSrc) : EncParams :=
  let tf := s.get (F.ENC_CTX_SRC_TF n)
  let own := decide (s.get (F.ENC_CTX_SRC_KIND n) = 1)
  let code := fun (at_ sdr pq hlg : Nat) => if own then recField src.record at_ 1 else if tf = 0 then sdr else if tf = 1 then pq else hlg
  { profile := s.get (F.ENC_CTX_CTL_PROFILE n), highTier := s.flag (F.ENC_CTX_CTL_TIER n), levelIdc := (s.encLevel n).getD 186,
    width := s.get (F.ENC_CTX_DIM_W n), height := s.get (F.ENC_CTX_DIM_H n), rateNum := s.get (F.ENC_CTX_RATE_NUM n),
    rateDen := s.get (F.ENC_CTX_RATE_DEN n), cols := cols, rows := rows, refs := s.get (F.ENC_CTX_GOP_NUM_REF n) + 1,
    primaries := code 24 1 9 9, transfer := code 25 1 16 18, matrix := code 26 1 9 9,
    fullRange := own && (recField src.record 27 1).testBit 0 }

/-- A run on the placement of its context, with the tiles that its engines call for (R134) and the parameter sets of an IDR picture. -/
def State.encOn (s : State) (n : Nat) (r : EncRun) : EncRun :=
  let es := setBitsOf 4 (s.get (F.ENC_CTX_ENGS n))
  let tiles := s.encTiles n es.length
  let p := (s.view r.conf).encParams n tiles.1 tiles.2 r.src
  { r with engines := es, cols := tiles.1, rows := tiles.2, done := [], epoch := s.get (F.ENC_CTX_STAT_EPOCH n),
           startAt := s.tim.elapsed, psets := if r.idr then encPsets p else [],
           heads := encHeads p (if r.idr then 0 else (s.encCtx n).sinceIdr + 1) r.idr r.leading }

/-- Run a picture again on the placement that stands (R137): at once when its engines are free, else by a later dispatch.
A context that was shed or stops has no placement, and the picture is discarded. -/
def State.encAgain (s : State) (n : Nat) (r : EncRun) : State :=
  if s.get (F.ENC_CTX_STAT_STATE n) ≠ 1 then ((s.setEnc n { s.encCtx n with run := none }).encReleaseEs n).encMaybeOff n
  else
    let s := s.setEnc n { s.encCtx n with run := some { r with engines := [], done := [] } }
    let s := match (s.encCtx n).planned with
      | some m => s.encPlace n m
      | none => s
    if s.encEnginesFree n ∧ s.get (F.ENC_CTX_ENGS n) ≠ 0 then s.encStartRun n (s.encOn n r) else s

/-- The slot of the reference store for the next picture: the lowest that holds no reference (R131; log entry 16). -/
def State.encRefSlot (s : State) (n : Nat) : Nat :=
  ((List.range (s.get (F.ENC_CTX_GOP_NUM_REF n) + 2)).find? (fun k => !(s.encCtx n).refs.contains k)).getD 0

/-- A change of BITRATE or BUF_MS in CBR applies with a dispatch and keeps F, clipped to the new BUF (R144, R152). -/
def State.encClip (s : State) (n : Nat) : State :=
  if s.get (F.ENC_CTX_CTL_RC_MODE n) = 0 then
    (s.setEnc n { s.encCtx n with fill := Q.min (s.encCtx n).fill (s.encBuf n) }).encShowFill n
  else s

/-- Dispatch the waiting picture of a context; an IDR picture is coded as IDR_W_RADL if `leading`, else as IDR_N_LP. -/
def State.encDispatch (s : State) (n : Nat) (leading : Bool) : State :=
  if !s.encMayDispatch n then s
  else
    match (s.encCtx n).run, (s.encCtx n).waiting with
    | some r, _ => s.encAgain n r
    | none, none => s
    | none, some p =>
      let s := s.encClip n
      let c := s.encCtx n
      let period := s.get (F.ENC_CTX_GOP_IDR_PERIOD n)
      let idr := c.idrDue || s.flag (F.ENC_CTX_CMD_FORCE_IDR n) || (decide (period ≠ 0) && decide (period ≤ c.sinceIdr + 1))
      let (h, t) := s.encBudget n (setBitsOf 4 (s.get (F.ENC_CTX_ENGS n))).length idr
      let need := roundUp (64 + (h.over 8).ceil.toNat) 64
      if s.encBsbSize n < c.wrLin - c.rdLin + need then
        (((s.setEnc n { c with waiting := none }).encSkip n (F.ENC_CTX_SKIPPED_FULL n)).raiseU 131).encReleaseEs n
      else
        let s := s.putB (F.ENC_CTX_CMD_FORCE_IDR n) false
        let ref := s.encRefSlot n
        let s := (s.setEnc n { c with waiting := none, idrDue := false }).encPyramid n ref p
        s.encStartRun n (s.encOn n
          { src := p, idr := idr, leading := leading, engines := [], cols := 0, rows := 0, done := [], epoch := 0, attempt := 1, firstFailed := 0,
            startAt := 0, target := t, cap := h, psets := [], heads := [], ref := ref, roi := s.encRoi n, conf := s.regs,
            gone := false })

/-! ### Completion (R144 to R148) -/

/-- A filler-data NAL unit of `k` bytes, start code included, at least 7 (R144). -/
def fillerNal (k : Nat) : List Byte := [0, 0, 0, 1, 0x4C, 0x01] ++ List.replicate (k - 7) 0xFF ++ [0x80]

/-- Write bytes into a bitstream buffer from a linear offset, wrapping at its end. -/
def State.bsbWrite (s : State) (n lin : Nat) : List Byte → State
  | [] => s
  | b :: r => (s.setByte (s.encBsbBase n + lin % (max 1 (s.encBsbSize n))) b).bsbWrite n (lin + 1) r

/-- Bits set aside for parameter sets and slice headers: P of R145. -/
def EncRun.overhead (r : EncRun) : Nat := 8 * (r.psets.flatten.length + r.heads.flatten.length)

/-- The measure of α by a picture's tiles (R145) in units of 2^-40; with a cost of 0 it has no value, and `free` stands for it. -/
def alphaMeasure (tiles : List (TileDone × Nat)) (free : Nat) : Nat :=
  let cost := tiles.foldl (fun (a : Nat) (x : TileDone × Nat) => a + x.1.cost) 0
  let work := tiles.foldl (fun (a : Nat) (x : TileDone × Nat) =>
    a + x.1.spent * qstepMean x.1.qpSum x.2) 0
  if cost = 0 then free else work / cost

/-- The reconstruction of a coded picture in its slot of the reference store: the decoding process applied to its bytes (R130, R131). -/
def State.encRebuild (s : State) (n : Nat) (r : EncRun) (nals : List (List Byte)) : State :=
  let t := s.encRef n r.ref
  let p := (s.view r.conf).encParams n r.cols r.rows r.src
  let payload := (encPsets p ++ nals).flatten
  let refs := if r.idr then [] else (s.encCtx n).refs.map (fun k =>
    some (s.bytes (s.encRef n k).base t.slotBytes))
  let full : Rect := ⟨0, 0, s.get (F.ENC_CTX_DIM_W n), s.get (F.ENC_CTX_DIM_H n)⟩
  s.fillRect t t.chroma 0 full (fun _ pl x y =>
    Config.decodeSample payload 0 refs [] pl x y % (if t.deep then 1024 else 256))

/-- Every tile of a picture is done: rate control moves on and the record is written (R144, R148). -/
def State.encComplete (s : State) (n : Nat) (r : EncRun) : State :=
  let c := s.encCtx n
  let k := s.view r.conf
  let mode := k.get (F.ENC_CTX_CTL_RC_MODE n)
  let nt := r.cols * r.rows
  let codes := (List.range nt).filterMap (fun t => SMap.get (fun _ => none) r.done t)
  let nals := codes.map (fun x => x.bytes)
  let psets := r.psets.flatten
  let bits := 8 * (psets.length + nals.flatten.length)
  let exhausted := codes.any (fun x => x.exhausted)
  let rows : Nat := codes.foldl (fun (a : Nat) (x : TileDone) => a + x.skipRows) 0
  let ctus := s.encCols n * s.encRows n
  let qp := ((2 * codes.foldl (fun (a : Int) (x : TileDone) => a + x.qpSum) 0 + ctus) / (2 * (max 1 ctus : Nat) : Int)).toNat
  let sizes := (List.range nt).map (fun t => tileCtus (s.encCols n) (s.encRows n) r.cols r.rows t)
  let m := alphaMeasure (codes.zip sizes) (Config.freeNat s.draw)
  let b := Q.ofNat bits
  let nb := k.encN n
  let buf := k.encBuf n
  let debit := if exhausted then Q.max (Q.ofNat 0) (b.minus r.target) else Q.ofNat 0
  let fill := (nb.minus c.fill).minus b
  let filler := if mode = 0 ∧ (Q.ofNat 0).lt fill then max 7 (fill.over 8).ceil.toNat else 0
  let bout := b.plus (Q.ofNat (8 * filler))
  let f := if mode = 0 then Q.max (Q.ofNat 0) ((c.fill.plus bout).minus nb)
    else if mode = 1 then Q.max (Q.ofNat 0) ((c.fill.plus b).minus (k.encNd n)) else c.fill
  let e := if mode = 1 then ((c.excess.plus b).minus nb).clamp ((Q.ofNat 0).minus buf) buf else c.excess
  let fillBytes := if filler = 0 then [] else fillerNal filler
  let payload := psets ++ nals.flatten ++ fillBytes
  let flags := bit r.idr 0 + bit exhausted 1 + bit (decide (0 < rows)) 2 + bit (decide (0 < filler)) 3 +
    bit r.src.concealed 4 + bit r.src.damaged 5 + bit (decide (r.attempt = 2)) 6 + bit (!r.psets.isEmpty) 7
  let hdr := bytesLE 4 payload.length ++ bytesLE 2 1 ++ bytesLE 2 flags ++ bytesLE 4 c.picNum ++ bytesLE 1 r.epoch ++
    bytesLE 1 qp ++ bytesLE 2 c.skipped ++ bytesLE 4 r.target.floor.toNat ++ bytesLE 4 r.cap.floor.toNat ++
    bytesLE 4 bits ++ bytesLE 4 filler ++ bytesLE 8 (r.src.ts % 2 ^ 32) ++ timeLE r.src.time ++ timeLE s.tim.now
  let size := roundUp (64 + payload.length) 64
  let s := ((s.used).encRebuild n r nals).bsbWrite n c.wrLin (hdr ++ payload)
  let rec_ : EncRec := ⟨c.wrLin, size, r.src.ts % 2 ^ 32, r.psets, nals ++ (if filler = 0 then [] else [fillBytes]), 0, none⟩
  let s := s.setEnc n { c with
    run := none
    picNum := (c.picNum + 1) % 2 ^ 32
    sinceIdr := if r.idr then 0 else c.sinceIdr + 1
    skipped := 0
    fill := f.norm
    excess := e.norm
    debit := debit.norm
    alphaIdr := if r.idr then some (alphaNext c.alphaIdr m) else c.alphaIdr
    alphaP := if r.idr then c.alphaP else some (alphaNext c.alphaP m)
    refs := if r.idr then [r.ref] else (r.ref :: c.refs).take (s.get (F.ENC_CTX_GOP_NUM_REF n) + 1)
    vectors := codes.flatMap (fun x => x.vectors)
    wrLin := c.wrLin + size
    recs := c.recs ++ [rec_] }
  let s := s.wr (R.ENC_CTX_BSB_WR n) ((c.wrLin + size) % (max 1 (s.encBsbSize n)))
  let s := (s.inc (F.ENC_CTX_PICS n)).wr (R.ENC_CTX_LAST_BITS n) bits
  let s := (s.wr (R.ENC_CTX_LAST_TARGET n) r.target.floor.toNat).wr (R.ENC_CTX_LAST_PIC n) c.picNum
  let s := s.encShowFill n
  let s := if exhausted then (s.inc (F.ENC_CTX_EXHAUSTED n)).raiseU 128 else s
  let s := if 0 < rows then (s.add (F.ENC_CTX_SKIP_ROWS n) rows).raiseU 129 else s
  let s := if s.get (F.ENC_CTX_CTL_OUT n) = 1 then s.raiseU 136 else s
  let s := (s.encIdleEngines n r.engines).encReleaseEs n
  (s.encPlanned n).encMaybeOff n

/-- What tile `t` of a run is coded with (R145): its share of T and H, the costs of its CTUs, QPbase and the regions. -/
def State.tilePlan (s : State) (n : Nat) (r : EncRun) (t : Nat) : TilePlan :=
  let c := s.encCtx n
  let k := s.view r.conf
  let area := tileArea (s.encCols n) (s.encRows n) r.cols r.rows t
  let ctus := area.w * area.h
  let share := fun (q : Q) => ((q.minus (Q.ofNat r.overhead)).times (Q.ofNat ctus)).over (s.encCols n * s.encRows n)
  let cur := s.encRef n r.ref
  let refs := if r.idr then [] else c.refs.map (fun i => s.encRef n i)
  let costs := (List.range area.h).map (fun j => (List.range area.w).map (fun i =>
    if r.idr then s.ctuIntra cur (area.x + i) (area.y + j) else s.ctuSad n cur refs (area.x + i) (area.y + j)))
  let qmin := k.get (F.ENC_CTX_RC_QP_QP_MIN n)
  let qmax := k.get (F.ENC_CTX_RC_QP_QP_MAX n)
  let mode := k.get (F.ENC_CTX_CTL_RC_MODE n)
  let first := if r.idr then k.get (F.ENC_CTX_RC_QP_QP_I n) else k.get (F.ENC_CTX_RC_QP_QP_P n)
  let base : Int := match if mode = 2 then none else if r.idr then c.alphaIdr else c.alphaP with
    | none => first
    | some a => qpBase a (costSum costs) (share r.target) qmin qmax (Config.freeNat s.draw % 52 : Nat)
  { area := area, tt := share r.target, ht := share r.cap, costs := costs, base := base, qmin := qmin, qmax := qmax,
    fixed := decide (mode = 2), roi := r.roi, picCols := s.encCols n, idr := r.idr,
    ok := fun v => decide (v.ref < refs.length) && vecOk (s.get (F.ENC_CTX_DIM_W n)) (s.get (F.ENC_CTX_DIM_H n)) v,
    found := s.searchEnds n r.src cur refs c.vectors, free := fun ctu i => Config.freeNat (s.draw + ctu * 256 + i) }

/-- An engine returns tile `t` with the epoch it was dispatched under (R136, R145, R146). -/
def State.encTileDone (s : State) (n e epoch t : Nat) (code : TileCode) : State :=
  if epoch ≠ s.get (F.ENC_CTX_STAT_EPOCH n) then (s.inc (F.ENC_CTX_STALE n)).raiseU 135
  else
    match (s.encCtx n).run with
    | none => s
    | some r =>
      let nt := r.cols * r.rows
      let owner := fun (k : Nat) => r.engines.getD (k % max 1 r.engines.length) 0
      if r.engines.isEmpty ∨ nt ≤ t ∨ owner t ≠ e ∨ (SMap.get (fun _ => none) r.done t).isSome then s
      else
        let plan := s.tilePlan n r t
        let x := codeTile plan code
        let tile : TileDone :=
          { bytes := r.heads.getD t [] ++ sealBits x.bits, spent := x.spent, qpSum := x.qpSum, cost := costSum plan.costs,
            skipRows := x.skipRows, exhausted := x.spentOut || x.fell, vectors := x.vectors,
            units := x.units }
        let r := { r with done := SMap.set (fun _ => none) r.done t (some tile) }
        let s := { s with draw := s.draw + 2 ^ 24 }
        let s := s.inc (F.ENC_ENG_PICS e)
        let left := (List.range nt).filter (fun k => decide (owner k = e) && (SMap.get (fun _ => none) r.done k).isNone)
        let s := if left.isEmpty then s.putB (F.ENC_ENG_STAT_BUSY e) false else s
        if r.done.length < nt then s.setEnc n { s.encCtx n with run := some r }
        else
          let s := if r.attempt = 2 then
              (s.inc (F.ENC_ENG_RETRIES r.firstFailed)).faultTransient 48 r.firstFailed s.unstated else s
          let sus := (s.encCtx n).suspect
          let s := s.encComplete n r
          let s := match r.attempt, sus with
            | 3, some x =>
              let s := s.setEnc n { s.encCtx n with suspect := none }
              (((s.stick (F.ENC_ENG_STAT_RETIRED_FAULT x)).putB (F.ENC_ENG_STAT_SUSPECT x) false).raise 4 (4096 + x)).faultUnit 48 x
            | _, _ => s
          s.encRetires

/-- An engine failure during a picture (R137). -/
def State.encFail (s : State) (n e : Nat) : State :=
  match (s.encCtx n).run with
  | none => s
  | some r =>
    if !r.engines.contains e then s
    else if r.attempt = 1 then
      (s.encIdleEngines n r.engines).encStartRun n
        { r with attempt := 2, firstFailed := e, done := [], startAt := s.tim.elapsed }
    else if r.attempt = 2 then
      let s := s.encIdleEngines n r.engines
      let s := if r.firstFailed ≠ e then s.inc (F.ENC_ENG_RETRIES r.firstFailed) else s
      let s := (s.putB (F.ENC_ENG_STAT_SUSPECT e) true).putB (F.ENC_ENG_STAT_IN_SERVICE e) false
      let s := s.setEnc n { s.encCtx n with run := some { r with attempt := 3, engines := [], done := [] }, suspect := some e }
      let s := s.encLeave.encAdmit false (some n)
      match (s.encCtx n).run with
      | some r => s.encAgain n r
      | none => s
    else
      let s := ((s.encIdleEngines n r.engines).encSkip n (F.ENC_CTX_SKIPPED n)).faultUnit 49 n
      let s := match (s.encCtx n).suspect with
        | some x => (s.putB (F.ENC_ENG_STAT_SUSPECT x) false).putB (F.ENC_ENG_STAT_IN_SERVICE x) true
        | none => s
      let s := (s.setEnc n { s.encCtx n with suspect := none, run := none, idrDue := true }).encPlanned n
      ((s.encLeave.encAdmit true none).encReleaseEs n).encMaybeOff n

/-! ### RTP output (R150, R151) -/

/-- The next RTP payload of the NAL units of a record, with what is left of it: single NAL unit packets and fragmentation units. -/
def EncRec.nalPayload (r : EncRec) (pay : Nat) : Option (List Byte × EncRec) :=
  match r.nals with
  | [] => none
  | x :: rest =>
    let nal := x.drop 4
    if nal.length ≤ pay then some (nal, { r with nals := rest, sent := 0 })
    else
      let body := nal.drop 2
      let h0 := (nal.getD 0 0).toNat
      let part := (body.drop r.sent).take (pay - 3)
      let last := decide (body.length ≤ r.sent + part.length)
      let fu := bit (decide (r.sent = 0)) 7 + bit last 6 + h0 / 2 % 64
      let pl := bytesBE 1 (h0 / 128 * 128 + 49 * 2 + h0 % 2) ++ [nal.getD 1 0] ++ bytesBE 1 fu ++ part
      some (pl, if last then { r with nals := rest, sent := 0 } else { r with sent := r.sent + part.length })

/-- The next RTP payload of a record (R150): its parameter sets in one aggregation packet when they fit PAY bytes, else like its other
NAL units. -/
def EncRec.nextPayload (r : EncRec) (pay : Nat) : Option (List Byte × EncRec) :=
  let ap := [(0x60 : Byte), 0x01] ++ r.psets.flatMap (fun b => bytesBE 2 (b.length - 4) ++ b.drop 4)
  if 2 ≤ r.psets.length ∧ ap.length ≤ pay then some (ap, { r with psets := [] })
  else EncRec.nalPayload { r with psets := [], nals := r.psets ++ r.nals } pay

/-- Has every packet of a record been made? -/
def EncRec.made (r : EncRec) : Bool := r.psets.isEmpty && r.nals.isEmpty

/-- The destination address of an encode context. -/
def State.encDaddr (s : State) (n : Nat) : Nat :=
  let r := fun i => s.rd (R.ENC_CTX_TX_DADDR n i)
  if s.flag (F.ENC_CTX_TX_CTL_IPV6 n) then ipv6Of (r 0) (r 1) (r 2) (r 3) else r 0

/-- The read offset of the bitstream buffer moves past its oldest record. -/
def State.encReleaseBsb (s : State) (n lin : Nat) : State :=
  let c := s.encCtx n
  (s.setEnc n { c with rdLin := lin, recs := c.recs.filter (fun r => decide (lin < r.lin + r.size)) }).wr (R.ENC_CTX_BSB_RD n)
    (lin % (max 1 (s.encBsbSize n)))

/-- The last packet of a record has been passed to its port: the read offset advances past the record (R150). -/
def State.encPassed (s : State) (n : Nat) : State :=
  let c := s.encCtx n
  let waits := fun (lin : Nat) => s.out.queue.any (fun q => q.2.any (fun f =>
    decide (f.kind = .encode) && decide (f.index = n) && decide (f.frameNo = lin)))
  match (c.recs.takeWhile (fun r => r.made && !waits (r.lin + r.size))).getLast? with
  | some r => (s.encReleaseBsb n (r.lin + r.size)).encMaybeOff n
  | none => s

/-- The payload of an RTP packet under TX_CTL (R150): protected with the key of its slot, or as it is; none while that slot holds no
key (log entry 101). -/
def State.encProtect (s : State) (k : State) (n : Nat) (hdr pl : List Byte) : Option (List Byte) :=
  if k.flag (F.ENC_CTX_TX_CTL_SRTP_EN n) then
    (SMap.get (fun _ => none) s.sec.keys (k.get (F.ENC_CTX_TX_CTL_KEY_SLOT n))).map (fun x =>
      ofLength (pl.length + 16) (Config.srtpProtect x.key ((s.encCtx n).rollover * 65536 + (s.encCtx n).seqNo) hdr pl))
  else some pl

/-- Send the next RTP packet of a context when its pacing, its key and a pool buffer allow it. The packet that ends a record carries
the record's end as its frame number. -/
def State.encPacket (s : State) (n : Nat) : State :=
  let c := s.encCtx n
  let made := c.recs.takeWhile (fun r => r.made)
  match c.recs.drop made.length with
  | [] => s
  | r :: rest =>
    let k := match r.conf with | some m => s.view m | none => s
    match r.nextPayload (k.get (F.ENC_CTX_TX_PAY n)) with
    | none => s
    | some (pl, r') =>
      let l := k.get (F.ENC_CTX_TX_CTL_PORT n)
      let hdr := bytesBE 1 0x80 ++ bytesBE 1 (bit r'.made 7 + k.get (F.ENC_CTX_TX_CTL_PT n)) ++ bytesBE 2 c.seqNo ++
        bytesBE 4 r.ts ++ bytesBE 4 (k.rd (R.ENC_CTX_TX_SSRC n))
      match s.encProtect k n hdr pl with
      | none => s
      | some sealed =>
        let body := hdr ++ sealed
        let rate := k.get (F.ENC_CTX_TX_RATE n)
        let due := match c.lastPkt with
          | some (t, _) => rate = 0 || decide (8 * body.length * Config.sec ≤ (s.tim.elapsed - t) * rate * 1000000)
          | none => true
        if s.get (F.ENC_CTX_CTL_OUT n) = 1 || !due then s
        else
          let dmac := k.rd (R.ENC_CTX_TX_DMAC_HI n) % 65536 * 2 ^ 32 + k.rd (R.ENC_CTX_TX_DMAC_LO n)
          let f := s.udpFrame l (k.flag (F.ENC_CTX_TX_CTL_IPV6 n)) dmac (k.encDaddr n) (k.get (F.ENC_CTX_TX_UDP_SPORT n))
            (k.get (F.ENC_CTX_TX_UDP_DPORT n)) (k.get (F.ENC_CTX_TX_CTL_TTL n)) body
          match s.takeBuf (ownEncode n) f.length with
          | (none, s) => s
          | (some buf, s) =>
            let s := s.send l ⟨.encode, n, if r'.made then r.lin + r.size else 0, s.counted l f.length, f, some buf⟩
            let s := s.inc (F.ENC_CTX_PKTS n)
            let c := s.encCtx n
            s.setEnc n { c with
              seqNo := (c.seqNo + 1) % 65536
              rollover := (c.rollover + (c.seqNo + 1) / 65536) % 2 ^ 32
              lastPkt := some (s.tim.elapsed, body.length)
              recs := made ++ { r' with conf := some k.regs } :: rest }

/-- A write of ENC_CTX_BSB_RD in capture mode (R151). -/
def State.encBsbRd (s : State) (n val : Nat) : State :=
  if s.get (F.ENC_CTX_CTL_OUT n) ≠ 1 then s
  else
    let c := s.encCtx n
    let size := max 1 (s.encBsbSize n)
    let step := (val + size - c.rdLin % size) % size
    if val < size ∧ c.rdLin + step ≤ c.wrLin then s.encReleaseBsb n (c.rdLin + step)
    else s.stick (F.ENC_CTX_STAT_RD_INVALID n)

/-- EN = 1 is applied with IDLE = 1 and a placement. -/
def State.encStart (s : State) (n : Nat) (es : List Nat) : State :=
  let s := s.setEnc n { EncCtx.init with seqNo := s.get (F.ENC_CTX_TX_SEQ0 n), prio := s.get (F.ENC_CTX_CTL_PRIO n) }
  let s := s.encReset n
  let s := (s.put (F.ENC_CTX_STAT_STATE n) 1).putB (F.ENC_CTX_STAT_IDLE n) false
  let s := ((s.wr (R.ENC_CTX_BSB_WR n) 0).wr (R.ENC_CTX_BSB_RD n) 0).put (F.ENC_CTX_ENGS n) 0
  let s := s.wr (R.ENC_CTX_REF_BYTES n) (s.encRefBytes n)
  let s := if es = [] then s else s.encPlace n (maskOf es)
  if s.get (F.ENC_CTX_SRC_KIND n) = 0 then
    let ing := s.get (F.ENC_CTX_SRC_INDEX n)
    let s := s.setIng ing { s.ingCtx ing with released := (s.ingCtx ing).pub }
    s.wr (R.ENC_CTX_ESB_RD n) (s.rd (R.ING_CTX_ESB_WR ing))
  else s

/-- EN = 0 is applied. -/
def State.encStop (s : State) (n : Nat) : State :=
  let s := s.put (F.ENC_CTX_STAT_STATE n) 3
  let s := (s.put (F.ENC_CTX_ENGS n) 0).put (F.ENC_CTX_STAT_NENG n) 0
  let c := s.encCtx n
  let s := s.setEnc n { c with offers := [], waiting := none, planned := none, run := if c.onEngines then c.run else none }
  s.encMaybeOff n

/-- The ingest context of an encode consumer leaves OFF: the read offset moves to 0, and the record of a picture that runs is not
the tap's to release any more (R557). -/
def State.encSourceRestart (s : State) (ing : Nat) : State :=
  match s.encConsumer ing with
  | some n =>
    let c := s.encCtx n
    let waiting := if (c.waiting.bind (fun p => p.rec_)).isSome then none else c.waiting
    let run := c.run.map (fun r => { r with gone := r.gone || r.src.rec_.isSome })
    (s.setEnc n { c with offers := [], waiting := waiting, run := run }).wr (R.ENC_CTX_ESB_RD n) 0
  | none => s

/-- A source that stopped delivering shows in SRC_IDLE (R152). -/
def State.encSrcIdle (s : State) (n : Nat) : State :=
  let i := s.get (F.ENC_CTX_SRC_INDEX n)
  let k := s.get (F.ENC_CTX_SRC_KIND n)
  let stopped := if k = 0 then decide (s.get (F.ING_CTX_STAT_STATE i) = 0)
    else if k = 1 then decide (s.get (F.DEC_CTX_STAT_STATE i) = 0 ∨ s.get (F.DEC_CTX_STAT_STATE i) = 3)
    else if k = 2 then !s.flag (F.CMP_CV_CTL_EN i)
    else !s.flag (F.CMP_GL_CTL_EN i)
  if s.get (F.ENC_CTX_STAT_STATE n) = 1 ∧ stopped then s.putB (F.ENC_CTX_STAT_SRC_IDLE n) true else s

/-- ENC_ENGINE_TIMEOUT: a picture without completion within 4 × its work time + 1 ms (R135, R137). -/
def State.encTimeout (s : State) (n e : Nat) : State :=
  match (s.encCtx n).run with
  | some r =>
    let w := workTime (s.get (F.ENC_CTX_DIM_W n)) (s.get (F.ENC_CTX_DIM_H n)) (s.encChroma n) 0 (max 1 r.engines.length)
    let limit := (Q.times (Q.ofNat 4) w).plus (Q.ofNat Config.ms)
    if (Q.ofNat (s.tim.elapsed - r.startAt)).lt limit then s else s.encFail n e
  | none => s

end Sys2Proof.Machine
end

