-- ==== Sys2Proof/Machine/Cal.lean ====
section
/-! DEFINITION. Calibration (R198 to R213): lamp codes from composed pieces, matrix errors, bank flips and the brightness
ramp. -/

namespace Sys2Proof.Machine

/-! ### The pipeline of one lamp (R198 to R210) -/

/-- The dither matrix of R210, row by row. -/
def ditherM : List Nat :=
  [0, 32, 8, 40, 2, 34, 10, 42, 48, 16, 56, 24, 50, 18, 58, 26, 12, 44, 4, 36, 14, 46, 6, 38, 60, 28, 52, 20, 62, 30, 54, 22] ++
  [3, 35, 11, 43, 1, 33, 9, 41, 51, 19, 59, 27, 49, 17, 57, 25, 15, 47, 7, 39, 13, 45, 5, 37, 63, 31, 55, 23, 61, 29, 53, 21]

/-- M of R210 at row `y` and column `x`, modulo 8. -/
def ditherAt (y x : Nat) : Nat := ditherM.getD (y % 8 * 8 + x % 8) 0

/-- Shift k of a lamp format (R208). -/
def fmtShift (fmt : Nat) : Nat := if fmt = 0 then 4 else if fmt = 1 then 8 else 10

/-- Threshold d of R209: mode, shift k, canvas lamp (x, y), channel c, frame number. -/
def ditherD (mode k x y c frame : Nat) : Nat :=
  let f := frame % 64
  let b := if mode = 1 then ditherAt y (x + 3 * c) else if mode = 2 then ditherAt (f / 8) (f + 3 * c)
    else ditherAt (y + f / 8) (x + f + 3 * c)
  if mode = 0 then 2 ^ (k - 1) else (2 * b + 1) * 2 ^ k / 128

/-- Scale stage (R198): an FP16 code to 0 to 65,536. -/
def calScale (code s : Nat) : Nat :=
  (max 0 (min 65536 ((fp16Val code).times (Q.over ⟨65536, 1⟩ (2 ^ s))).halfUp)).toNat

/-- Matrix stage of one output before the clip (R198): coefficients in Q1.14. -/
def calMatrix (m0 m1 m2 : Int) (v : Nat × Nat × Nat) : Int := (m0 * v.1 + m1 * v.2.1 + m2 * v.2.2 + 8192) / 16384

/-- The clip of the matrix stage (R199). -/
def calClip (w : Int) : Nat := (max 0 (min 65536 w)).toNat

/-- Curve stage (R202) from the 1,024 entries of a channel. -/
def calCurve (e : Nat → Nat) (w : Nat) : Nat :=
  let p := w * 1023
  let i := p / 65536
  let f := p % 65536
  if i = 1023 then e 1023
  else ((e i : Int) + (((e (i + 1) : Int) - (e i : Int)) * (f : Int) + 32768) / 65536).toNat

/-- Brightness stage (R198). -/
def calBright (u bu : Nat) : Nat := min ((u * bu + 1024) / 2048) 1048560

/-- Quantise stage (R198). -/
def calQuant (fmt z d : Nat) : Nat := min ((z + d) / 2 ^ fmtShift fmt) (2 ^ fmtBits fmt - 1)

/-- Address of a lamp's matrix entry (R200). -/
def State.mtxAddr (k : State) (t i j : Nat) : Nat :=
  (if k.flag (F.CAL_TILE_CTL_BANK t) then k.get (F.CAL_TILE_MTX_B t) else k.get (F.CAL_TILE_MTX_A t)) * 64 +
    (j * k.get (F.CMP_TILE_SIZE_W t) + i) * 18

/-- Does a matrix entry overlap a failing 64-byte unit (R212)? -/
def mtxBad (a : Nat) (bad : List Nat) : Bool := bad.any (fun u => decide (u * 64 < a + 18) && decide (a < u * 64 + 64))

/-- The 9 coefficients of a lamp: its entry, or the identity with MTX_EN = 0 or a failing unit (R206, R212). -/
def State.lampMatrix (k : State) (t i j : Nat) (bad : List Nat) : List Int :=
  let a := k.mtxAddr t i j
  if k.flag (F.CAL_TILE_CTL_MTX_EN t) && !mtxBad a bad then
    (List.range 9).map (fun q => signed 16 (ofBytesLE (k.bytes (a + 2 * q) 2)))
  else [16384, 0, 0, 0, 16384, 0, 0, 0, 16384]

/-- Base of the curve table a tile names, in units of 64 bytes (R203). -/
def State.curveBase (k : State) (t : Nat) : Nat :=
  if k.flag (F.CAL_TILE_CTL_CRV_SEL t) then k.get (F.CAL_TILE_CRV_B t) else k.get (F.CAL_TILE_CRV_A t)

/-- Curve stage of a tile's channel (R202, R206, R213). -/
def State.tileCurve (k : State) (fr : CvFrame) (t ch w : Nat) : Nat :=
  let tbl := SMap.get (fun _ => []) fr.curves (k.curveBase t)
  if !k.flag (F.CAL_TILE_CTL_CRV_EN t) || SMap.get (fun _ => false) fr.bypass t || tbl.isEmpty then min w 65535
  else calCurve (fun j => ofBytesLE (slice tbl (2048 * ch + 2 * j) 2)) w

/-- The three codes of one lamp of tile `t` at canvas (x, y), with the clips low and high of its matrix stage. -/
def State.lampCodes (k : State) (fr : CvFrame) (t x y : Nat) (rgb : Nat × Nat × Nat) (bad : List Nat) : List Nat × Nat × Nat :=
  let g := k.tileSeg t
  let sc := k.get (F.CAL_SEG_CTL_SCALE_LOG2 g)
  let v := (calScale rgb.1 sc, calScale rgb.2.1 sc, calScale rgb.2.2 sc)
  let m := k.lampMatrix t (x - k.get (F.CMP_TILE_POS_X t)) (y - k.get (F.CMP_TILE_POS_Y t)) bad
  let w := (List.range 3).map (fun r => calMatrix (m.getD (3 * r) 0) (m.getD (3 * r + 1) 0) (m.getD (3 * r + 2) 0) v)
  let fmt := k.get (F.CAL_SEG_CTL_FMT g)
  let code := fun r =>
    let u := k.tileCurve fr t r (calClip (w.getD r 0))
    calQuant fmt (calBright u (k.get (F.CAL_SEG_BRIGHT_CUR_USED g)))
      (ditherD (k.get (F.CAL_SEG_CTL_DITHER g)) (fmtShift fmt) x y r fr.n)
  ((List.range 3).map code, (w.filter (fun q => decide (q < 0))).length, (w.filter (fun q => decide (65536 < q))).length)

/-! ### Bank flips (R205) -/

/-- Canvas frames that still hold pieces to calibrate, with their canvas. -/
def State.liveFrames (s : State) : List (Nat × CvFrame) :=
  (List.range 4).flatMap (fun c =>
    let v := s.cvState c
    ((match v.cur with | some f => [(c, f)] | none => []) ++ (match v.waiting with | some f => [(c, f)] | none => []))) ++
  s.cal.pieces.map (fun (p : Piece) => (p.canvas, p.frame))

/-- The tiles whose OLD_BUSY reads 1. -/
def State.tilesBusy (s : State) : List Nat :=
  s.regs.filterMap (fun p => if 0x780000 ≤ p.1 ∧ p.1 < 0x7A0000 ∧ p.1 % 0x20 = 4 ∧ p.2.toNat.testBit 1 then
    some ((p.1 - 0x780000) / 0x20) else none)

/-- Bring OLD_BUSY and CAL_GLB_FLIP_PEND up to date, with event 176 once a flip's last old frame is done (R205). -/
def State.flipSync (s : State) : State :=
  let live := s.liveFrames
  let busy := fun (s : State) t => live.any (fun p =>
    let k := s.frameView p.2
    (k.tilesOf p.1).contains t && k.flag (F.CAL_TILE_CTL_MTX_EN t) &&
      decide (k.get (F.CAL_TILE_CTL_BANK t) ≠ s.get (F.CAL_TILE_STAT_ACTIVE t)))
  let tiles := (s.tilesOn ++ s.tilesBusy ++ live.flatMap (fun p => (s.frameView p.2).tilesOf p.1)).eraseDups
  let s := tiles.foldl (fun s t => s.putB (F.CAL_TILE_STAT_OLD_BUSY t) (busy s t)) s
  let n := (tiles.filter (fun t => s.flag (F.CAL_TILE_STAT_OLD_BUSY t))).length
  let s := s.put F.CAL_GLB_FLIP_PEND n
  if s.cal.flipping ∧ n = 0 then ({ s with cal := { s.cal with flipping := false } }).raiseU 176 else s

/-! ### Pieces (R211, R212) -/

/-- Is a lamp's matrix entry written while its frame uses the bank (R205)? -/
def State.tornEntry (s : State) (c n t a : Nat) : Bool :=
  s.cmp.watch.any (fun w => decide (w.canvas = c ∧ w.what = .matrix n t) && w.hits.any (fun h => decide (a ≤ h) && decide (h < a + 18)))

/-- Free codes and free clips for a lamp whose matrix entry was written under its frame (R205). -/
def State.freeCodes (s : State) (fmt : Nat) : (List Nat × Nat × Nat) × State :=
  let f := fun i => Config.freeNat (s.draw + i)
  let lo := f 3 % 4
  (((List.range 3).map (fun i => f i % 2 ^ fmtBits fmt), lo, f 4 % (4 - lo)), { s with draw := s.draw + 5 })

/-- PIECE_CALIBRATED: the oldest composed piece is calibrated and its codes go to the tile's packets. `failed` names the
64-byte units of device addresses whose matrix read failed; a unit that failed earlier in the frame counts again (R212). -/
def State.calibrate (s : State) (failed : List Nat) : State :=
  match s.cal.pieces with
  | [] => s
  | p :: rest =>
    let k := s.frameView p.frame
    let t := p.tile
    let g := k.tileSeg t
    let w := k.get (F.CMP_TILE_SIZE_W t)
    let x0 := k.get (F.CMP_TILE_POS_X t)
    let y0 := k.get (F.CMP_TILE_POS_Y t)
    let pts := p.rect.points
    let entry := fun (q : Nat × Nat) => k.mtxAddr t (q.1 - x0) (q.2 - y0)
    let new := if k.flag (F.CAL_TILE_CTL_MTX_EN t) then failed.filter (fun u => pts.any (fun q => mtxBad (entry q) [u])) else []
    let units := (s.cal.badUnits ++ new.map (fun u => (p.canvas, p.frame.n, u))).eraseDups
    let bad := (units.filter (fun u => decide (u.1 = p.canvas ∧ u.2.1 = p.frame.n))).map (fun u => u.2.2)
    let (res, s) := (pts.zip p.lamps).foldl (fun (a : List ((Nat × Nat) × (List Nat × Nat × Nat)) × State) q =>
      if s.tornEntry p.canvas p.frame.n t (entry q.1) then
        let (r, s') := a.2.freeCodes (k.get (F.CAL_SEG_CTL_FMT g))
        (a.1 ++ [(q.1, r)], s')
      else (a.1 ++ [(q.1, k.lampCodes p.frame t q.1.1 q.1.2 q.2 bad)], a.2)) ([], s)
    let subst := if k.flag (F.CAL_TILE_CTL_MTX_EN t) then
        (pts.filter (fun q => mtxBad (entry q) bad)).length else 0
    let units := if p.last then units.filter (fun u => !decide (u.1 = p.canvas ∧ u.2.1 = p.frame.n)) else units
    let s := { s with cal := { s.cal with pieces := rest, badUnits := units } }
    let s := if p.last then s.rewatch (fun w => !w.ofFrame p.canvas p.frame.n) [] else s
    let s := s.add (F.CAL_SEG_CLIP_LO g) ((res.map (fun r => r.2.2.1)).foldl (· + ·) 0)
    let s := s.add (F.CAL_SEG_CLIP_HI g) ((res.map (fun r => r.2.2.2)).foldl (· + ·) 0)
    let s := if 0 < subst then (s.add (F.CAL_TILE_ECC_SUBST t) subst).add F.CAL_GLB_ECC_SUBST subst else s
    let s := if new.isEmpty then s else (s.raiseU 178).faultUnit 64 t
    let f := s.flow t
    let put := fun (codes : SMap (Option Nat)) => res.foldl (fun c r =>
      let lamp := (r.1.2 - y0) * w + (r.1.1 - x0)
      (List.range 3).foldl (fun c ch => SMap.set (fun _ => none) c (3 * lamp + ch) (some (r.2.1.getD ch 0))) c) codes
    let s := s.setFlow t { f with frames := f.frames.map (fun (x : TileFrame) =>
      if x.n = p.frame.n then { x with codes := put x.codes } else x) }
    let s := s.buildFlow t
    let s := if p.last then
        (k.segsOf p.canvas).foldl (fun s g =>
          if ((List.range 4).find? (fun c => (k.segsOf c).contains g)) = some p.canvas then s.inc (F.CAL_SEG_FRAMES g) else s) s
      else s
    s.flipSync.leapOpen

/-! ### Brightness (R207) -/

/-- One step of a segment's brightness ramp at its frame boundary. -/
def State.rampStep (s : State) (g : Nat) : State :=
  let cur := s.get (F.CAL_SEG_BRIGHT_CUR_CUR g)
  let tgt := s.get (F.CAL_SEG_BRIGHT_TARGET g)
  let step := s.get (F.CAL_SEG_BRIGHT_STEP g)
  let new := if step = 0 then tgt else if cur ≤ tgt then min tgt (cur + step) else max tgt (cur - step)
  let s := s.put (F.CAL_SEG_BRIGHT_CUR_CUR g) new
  if cur ≠ tgt ∧ new = tgt then s.raiseU 177 else s

/-- Bu of a segment at a latch of canvas `c` (R207, R193). -/
def State.sampleBright (s : State) (c g : Nat) (lantern : Bool) : State :=
  let cur := s.get (F.CAL_SEG_BRIGHT_CUR_CUR g)
  s.put (F.CAL_SEG_BRIGHT_CUR_USED g) (if lantern then max cur (s.get (F.CMP_LT_FLOOR c)) else cur)

/-- The curve bases that enabled tiles name (R203). -/
def State.curveBases (s : State) : List Nat :=
  ((s.tilesOn.filter (fun t => s.flag (F.CAL_TILE_CTL_CRV_EN t))).map (fun t => s.curveBase t)).eraseDups

/-- Read curve tables into the cache (R203). -/
def State.readCurves (s : State) (tables : List Nat) : State :=
  tables.foldl (fun s b =>
    { s with cal := { s.cal with cache := SMap.set (fun _ => []) s.cal.cache b (s.bytes (b * 64) 6144) } }) s

/-- The machine with every accepted CAL change, and the enables that wait with one, in effect. -/
def State.calComing (s : State) : State :=
  (s.cal.jobs.flatMap (fun (j : CurveJob) => j.entries)).foldl (fun s e => s.lay e) s

/-- CAL_GLB_CRV_USED: the tables in the cache that enabled tiles name now, or will once the accepted changes are in effect
(R203). -/
def State.curvesUsed (s : State) : Nat :=
  (((s.curveBases ++ s.calComing.curveBases).eraseDups).filter (fun b => !(SMap.get (fun _ => []) s.cal.cache b).isEmpty)).length

end Sys2Proof.Machine
end

