-- ==== Sys2Proof/Machine/Latch.lean ====
section
/-! DEFINITION. When accepted changes take effect (R338): what applying a change of the TIM, CMP, CAL and OUT registers
does, the placement of canvases on pipes (R439), the moves of tile flows (R440), frame boundaries (R233) and canvas latches
(R159). -/

namespace Sys2Proof.Machine

/-! ### Where a change belongs -/

def isCmp (off : Nat) : Bool := decide (0x700000 ≤ off ∧ off < 0x780000)
def isCal (off : Nat) : Bool := decide (0x780000 ≤ off ∧ off < 0x7C0000)
def isOut (off : Nat) : Bool := decide (0x7C0000 ≤ off ∧ off < 0x800000)
def isTim (off : Nat) : Bool := decide (0x80000 ≤ off ∧ off < 0xC0000)

/-- The value a register will have once every accepted change has taken effect (R337). -/
def State.pendingRd (s : State) (off : Nat) : Nat :=
  (s.ctl.accepted ++ s.cal.jobs.flatMap (fun (j : CurveJob) => j.entries)).foldl (fun v (e : RegEntry) => if e.off = off then overlay e v else v) (s.rd off)

/-- Canvases that hold an enabled tile of a segment. -/
def State.canvasesOfSeg (s : State) (g : Nat) : List Nat := (List.range 4).filter (fun c => (s.segsOf c).contains g)

/-- The canvases a change of a CMP or CAL register affects: those named by the value in effect and by the value to come. -/
def State.affectedCanvases (s : State) (e : RegEntry) : List Nat :=
  let off := e.off
  let both := fun (r lo w : Nat) => [bitsOf (s.rd r) lo w, bitsOf (s.pendingRd r) lo w].eraseDups
  if 0x701000 ≤ off ∧ off < 0x702000 then [(off - 0x701000) / 0x400]
  else if 0x702000 ≤ off ∧ off < 0x702400 then [(off - 0x702000) / 0x100]
  else if off = R.CMP_GLB_LT_MASK then (List.range 4).filter (fun c => e.mask.testBit c)
  else if 0x710000 ≤ off ∧ off < 0x711000 then both (R.CMP_VL_CTL ((off - 0x710000) / 0x100)) 1 2
  else if 0x720000 ≤ off ∧ off < 0x723000 then both (R.CMP_GL_CTL ((off - 0x720000) / 0x100)) 1 2
  else if 0x740000 ≤ off ∧ off < 0x748000 then both (R.CMP_TILE_POS ((off - 0x740000) / 8)) 29 2
  else if 0x780000 ≤ off ∧ off < 0x7A0000 then both (R.CMP_TILE_POS ((off - 0x780000) / 0x20)) 29 2
  else if 0x7A0000 ≤ off ∧ off < 0x7A1000 then s.canvasesOfSeg ((off - 0x7A0000) / 0x40)
  else []

/-- The segments a change of a TIM or OUT register affects. -/
def State.affectedSegs (s : State) (e : RegEntry) : List Nat :=
  let off := e.off
  if 0x82000 ≤ off ∧ off < 0x82800 then [(off - 0x82000) / 0x20]
  else if 0x7C0000 ≤ off ∧ off < 0x7E0000 then
    let r := R.OUT_TILE_CTL ((off - 0x7C0000) / 0x20)
    [bitsOf (s.rd r) 0 6, bitsOf (s.pendingRd r) 0 6].eraseDups
  else if 0x7F0000 ≤ off ∧ off < 0x7F1000 then [(off - 0x7F0000) / 0x40]
  else if 0x7F4000 ≤ off ∧ off < 0x7F5000 then
    s.segsOn.filter (fun g => (s.get (F.OUT_SEG_CTL_PORTS g)).testBit ((off - 0x7F4000) / 0x100))
  else []

/-- Does a change take effect at once, because nothing that runs is affected (log entry 21)? A change of a segment's rate
or delay waits for its IDLE (R235). -/
def State.changeIdle (s : State) (e : RegEntry) : Bool :=
  if isCmp e.off || isCal e.off then (s.affectedCanvases e).all (fun c => decide (s.get (F.CMP_CV_STAT_STATE c) = 0))
  else if 0x82000 ≤ e.off ∧ e.off < 0x82800 ∧ (e.off % 0x20 = 4 ∨ e.off % 0x20 = 8) then
    let g := (e.off - 0x82000) / 0x20
    !s.flag (F.TIM_SEG_CTL_EN g) && s.flag (F.TIM_SEG_STAT_IDLE g)
  else (s.affectedSegs e).all (fun g => !s.flag (F.TIM_SEG_CTL_EN g))

/-! ### Canvas placement (R439) -/

/-- Place the enabled canvases on the pipes in service (R439). -/
def State.placeCanvases (s : State) : State :=
  let pipes := (List.range 4).filter (fun p => !(s.get F.FLT_RETIRED_PIPES).testBit p)
  let on := (List.range 4).filter (fun c => s.flag (F.CMP_CV_CTL_EN c))
  let placed := on.take pipes.length
  let own := placed.filter (fun c => pipes.contains c)
  let rest := placed.filter (fun c => !pipes.contains c)
  let free := pipes.filter (fun p => !own.contains p)
  let m := own.map (fun c => (c, c)) ++ rest.zip free
  let s := { s with flt := { s.flt with pipeOf := (List.range 4).foldl (fun mp c =>
    SMap.set (fun _ => none) mp c ((m.find? (fun (q : Nat × Nat) => decide (q.1 = c))).map (fun (q : Nat × Nat) => q.2))) s.flt.pipeOf } }
  s.put F.FLT_SHED_CANVASES ((on.filter (fun c => !placed.contains c)).foldl (fun a c => a + 2 ^ c) 0)

/-! ### What applying a change does -/

/-- Tiles whose flow belongs to segment `g`, or did. -/
def State.tilesOfSeg (s : State) (g : Nat) : List Nat :=
  (s.tilesOn ++ s.out.flow.map (fun p => p.1)).eraseDups.filter (fun t => decide (s.tileSeg t = g))

/-- IDLE of a stopped segment, once device time has passed the present time of its last latched frame (R235). -/
def State.segIdleCheck (s : State) (g : Nat) : State :=
  let past := match (s.segTime g).lastPresent with | some p => decide (p < s.tim.now) | none => true
  if !s.flag (F.TIM_SEG_CTL_EN g) && past then s.putB (F.TIM_SEG_STAT_IDLE g) true else s

/-- EN of a segment changes (R235). -/
def State.segEnable (s : State) (g old : Nat) : State :=
  let was := bitsOf old 0 1 = 1
  let on := s.flag (F.TIM_SEG_CTL_EN g)
  if on && !was then
    if s.flag (F.TIM_SEG_STAT_IDLE g) then
      let s := s.setSegTime g ⟨frameFrom (s.get (F.TIM_SEG_RATE_NUM g)) (s.get (F.TIM_SEG_RATE_DEN g)) (s.tim.now + 1), none⟩
      let s := (s.putB (F.TIM_SEG_STAT_IDLE g) false).tpoSegOn g
      ((s.tilesOfSeg g).foldl (fun s t => s.flowSync t) s).leapFollow
    else s.putB (F.TIM_SEG_CTL_EN g) false
  else if !on && was then ((((s.tilesOfSeg g).foldl (fun s t => s.flowSync t) (s.segFramesEnd g)).entryEmpties).segIdleCheck g).leapFollow
  else s

/-- EN of a canvas changes (state table of spec/06). -/
def State.cvEnable (s : State) (c old : Nat) : State :=
  let was := bitsOf old 0 1 = 1
  let on := s.flag (F.CMP_CV_CTL_EN c)
  if on && !was then
    if s.flag (F.CMP_CV_STAT_IDLE c) then
      let s := (s.rewatch (fun w => decide (w.canvas ≠ c) || match w.what with | .matrix _ _ => true | _ => false) []).setCv c
        { CvState.init with first := s.nextLatchFrame c, lastSel := (s.cvState c).lastSel, ltShown := (s.cvState c).ltShown, flatLost := (s.cvState c).flatLost }
      (((s.put (F.CMP_CV_STAT_STATE c) 1).putB (F.CMP_CV_STAT_IDLE c) false).placeCanvases).leapFollow
    else (s.putB (F.CMP_CV_CTL_EN c) false).stick (F.CMP_CV_STAT_REENABLE_REFUSED c)
  else if !on && was then
    (((if s.get (F.CMP_CV_STAT_STATE c) = 1 then s.put (F.CMP_CV_STAT_STATE c) 2 else s).placeCanvases).cvMaybeOff c).leapFollow
  else s

/-- A tile enabled again before its flow is idle is refused (R284). -/
def State.tileRefuse (s : State) (off old : Nat) : State :=
  let t := (off - 0x740000) / 8
  if 0x740000 ≤ off ∧ off < 0x748000 ∧ off % 8 = 0 ∧ bitsOf old 31 1 = 0 ∧ s.flag (F.CMP_TILE_POS_EN t) ∧
      !s.flag (F.OUT_TILE_STAT_IDLE t) then
    (s.putB (F.CMP_TILE_POS_EN t) false).stick (F.OUT_TILE_STAT_REENABLE_REFUSED t)
  else s

/-- A tile's position or EN changes (R164, R284). -/
def State.tileChanged (s : State) (t old : Nat) : State :=
  let s := if old = s.rd (R.CMP_TILE_POS t) then s else ([bitsOf old 29 2, s.get (F.CMP_TILE_POS_CANVAS t)].eraseDups).foldl (fun s c =>
    s.cvInvalidate c ((List.range 66).filter (fun k => decide (k ≠ idGroup)))) s
  let s := if bitsOf old 31 1 = 0 ∧ s.flag (F.CMP_TILE_POS_EN t) then s.tileEnabled t else s
  s.flowSync t

/-- Every opacity bit and brick of a canvas goes (R164, R181). -/
def State.cvInvalidateAll (s : State) (c : Nat) : State := s.cvInvalidate c (List.range 66)

/-- TIM_CTL changes (R218 to R222). The frequency of TIME_REF is judged against the
new selection. -/
def State.timCtlChanged (s : State) (old : Nat) : State :=
  let s := s.setLive s.tim.liveState
  let s := if s.get F.TIM_CTL_ROLE = 0 ∧ !s.flag F.TIM_CTL_PPS_EN then s.timState 0 else s
  let s := if s.flag F.TIM_CTL_PPS_EN then s
    else
      let s := { s with tim := { s.tim with ppsEdges := [] } }
      if s.flag F.TIM_STAT_PPS_OK then (s.putB F.TIM_STAT_PPS_OK false).raiseU 198 else s
  let s := if bitsOf old 7 2 = s.get F.TIM_CTL_REF then s else s.refJudge
  let s := if bitsOf old 0 2 = s.get F.TIM_CTL_ROLE then s
    else (if s.get F.TIM_CTL_ROLE = 0 then { s with tim := { s.tim with foreign := [] } } else s).bmca
  s.regroup

/-- A port's privileged entries have changed: each waiting frame moves to the queue that now takes its traffic (R279). -/
def State.requeue (s : State) (l : Nat) : State :=
  let moves := fun (s : State) (i : Nat) (f : Frame) => decide (s.queueFor l f ≠ i)
  let out := (List.range 17).flatMap (fun i => (s.queueAt l i).filter (moves s i))
  let s := (List.range 17).foldl (fun (s : State) i =>
    let q := s.queueAt l i
    if q.any (moves s i) then (s.setQueueAt l i (q.filter (fun f => !moves s i f))).setHeaded l i (s.isHeaded l i && !(q.take 1).any (moves s i)) else s) s
  (out.foldl (fun (s : State) f => s.send l f) s).entryEmpties

/-- What the block does when a change of one of its registers has been applied: `old` is the word before. -/
def State.dataHook (s : State) (off old : Nat) : State :=
  if off = R.TIM_CTL then s.timCtlChanged old
  else if 0x81000 ≤ off ∧ off < 0x81400 ∧ off % 0x40 = 0 then
    let l := (off - 0x81000) / 0x40
    let s := if s.flag (F.TIM_PORT_CTL_EN l) && !s.flag (F.TIM_PORT_CTL_MASTER_ONLY l) then s
      else s.setForeign l []
    (if s.get F.TIM_CTL_ROLE = 0 then s else s.bmca).regroup
  else if off = R.TIM_PTP_PRIO ∨ off = R.TIM_PTP_VAR ∨ off = R.TIM_UTC then (if s.get F.TIM_CTL_ROLE = 0 then s else s.bmca)
  else if 0x82000 ≤ off ∧ off < 0x82800 ∧ off % 0x20 = 0 then s.segEnable ((off - 0x82000) / 0x20) old
  else if 0x701000 ≤ off ∧ off < 0x702000 then
    let c := (off - 0x701000) / 0x400
    let r := off % 0x400
    if r = 0 then
      let s := if bitsOf old 1 2 = s.get (F.CMP_CV_CTL_SAVE c) then s else s.cvInvalidateAll c
      s.cvEnable c old
    else if r = 4 ∨ r = 0x14 ∨ r = 0x18 ∨ r = 0x1C then (if old = s.rd off then s else s.cvInvalidateAll c)
    else s
  else if 0x702000 ≤ off ∧ off < 0x702400 then
    let c := (off - 0x702000) / 0x100
    if off % 0x100 = 0x50 then
      let s := if s.flag (F.CMP_LT_CMD_UNLATCH c) && !s.flag F.CMP_GLB_LT_PIN_ALARM then s.putB (F.CMP_LT_STAT_LATCHED c) false else s
      s.putB (F.CMP_LT_CMD_UNLATCH c) false
    else if old = s.rd off then s
    else s.cvForget c (fun k => decide (k / 65536 = idLantern))
  else if 0x710000 ≤ off ∧ off < 0x711000 then
    let v := (off - 0x710000) / 0x100
    if off % 0x100 = 0x1C ∨ off % 0x100 = 0x20 then
      let a := s.get (F.CMP_VL_FILT_HI v) * 2 ^ 32 + s.get (F.CMP_VL_FILT_LO v) * 64
      { s with cmp := { s.cmp with filt := SMap.set (fun _ => []) s.cmp.filt v (if a = 0 then [] else s.bytes a 1792) } }
    else if off % 0x100 = 0 ∧ bitsOf old 1 2 ≠ s.get (F.CMP_VL_CTL_CANVAS v) then
      let s := (s.putB (F.CMP_VL_STAT_SHOWING v) false).putB (F.CMP_VL_STAT_FROZEN v) false
      { s with cmp := { s.cmp with choice := SMap.set (fun _ => none) s.cmp.choice v none } }
    else s
  else if 0x720000 ≤ off ∧ off < 0x723000 then
    let g := (off - 0x720000) / 0x100
    let c := s.get (F.CMP_GL_CTL_CANVAS g)
    let was := if off % 0x100 = 0 then bitsOf old 1 2 else c
    if old = s.rd off then s
    else
      let s := if s.flag (F.CMP_GL_STAT_IN_FLATTEN g) then s.cvInvalidate was [16 + g] else s.cvForget was (fun k => decide (k / 65536 = 16 + g))
      if was = c then s
      else (s.cvForget c (fun k => decide (k / 65536 = 16 + g))).putB (F.CMP_GL_STAT_IN_FLATTEN g) false
  else if 0x740000 ≤ off ∧ off < 0x748000 then
    if off % 8 = 0 then s.tileChanged ((off - 0x740000) / 8) old
    else if old = s.rd off then s
    else s.cvInvalidateAll (s.get (F.CMP_TILE_POS_CANVAS ((off - 0x740000) / 8)))
  else if 0x7C0000 ≤ off ∧ off < 0x7E0000 ∧ off % 0x20 = 0 then s.flowSync ((off - 0x7C0000) / 0x20)
  else if 0x7F4000 ≤ off ∧ off < 0x7F5000 ∧ 0x40 ≤ off % 0x100 ∧ off % 0x100 < 0x80 then
    if old = s.rd off then s else s.requeue ((off - 0x7F4000) / 0x100)
  else s

/-- A change that applies TIM_SEG_CTL.EN = 1 with IDLE = 0, as on a segment that runs, is ignored and told (R235). -/
def State.segRefuse (s : State) (e : RegEntry) : State :=
  let g := (e.off - 0x82000) / 0x20
  if 0x82000 ≤ e.off ∧ e.off < 0x82800 ∧ e.off % 0x20 = 0 ∧ e.mask.testBit 0 ∧ e.val.testBit 0 ∧ !s.flag (F.TIM_SEG_STAT_IDLE g) then
    s.stick (F.TIM_SEG_STAT_REENABLE_REFUSED g)
  else s

/-- Apply changes together (R338): every word first, then what each changed register brings about, in the order of the
changes. -/
def State.applyData (s : State) (es : List RegEntry) : State :=
  let offs := (es.map (fun (e : RegEntry) => e.off)).eraseDups
  let olds := offs.map (fun o => (o, s.rd o))
  let s := es.foldl (fun s (e : RegEntry) => s.wr e.off (overlay e (s.rd e.off))) s
  let s := es.foldl (fun (s : State) e => s.segRefuse e) s
  let s := olds.foldl (fun (s : State) p => s.tileRefuse p.1 p.2) s
  let s := olds.foldl (fun s p => s.dataHook p.1 p.2) s
  if offs.isEmpty then s else s.memLoads

/-- The tile of a CAL_TILE or CMP_TILE_POS register. -/
def tileOf (off : Nat) : Option Nat :=
  if 0x780000 ≤ off ∧ off < 0x7A0000 then some ((off - 0x780000) / 0x20)
  else if 0x740000 ≤ off ∧ off < 0x748000 ∧ off % 8 = 0 then some ((off - 0x740000) / 8)
  else none

/-- CAL_TILE_STAT.PENDING of the tiles that a list of changes names, once none is left. -/
def State.pendingTiles (s : State) (es : List RegEntry) : State :=
  ((es.filterMap (fun (e : RegEntry) => tileOf e.off)).eraseDups).foldl (fun s t =>
    if s.cal.jobs.any (fun (j : CurveJob) => j.entries.any (fun (x : RegEntry) => decide (tileOf x.off = some t))) then s
    else s.putB (F.CAL_TILE_STAT_PENDING t) false) s

/-- Take the waiting changes that `hit` says are due, with those of the curve jobs whose reads are complete in the order their COMMITs
came (R204), and apply them together (R338). -/
def State.applyDue (s : State) (hit : RegEntry → Bool) : State :=
  let ready := s.cal.jobs.takeWhile (fun (j : CurveJob) => j.done)
  let wait := s.cal.jobs.dropWhile (fun (j : CurveJob) => j.done)
  let es := (ready.flatMap (fun (j : CurveJob) => j.entries)).filter hit
  let left := (ready.map (fun (j : CurveJob) => { j with entries := j.entries.filter (fun e => !hit e) })).filter
    (fun (j : CurveJob) => !j.entries.isEmpty)
  let now := s.ctl.accepted.filter hit
  let s := { s with
    ctl := { s.ctl with accepted := s.ctl.accepted.filter (fun e => !hit e) }
    cal := { s.cal with jobs := left ++ wait } }
  (s.applyData (now ++ es)).pendingTiles es

/-- The protected ranges of canvas `c` and VERIFIED follow the Lantern state in effect; the surfaces of a COMMIT that is being checked
stay protected (R190, R191). -/
def State.ltSettle (s : State) (c : Nat) : State :=
  let ranges := s.cmp.protected_.filter (fun p => decide (p.1 ≠ c)) ++ (s.ltRange c).toList ++
    (s.cmp.checks.flatMap (fun (j : CheckJob) => j.verified)).filter (fun p => decide (p.1 = c))
  ({ s with cmp := { s.cmp with protected_ := ranges } }).putB (F.CMP_LT_STAT_VERIFIED c) (s.ltRange c).isSome

/-- Apply every accepted change that affects nothing that runs. The Lantern state of a canvas that is OFF follows it, since no latch
will (log entry 21). -/
def State.applyIdle (s : State) : State :=
  let off := (List.range 4).filter (fun c => decide (s.get (F.CMP_CV_STAT_STATE c) = 0) &&
    s.ctl.accepted.any (fun (e : RegEntry) => decide ((e.off - 0x702000) / 0x100 = c ∧ 0x702000 ≤ e.off)))
  off.foldl (fun s c => s.ltSettle c) (s.applyDue (fun e => s.changeIdle e))

/-! ### Moves of tile flows between ports (R440) -/

/-- Wire bytes per frame of a tile on port `l` (R286). -/
def State.wireBytes (s : State) (t l : Nat) : Nat :=
  let h := s.tileOverhead t l
  let total := streamBytes (s.get (F.CAL_SEG_CTL_FMT (s.tileSeg t))) (s.get (F.CMP_TILE_SIZE_W t)) (s.get (F.CMP_TILE_SIZE_H t))
  total + ceilDiv total (max 1 (s.get (F.OUT_TILE_SHAPE_MAX_PAYLOAD t))) * h + 16 + h

/-- Bits per second that a tile sends on port `l`. -/
def State.tileBits (s : State) (t l : Nat) : Q :=
  let g := s.tileSeg t
  (Q.ofNat (8 * s.wireBytes t l)).times (Q.frac (s.get (F.TIM_SEG_RATE_NUM g)) (s.get (F.TIM_SEG_RATE_DEN g)))

/-- The enabled tiles of enabled segments, as the load test of R286 counts them. -/
def State.flowTiles (s : State) : List Nat := s.tilesOn.filter (fun t => s.flag (F.TIM_SEG_CTL_EN (s.tileSeg t)))

/-- Sum of the load test on a port for given tiles (R286). -/
def State.loadSum (s : State) (l : Nat) (ts : List Nat) : Q :=
  ts.foldl (fun (a : Q) t => (a.plus (s.tileBits t l)).norm) (Q.ofNat (s.get (F.OUT_PORT_RESERVE l) * 1000000))

/-- Does a port carry these tiles (R286)? -/
def State.loadFits (s : State) (l : Nat) (ts : List Nat) : Bool := (s.loadSum l ts).le (Q.ofNat (s.portRate l * 1000000000))

/-- Registers of the OUT block that report what stands: the load test sum of a port in Mbit/s, rounded up (R286), and the flows in the
overflow list (R277). -/
def State.outDerived (s : State) (off : Nat) : Option Nat :=
  if off = R.OUT_GLB_OVERFLOW then some (s.overflowCount % 2 ^ 13)
  else (regIdx off (R.OUT_PORT_LOAD 0) 0x100 16).map (fun l =>
    if s.portPresent l then mbCeil (s.loadSum l (s.flowTiles.filter (fun t => decide (s.tilePort t = some l)))) % 2 ^ 17 else 0)

/-- Is a logical port retired? -/
def State.portRetired (s : State) (l : Nat) : Bool := (s.get F.FLT_RETIRED_PORTS).testBit l

/-- The port that a tile's frames leave on once the moves that wait have been made. -/
def State.portDue (s : State) (t : Nat) : Option Nat :=
  match s.flt.moveDue.find? (fun p => decide (p.1 = t)) with
  | some (_, some m) => m.2
  | some (_, none) => some (s.get (F.OUT_TILE_CTL_PORT t))
  | none => s.tilePort t

/-- Where a tile of a retired port goes: to the lowest-numbered other in-service port of its segment's port set on which the load test of
R286 still passes with the tile added (R440). -/
def State.portFor (s : State) (t : Nat) : Option Nat :=
  (setBitsOf 16 (s.get (F.OUT_SEG_CTL_PORTS (s.tileSeg t)))).find? (fun l =>
    s.portPresent l && !s.portRetired l && s.loadFits l (s.flowTiles.filter (fun q => decide (q ≠ t ∧ s.portDue q = some l)) ++ [t]))

/-- What is decided for a tile waits for its segment's next frame boundary. -/
def State.setMove (s : State) (t : Nat) (m : Option (Nat × Option Nat)) : State :=
  { s with flt := { s.flt with moveDue := s.flt.moveDue.filter (fun p => decide (p.1 ≠ t)) ++ [(t, m)] } }

/-- Decide the moves of tiles, in ascending tile number (R440, R442). -/
def State.planMoves (s : State) (ts : List Nat) : State :=
  ts.foldl (fun (s : State) t => s.setMove t (some (s.get (F.OUT_TILE_CTL_PORT t), s.portFor t))) s

/-- Port `l` has been retired: the tile flows that leave on it, or are about to, move. -/
def State.portMoves (s : State) (l : Nat) : State := s.planMoves (s.flowTiles.filter (fun t => decide (s.portDue t = some l)))

/-- Port `l` has returned: the moved and unsent flows configured to it go back. -/
def State.portBack (s : State) (l : Nat) : State :=
  (s.flowTiles.filter (fun t => decide (s.get (F.OUT_TILE_CTL_PORT t) = l ∧ s.portDue t ≠ some l))).foldl (fun (s : State) t => s.setMove t none) s

/-- The moves due for segment `g` take effect (R440). A tile that was enabled or configured onto a retired port since is moved too. -/
def State.applyMoves (s : State) (g : Nat) : State :=
  let new := s.flowTiles.filter (fun t => decide (s.tileSeg t = g) && (match s.portDue t with | some l => s.portRetired l | none => false))
  let s := s.planMoves new
  let due := s.flt.moveDue.filter (fun p => decide (s.tileSeg p.1 = g))
  if due.isEmpty then s
  else
    { s with flt := { s.flt with
      moved := due.foldl (fun m p => SMap.set (fun _ => none) m p.1 p.2) s.flt.moved
      moveDue := s.flt.moveDue.filter (fun p => !due.contains p) } }

/-! ### Frame boundaries (R233) -/

/-- FRAME_BOUNDARY: frame n of segment `g` begins (R225, R233 to R235, R338). -/
def State.frameBoundary (s : State) (g : Nat) : State :=
  let n := s.segN g
  let t := s.segT g n
  if s.flag (F.TIM_SEG_CTL_EN g) ∧ (s.segTime g).first ≤ n ∧ s.mayFire g t then
    let s := s.fired g t
    let s := (s.wr (R.TIM_SEG_FRAME_LO g) (n % 2 ^ 32)).wr (R.TIM_SEG_FRAME_HI g) (n / 2 ^ 32 % 2 ^ 32)
    let s0 := s
    let s := s.applyDue (fun e => (isTim e.off || isOut e.off) && (s0.affectedSegs e).contains g)
    ((s.applyMoves g).rampStep g).openSegFrame g n false
  else s

/-! ### Canvas latches (R159) -/

/-- Tile frames of a latched canvas frame (R273), and the configuration due with it (R262). -/
def State.openTileFrames (s : State) (c : Nat) (fr : CvFrame) : State :=
  (s.tilesOf c).foldl (fun s t =>
    let f := s.flow t
    if !f.exists_ then s
    else
      let g := s.tileSeg t
      let port := s.tilePort t
      let x : TileFrame := {
        n := fr.n, present := fr.present, port := port.getD 0, segment := g
        opens := fr.present - s.get (F.OUT_TILE_ACCEPT t) * Config.us
        deadline := fr.present - s.get (F.OUT_SEG_GUARD_GUARD_US g) * Config.us
        conf := s.regs, fmt := s.get (F.CAL_SEG_CTL_FMT g), width := s.get (F.CMP_TILE_SIZE_W t), height := s.get (F.CMP_TILE_SIZE_H t)
        codes := [], next := 0, pkts := [], waiting := false, sent := false, aborted := false, unsent := port.isNone }
      (s.setFlow t { f with frames := f.frames ++ [x] }).configure t fr.n) s

/-- A canvas frame is not composed: the segments' frames carry SUPPRESSED (R260). -/
def State.suppressSegs (s : State) (c n : Nat) : State :=
  (s.segsLive c).foldl (fun s g => (s.openSegFrame g n true).updSegFrame g n (fun x => { x with suppressed := true })) s

/-- A latched frame that has not started is discarded (R162): its tiles send nothing, and are late at their deadlines (R282). -/
def State.dropWaiting (s : State) (c : Nat) : State :=
  match (s.cvState c).waiting with
  | none => s
  | some fr =>
    let k := s.frameView fr
    let s := ((s.setCv c { s.cvState c with waiting := none }).dropHolds c fr.n).rewatch (fun w => !w.ofFrame c fr.n) []
    let s := (k.tilesOf c).foldl (fun s t =>
      s.putFlow t { s.flow t with frames := (s.flow t).frames.map (fun (x : TileFrame) =>
        if x.n = fr.n then { x with unsent := true, waiting := false } else x) }) s
    let s := (k.segsOf c).foldl (fun s g => s.updSegFrame g fr.n (fun x => { x with suppressed := true })) s
    ((s.inc (F.CMP_CV_DROPPED c)).raiseU 145).faultUnit 57 c

/-- What every latch fixes, suppressed or not (R159): staged changes, the order table and its group, invalidations, CAL
changes and the Lantern state. Answers the order, the group and whether the Lantern layer is shown. -/
def State.latchSettings (s : State) (c : Nat) : (List Nat × List Nat × Bool) × State :=
  let s0 := s
  let s := s.applyDue (fun e => (isCmp e.off || isCal e.off) && (s0.affectedCanvases e).contains c)
  let sel := s.get (F.CMP_CV_CTL_ORDER_SEL c)
  let s := match (s.cvState c).lastSel with
    | some o => if o = sel then s else s.raiseU 152
    | none => s
  let s := s.put (F.CMP_CV_STAT_ORDER_ACTIVE c) sel
  let order := s.blendOrder c
  let (flat, susp) := s.flatGroup c order
  let s := s.putB (F.CMP_CV_STAT_FLAT_SUSPENDED c) susp
  let s := if flat = (s.cvState c).members then s else s.cvInvalidate c [idGroup]
  let s := s.setCv c { s.cvState c with lastSel := some sel, members := flat }
  let s := (List.range 48).foldl (fun s g =>
    let s := if s.get (F.CMP_GL_CTL_CANVAS g) = c then s.putB (F.CMP_GL_STAT_IN_FLATTEN g) (flat.contains (16 + g)) else s
    if s.flag (F.CMP_GL_CMD_DIRTY g) ∧ s.get (F.CMP_GL_CTL_CANVAS g) = c then s.applyDirty c g else s) s
  let s := if (s.cvState c).flatLost then
      (if s0.saveFlat c || s.saveFlat c then s.raiseU 147 else s).setCv c { s.cvState c with flatLost := false }
    else s
  let flips := (s.tilesOf c).any (fun t => decide (s.get (F.CAL_TILE_CTL_BANK t) ≠ s.get (F.CAL_TILE_STAT_ACTIVE t)))
  let s := (s.tilesOf c).foldl (fun s t =>
    (s.put (F.CAL_TILE_STAT_ACTIVE t) (s.get (F.CAL_TILE_CTL_BANK t))).put (F.CAL_TILE_STAT_CRV_ACTIVE t) (s.get (F.CAL_TILE_CTL_CRV_SEL t))) s
  let s := if flips then { s with cal := { s.cal with flipping := true } } else s
  let shown := s.ltShownNow c
  ((order, flat, shown), s.ltSettle c)

/-- The matrix banks that frame `n` of canvas `c` uses, as ranges to watch (R205). -/
def State.bankWatches (s : State) (c n : Nat) : List Watch :=
  ((s.tilesOf c).filter (fun t => s.flag (F.CAL_TILE_CTL_MTX_EN t))).map (fun t =>
    let size := 18 * s.get (F.CMP_TILE_SIZE_W t) * s.get (F.CMP_TILE_SIZE_H t)
    (⟨c, .matrix n t, s.mtxAddr t 0 0, size, 0, size, 0, 1, []⟩ : Watch))

/-- The newest latch of canvas `c` that is due and has not fired: its frame and its time (R159, R225). -/
def State.latchDue (s : State) (c : Nat) : Option (Nat × Nat) :=
  let g := s.get (F.CMP_CV_CTL_SEG c)
  let n := frameAt (s.get (F.TIM_SEG_RATE_NUM g)) (s.get (F.TIM_SEG_RATE_DEN g))
    (s.tim.now + s.get (F.CMP_CV_LEAD c) * Config.us - s.get (F.TIM_SEG_DELAY g) * Config.ns)
  let t := s.latchTime c n
  if s.get (F.CMP_CV_STAT_STATE c) = 1 ∧ s.flag (F.TIM_SEG_CTL_EN g) ∧ (s.cvState c).first ≤ n ∧ s.mayFire (64 + c) t then some (n, t)
  else none

/-- The latch of canvas `c` for frame `n` fires; its time is `t` (R159). -/
def State.latchFires (s : State) (c n t : Nat) : State :=
  let g := s.get (F.CMP_CV_CTL_SEG c)
  let ((order, flat, shown), s) := (s.leapClose).latchSettings c
  let s := s.fired (64 + c) t
  if s.get (F.CMP_CV_STAT_STATE c) ≠ 1 then
    let s := (if !shown && (s.cvState c).ltShown then (s.setCv c { s.cvState c with ltShown := false }).raiseU 149 else s).putB
      (F.CMP_LT_STAT_SHOWN c) shown
    let s := (s.segsOf c).foldl (fun s q => s.sampleBright c q false) s
    ((((s.dropWaiting c).hideLayers c order []).flipSync.leapOpen).cvMaybeOff c).applyIdle
  else
    let dead := !s.flag F.TIM_STAT_LIVE
    let halt := decide (s.get F.FLT_GLB_STAT_STATE = 4)
    let shed := (s.get F.FLT_SHED_CANVASES).testBit c
    let s := if dead then s.inc (F.TIM_SEG_SUPPRESSED g) else s
    let s := s.dropWaiting c
    if dead || shed || s.sec.open_ || (halt && !shown) then
      let s := (s.segsOf c).foldl (fun s q => s.sampleBright c q false) s
      ((((s.putB (F.CMP_LT_STAT_SHOWN c) shown).hideLayers c order []).suppressSegs c n).flipSync).leapOpen
    else
      let p := s.segP g n
      let s := if shown && !(s.cvState c).ltShown then s.raiseU 148 else s
      let s := if !shown && (s.cvState c).ltShown then s.raiseU 149 else s
      let s := (s.setCv c { s.cvState c with ltShown := shown }).putB (F.CMP_LT_STAT_SHOWN c) shown
      let video := if halt then [] else order.filter (fun id => decide (id < 16))
      let s := s.hideLayers c order video
      let (choices, s) := video.foldl (fun (a : List (Nat × Choice) × State) v =>
        let r := a.2.latchLayer c n p v
        (a.1 ++ (match r.1 with | some q => [q] | none => []), r.2)) ([], s)
      let s := (s.segsOf c).foldl (fun s q => s.sampleBright c q shown) s
      let pieces := s.piecesOf c
      let fr : CvFrame := {
        n := n, present := p, conf := s.regs, order := order, flat := flat, choices := choices, lantern := shown
        opaque_ := ((s.cvState c).opaque_.filter (fun q => q.2)).map (fun q => q.1)
        pieces := pieces, lamps := (s.tilesOf c).foldl (fun a t => a + s.get (F.CMP_TILE_SIZE_W t) * s.get (F.CMP_TILE_SIZE_H t)) 0
        rendered := [], blocked := [], curves := s.cal.cache, bypass := s.cal.bypass, filt := s.cmp.filt }
      let s := (s.segsLive c).foldl (fun s q =>
        let st := s.segTime q
        (s.setSegTime q { st with lastPresent := some (match st.lastPresent with | some u => max u p | none => p) }).openSegFrame q n true) s
      let s := s.openTileFrames c fr
      if pieces.isEmpty then (s.dropHolds c n).flipSync.leapOpen
      else ((s.rewatch (fun _ => true) (s.bankWatches c n)).setCv c { s.cvState c with waiting := some fr }).flipSync

/-! ### The order of timed events (R226) -/

/-- The frame boundaries due at or before `t` fire, in ascending segment number. -/
def State.boundariesTo (s : State) (t : Nat) : State :=
  s.segsOn.foldl (fun s g => if s.segT g (s.segN g) ≤ t then s.frameBoundary g else s) s

/-- The latches of the canvases below `c` that are due at or before `t` fire, in ascending canvas number. -/
def State.latchesTo (s : State) (c t : Nat) : State :=
  (List.range c).foldl (fun s d => match s.latchDue d with
    | some (n, u) => if u ≤ t then s.latchFires d n u else s
    | none => s) s

/-- The edges of the outputs below `i` that are due at or before `t` are produced, in ascending output number. -/
def State.edgesTo (s : State) (i t : Nat) : State :=
  (List.range i).foldl (fun s j => if (s.tpo j).live && decide (s.tpoEdge j (s.tpo j).next ≤ t) then s.tpoProduce j else s) s

/-- CANVAS_LATCH (R159): the newest latch of the canvas that is due fires, after the timed events that R226 puts before it. -/
def State.canvasLatch (s : State) (c : Nat) : State :=
  match s.latchDue c with
  | none => s
  | some (_, t) =>
    let s := (s.boundariesTo t).latchesTo c t
    match s.latchDue c with
    | some (n, t) => s.latchFires c n t
    | none => s

/-- Everything that R226 puts before an Almanac time condition due at `t`. -/
def State.timedFirst (s : State) (t : Nat) : State := ((s.boundariesTo t).latchesTo 4 t).edgesTo 8 t

/-- FRAME_BOUNDARY: the boundary of segment `g`, after those of the segments below it that are due by then (R226). -/
def State.boundaryCmd (s : State) (g : Nat) : State :=
  let t := s.segT g (s.segN g)
  let s := (s.segsOn.filter (fun k => decide (k < g))).foldl (fun s k => if s.segT k (s.segN k) ≤ t then s.frameBoundary k else s) s
  s.frameBoundary g

/-- TPO_EDGE: the edge of output `i` that is due, after the timed events that R226 puts before it. -/
def State.tpoEdgeCmd (s : State) (i : Nat) : State :=
  let t := s.tpoEdge i (s.tpo i).next
  if !(s.tpo i).live || decide (s.tim.now < t) then s else (((s.boundariesTo t).latchesTo 4 t).edgesTo i t).tpoProduce i

/-- SEGMENT_IDLE (R235): the segment's IDLE, and the changes that waited for it. -/
def State.segmentIdle (s : State) (g : Nat) : State :=
  if s.flag (F.TIM_SEG_STAT_IDLE g) then s else (s.segIdleCheck g).applyIdle

end Sys2Proof.Machine
end

