-- ==== Sys2Proof/Machine/NetCtl.lean ====
section
/-! DEFINITION. The Ethernet ports at work (R34 to R42, R71): receiving a frame, PAUSE, enabling and disabling a port, what the
ports answer, membership reports, and changes of link. -/

namespace Sys2Proof.Machine

/-! ### Enabling and the link (R37, R71) -/

/-- CAUSE of fault 18: an enabled port without link. -/
def State.linkCause (s : State) : State :=
  s.setCause 18 ((List.range 16).any (fun l =>
    s.portPresent l && s.flag (F.NET_LP_CTL_EN l) && !s.flag (F.NET_LP_STAT_LINK l)))

/-- The IPv6 addresses of a port that it answers for: a conflict stops one (R39). -/
def State.ownIp6 (s : State) (l a : Nat) : Bool :=
  s.flag (F.NET_LP_CTL_IPV6_EN l) &&
    ((decide (a = s.linkLocal l) && !SMap.get (fun _ => false) s.net.dad (2 * l)) ||
     (decide (a = s.portIp6 l) && !SMap.get (fun _ => false) s.net.dad (2 * l + 1)))

/-- An ICMPv6 message with its checksum. -/
def icmp6 (src dst : Nat) (b : Nat → List Byte) : List Byte :=
  b (csum (sum16 (bytesBE 16 src ++ bytesBE 16 dst) + 58 + (b 0).length + sum16 (b 0)))

/-- A duplicate address detection probe for an address of port `l` (R39). -/
def State.dadProbe (s : State) (l a : Nat) : State :=
  let dst := 0xFF02 * 2 ^ 112 + 0x1FF000000 + a % 2 ^ 24
  s.sendBytes l .responder 0 (s.ethHeader l (0x3333FF000000 + a % 2 ^ 24) 0x86DD ++
    ipv6Packet 0 dst 255 58 (icmp6 0 dst (fun c => bytesBE 1 135 ++ bytesBE 1 0 ++ bytesBE 2 c ++ bytesBE 4 0 ++ bytesBE 16 a)))

/-- The probes a port sends when it comes into operation with link (log entry 24). -/
def State.dadProbes (s : State) (l : Nat) : State :=
  if s.portRuns l && s.flag (F.NET_LP_STAT_LINK l) && s.flag (F.NET_LP_CTL_IPV6_EN l) then
    let s := s.dadProbe l (s.linkLocal l)
    if s.portIp6 l = 0 then s else s.dadProbe l (s.portIp6 l)
  else s

/-- EN = 1 is written. -/
def State.portEnable (s : State) (l : Nat) : State :=
  if !s.portPresent l || s.flag (F.NET_LP_CTL_EN l) then s
  else if !s.flag (F.NET_LP_STAT_IDLE l) then s.stick (F.NET_LP_STAT_REENABLE_REFUSED l)
  else
    let s := s.putB (F.NET_LP_CTL_EN l) true
    let s := if s.portRuns l then s.putB (F.NET_LP_STAT_IDLE l) false else s
    (s.linkCause).dadProbes l

/-- A port in operation stops: a frame it is receiving is taken to its end (R37). -/
def State.portStopping (s : State) (l : Nat) : State :=
  if s.portRuns l then { s with net := { s.net with stopAt := SMap.set (fun _ => none) s.net.stopAt l (some s.tim.elapsed) } } else s

/-- EN = 0 is written. -/
def State.portDisable (s : State) (l : Nat) : State := ((s.portStopping l).putB (F.NET_LP_CTL_EN l) false).linkCause

/-- PORT_IDLE: a stopped port holds no frame any more, and the last one it sent has left it. -/
def State.portIdle (s : State) (l : Nat) : State :=
  if s.portRuns l || decide (s.tim.elapsed < SMap.get (fun _ => 0) s.net.txEnd l) then s
  else
    let s := { s with net := { s.net with stopAt := SMap.set (fun _ => none) s.net.stopAt l none } }
    s.putB (F.NET_LP_STAT_IDLE l) true

/-- What a physical port's receiver reports with a change of link or an uncorrectable codeword: corrected codewords and HI_SER are
free values, which no command carries (log entry 49). -/
def State.phyReport (s : State) (p : Nat) : State :=
  if s.flag (F.NET_PHY_CTL_FEC_EN p) && decide (s.get (F.NET_PHY_CTL_MODE p) ≤ 1) then
    let s := s.put (F.NET_PHY_STAT_HI_SER p) (Config.freeNat s.draw)
    (s.used.wr (R.NET_PHY_FEC_CORR p) s.used.unstated).used
  else s

/-- Lock and alignment of the lanes of logical port `l`: in place while it has link, free values once it has lost it (log entry
49). -/
def State.laneReport (s : State) (l : Nat) (up : Bool) : State :=
  let p := l / 4
  let m := s.get (F.NET_PHY_CTL_MODE p)
  let w := if m = 0 then 4 else 1
  let s := s.put ⟨R.NET_PHY_STAT p, if m = 0 then 0 else l % 4, w⟩ (if up then 15 else Config.freeNat s.draw)
  let s := if m = 0 then s.used.put (F.NET_PHY_STAT_ALIGNED p) (if up then 1 else Config.freeNat s.used.draw) else s
  let s := if s.flag (F.NET_PHY_CTL_FEC_EN p) && decide (m ≤ 1) then
      s.used.put (F.NET_PHY_STAT_FEC_LOCKED p) (if up then 1 else Config.freeNat s.used.draw)
    else s
  s.used.phyReport p

/-- A port whose physical port has no clock keeps its link down, and regains it with the clock if it would be up then (R543). -/
def State.linkAwaits (s : State) (l : Nat) (up : Bool) : State :=
  let rest := s.net.clkLost.filter (fun k => decide (k ≠ l))
  { s with net := { s.net with clkLost := if up then rest ++ [l] else rest } }

/-- LINK of a present port changes (R71). -/
def State.linkChange (s : State) (l : Nat) (up : Bool) : State :=
  let clocked := (s.get F.GLB_CLK_STAT_ETH_OK).testBit (l / 4)
  if !s.portPresent l then s
  else if !clocked && (up || !s.flag (F.NET_LP_STAT_LINK l)) then s.linkAwaits l up
  else if s.flag (F.NET_LP_STAT_LINK l) == up then s
  else
    let s := ((s.putB (F.NET_LP_STAT_LINK l) up).laneReport l up).raiseU (64 + l)
    let s := s.linkCause
    if up then s.dadProbes l
    else if s.flag (F.NET_LP_CTL_EN l) then s.faultUnit 18 l else s

/-- FEC_UNCORRECTABLE (R33, R71): fault 19 names the logical port. -/
def State.fecUncorrectable (s : State) (p lane : Nat) : State :=
  let m := s.get (F.NET_PHY_CTL_MODE p)
  if s.flag (F.NET_PHY_CTL_FEC_EN p) && decide (m ≤ 1) then
    ((s.inc (F.NET_PHY_FEC_UNCORR p)).phyReport p).faultUnit 19 (if m = 0 then 4 * p else 4 * p + lane)
  else s

/-! ### PAUSE (R35) -/

/-- A received PAUSE stops transmission for its quanta of 512 bit times, or resumes it. -/
def State.pauseRx (s : State) (l quanta : Nat) : State :=
  let s := s.inc (F.NET_LP_RX_PAUSE l)
  if !s.flag (F.NET_LP_CTL_PAUSE_RX l) then s
  else
    let till := if quanta = 0 then none else some (s.tim.elapsed + quanta * 512 * Config.ns / s.portRate l)
    let s := { s with net := { s.net with pause := SMap.set (fun _ => none) s.net.pause l till } }
    s.putB (F.NET_LP_STAT_PAUSED l) till.isSome

/-- PAUSE_EXPIRY. -/
def State.pauseExpiry (s : State) (l : Nat) : State :=
  if s.portPaused l then s
  else
    ({ s with net := { s.net with pause := SMap.set (fun _ => none) s.net.pause l none } }).putB (F.NET_LP_STAT_PAUSED l) false

/-! ### Receiving a frame (R34, R35, R42, R67) -/

/-- Copy a classified frame into a pool buffer of its owner, or drop it. `body` is its UDP payload where ingest takes it. The
request counts the FCS (the chapter's example). A PTP message is stamped at its first bit, the length of the frame before its end
(R231; log entry 86). -/
def State.rxTake (s : State) (l o : Nat) (f body : List Byte) (sender : Option (Nat × Peer)) : State :=
  let arr := if o = ownPort l then s.tim.now - (f.length + 4) * 8 * Config.ns / s.portRate l else s.tim.now
  let new (s : State) (b : RxBuf) : State := { s with net := { s.net with rx := s.net.rx ++ [b] } }
  match s.takeBuf o (f.length + 4) with
  | (some (k, i), s) =>
    new (s.setBytes (s.bufAddr k i) f) ⟨o, k, s.bufAddr k i, arr, udpAt f, body.length, [], none, sender⟩
  | (none, s) =>
    let s := s.inc (F.NET_LP_RX_DROP_ALLOC l)
    if o < 256 then new s ⟨o, 8, 0, s.tim.now, 0, body.length, body, none, none⟩ else s

/-- Who sent a control message. -/
def RxClass.sender (l : Nat) : RxClass → Option (Nat × Peer)
  | .control _ p => some (l, p)
  | _ => none

/-- The UDP payload that ingest takes of a classified frame. -/
def RxClass.body : RxClass → List Byte
  | .ingest _ b => b
  | _ => []

/-- A PTP message of a type that the PW8 drops: neither Sync, Delay_Req, Follow_Up, Delay_Resp nor Announce (R227). -/
def RxClass.ptpForeign : RxClass → Bool
  | .tim type => !([0, 1, 8, 9, 11].contains type)
  | _ => false

/-- Is a frame of `n` bytes, whose end comes now, received on port `l`: the port runs, or the frame began before the port was
stopped (R37)? -/
def State.receives (s : State) (l n : Nat) : Bool :=
  s.portRuns l ||
    (match SMap.get (fun _ => none) s.net.stopAt l with
      | some t => s.portPresent l && !s.flag (F.NET_LP_STAT_IDLE l) &&
          decide (s.tim.elapsed < t + (n + 8) * 8 * Config.ns / s.portRate l)
      | none => false)

/-- The counter of a frame that is dropped by its class. -/
def RxClass.dropCount (l : Nat) : RxClass → Option Fld
  | .dropFrag => some (F.NET_LP_RX_DROP_FRAG l)
  | .dropCsum => some (F.NET_LP_RX_DROP_CSUM l)
  | .dropNoMatch => some (F.NET_LP_RX_DROP_NOMATCH l)
  | .badControl => some F.SEC_CP_DROPPED
  | .badGang => some F.GNG_RX_DROP
  | _ => none

/-- RX_FRAME. `f` holds the frame from its destination address to the end of its payload; `both` says that both staging
halves were full while it waited. -/
def State.rxFrame (s : State) (l : Nat) (f : List Byte) (fcsOk both : Bool) : State :=
  if !s.receives l (f.length + 4) || !s.flag (F.NET_LP_STAT_LINK l) then s
  else
    let s := if both && s.flag (F.NET_LP_CTL_PAUSE_TX l) then s.sendPause l (s.get (F.NET_LP_PAUSE_QUANTA l)) else s
    let n := f.length + 4
    let s :=
      if n < 64 ∨ 9600 < n then s.inc (F.NET_LP_RX_DROP_LEN l)
      else if !fcsOk then s.inc (F.NET_LP_RX_DROP_FCS l)
      else
        let s := s.inc (F.NET_LP_RX_FRAMES l)
        let c := s.classify l f
        match c.dropCount l with
        | some k => s.inc k
        | none =>
          if c.ptpForeign then s.inc (F.TIM_PORT_RX_DROP l)
          else (c.owners l).foldl (fun s o => s.rxTake l o f c.body (c.sender l)) s
    if both && s.flag (F.NET_LP_CTL_PAUSE_TX l) then s.sendPause l 0 else s

/-! ### What the ports answer (R39) -/

def State.addrMac (bs : List Byte) : Nat := ofBytesBE (bs.take 6)

/-- ARP_REQUEST. -/
def State.arpAnswer (s : State) (l : Nat) (src : List Byte) (senderIp targetIp : Nat) : State :=
  if targetIp ≠ s.rd (R.NET_LP_IPV4 l) then s
  else
    let m := State.addrMac src
    s.sendBytes l .responder 0 (s.ethHeader l m 0x0806 ++ bytesBE 8 0x0001080006040002 ++ bytesBE 6 (s.portMac l) ++
      bytesBE 4 targetIp ++ bytesBE 6 m ++ bytesBE 4 senderIp)

/-- NEIGHBOUR_SOLICITATION: answered with a neighbour advertisement, or a conflict that stops the address. -/
def State.nsAnswer (s : State) (l : Nat) (src : List Byte) (senderIp targetIp : Nat) (conflict : Bool) : State :=
  if !s.ownIp6 l targetIp then s
  else if conflict then
    let k := if targetIp = s.linkLocal l then 2 * l else 2 * l + 1
    let s := { s with net := { s.net with dad := SMap.set (fun _ => false) s.net.dad k true } }
    ((s.putB (F.NET_LP_STAT_DAD_FAIL l) true).setCause 20 true).faultUnit 20 l
  else
    let dst := if senderIp = 0 then 0xFF02 * 2 ^ 112 + 1 else senderIp
    let fl := if senderIp = 0 then 0x20000000 else 0x60000000
    s.sendBytes l .responder 0 (s.ethHeader l (State.addrMac src) 0x86DD ++ ipv6Packet targetIp dst 255 58
      (icmp6 targetIp dst (fun c => bytesBE 1 136 ++ bytesBE 1 0 ++ bytesBE 2 c ++ bytesBE 4 fl ++ bytesBE 16 targetIp ++
        bytesBE 2 0x0201 ++ bytesBE 6 (s.portMac l))))

/-- ECHO_REQUEST: `body` is what follows the checksum of the request. -/
def State.echoAnswer (s : State) (l : Nat) (src : List Byte) (v6 : Bool) (senderIp targetIp : Nat) (body : List Byte) : State :=
  if !s.flag (F.NET_LP_CTL_ICMP_ECHO l) then s
  else if v6 then
    if s.ownIp6 l targetIp then
      s.sendBytes l .responder 0 (s.ethHeader l (State.addrMac src) 0x86DD ++ ipv6Packet targetIp senderIp Config.ttl 58
        (icmp6 targetIp senderIp (fun c => bytesBE 1 129 ++ bytesBE 1 0 ++ bytesBE 2 c ++ body)))
    else s
  else if targetIp = s.rd (R.NET_LP_IPV4 l) then
    let b (c : Nat) := bytesBE 2 0 ++ bytesBE 2 c ++ body
    s.sendBytes l .responder 0 (s.ethHeader l (State.addrMac src) 0x0800 ++ ipv4Packet targetIp senderIp Config.ttl 1
      (b (csum (sum16 (b 0)))))
  else s

/-! ### Membership reports (R40) -/

/-- A report of the compatibility modes: IGMPv1, IGMPv2 or MLDv1, sent to the group. -/
def State.oldReport (s : State) (l : Nat) (v6 : Bool) (version group : Nat) : State :=
  if v6 then
    let src := s.linkLocal l
    s.sendBytes l .responder 0 (s.ethHeader l (groupMac true group) 0x86DD ++ ipv6Alert src group
      (icmp6 src group (fun c => bytesBE 1 131 ++ bytesBE 1 0 ++ bytesBE 2 c ++ bytesBE 4 0 ++ bytesBE 16 group)))
  else
    let b (c : Nat) := bytesBE 1 (if version = 1 then 0x12 else 0x16) ++ bytesBE 1 0 ++ bytesBE 2 c ++ bytesBE 4 group
    s.sendBytes l .responder 0 (s.ethHeader l (groupMac false group) 0x0800 ++
      ipv4Alert (s.rd (R.NET_LP_IPV4 l)) group 2 (b (csum (sum16 (b 0)))))

/-- MEMBERSHIP_QUERY: the memberships of the port that it asks for are reported. -/
def State.queryAnswer (s : State) (l : Nat) (v6 : Bool) (group : Option Nat) (sources : List Nat) (version : Nat) : State :=
  let asked := s.net.groups.filter (fun m => decide (m.port = l) && decide (m.ipv6 = v6) &&
    (match group with | none => true | some g => decide (m.group = g)))
  let old := if v6 then decide (version = 1) else decide (version ≤ 2)
  asked.foldl (fun s m =>
    if old then s.oldReport l v6 version m.group
    else if sources.isEmpty then s.sendReport l v6 m.group (stateRecords m.sources)
    else
      let srcs := match m.sources with | some a => a.filter sources.contains | none => sources
      if srcs.isEmpty then s else s.sendReport l v6 m.group (stateRecords (some srcs))) s

/-- UNSOLICITED_REPORT: the first due report is sent, of the change as it stands now (log entry 93). -/
def State.unsolicited (s : State) : State :=
  match s.net.reports.find? (fun r => decide (r.at_ ≤ s.tim.elapsed)) with
  | none => s
  | some r =>
    let rest := s.net.reports.erase r
    let next := r.at_ + s.get F.NET_IGMP_CTL_UNSOL_INTERVAL * 100 * Config.ms
    let s := { s with net := { s.net with reports := if r.left ≤ 1 then rest else rest ++ [{ r with left := r.left - 1, at_ := next }] } }
    let now := filterOf s.net.groups (r.port, r.ipv6, r.group)
    s.sendReport r.port r.ipv6 r.group (changeRecords r.before now)

end Sys2Proof.Machine
end

