-- ==== Sys2Proof/Machine/Accept.lean ====
section
/-! DEFINITION. What an accepted change does at acceptance (R338): enabling and stopping ingest, stream and encode contexts
(R50, R80, R152), retiring engines (R92), and filing the changes that wait for a latch or a frame boundary. -/

namespace Sys2Proof.Machine

def isIng (off : Nat) : Bool := decide (0x1C0000 ≤ off ∧ off < 0x1C8000)
def isDecCtx (off : Nat) : Bool := decide (0x410000 ≤ off ∧ off < 0x420000)
def isEncCtx (off : Nat) : Bool := decide (0x610000 ≤ off ∧ off < 0x614000)

/-- The bits of an ingest register whose change waits until a stopping context is OFF (R50). -/
def ingKeep (off : Nat) : Nat :=
  let r := off % 0x80
  if r = 0 then 0xE else if r = 0x30 ∨ r = 0x34 ∨ r = 0x38 ∨ r = 0x3C ∨ r = 0x44 then 0xFFFFFFFF else 0

/-- The bits of a stream context's register whose change waits until it is OFF (R80). -/
def decKeep (off : Nat) : Nat :=
  let r := off % 0x100
  if r = 0 then 0x1FFF0E else if 4 ≤ r ∧ r ≤ 0x20 then 0xFFFFFFFF else 0

/-- The bits of an encode context's register whose change waits until it is OFF (R152). -/
def encKeep (off : Nat) : Nat :=
  let r := off % 0x100
  if r = 0 then 0x4E else if r = 0x10 then 0xF10000
  else if r = 4 ∨ r = 8 ∨ r = 0xC ∨ (0x24 ≤ r ∧ r ≤ 0x3C) then 0xFFFFFFFF else 0

/-- Contexts that a list of entries names, of the kind whose registers are `stride` apart from `base`. -/
def ctxsOf (hit : Nat → Bool) (base stride : Nat) (es : List RegEntry) : List Nat :=
  sortBy (fun a b => decide (a ≤ b)) ((es.filter (fun (e : RegEntry) => hit e.off)).map (fun (e : RegEntry) => (e.off - base) / stride)).eraseDups

/-- The value a register takes under a list of entries. -/
def State.laidRd (s : State) (es : List RegEntry) (off : Nat) : Nat :=
  es.foldl (fun v (e : RegEntry) => if e.off = off then overlay e v else v) (s.rd off)

/-- Lay entries, but for the bits of `keep` while the context is not OFF: answers what has to wait. -/
def State.layKeep (s : State) (es : List RegEntry) (isOff : Bool) (keep : Nat → Nat) : List RegEntry × State :=
  if isOff then ([], es.foldl (fun s e => s.lay e) s)
  else
    let held := (es.map (fun (e : RegEntry) => ({ e with mask := e.mask &&& keep e.off } : RegEntry))).filter (fun (e : RegEntry) => decide (e.mask ≠ 0))
    (held, es.foldl (fun s (e : RegEntry) => s.lay { e with mask := e.mask &&& (0xFFFFFFFF ^^^ keep e.off) }) s)

/-- Contexts of `cs` whose EN (bit 0 of the control register `ctl`) falls, or rises, under the entries. -/
def State.falling (s : State) (es : List RegEntry) (ctl : Nat → Nat) (cs : List Nat) : List Nat :=
  cs.filter (fun n => decide (s.rd (ctl n) % 2 = 1 ∧ s.laidRd es (ctl n) % 2 = 0))
def State.rising (s : State) (es : List RegEntry) (ctl : Nat → Nat) (cs : List Nat) : List Nat :=
  cs.filter (fun n => decide (s.rd (ctl n) % 2 = 0 ∧ s.laidRd es (ctl n) % 2 = 1))

/-! ### Ingest contexts -/

/-- EN = 1 of an ingest context is applied (R50, R557). -/
def State.ingEnable (s : State) (n : Nat) : State :=
  if s.flag (F.ING_CTX_STAT_IDLE n) then ((s.ingStart n).decSourceRestart n).encSourceRestart n
  else (s.putB (F.ING_CTX_CTL_EN n) false).stick (F.ING_CTX_STAT_REENABLE_REFUSED n)

/-- The changes of ingest contexts take effect. -/
def State.acceptIng (s : State) (es : List RegEntry) : State :=
  let es := es.filter (fun (e : RegEntry) => isIng e.off)
  if es.isEmpty then s
  else
    let cs := ctxsOf isIng 0x1C0000 0x80 es
    let down := s.falling es R.ING_CTX_CTL cs
    let up := s.rising es R.ING_CTX_CTL cs
    let s := down.foldl (fun s n => (s.putB (F.ING_CTX_CTL_EN n) false).ingStop n) s
    let s := cs.foldl (fun s n =>
      let mine := es.filter (fun (e : RegEntry) => decide ((e.off - 0x1C0000) / 0x80 = n))
      let (held, s) := s.layKeep mine (decide (s.get (F.ING_CTX_STAT_STATE n) = 0)) ingKeep
      if held.isEmpty then s else s.setIng n { s.ingCtx n with deferred := (s.ingCtx n).deferred ++ held }) s
    (up.foldl (fun s n => s.ingEnable n) s).regroup

/-! ### Stream and encode contexts: placement by COMMIT (R82, R83, R132) -/

/-- Admission of the running stream contexts, with `shed` the shed ones too, and of `up`, which a COMMIT enables. -/
def State.decCommitAdmit (s : State) (up : List Nat) (shed byCommit : Bool) : List AdmJob × Admission :=
  let js := (((s.decSet shed).filter (fun n => !up.contains n)) ++ up).map (fun n => s.decJob n)
  let cap := Q.ofNat (s.get F.DEC_GLB_CAP_SAMPLES * 1000000)
  (js, admission cap s.decEngines js (fun n => if up.contains n then [] else s.decPlan n) byCommit)

def State.encCommitAdmit (s : State) (up : List Nat) (shed byCommit : Bool) : List AdmJob × Admission :=
  let js := (((s.encSet shed).filter (fun n => !up.contains n)) ++ up).map (fun n => s.encJob n)
  let cap := Q.ofNat (s.get F.ENC_GLB_CAP_SAMPLES * 1000000)
  (js, admission cap s.encEngines js (fun n => if up.contains n then [] else s.encPlan n) byCommit)

/-- Engines that an admission outcome gives a context. -/
def Admission.of (a : Admission) (n : Nat) : List Nat :=
  match a with
  | .placed pl => pl.of n
  | .some_ pl => pl.of n
  | .refused _ _ => []

/-- Start the stream contexts that a COMMIT enables, and place the contexts in one admission run; `moved` says that engines left
or returned with the same COMMIT, and `shed` that one returned (R83, R338). -/
def State.decStarts (s : State) (up : List Nat) (moved shed : Bool) : State :=
  let ok := up.filter (fun n => s.flag (F.DEC_CTX_STAT_IDLE n))
  let s := (up.filter (fun n => !ok.contains n)).foldl (fun s n =>
    (s.putB (F.DEC_CTX_CTL_EN n) false).stick (F.DEC_CTX_STAT_REENABLE_REFUSED n)) s
  if ok.isEmpty && !moved then s.decLoads
  else
    let (js, a) := s.decCommitAdmit ok shed false
    (ok.foldl (fun s n => s.decStart n (a.of n)) s).decApply js a

def State.encStarts (s : State) (up : List Nat) (moved shed : Bool) : State :=
  let ok := up.filter (fun n => s.flag (F.ENC_CTX_STAT_IDLE n))
  let s := (up.filter (fun n => !ok.contains n)).foldl (fun s n =>
    (s.putB (F.ENC_CTX_CTL_EN n) false).stick (F.ENC_CTX_STAT_REENABLE_REFUSED n)) s
  if ok.isEmpty && !moved then s.encLoads
  else
    let (js, a) := s.encCommitAdmit ok shed false
    (ok.foldl (fun s n => s.encStart n (a.of n)) s).encApply js a

/-- The changes of stream contexts take effect (R79 to R81). -/
def State.acceptDec (s : State) (es : List RegEntry) (moved shed : Bool) : State :=
  let es := es.filter (fun (e : RegEntry) => isDecCtx e.off)
  if es.isEmpty && !moved then s
  else
    let cs := ctxsOf isDecCtx 0x410000 0x100 es
    let down := s.falling es R.DEC_CTX_CTL cs
    let up := s.rising es R.DEC_CTX_CTL cs
    let was := s.decEngines
    let s := (down.foldl (fun s n => (s.putB (F.DEC_CTX_CTL_EN n) false).decStop n) s).decLeave
    let moved := moved || decide (s.decEngines ≠ was)
    let s := cs.foldl (fun s n =>
      let mine := es.filter (fun (e : RegEntry) => decide ((e.off - 0x410000) / 0x100 = n))
      let (held, s) := s.layKeep mine (decide (s.get (F.DEC_CTX_STAT_STATE n) = 0)) decKeep
      if held.isEmpty then s else s.setDec n { s.decCtx n with deferred := (s.decCtx n).deferred ++ held }) s
    s.decStarts up moved shed

/-- The changes of encode contexts take effect (R133, R152). -/
def State.acceptEnc (s : State) (es : List RegEntry) (moved shed : Bool) : State :=
  let es := es.filter (fun (e : RegEntry) => isEncCtx e.off)
  if es.isEmpty && !moved then s
  else
    let cs := ctxsOf isEncCtx 0x610000 0x100 es
    let down := s.falling es R.ENC_CTX_CTL cs
    let up := s.rising es R.ENC_CTX_CTL cs
    let was := s.encEngines
    let s := (down.foldl (fun s n => (s.putB (F.ENC_CTX_CTL_EN n) false).encStop n) s).encLeave
    let moved := moved || decide (s.encEngines ≠ was)
    let s := cs.foldl (fun s n =>
      let mine := es.filter (fun (e : RegEntry) => decide ((e.off - 0x610000) / 0x100 = n))
      let (held, s) := s.layKeep mine (decide (s.get (F.ENC_CTX_STAT_STATE n) = 0)) encKeep
      if held.isEmpty then s else s.setEnc n { s.encCtx n with deferred := (s.encCtx n).deferred ++ held }) s
    s.encStarts up moved shed

/-! ### Engines (R92, R132) -/

/-- DEC_ENG_CTL.RETIRE of engine `e` is applied; `old` is the word before. A retired engine leaves once it runs no picture. -/
def State.decRetireSet (s : State) (e old : Nat) : State :=
  if old % 2 = 1 ∧ !s.flag (F.DEC_ENG_CTL_RETIRE e) then
    if s.flag (F.DEC_ENG_STAT_IN_SERVICE e) then s
    else if s.flag (F.DEC_ENG_STAT_BUSY e) then
      (s.putB (F.DEC_ENG_CTL_RETIRE e) true).stick (F.DEC_ENG_STAT_REENABLE_REFUSED e)
    else if s.flag (F.DEC_ENG_STAT_RETIRED_FAULT e) || s.flag (F.DEC_ENG_STAT_SUSPECT e) || s.dec.checking.contains e then s
    else s.putB (F.DEC_ENG_STAT_IN_SERVICE e) true
  else s

/-- ENC_ENG_CTL.RETIRE of engine `e` is applied; `old` is the word before. A retired engine leaves once it runs no picture. -/
def State.encRetireSet (s : State) (e old : Nat) : State :=
  if old % 2 = 1 ∧ !s.flag (F.ENC_ENG_CTL_RETIRE e) then
    if s.flag (F.ENC_ENG_STAT_IN_SERVICE e) then s
    else if s.flag (F.ENC_ENG_STAT_BUSY e) then
      (s.putB (F.ENC_ENG_CTL_RETIRE e) true).stick (F.ENC_ENG_STAT_REENABLE_REFUSED e)
    else if s.flag (F.ENC_ENG_STAT_RETIRED_FAULT e) || s.flag (F.ENC_ENG_STAT_SUSPECT e) then s
    else s.putB (F.ENC_ENG_STAT_IN_SERVICE e) true
  else s

/-- 1 written to ENC_ENG_STAT.RETIRED_FAULT: the engine returns to service and admission runs (R92, R153). -/
def State.encEngineReturn (s : State) (e : Nat) : State :=
  if !s.flag (F.ENC_ENG_STAT_RETIRED_FAULT e) then s
  else
    let s := s.putB (F.ENC_ENG_STAT_RETIRED_FAULT e) false
    if s.flag (F.ENC_ENG_CTL_RETIRE e) then s
    else ((s.putB (F.ENC_ENG_STAT_IN_SERVICE e) true).raise 5 (4096 + e)).encAdmit true none

/-- What a changed register outside the contexts brings about at acceptance. -/
def State.acceptHook (s : State) (off old : Nat) : State :=
  if 0x401000 ≤ off ∧ off < 0x401400 ∧ off % 64 = 0 then s.decRetireSet ((off - 0x401000) / 64) old
  else if 0x601000 ≤ off ∧ off < 0x601100 ∧ off % 64 = 0 then s.encRetireSet ((off - 0x601000) / 64) old
  else if 0x101000 ≤ off ∧ off < 0x102000 ∧ 0x20 ≤ off % 0x100 ∧ off % 0x100 < 0x30 then
    let l := (off - 0x101000) / 0x100
    if s.rd off = old then s else { s with net := { s.net with dad := SMap.set (fun _ => false) s.net.dad (2 * l + 1) false } }
  else s

/-! ### Acceptance -/

/-- Is a change filed for a latch or a frame boundary (R338)? -/
def isLater (off : Nat) : Bool := isCmp off || isCal off || isOut off || isTim off

/-- The changes of all blocks but CMP, CAL, TIM and OUT take effect together. -/
def State.acceptNow (s : State) (es : List RegEntry) : State :=
  let ctx := fun (e : RegEntry) => isIng e.off || isDecCtx e.off || isEncCtx e.off
  let plain := es.filter (fun (e : RegEntry) => !ctx e)
  let olds := ((plain.map (fun (e : RegEntry) => e.off)).eraseDups).map (fun o => (o, s.rd o))
  let s := plain.foldl (fun s e => s.lay e) s
  let dec := s.decEngines
  let enc := s.encEngines
  let s := ((olds.foldl (fun s p => s.acceptHook p.1 p.2) s).decLeave).encLeave
  let back := fun (now was : List Nat) => now.any (fun e => !was.contains e)
  let s := (s.acceptIng es).acceptDec es (decide (s.decEngines ≠ dec)) (back s.decEngines dec)
  s.acceptEnc es (decide (s.encEngines ≠ enc)) (back s.encEngines enc)

/-- CMP_GLB_LT_MASK is one register of four canvases: its entries are filed by bit. -/
def splitMask (e : RegEntry) : List RegEntry :=
  if e.off = R.CMP_GLB_LT_MASK then ((List.range 4).filter (fun c => e.mask.testBit c)).map (fun c => { e with mask := 2 ^ c })
  else [e]

/-- Is the entry TIM_SEG_CTL.EN = 0, which takes effect at acceptance (R338)? -/
def isSegOff (e : RegEntry) : Bool :=
  decide (0x82000 ≤ e.off ∧ e.off < 0x82800 ∧ e.off % 0x20 = 0) && e.mask.testBit 0 && !e.val.testBit 0

/-- Tiles whose enable the entries raise. -/
def State.tilesRising (s : State) (es : List RegEntry) : List Nat :=
  ((es.filter (fun (e : RegEntry) => decide (0x740000 ≤ e.off ∧ e.off < 0x748000 ∧ e.off % 8 = 0) && e.mask.testBit 31)).map
    (fun (e : RegEntry) => (e.off - 0x740000) / 8)).eraseDups.filter (fun t =>
      !(s.pendingRd (R.CMP_TILE_POS t)).testBit 31 && (s.laidRd es (R.CMP_TILE_POS t)).testBit 31)

/-- Is an entry the position register of a tile of a list? -/
def gateHit (gated : List Nat) (e : RegEntry) : Bool :=
  decide (0x740000 ≤ e.off ∧ e.off < 0x748000 ∧ e.off % 8 = 0) && gated.contains ((e.off - 0x740000) / 8)

/-- What is left of waiting entries once later changes `es` of the same fields have been accepted (R338). -/
def superseded (old es : List RegEntry) : List RegEntry :=
  let newer := fun (o : Nat) => (es.filter (fun (e : RegEntry) => decide (e.off = o))).foldl (fun (a : Nat) (e : RegEntry) => a ||| e.mask) 0
  (old.map (fun (e : RegEntry) => (⟨e.off, e.mask &&& (0xFFFFFFFF ^^^ newer e.off), e.val⟩ : RegEntry))).filter
    (fun (e : RegEntry) => decide (e.mask ≠ 0))

/-- The waiting changes without those that later changes `es` replace (R338). -/
def State.supersede (s : State) (es : List RegEntry) : State :=
  let jobs := s.cal.jobs.map (fun (j : CurveJob) => { j with entries := superseded j.entries es })
  let left := jobs.filter (fun (j : CurveJob) => !j.entries.isEmpty)
  { s with
    ctl := { s.ctl with accepted := superseded s.ctl.accepted es }
    cal := { s.cal with jobs := left } }

/-- A write of an enable that waits for start-up takes its place: `mask` holds the bits that the write reaches (R14). -/
def State.dropDue (s : State) (off mask : Nat) : State :=
  if s.nvm.deferred.any (fun (e : RegEntry) => decide (e.off = off) && decide (e.mask &&& mask ≠ 0)) then
    { s with nvm := { s.nvm with deferred := s.nvm.deferred.filter (fun (e : RegEntry) => !(decide (e.off = off) && decide (e.mask &&& mask ≠ 0))) } }
  else s

/-- An accepted COMMIT (R337, R338): `gated` are the tiles whose curve the COMMIT reads and whose enable waits for it, and
`tables` the curve tables read (R203, R204). -/
def State.acceptCommit (s : State) (es : List RegEntry) (gated tables : List Nat) : State :=
  let es := netEntries es
  let s := es.foldl (fun (s : State) (e : RegEntry) => s.dropDue e.off e.mask) s
  let s := s.acceptNow (es.filter (fun (e : RegEntry) => !isLater e.off))
  let later := (es.filter (fun (e : RegEntry) => isLater e.off)).flatMap splitMask
  let later := later.flatMap (fun (e : RegEntry) => if gateHit gated e then [{ e with mask := e.mask &&& 2 ^ 31 }, { e with mask := e.mask % 2 ^ 31 }] else [e])
  let calE := fun (e : RegEntry) => isCal e.off || (gateHit gated e && e.mask.testBit 31)
  let cal := later.filter calE
  let rest := later.filter (fun (e : RegEntry) => !calE e && !isSegOff e)
  let s := (s.supersede later).applyData (later.filter isSegOff)
  let s := { s with ctl := { s.ctl with accepted := s.ctl.accepted ++ rest } }
  let s := if cal.isEmpty then s
    else
      let s := { s with cal := { s.cal with jobs := s.cal.jobs ++ [(⟨tables, true, cal⟩ : CurveJob)] } }
      cal.foldl (fun s (e : RegEntry) => match tileOf e.off with | some t => s.putB (F.CAL_TILE_STAT_PENDING t) true | none => s) s
  (s.applyIdle).memLoads

end Sys2Proof.Machine
end

