-- ==== Sys2Proof/Machine/EncCopy.lean ====
section
/-! DEFINITION. Source pictures of the encode taps that are copied or written to the source buffer (R123, R126, R128): the copies, and
the offers of the canvas and graphic taps. -/

namespace Sys2Proof.Machine

/-- The lowest slot of the source buffer that no picture of the context uses (R128; log entry 16). -/
def State.encFillSlot (s : State) (n : Nat) : Nat :=
  let c := s.encCtx n
  let used := (c.offers ++ c.waiting.toList ++ c.filling.toList ++ (c.run.map (fun r => r.src)).toList).filterMap (fun p => p.buf)
  ((List.range 3).find? (fun k => !used.contains k)).getD 2

/-- ENC_SOURCE_COPY_DONE (R126): the copy into the filling slot is complete. -/
def State.encCopyDone (s : State) (n : Nat) : State :=
  match (s.encCtx n).filling with
  | none => s
  | some p =>
    let slot := p.buf.getD 0
    let s := if s.get (F.ENC_CTX_SRC_KIND n) = 1 then s.encFill n slot (s.get (F.ENC_CTX_SRC_SCALE n)) (s.decodedTap n p)
      else s.encFill n slot 0 (s.graphicTap p.conf n (s.get (F.ENC_CTX_SRC_INDEX n)))
    let s := s.setEnc n { s.encCtx n with filling := none }
    if s.get (F.ENC_CTX_STAT_STATE n) = 1 then s.encWait n p
    else if s.get (F.ENC_CTX_STAT_STATE n) = 2 then s.encSkip n (F.ENC_CTX_SKIPPED n)
    else s.encMaybeOff n

/-- ENC_SOURCE_PICTURE with the source slot of a copy chosen (R123, R128). -/
def State.encSourceCmd (s : State) (n : Nat) : State :=
  let slot := s.encFillSlot n
  let was := (s.encCtx n).filling.isSome
  let s := s.encSource n
  let c := s.encCtx n
  match c.filling with
  | some p => if was then s else s.setEnc n { c with filling := some { p with buf := some slot } }
  | none => s

/-- The encode contexts that tap source `i` of a kind now. -/
def State.encTaps (s : State) (kind i : Nat) : List Nat :=
  (List.range 64).filter (fun e => decide (s.get (F.ENC_CTX_STAT_STATE e) ∈ [1, 2]) &&
    decide (s.get (F.ENC_CTX_SRC_KIND e) = kind) && decide (s.get (F.ENC_CTX_SRC_INDEX e) = i))

/-- Look at every picture that is offered and can be taken. -/
def State.encTakeAll (s : State) (e : Nat) : Nat → State
  | 0 => s
  | k + 1 => if (s.encCtx e).offers.isEmpty then s else (s.encSource e).encTakeAll e k

/-- A canvas frame is complete: encode context `e` is offered the picture of its canvas or graphic tap (R123, R148). One that will be
taken without a copy step is written to its slot now, after those before it have been taken. -/
def State.encOfferFrame (s : State) (e : Nat) (fr : CvFrame) (pic : TapPic) : State :=
  let s := s.encTakeAll e ((s.encCtx e).offers.length + 1)
  let c := s.encCtx e
  let take := decide ((c.seen + c.offers.length) % (s.get (F.ENC_CTX_SRC_DIV e) + 1) = 0)
  let graphic := decide (s.get (F.ENC_CTX_SRC_KIND e) = 3)
  let now := take && !(graphic && decide (0 < s.get (F.ENC_CTX_SRC_SCALE e)))
  let slot := s.encFillSlot e
  let s := if now then s.encFill e slot 0 pic else s
  s.encOffer e { ts := fr.present * 90000 / Config.sec % 2 ^ 32, time := fr.present, concealed := false, damaged := false,
                 rec_ := none, slot := 0, record := [], buf := if now then some slot else none,
                 conf := if graphic then fr.conf else [] }

/-- TILE_PIECE_COMPOSED with what the canvas pipe writes for the encode taps (R123, R160). -/
def State.pieceCmd (s : State) (c : Nat) (bad : Bool) : State :=
  match (s.cvState c).cur with
  | none => s
  | some fr =>
    let s' := s.composePiece c bad
    if s'.cal.pieces.length = s.cal.pieces.length then s'
    else
      match s'.cal.pieces.getLast? with
      | none => s'
      | some p =>
        let tapped := !(s'.encTaps 2 c).isEmpty
        let s' := if tapped then
            s'.setCv c { s'.cvState c with taps := (p.rect.points.zip p.lamps).foldl (fun m (q : (Nat × Nat) × (Nat × Nat × Nat)) =>
              SMap.ins (q.1.2 * 65536 + q.1.1) q.2 m) (s'.cvState c).taps }
          else s'
        if p.last then
          let s' := (s'.encTaps 2 c).foldl (fun s e => s.encOfferFrame e fr (s.canvasTap e c)) s'
          let s' := ((List.range 48).filter (fun g => fr.order.contains (16 + g))).foldl (fun s g =>
            (s.encTaps 3 g).foldl (fun s e => s.encOfferFrame e fr (s.graphicTap fr.conf e g)) s) s'
          s'.setCv c { s'.cvState c with taps := [] }
        else s'

end Sys2Proof.Machine
end

