-- ==== Sys2Proof/Machine/Checks.lean ====
section
/-! DEFINITION. The checks of a COMMIT and of a configuration image (R21, R337, R477): each looks at the registers that would
result and names a status and the registers to blame. The first failing check decides (log entry 25). -/

namespace Sys2Proof.Machine

/-- A failed check: its status and the registers that may have caused it. -/
abbrev Bad := Option (Nat × (Nat → Bool))

def span (lo n off : Nat) : Bool := decide (lo ≤ off) && decide (off < lo + n)

/-- The registers of ingest context, stream context and encode context `n`. -/
def ingRegs (n : Nat) : Nat → Bool := span (0x1C0000 + n * 0x80) 0x80
def decRegs (n : Nat) : Nat → Bool := span (0x410000 + n * 0x100) 0x100
def encRegs (n : Nat) : Nat → Bool := span (0x610000 + n * 0x100) 0x100
def cvRegs (c : Nat) : Nat → Bool := span (0x701000 + c * 0x400) 0x400
def ltRegs (c : Nat) : Nat → Bool := span (0x702000 + c * 0x100) 0x58
def vlRegs (v : Nat) : Nat → Bool := span (0x710000 + v * 0x100) 0x100
def glRegs (g : Nat) : Nat → Bool := span (0x720000 + g * 0x100) 0x100
def tileCmp (t : Nat) : Nat → Bool := span (0x740000 + t * 8) 8
def tileCal (t : Nat) : Nat → Bool := span (0x780000 + t * 0x20) 0x20
def tileOut (t : Nat) : Nat → Bool := span (0x7C0000 + t * 0x20) 0x20
def segTim (g : Nat) : Nat → Bool := span (0x82000 + g * 0x20) 0x20
def segOut (g : Nat) : Nat → Bool := span (0x7F0000 + g * 0x40) 0x40
def portOut (l : Nat) : Nat → Bool := span (0x7F4000 + l * 0x100) 0x100
def anyReg (_ : Nat) : Bool := true

/-- A check over a list: the first element that fails. -/
def badOf (xs : List Nat) (status : Nat) (regs : Nat → Nat → Bool) (bad : Nat → Bool) : Bad :=
  (xs.find? bad).map (fun x => (status, regs x))

def badIf (b : Bool) (status : Nat) (regs : Nat → Bool) : Bad := if b then some (status, regs) else none

/-- The first failing check of a list. -/
def firstBad (l : List Bad) : Bad := l.findSome? id

/-- The registers that would result: enables that wait for start-up, every change accepted and not yet in effect, then the
staged entries (R337, R464). -/
def State.resultOf (s : State) (es : List RegEntry) : State :=
  let held := (s.ing.flatMap (fun p => p.2.deferred)) ++ (s.dec.ctx.flatMap (fun p => p.2.deferred)) ++
    (s.enc.ctx.flatMap (fun p => p.2.deferred))
  (s.nvm.deferred ++ held ++ s.ctl.accepted ++ s.cal.jobs.flatMap (fun (j : CurveJob) => j.entries) ++ es).foldl (fun s e => s.lay e) s

/-- Does an entry change a bit of `keep` of its register? -/
def State.changes (s : State) (keep : Nat → Nat) (e : RegEntry) : Bool :=
  decide (overlay { e with mask := e.mask &&& keep e.off } (s.rd e.off) ≠ s.rd e.off)

/-- Does a COMMIT apply EN = 0 to the register `ctl`? -/
def appliesOff (es : List RegEntry) (ctl : Nat) : Bool :=
  match (es.filter (fun (e : RegEntry) => decide (e.off = ctl) && e.mask.testBit 0)).getLast? with
  | some e => !e.val.testBit 0
  | none => false

/-- CONTEXT_ACTIVE: a restricted change of a context that is not OFF, without EN = 0 (R50, R80, R152). -/
def State.activeBad (s : State) (es : List RegEntry) (hit : Nat → Bool) (base stride : Nat) (isOff : Nat → Bool)
    (keep : Nat → Nat) : Bad :=
  (es.find? (fun (e : RegEntry) => hit e.off && s.changes keep e &&
    !isOff ((e.off - base) / stride) && !appliesOff es (base + (e.off - base) / stride * stride))).map
    (fun (e : RegEntry) => (0x42, fun o => decide (o = e.off)))

/-! ### Limits of the device (R20 to R22, R156) -/

def State.capacityBad (k : State) : Bad :=
  let lamps := k.tilesOn.foldl (fun a t => a + k.get (F.CMP_TILE_SIZE_W t) * k.get (F.CMP_TILE_SIZE_H t)) 0
  let area := (List.range 4).foldl (fun a c => if k.flag (F.CMP_CV_CTL_EN c) then
    a + k.get (F.CMP_CV_SIZE_W c) * k.get (F.CMP_CV_SIZE_H c) else a) 0
  firstBad [badIf (decide (2 ^ 25 < lamps)) 0x31 (span 0x740000 0x8000),
    badIf ((Q.ofNat 2013265920).lt (k.lampRate false)) 0x31 (fun o => span 0x740000 0x8000 o || span 0x82000 0x800 o || span 0x7C0000 0x20000 o),
    badIf (decide (2 ^ 25 < area)) 0x31 (span 0x701000 0x1000)]

/-! ### Ingest (R31, R41, R50, R51, R72) -/

/-- The FIFO of an ingest context in its partition: first and last byte. -/
def State.fifoRange (k : State) (n : Nat) : Nat × Nat :=
  let a := k.get (F.ING_CTX_FIFO_BASE n) * 2048
  (a, a + 2 * k.bankBytes n)

def State.ingBad (s k : State) (es : List RegEntry) : Bad :=
  let on := k.ingOn
  let named := ctxsOf isIng 0x1C0000 0x80 es
  let all := (on ++ named).eraseDups
  firstBad [
    badOf all 0x43 ingRegs (fun n => decide (5 ≤ k.get (F.ING_CTX_CTL_KIND n))),
    badOf all 0x44 ingRegs (fun n => !k.portPresent (k.get (F.ING_CTX_CTL_PORT n))),
    badOf all 0x31 ingRegs (fun n => decide (k.get (F.ING_CTX_ESB_SIZE n) < 16 ∨ 65536 < k.get (F.ING_CTX_ESB_SIZE n))),
    s.activeBad es isIng 0x1C0000 0x80 (fun n => decide (s.get (F.ING_CTX_STAT_STATE n) = 0)) ingKeep,
    badOf on 0x31 ingRegs (fun n => decide (2 ^ 23 < (k.fifoRange n).2)),
    badOf on 0x41 ingRegs (fun n => on.any (fun m => decide (m ≠ n) &&
      decide ((k.fifoRange n).1 < (k.fifoRange m).2 ∧ (k.fifoRange m).1 < (k.fifoRange n).2))),
    badIf (decide (1024 < k.memberships.length)) 0x40 (fun o => isIng o || isTim o)]

/-! ### Decoding (R74, R79, R80, R82) -/

/-- Status of an admission run that refuses. -/
def admStatus (base : Nat) (a : Admission) : Option (Nat × Nat) :=
  match a with
  | .refused i f => some (i, base + f)
  | _ => none

def State.decBad (s k : State) (es : List RegEntry) : Bad :=
  let cs := ctxsOf isDecCtx 0x410000 0x100 es
  let up := (s.rising es R.DEC_CTX_CTL cs).filter (fun n => s.flag (F.DEC_CTX_STAT_IDLE n))
  let down := s.falling es R.DEC_CTX_CTL cs
  let ing := fun n => k.get (F.DEC_CTX_CTL_SRC_ING n)
  let quit := down.foldl (fun s n => s.put (F.DEC_CTX_STAT_STATE n) 4) k
  firstBad [
    s.activeBad es isDecCtx 0x410000 0x100 (fun n => decide (s.get (F.DEC_CTX_STAT_STATE n) = 0)) decKeep,
    badOf up 0x53 decRegs (fun n => decide (k.get (F.ING_CTX_CTL_DEST (ing n)) ≠ n) || decide (k.get (F.ING_CTX_CTL_KIND (ing n)) = 4)),
    badOf up 0x56 decRegs (fun n => k.flag (F.DEC_CTX_CTL_DL_MODE n) && decide (k.get (F.ING_CTX_CTL_KIND (ing n)) = 2)),
    badOf up 0x55 decRegs (fun n => k.flag (F.DEC_CTX_CTL_CODEC n) && decide (k.get (F.DEC_CTX_FMT_CHROMA n) = 2)),
    badOf up 0x57 decRegs (fun n => decide (k.get (F.DEC_CTX_DIM_MAX_W n) = 0 ∨ k.get (F.DEC_CTX_DIM_MAX_H n) = 0 ∨
      k.get (F.DEC_CTX_RATE_NUM n) = 0 ∨ k.get (F.DEC_CTX_RATE_DEN n) = 0)),
    badOf up 0x52 decRegs (fun n => decide (8192 < k.get (F.DEC_CTX_DIM_MAX_W n) ∨ 4352 < k.get (F.DEC_CTX_DIM_MAX_H n))),
    badOf up 0x54 decRegs (fun n =>
      let slots := k.get (F.DEC_CTX_FMT_SLOTS n)
      let lg := k.get (F.DEC_CTX_FMT_REC_LOG2 n)
      decide (slots < 4 ∨ 20 < slots ∨ lg < 4 ∨ 8 < lg) ||
        !k.inDram (k.decStore n).base (slots * (k.decStore n).slotBytes) || !k.inDram (k.decRecBase n) (64 * 2 ^ lg)),
    if up.isEmpty then none
    else (admStatus 0x50 (quit.decCommitAdmit up false true).2).map (fun p => (p.2, decRegs p.1))]

/-! ### Encoding (R123, R129, R130, R132, R133, R143, R152) -/

/-- Does the level of R130 stay at 6.2 or below? The limits are those of H.265 Table A.8 (log entry 26). -/
def State.encLevelOk (k : State) (n : Nat) : Bool := (k.encLevel n).isSome

/-- The limits of R143: none when they hold, else the status. -/
def State.encCapBad (k : State) (n : Nat) : Option Nat :=
  let m := Q.ofNat (k.encCmin n (k.encJob n).engines * 8)
  let cap := Q.ofNat (k.rd (R.ENC_CTX_CAP n) * 8)
  let mode := k.get (F.ENC_CTX_CTL_RC_MODE n)
  if cap.lt m then some 0x63
  else if mode = 0 ∧ (cap.lt ((k.encN n).plus (Q.ofNat 64)) ∨ (k.encN n).lt m) then some 0x63
  else if mode = 1 ∧ (k.encNd n).lt m then some 0x63
  else if mode = 1 ∧ k.get (F.ENC_CTX_RC_RATE_MAXRATE n) < k.get (F.ENC_CTX_RC_RATE_BITRATE n) then some 0x65
  else none

def State.encBad (s k : State) (es : List RegEntry) : Bad :=
  let cs := ctxsOf isEncCtx 0x610000 0x100 es
  let up := (s.rising es R.ENC_CTX_CTL cs).filter (fun n => s.flag (F.ENC_CTX_STAT_IDLE n))
  let down := s.falling es R.ENC_CTX_CTL cs
  let on := cs.filter (fun n => k.flag (F.ENC_CTX_CTL_EN n))
  let quit := down.foldl (fun s n => s.put (F.ENC_CTX_STAT_STATE n) 3) k
  firstBad [
    badOf cs 0x65 encRegs (fun n => decide (k.get (F.ENC_CTX_CTL_PROFILE n) = 3 ∨ k.get (F.ENC_CTX_CTL_RC_MODE n) = 3 ∨
      k.get (F.ENC_CTX_SRC_TF n) = 3)),
    badOf cs 0x44 encRegs (fun n => !k.portPresent (k.get (F.ENC_CTX_TX_CTL_PORT n))),
    badOf cs 0x66 encRegs (fun n => decide (k.get (F.ENC_CTX_BSB_SIZE n) < 16 ∨ 65536 < k.get (F.ENC_CTX_BSB_SIZE n))),
    s.activeBad es isEncCtx 0x610000 0x100 (fun n => decide (s.get (F.ENC_CTX_STAT_STATE n) = 0)) encKeep,
    badOf up 0x62 encRegs (fun n =>
      let i := k.get (F.ENC_CTX_SRC_INDEX n)
      let kind := k.get (F.ENC_CTX_SRC_KIND n)
      (decide (kind = 0) && (decide (k.get (F.ING_CTX_CTL_KIND i) ≠ 4) || decide (k.get (F.ING_CTX_CTL_DEST i) ≠ n))) ||
        decide (kind = 2 ∧ 4 ≤ i) || decide (kind = 3 ∧ 48 ≤ i)),
    badOf on 0x65 encRegs (fun n =>
      let w := k.get (F.ENC_CTX_DIM_W n)
      let h := k.get (F.ENC_CTX_DIM_H n)
      decide (w % 8 ≠ 0 ∨ w < 256 ∨ 8192 < w ∨ h % 8 ≠ 0 ∨ h < 64 ∨ 4352 < h ∨ k.get (F.ENC_CTX_RATE_DEN n) = 0 ∨
        k.get (F.ENC_CTX_RC_QP_QP_MAX n) < k.get (F.ENC_CTX_RC_QP_QP_MIN n)) ||
        decide (k.rd (R.ENC_CTX_TX_PAY n) < 256 ∨ 8912 < k.rd (R.ENC_CTX_TX_PAY n))),
    badOf on 0x66 encRegs (fun n =>
      (decide (k.get (F.ENC_CTX_SRC_KIND n) ≠ 0) && !k.inDram (k.encStore n).base (3 * (k.encStore n).slotBytes)) ||
        !k.inDram (k.rd (R.ENC_CTX_REF_HI n) % 16 * 2 ^ 32 + k.rd (R.ENC_CTX_REF_LO n)) ((k.get (F.ENC_CTX_GOP_NUM_REF n) + 2) * k.encRefBytes n) ||
        !k.inDram (k.encBsbBase n) (k.encBsbSize n) ||
        !k.inDram (k.rd (R.ENC_CTX_ROI_HI n) % 16 * 2 ^ 32 + k.rd (R.ENC_CTX_ROI_LO n)) 1024),
    (on.find? (fun n => (k.encCapBad n).isSome)).bind (fun n => (k.encCapBad n).map (fun st => (st, encRegs n))),
    badOf on 0x64 encRegs (fun n => !k.encLevelOk n),
    if up.isEmpty then none
    else (admStatus 0x60 (quit.encCommitAdmit up false true).2).map (fun p => (if p.2 = 0x60 then 0x60 else 0x61, encRegs p.1))]

/-! ### Composition (R156 to R158, R165, R169, R172, R176 to R178, R182, R186, R188, R192) -/

/-- Units of one frame period of a segment, as a rational. -/
def State.framePeriod (k : State) (g : Nat) : Q :=
  Q.frac (k.get (F.TIM_SEG_RATE_DEN g) * unitsPerSec) (k.get (F.TIM_SEG_RATE_NUM g))

/-- Have two segments the same frame rate and present times (R158)? -/
def State.sameTiming (k : State) (a b : Nat) : Bool :=
  decide (k.get (F.TIM_SEG_RATE_NUM a) * k.get (F.TIM_SEG_RATE_DEN b) = k.get (F.TIM_SEG_RATE_NUM b) * k.get (F.TIM_SEG_RATE_DEN a)) &&
    decide (k.get (F.TIM_SEG_DELAY a) = k.get (F.TIM_SEG_DELAY b))

/-- Address of a layer's filter table. -/
def State.filtAddr (k : State) (v : Nat) : Nat := k.rd (R.CMP_VL_FILT_HI v) % 16 * 2 ^ 32 + k.rd (R.CMP_VL_FILT_LO v)

/-- Do the taps of every phase of a filter table sum to 4,096 (R172)? -/
def filtOk (t : List Byte) : Bool :=
  let tap := fun off => signed 16 (ofBytesLE (slice t off 2))
  (List.range 64).all (fun ph =>
    decide (((List.range 8).map (fun i => tap (16 * ph + 2 * i))).foldl (· + ·) 0 = 4096) &&
    decide (((List.range 6).map (fun i => tap (1024 + 12 * ph + 2 * i))).foldl (· + ·) 0 = 4096))

def State.cmpBad (k : State) (es : List RegEntry) : Bad :=
  let cvs := (List.range 4).filter (fun c => k.flag (F.CMP_CV_CTL_EN c))
  let vls := (List.range 16).filter (fun v => k.flag (F.CMP_VL_CTL_EN v) || es.any (fun (e : RegEntry) => vlRegs v e.off))
  let gls := (List.range 48).filter (fun g => k.flag (F.CMP_GL_CTL_EN g) || es.any (fun (e : RegEntry) => glRegs g e.off))
  let vlOn := vls.filter (fun v => k.flag (F.CMP_VL_CTL_EN v))
  let glOn := gls.filter (fun g => k.flag (F.CMP_GL_CTL_EN g))
  let w := fun c => k.get (F.CMP_CV_SIZE_W c)
  let h := fun c => k.get (F.CMP_CV_SIZE_H c)
  let filts := (List.range 16).filter (fun v => decide (k.filtAddr v ≠ 0) && es.any (fun (e : RegEntry) =>
    decide (e.off = R.CMP_VL_FILT_LO v ∨ e.off = R.CMP_VL_FILT_HI v)))
  firstBad [
    badOf cvs 0x70 cvRegs (fun c => decide (w c = 0 ∨ 16384 < w c ∨ h c = 0 ∨ 8192 < h c)),
    badOf cvs 0x70 cvRegs (fun c =>
      let g := k.get (F.CMP_CV_CTL_SEG c)
      let lead := k.get (F.CMP_CV_LEAD c)
      decide (lead = 0) || ((k.framePeriod g).times (Q.ofNat 2)).lt (Q.ofNat (lead * Config.us)) || !k.flag (F.TIM_SEG_CTL_EN g)),
    badOf cvs 0x71 (fun c o => cvRegs c o || isTim o || isOut o) (fun c => (k.segsOf c).any (fun g => !k.sameTiming g (k.get (F.CMP_CV_CTL_SEG c)))),
    badOf k.tilesOn 0x72 (fun t o => tileCmp t o || cvRegs (k.get (F.CMP_TILE_POS_CANVAS t)) o) (fun t =>
      let r := k.tileRect t
      let c := k.get (F.CMP_TILE_POS_CANVAS t)
      decide (r.w = 0 ∨ 512 < r.w ∨ r.h = 0 ∨ 512 < r.h ∨ w c < r.x + r.w ∨ h c < r.y + r.h) || !k.flag (F.CMP_CV_CTL_EN c)),
    badOf vls 0x76 vlRegs (fun v => decide (5 ≤ k.get (F.CMP_VL_CSC_TF v) ∨ k.get (F.CMP_VL_CSC_PRIM v) = 3)),
    badOf gls 0x76 glRegs (fun g => decide (k.get (F.CMP_GL_CTL_FMT g) = 3 ∨ 5 ≤ k.get (F.CMP_GL_CTL_TF g) ∨ k.get (F.CMP_GL_CTL_PRIM g) = 3) ||
      (k.flag (F.CMP_GL_CTL_PREMULT g) && decide (k.get (F.CMP_GL_CTL_TF g) ≠ 4))),
    badOf (List.range 4) 0x76 ltRegs (fun c => decide (k.get (F.CMP_LT_CTL_MODE c) = 3)),
    badOf vlOn 0x74 vlRegs (fun v => k.flag (F.CMP_VL_CTL_SRC_KIND v) && decide (k.get (F.ING_CTX_CTL_KIND (k.get (F.CMP_VL_CTL_SRC v))) ≠ 4)),
    badOf vlOn 0x73 vlRegs (fun v =>
      let src := if k.flag (F.CMP_VL_CTL_CROP_AUTO v) then k.sourceMax v else (k.get (F.CMP_VL_CROP_WH_SW v), k.get (F.CMP_VL_CROP_WH_SH v))
      !scaleOk src.1 src.2 (k.get (F.CMP_VL_DST_WH_DW v)) (k.get (F.CMP_VL_DST_WH_DH v))),
    badOf glOn 0x73 glRegs (fun g =>
      let gw := k.get (F.CMP_GL_SIZE_W g)
      let gh := k.get (F.CMP_GL_SIZE_H g)
      let pitch := k.rd (R.CMP_GL_PITCH g) % 2 ^ 20
      decide (gw = 0 ∨ 16384 < gw ∨ gh = 0 ∨ 8192 < gh ∨ pitch % 64 ≠ 0 ∨ pitch < gw * pixelBytes (k.get (F.CMP_GL_CTL_FMT g)))),
    badOf (List.range 4) 0x73 ltRegs (fun c =>
      let pitch := k.rd (R.CMP_LT_PITCH c) % 2 ^ 20
      decide (k.get (F.CMP_LT_CTL_MODE c) ≠ 0) && decide (w c < k.get (F.CMP_LT_POS_X c) + k.get (F.CMP_LT_SIZE_W c) ∨
        h c < k.get (F.CMP_LT_POS_Y c) + k.get (F.CMP_LT_SIZE_H c) ∨ pitch % 64 ≠ 0 ∨ pitch < k.get (F.CMP_LT_SIZE_W c) * 4)),
    badOf filts 0x75 vlRegs (fun v => !k.inDram (k.filtAddr v) 1792 || !filtOk (k.bytes (k.filtAddr v) 1792)),
    badOf cvs 0x77 cvRegs (fun c => k.saveFlat c &&
      !k.inDram (k.flatAddr c 0 0) (k.brickCols c * ceilDiv (h c) 64 * 32768)),
    badIf ((Q.ofNat (k.get F.CMP_GLB_FETCH * 1000000000)).lt (cvs.foldl (fun (a : Q) c => (a.plus (k.cvLoad c)).norm) (Q.ofNat 0))) 0x78
      (fun o => isCmp o || isTim o)]

/-! ### Calibration (R201, R203, R208) -/

/-- The curve tables that a COMMIT names: those of enabled tiles whose curve registers it changes or which it enables
(R203). -/
def State.namedCurves (s k : State) (es : List RegEntry) : List (Nat × Nat) :=
  let up := s.tilesRising es
  (k.tilesOn.filter (fun t => k.flag (F.CAL_TILE_CTL_CRV_EN t) && (up.contains t || es.any (fun (e : RegEntry) =>
    decide (e.off = R.CAL_TILE_CTL t ∨ e.off = R.CAL_TILE_CRV_A t ∨ e.off = R.CAL_TILE_CRV_B t)
      && decide (overlay e (s.pendingRd e.off) ≠ s.pendingRd e.off))))).map (fun t => (t, k.curveBase t))

def State.calBad (s k : State) (es : List RegEntry) : Bad :=
  let named := s.namedCurves k es
  let bases := (s.curveBases ++ s.calComing.curveBases ++ k.curveBases).eraseDups
  let segs := (List.range 64).filter (fun g => es.any (fun (e : RegEntry) => decide (e.off = R.CAL_SEG_CTL g)))
  firstBad [
    badOf segs 0x83 (fun g o => decide (o = R.CAL_SEG_CTL g)) (fun g => decide (k.get (F.CAL_SEG_CTL_FMT g) = 3)),
    badOf k.tilesOn 0x80 (fun t o => tileCal t o || tileCmp t o) (fun t =>
      let n := 18 * k.get (F.CMP_TILE_SIZE_W t) * k.get (F.CMP_TILE_SIZE_H t)
      !k.inDram (k.get (F.CAL_TILE_MTX_A t) * 64) n || !k.inDram (k.get (F.CAL_TILE_MTX_B t) * 64) n),
    badIf (decide (2048 < bases.length)) 0x81 (fun o => isCal o || isCmp o),
    ((named.find? (fun p => !k.inDram (p.2 * 64) 6144)).map (fun p => (0x80, fun o => tileCal p.1 o || tileCmp p.1 o)))]

/-! ### Time (R221, R228 to R230, R234, R235) -/

def State.timBad (s k : State) (es : List RegEntry) : Bad :=
  let segs := (List.range 64).filter (fun g => k.flag (F.TIM_SEG_CTL_EN g) || es.any (fun (e : RegEntry) => segTim g e.off))
  let ctl := es.any (fun (e : RegEntry) => isTim e.off && !(span 0x82000 0x800 e.off))
  let log := fun (f : Fld) (lo hi : Int) => decide (signed 8 (k.get f) < lo) || decide (hi < signed 8 (k.get f))
  let ports := (List.range 16).filter (fun l => k.flag (F.TIM_PORT_CTL_EN l))
  let role := k.get F.TIM_CTL_ROLE
  firstBad [
    badOf segs 0x90 segTim (fun g =>
      let n := k.get (F.TIM_SEG_RATE_NUM g)
      let d := k.get (F.TIM_SEG_RATE_DEN g)
      decide (d = 0 ∨ n < d ∨ 480 * d < n ∨ 999999999 < k.get (F.TIM_SEG_DELAY g))),
    (es.find? (fun (e : RegEntry) => span 0x82000 0x800 e.off && decide (e.off % 0x20 = 4 ∨ e.off % 0x20 = 8) &&
      s.changes (fun _ => 0xFFFFFFFF) e && s.flag (F.TIM_SEG_CTL_EN ((e.off - 0x82000) / 0x20)) &&
      !appliesOff es (R.TIM_SEG_CTL ((e.off - 0x82000) / 0x20)))).map (fun (e : RegEntry) => (0x42, fun o => decide (o = e.off))),
    badIf (ctl && (decide (k.get F.TIM_CTL_REF = 3 ∨ k.get F.TIM_CTL_TRANSPORT = 3 ∨ 127 < k.get F.TIM_CTL_DOMAIN) ||
      (decide (role = 1 ∨ role = 2) && decide (ports.length ≠ 1)) || (decide (role = 3) && ports.isEmpty))) 0x91
      (fun o => decide (o = R.TIM_CTL) || span 0x81000 0x400 o),
    badIf (ctl && (log F.TIM_PTP_INTV_LOG_SYNC (-7) 1 || log F.TIM_PTP_INTV_LOG_ANNOUNCE (-3) 4 ||
      log F.TIM_PTP_INTV_LOG_DELAY_REQ (-7) 5 || decide (k.get F.TIM_PTP_INTV_ANNOUNCE_TIMEOUT < 2 ∨
        10 < k.get F.TIM_PTP_INTV_ANNOUNCE_TIMEOUT))) 0x91 (fun o => decide (o = R.TIM_PTP_INTV)),
    badIf (ctl && decide (k.rd R.TIM_SERVO_BW % 1024 < 10 ∨ 1000 < k.rd R.TIM_SERVO_BW % 1024)) 0x91 (fun o => decide (o = R.TIM_SERVO_BW))]

/-! ### Tile protocol and output (R247, R257, R260, R269, R272, R279, R286) -/

/-- Wire bytes of a tile on its own port, L of the shaper test. -/
def State.shaperBad (k : State) (t : Nat) : Bool :=
  let l := k.get (F.OUT_TILE_CTL_PORT t)
  let h := k.tileOverhead t l
  let rate := Q.ofNat (k.get (F.OUT_TILE_RATE_RATE t) * 1000000)
  let q := k.get (F.OUT_TILE_SHAPE_QUANTUM t)
  rate.lt (k.tileBits t l) || decide (64 * k.get (F.OUT_TILE_RATE_BURST t) < k.get (F.OUT_TILE_SHAPE_MAX_PAYLOAD t) + h) ||
    decide (q < 256)

/-- Has a port two privileged entries of one kind and INDEX, or one with WEIGHT 0 (R279)? -/
def State.privBad (k : State) (l : Nat) : Bool :=
  let es := (List.range 16).filter (fun i => decide (k.get (F.OUT_PORT_PRIV_KIND l i) ≠ 0))
  es.any (fun i => decide (k.get (F.OUT_PORT_PRIV_WEIGHT l i) = 0) || es.any (fun j => decide (j < i) &&
    decide (k.get (F.OUT_PORT_PRIV_KIND l i) = k.get (F.OUT_PORT_PRIV_KIND l j)) &&
    decide (k.get (F.OUT_PORT_PRIV_INDEX l i) = k.get (F.OUT_PORT_PRIV_INDEX l j))))

def State.outBad (k : State) (es : List RegEntry) : Bad :=
  let tiles := k.tilesOn
  let namedSeg := (List.range 64).filter (fun g => k.flag (F.TIM_SEG_CTL_EN g) || es.any (fun (e : RegEntry) => segOut g e.off))
  let namedTile := (es.filter (fun (e : RegEntry) => span 0x7C0000 0x20000 e.off && decide (e.off % 0x20 = 0))).map
    (fun (e : RegEntry) => (e.off - 0x7C0000) / 0x20)
  let port := fun t => k.get (F.OUT_TILE_CTL_PORT t)
  let set := fun g => setBitsOf 16 (k.get (F.OUT_SEG_CTL_PORTS g))
  let on := (List.range 64).filter (fun g => k.flag (F.TIM_SEG_CTL_EN g))
  firstBad [
    badOf (tiles ++ namedTile) 0x44 tileOut (fun t => !k.portPresent (port t)),
    badOf namedSeg 0x44 segOut (fun g => (set g).any (fun l => !k.portPresent l)),
    badOf tiles 0xB0 (fun t o => tileOut t o || segOut (k.tileSeg t) o) (fun t => !(set (k.tileSeg t)).contains (port t)),
    badOf tiles 0xB4 tileOut (fun t => decide (k.get (F.OUT_TILE_CTL_ENCAP t) = 3) ||
      (decide (k.get (F.OUT_TILE_CTL_ENCAP t) = 1) && !k.flag (F.NET_LP_CTL_IPV6_EN (port t)))),
    badOf namedSeg 0xB4 segOut (fun g => decide (k.get (F.OUT_SEG_CTL_PRES_ENCAP g) = 3) ||
      (decide (k.get (F.OUT_SEG_CTL_PRES_ENCAP g) = 1) && (set g).any (fun l => !k.flag (F.NET_LP_CTL_IPV6_EN l)))),
    badOf tiles 0xA0 (fun t o => tileOut t o || segOut (k.tileSeg t) o || cvRegs (k.get (F.CMP_TILE_POS_CANVAS t)) o) (fun t =>
      let a := k.rd (R.OUT_TILE_ACCEPT t) % 2 ^ 24
      decide (a < k.get (F.CMP_CV_LEAD (k.get (F.CMP_TILE_POS_CANVAS t))) ∨ a ≤ k.get (F.OUT_SEG_GUARD_GUARD_US (k.tileSeg t)))),
    badOf tiles 0xA1 tileOut (fun t =>
      let p := k.get (F.OUT_TILE_SHAPE_MAX_PAYLOAD t)
      decide (p < 1024 ∨ 8000 < p ∨ p % 8 ≠ 0)),
    badOf namedSeg 0xA1 segOut (fun g =>
      decide (k.get (F.OUT_SEG_RX_STATUS_MS g) < 10 ∨ 10000 < k.get (F.OUT_SEG_RX_STATUS_MS g))),
    badOf (List.range 16) 0xB2 portOut (fun l => decide (k.get (F.OUT_PORT_CTL_COMMON_QUANTUM l) < 256)),
    badOf tiles 0xB2 tileOut (fun t => k.shaperBad t),
    badOf (List.range 16) 0xB3 portOut (fun l => k.privBad l),
    badOf on 0xB3 (fun g o => segOut g o || isOut o) (fun g => k.flag (F.OUT_SEG_CTL_EXPRESS g) &&
      (set g).any (fun l => (k.segEntry l g).isNone)),
    badOf (List.range 16) 0xB1 (fun _ o => isOut o || isCmp o || isCal o || isTim o || span 0x101000 0x1000 o) (fun l =>
      k.portPresent l && !k.loadFits l (k.flowTiles.filter (fun t => decide (port t = l))))]

/-! ### Memory and rings (R309, R349) -/

def State.memBad (k : State) : Bad :=
  badIf (k.memSupplyQ.lt k.memNeed) 0xC0 (fun o => isCal o || isCmp o || isTim o || isOut o)

def State.rngBad (s : State) (es : List RegEntry) : Bad :=
  (es.find? (fun (e : RegEntry) => span 0x280000 0x10000 e.off && s.changes (fun _ => 0xFFFFFFFF) e &&
    s.flag (F.RNG_RING_CTL_EN ((e.off - 0x280000) / 64)))).map (fun (e : RegEntry) => (0x42, fun o => decide (o = e.off)))

/-! ### The whole check -/

/-- The first failing check of the configuration that would result, but for the Lantern checks and the reads of R190 and
R203. -/
def State.configBad (s : State) (es : List RegEntry) : Bad :=
  let k := s.resultOf es
  firstBad [k.capacityBad, s.ingBad k es, s.decBad k es, s.encBad k es, k.cmpBad es, s.calBad k es, s.timBad k es,
    k.outBad es, k.memBad, s.rngBad es]

/-- The status of a failed check, and DONE: the OFFSET of the first staged entry to blame, or 0xFFFF_FFFF (R337). -/
def blame (es : List RegEntry) (b : Nat × (Nat → Bool)) : Nat × Nat :=
  (b.1, match es.find? (fun (e : RegEntry) => b.2 e.off) with | some e => e.off | none => 0xFFFFFFFF)

/-! ### Lantern (R189, R190) -/

/-- A Lantern register, whose change needs an authorisation (R189). -/
def isLantern (off : Nat) : Bool := span 0x702000 0x400 off || decide (off = R.CMP_GLB_LT_MASK)

/-- The bits that staged entries change in a register, against what the changes accepted earlier leave in it (R337): an entry that
changes nothing counts for nothing. -/
def State.changedBits (s k : State) (off : Nat) : Nat := s.pendingRd off ^^^ k.rd off

/-- The staged entries that change a Lantern register (R189); `k` is the configuration that would result. -/
def State.ltChanges (s k : State) (es : List RegEntry) : List RegEntry :=
  es.filter (fun (e : RegEntry) => isLantern e.off && decide (s.changedBits k e.off &&& e.mask ≠ 0))

/-- Canvases whose Lantern registers the staged entries change: canvas 0 when none is named (R189). -/
def State.ltNamed (s k : State) (es : List RegEntry) : List Nat :=
  let cs := (List.range 4).filter (fun c => (s.ltChanges k es).any (fun (e : RegEntry) =>
    span (0x702000 + c * 0x100) 0x100 e.off ||
    (decide (e.off = R.CMP_GLB_LT_MASK) && (s.changedBits k e.off &&& e.mask).testBit c)))
  if cs.isEmpty then [0] else cs

/-- A COMMIT is refused for the Lantern: counted, with event 151 (R189, R190). -/
def State.ltRefused (s : State) (cs : List Nat) (status : Nat) : State :=
  (cs.foldl (fun s c => s.inc (F.CMP_LT_REFUSED c)) s).raise 151 (maskOf cs + status * 65536)

/-- Canvases whose surface a COMMIT checks (R190). -/
def State.ltChecks (s k : State) (es : List RegEntry) : List Nat :=
  (List.range 4).filter (fun c =>
    decide (k.get (F.CMP_LT_CTL_MODE c) ≠ 0) && es.any (fun (e : RegEntry) =>
      (decide (e.off = R.CMP_LT_CTL c) && decide (e.mask &&& 3 ≠ 0)) ||
      (decide (e.off = R.CMP_LT_BASE_LO c ∨ e.off = R.CMP_LT_BASE_HI c ∨ e.off = R.CMP_LT_PITCH c ∨ e.off = R.CMP_LT_SIZE c) ||
        span (R.CMP_LT_HASH c 0) 48 e.off) && decide (s.changedBits k e.off &&& e.mask ≠ 0)))

/-! ### Checks of an image alone (R69, R287, R292, R309, R416, R461, R477, R512) -/

/-- Address range of a pool: first byte and the byte after the last. -/
def State.poolRange (k : State) (p : Nat) : Nat × Nat :=
  (k.poolBase p, k.poolBase p + k.get (F.BPM_POOL_COUNT p) * poolSize p)

/-- Does pool `p` break R69? Pools 0 to 4 lie in the packet buffer partition and 5 to 7 in DRAM. -/
def State.poolBad (k : State) (p : Nat) : Bool :=
  let r := k.poolRange p
  let used := decide (0 < k.get (F.BPM_POOL_COUNT p))
  let place := if p < 5 then decide (sramBase + 0x4800000 ≤ r.1) && decide (r.2 ≤ sramBase + 0x6000000) else decide (r.2 ≤ k.dramEnd)
  decide (r.1 % 256 ≠ 0) || (used && !place) ||
    (used && (List.range 8).any (fun q => decide (q ≠ p) && decide (0 < k.get (F.BPM_POOL_COUNT q)) && decide (r.1 < (k.poolRange q).2) && decide ((k.poolRange q).1 < r.2))) ||
    decide (k.get (F.BPM_POOL_COUNT p) < (List.range 512).foldl (fun a j => a + k.get (F.BPM_OWN_MIN j p)) 0)

/-- The image-only checks (log entry 27 on R69's empty pools). -/
def State.imageBad (k : State) : Bool :=
  (List.range 8).any (fun p => k.poolBad p) ||
  decide (k.get F.MEM_CFG_RATE = 3) ||
  decide (k.get F.GLB_AVS_CFG_VMIN < 600 ∨ 900 < k.get F.GLB_AVS_CFG_VMAX ∨ k.get F.GLB_AVS_CFG_VMAX < k.get F.GLB_AVS_CFG_VMIN ∨
    k.get F.GLB_AVS_CFG_CLK = 3) ||
  decide (k.get F.GNG_CFG_ROLE = 3) ||
  (k.isHead && k.flag (F.GNG_PEER_CTL_EN k.ownId)) ||
  (k.isMember && !k.flag (F.GNG_PEER_CTL_EN (k.get F.GNG_CFG_HEAD))) ||
  (k.flag F.OUT_GLB_STATUS_LO_EN && !k.inDram (k.rd R.OUT_GLB_STATUS_HI % 16 * 2 ^ 32 + k.get F.OUT_GLB_STATUS_LO * 128) 524288)

end Sys2Proof.Machine
end

