-- ==== Sys2Proof/Machine/Flt.lean ====
section
/-! DEFINITION. The reactions to faults (R431, R436 to R440): retiring a unit and returning it, and disabling the function a
fault names. -/

namespace Sys2Proof.Machine

/-! ### What a fault names (R441, R444) -/

/-- The unit a fault names, in the unit kinds of R438: 0 decode engine, 1 encode engine, 2 canvas pipe, 3 port, 4 mover. -/
def unitOf (src unit : Nat) : Option (Nat × Nat) :=
  if src = 18 ∨ src = 19 then some (3, unit)
  else if src = 32 ∨ src = 122 then some (0, unit)
  else if src = 48 then some (1, unit)
  else if (src = 0 ∨ src = 129) ∧ unit ≠ 0xFFFF ∧ unit / 4096 ≤ 4 then some (unit / 4096, unit % 4096)
  else none

/-- The kinds of function that CONTAIN disables (R437). -/
inductive Func where
  | session | ingest | port | stream | encode | canvas | tile | segment | ring | channel | sequencer
  deriving DecidableEq, Repr

/-- The function a fault names (R444). -/
def functionOf (src : Nat) : Option Func :=
  if src = 1 ∨ src = 97 then some .session
  else if src = 16 then some .ingest
  else if src = 18 ∨ src = 19 ∨ src = 20 then some .port
  else if src = 33 ∨ src = 34 ∨ src = 40 ∨ src = 41 then some .stream
  else if src = 49 then some .encode
  else if src = 57 then some .canvas
  else if src = 64 ∨ src = 65 ∨ src = 80 ∨ src = 81 ∨ src = 85 then some .tile
  else if src = 84 then some .segment
  else if src = 104 then some .ring
  else if src = 112 ∨ src = 113 then some .channel
  else if src = 120 ∨ src = 121 then some .sequencer
  else none

/-! ### Retirement (R438 to R440) -/

/-- A unit of a kind leaves service, with event 4; a unit already out of service stays as it is. -/
def State.retire (s : State) (kind u : Nat) : State :=
  if kind = 0 ∧ u < 16 then
    if s.flag (F.DEC_ENG_STAT_RETIRED_FAULT u) then s
    else ((s.stick (F.DEC_ENG_STAT_RETIRED_FAULT u)).raise 4 u).decRetires
  else if kind = 1 ∧ u < 4 then
    if s.flag (F.ENC_ENG_STAT_RETIRED_FAULT u) then s
    else ((s.stick (F.ENC_ENG_STAT_RETIRED_FAULT u)).raise 4 (4096 + u)).encRetires
  else if kind = 2 ∧ u < 4 then
    if (s.get F.FLT_RETIRED_PIPES).testBit u then s
    else ((s.stick ⟨R.FLT_RETIRED_PIPES, u, 1⟩).placeCanvases).raise 4 (2 * 4096 + u)
  else if kind = 3 ∧ u < 16 then
    if (s.get F.FLT_RETIRED_PORTS).testBit u then s
    else
      let s := s.portStopping u
      ((s.stick ⟨R.FLT_RETIRED_PORTS, u, 1⟩).raise 4 (3 * 4096 + u)).portMoves u
  else if kind = 4 ∧ u < 32 then
    if (s.get F.FLT_RETIRED_MOVERS).testBit u then s
    else
      let s := (s.stick ⟨R.FLT_RETIRED_MOVERS, u, 1⟩).raise 4 (4 * 4096 + u)
      let s := (s.dma.chan.map (fun p => p.1)).foldl (fun s n => if (s.chan n).mover = some u then s.moverRelease n else s) s
      s.moverSync
  else s

/-- 1 written to a bit of FLT_RETIRED_PIPES. -/
def State.pipeReturn (s : State) (c : Nat) : State :=
  if !(s.get F.FLT_RETIRED_PIPES).testBit c then s
  else ((s.put F.FLT_RETIRED_PIPES (s.get F.FLT_RETIRED_PIPES - 2 ^ c)).placeCanvases).raise 5 (2 * 4096 + c)

/-- 1 written to a bit of FLT_RETIRED_PORTS (R440). -/
def State.portReturn (s : State) (l : Nat) : State :=
  if !(s.get F.FLT_RETIRED_PORTS).testBit l then s
  else if !s.flag (F.NET_LP_STAT_IDLE l) then s.stick (F.NET_LP_STAT_REENABLE_REFUSED l)
  else
    let s := (s.put F.FLT_RETIRED_PORTS (s.get F.FLT_RETIRED_PORTS - 2 ^ l)).portBack l
    let s := if s.portRuns l then s.putB (F.NET_LP_STAT_IDLE l) false else s
    ((s.linkCause).dadProbes l).raise 5 (3 * 4096 + l)

/-- 1 written to a bit of FLT_RETIRED_MOVERS. -/
def State.moverReturn (s : State) (m : Nat) : State :=
  if !(s.get F.FLT_RETIRED_MOVERS).testBit m then s
  else ((s.put F.FLT_RETIRED_MOVERS (s.get F.FLT_RETIRED_MOVERS - 2 ^ m)).raise 5 (4 * 4096 + m)).moverSync

/-! ### Containment (R437) -/

/-- Disable the function of a kind as a COMMIT applying EN = 0 would. -/
def State.contain (s : State) (f : Func) (n : Nat) : State :=
  match f with
  | .session => if n < 16 ∧ s.sessOpen n then s.sessEnd n else s
  | .ingest => s.acceptCommit [⟨R.ING_CTX_CTL n, 1, 0⟩] [] []
  | .port => s.portDisable n
  | .stream => s.acceptCommit [⟨R.DEC_CTX_CTL n, 1, 0⟩] [] []
  | .encode => s.acceptCommit [⟨R.ENC_CTX_CTL n, 1, 0⟩] [] []
  | .canvas => s.acceptCommit [⟨R.CMP_CV_CTL n, 1, 0⟩] [] []
  | .tile => s.acceptCommit [⟨R.CMP_TILE_POS n, 2 ^ 31, 0⟩] [] []
  | .segment => s.acceptCommit [⟨R.TIM_SEG_CTL n, 1, 0⟩] [] []
  | .ring => s.ringDisable n
  | .channel => s.dmaDisable n
  | .sequencer => s.almDisable n

/-- The reaction to one fault occurrence (R431): a DEGRADE fault that names no unit reacts as WARN; a CONTAIN fault that
names no function reacts as DEGRADE if it names a unit. Unit numbers past a kind's range name nothing. -/
def State.react (s : State) (r : Reaction) : State :=
  let degrade := match unitOf r.src r.unit with
    | some (k, u) => s.retire k u
    | none => s
  if r.sev = 2 then degrade
  else if r.sev = 3 then
    match functionOf r.src with
    | some f => s.contain f r.unit
    | none => degrade
  else s

/-- Carry out the reactions that wait, and those they bring about. -/
def State.reactions (s : State) : Nat → State
  | 0 => s
  | k + 1 =>
    match s.flt.todo with
    | [] => s
    | r :: rest => (({ s with flt := { s.flt with todo := rest } }).react r).reactions k

end Sys2Proof.Machine
end

