-- ==== Sys2Proof/Machine/Glb.lean ====
section
/-! DEFINITION. The GLB block's pace monitors, supply control loop and temperature sensors (R447 to R456). -/

namespace Sys2Proof.Machine

/-! ### Shared conditions -/

/-- Is a deadline forecast at risk (R94, R163, R451)? -/
def State.risk (s : State) : Bool :=
  decide (signed 32 (s.rd R.DEC_GLB_SLACK) < (s.get F.DEC_GLB_MARGIN * 1000 : Nat)) ||
    (List.range 4).any (fun c => decide (signed 32 (s.rd (R.CMP_CV_SLACK c)) < (s.get F.CMP_GLB_MARGIN * 1000 : Nat)))

/-- Is PI above 1.0? -/
def State.slow (s : State) : Bool := (Q.ofNat 1).lt s.paceRatio

/-- The target of R451 in units of 1/256. -/
def State.paceTarget (s : State) (risk : Bool) : Q :=
  ⟨256 - (s.get F.GLB_AVS_CTL_MARGIN : Int) - (if risk then (s.get F.GLB_AVS_CTL_BOOST : Int) else 0), 256⟩

/-- Has AT_MAX been 1 for CEIL_MS with PI above target or risk present (R452)? -/
def State.ceilDue (s : State) : Bool :=
  match s.glb.atMaxFrom with
  | some t => decide (t + s.get F.GLB_AVS_TIMING_CEIL_MS * Config.ms ≤ s.tim.elapsed) &&
      (s.risk || (s.paceTarget s.risk).lt s.paceRatio)
  | none => false

/-- Count the whole milliseconds spent with AT_MAX = 1 (R452). -/
def State.ceilTick (s : State) : State :=
  match s.glb.atMaxFrom with
  | some t =>
    let n := (s.tim.elapsed - t) / Config.ms
    let s' := s.add F.GLB_AVS_CEIL_TIME (n - s.glb.ceilCounted)
    { s' with glb := { s'.glb with ceilCounted := n } }
  | none => s

/-- Bring AT_MAX, AT_MIN and everything that follows them and PI up to date (R452, R453). -/
def State.glbSync (s : State) : State :=
  let v := s.get F.GLB_AVS_STAT_VREQ
  let atMax := decide (v = s.get F.GLB_AVS_CFG_VMAX)
  let was := s.flag F.GLB_AVS_STAT_AT_MAX
  let wasSlow := s.flag (F.EVT_SRC_STAT_ASSERTED 321)
  let s := s.ceilTick
  let s := (s.putB F.GLB_AVS_STAT_AT_MAX atMax).putB F.GLB_AVS_STAT_AT_MIN (decide (v = s.get F.GLB_AVS_CFG_VMIN))
  let s := if atMax then (if s.glb.atMaxFrom.isSome then s else
      { s with glb := { s.glb with atMaxFrom := some s.tim.elapsed, ceilCounted := 0 } })
    else { s with glb := { s.glb with atMaxFrom := none, ceilCounted := 0 } }
  let s := if atMax && !was then s.raiseU 320 else s
  let s := s.setCond 320 s.unstated atMax
  let slow := s.slow
  let s := if slow && !wasSlow then s.raiseU 321 else s
  let s := s.setCond 321 s.unstated slow
  let s := if slow then (if s.glb.slowFrom.isSome then s else { s with glb := { s.glb with slowFrom := some s.tim.elapsed } })
    else { s with glb := { s.glb with slowFrom := none } }
  let s := if atMax && slow then s else { s with glb := { s.glb with belowAt := none } }
  s.setCause 129 (atMax && slow)

/-- CAUSE of fault 128 returns to 0 when its condition, which the forecasts and the loop's settings also move, ends (R452). -/
def State.ceilEnds (s : State) : State :=
  if s.flag (F.FLT_SRC_STAT_CAUSE 128) && !s.ceilDue then s.setCause 128 false else s

/-! ### Pace (R447, R448) -/

/-- Has monitor (0 to 31) or sensor (32 to 47) `i` given a reading yet? -/
def State.hasRead (s : State) (i : Nat) : Bool := decide (SMap.get (fun _ => 0) s.glb.updated i ≠ 0)

/-- Monitors in service. -/
def State.monsIn (s : State) : List Nat := (List.range 32).filter (fun i => !s.flag (F.GLB_PACE_MON_EXCLUDED i))

/-- Monitors in service that have given a measurement. -/
def State.monsRead (s : State) : List Nat := s.monsIn.filter s.hasRead

/-- The ratio of a monitor. -/
def State.monRatio (s : State) (i : Nat) : Q := Q.frac (s.get (F.GLB_PACE_MON_PACE i)) (s.get (F.GLB_PACE_MON_REF i))

/-- The median of a list of rationals: the mean of the middle two when their number is even. -/
def median (l : List Q) : Q :=
  let o := sortBy Q.le l
  let n := o.length
  if n % 2 = 1 then o.getD (n / 2) ⟨0, 1⟩ else ((o.getD (n / 2 - 1) ⟨0, 1⟩).plus (o.getD (n / 2) ⟨0, 1⟩)).over 2

/-- Monitors leave service, each with event 324 and fault 133; below 8, fault 134 (R448). -/
def State.monExclude (s : State) (is : List Nat) : State :=
  let s := is.foldl (fun s i => ((s.putB (F.GLB_PACE_MON_EXCLUDED i) true).raiseU 324).faultU 133) s
  let n := s.monsIn.length
  let s := s.put F.GLB_PACE_STAT_MON_IN n
  let was := s.flag (F.FLT_SRC_STAT_CAUSE 134)
  let s := s.setCause 134 (decide (n < 8))
  if n < 8 ∧ !was then s.faultU 134 else s

/-- PI from the monitors in service. How the report in Q2.14 is rounded is not stated: the last bit is free. -/
def State.paceIndex (s : State) : State :=
  match s.monsRead.foldl (fun (b : Option Nat) i => match b with
      | some j => if (s.monRatio j).lt (s.monRatio i) then some i else b
      | none => some i) none with
  | none => s.glbSync
  | some i =>
    let s := (s.put F.GLB_PACE_PS_PACE (s.get (F.GLB_PACE_MON_PACE i))).put F.GLB_PACE_PS_REF (s.get (F.GLB_PACE_MON_REF i))
    let x := (s.monRatio i).times (Q.ofNat 16384)
    let up := if Config.freeBool s.draw then x.ceil else x.floor
    let idx := min 65535 up.toNat
    let s := ((s.used.put F.GLB_PACE_STAT_INDEX idx).put F.GLB_PACE_STAT_SLOWEST i)
    (if s.get F.GLB_PACE_MAX < idx then s.put F.GLB_PACE_MAX idx else s).glbSync

/-- PACE_MEASUREMENT: the cycle times of the monitors in ps; none for a monitor that gives no measurement. -/
def State.paceMeasurement (s : State) (periods : List (Option Nat)) : State :=
  let now := s.tim.elapsed
  let s := ((List.range 32).zip periods).foldl (fun (s : State) (p : Nat × Option Nat) => match p.2 with
    | some v => { (s.put (F.GLB_PACE_MON_PACE p.1) (min 65535 v)) with
        glb := { s.glb with updated := SMap.set (fun _ => 0) s.glb.updated p.1 (now + 1) } }
    | none => s) s
  let m := median (s.monsRead.map (fun i => s.monRatio i))
  let out := s.monsRead.filter (fun i => ((m.times (Q.ofNat 5)).over 4).lt (s.monRatio i) || (s.monRatio i).lt ((m.times (Q.ofNat 3)).over 4))
  (s.monExclude out).paceIndex

/-- Elapsed time of the newest update of a monitor (0 to 31) or sensor (32 to 47), counted from power-up before the first. -/
def State.updatedAt (s : State) (i : Nat) : Nat := SMap.get (fun _ => 0) s.glb.updated i - 1

/-- PACE_MONITOR_STALE: monitors without a measurement for 100 µs are excluded. -/
def State.paceStale (s : State) : State :=
  let out := s.monsIn.filter (fun i => decide (s.updatedAt i + 100 * Config.us ≤ s.tim.elapsed))
  if out.isEmpty then s else (s.monExclude out).paceIndex

/-! ### The loop (R449 to R453) -/

/-- The loop starts (R449). VREQ at its first start is not stated: a free value from VMIN to VMAX. -/
def State.avsStart (s : State) : State :=
  if s.flag F.GLB_AVS_STAT_ACTIVE then s
  else
    let lo := s.get F.GLB_AVS_CFG_VMIN
    let hi := s.get F.GLB_AVS_CFG_VMAX
    let s := if s.get F.GLB_AVS_STAT_VREQ = 0 then
        (s.put F.GLB_AVS_STAT_VREQ (lo + Config.freeNat s.draw % (hi - lo + 1))).used else s
    (s.putB F.GLB_AVS_STAT_ACTIVE true).glbSync

def State.avsStop (s : State) : State := s.putB F.GLB_AVS_STAT_ACTIVE false

/-- AVS_DECISION (R451): no sooner than PERIOD_US after the decision before and SETTLE_US after the newest request. -/
def State.avsDecision (s : State) : State :=
  let due := fun (t : Option Nat) (us : Nat) => match t with | some t => decide (t + us * Config.us ≤ s.tim.elapsed) | none => true
  if !s.flag F.GLB_AVS_STAT_ACTIVE || !due s.glb.decidedAt (s.get F.GLB_AVS_STEP_PERIOD_US) ||
      !due s.glb.reqAt (s.get F.GLB_AVS_TIMING_SETTLE_US) then s
  else
    let risk := s.risk
    let v0 := s.get F.GLB_AVS_STAT_VREQ
    let target := s.paceTarget risk
    let pi := s.paceRatio
    let vmax := s.get F.GLB_AVS_CFG_VMAX
    let v := if s.monsIn.length < 8 then vmax
      else if target.lt pi then min vmax (v0 + s.get F.GLB_AVS_STEP_UP)
      else if pi.lt (target.minus (Q.frac (s.get F.GLB_AVS_CTL_HYST) 256)) && !risk then
        max (s.get F.GLB_AVS_CFG_VMIN) (v0 - s.get F.GLB_AVS_STEP_DOWN)
      else v0
    let s := s.putB F.GLB_AVS_STAT_RISK risk
    let s := { s with glb := { s.glb with decidedAt := some s.tim.elapsed } }
    if v = v0 then s
    else
      let s := s.put F.GLB_AVS_STAT_VREQ v
      let s := s.inc (if v0 < v then F.GLB_AVS_UPS else F.GLB_AVS_DOWNS)
      ({ s with glb := { s.glb with reqAt := some s.tim.elapsed, busy := true, retry := false } }).glbSync

/-- Does VREAD agree with VREQ (R450)? -/
def State.avsAgree (s : State) : Bool :=
  let a := s.get F.GLB_AVS_STAT_VREQ
  let b := s.get F.GLB_AVS_STAT_VREAD
  decide (a ≤ b + 25) && decide (b ≤ a + 25)

/-- A frame fails a second time: an error of the bus (R450). -/
def State.avsError (s : State) : State :=
  ((((s.inc F.GLB_AVS_BUS_ERR).putB F.GLB_AVS_STAT_BUS_OK false).raiseU 325).setCause 135 true).faultU 135

/-- A frame succeeds: BUS_OK returns once VREAD agrees. -/
def State.avsGood (s : State) : State :=
  if s.avsAgree then (s.putB F.GLB_AVS_STAT_BUS_OK true).setCause 135 false else s

/-- AVS_FRAME_DONE of a Voltage write: a frame that fails is sent once more (R450). -/
def State.avsFrameDone (s : State) (ok : Bool) : State :=
  let ended := { s with glb := { s.glb with retry := false, busy := false } }
  if !s.glb.busy then s else if ok then ended.avsGood
  else if s.glb.retry then ended.avsError else { s with glb := { s.glb with retry := true } }

/-- A readback fails: it is made once more (R450). The Voltage write that may be under way is a frame of its own. -/
def State.avsReadFail (s : State) : State :=
  if s.glb.retryRead then ({ s with glb := { s.glb with retryRead := false } }).avsError
  else { s with glb := { s.glb with retryRead := true } }

/-- AVS_READBACK: the voltage in mV and the current in 10 mA. The loop that runs reads back (assumption log 116). -/
def State.avsReadback (s : State) (volts amps : Nat) (ok : Bool) : State :=
  if !s.flag F.GLB_AVS_STAT_ACTIVE then s
  else if !ok then s.avsReadFail
  else
    let s := (s.put F.GLB_AVS_STAT_VREAD (min volts 1023)).put F.GLB_AVS_IOUT (min amps 65535)
    let settled := match s.glb.reqAt with
      | some t => decide (t + s.get F.GLB_AVS_TIMING_SETTLE_US * Config.us ≤ s.tim.elapsed)
      | none => true
    if settled && !s.avsAgree then s.avsReadFail else ({ s with glb := { s.glb with retryRead := false } }).avsGood

/-- AVS_CEILING (R452): fault 128, once while its condition lasts. -/
def State.avsCeiling (s : State) : State :=
  if s.ceilDue && !s.flag (F.FLT_SRC_STAT_CAUSE 128) then (s.setCause 128 true).faultU 128 else s

/-- The unit fault 129 names: the highest-numbered encode engine in service, else decode engine, else none (R453). -/
def State.slowUnit (s : State) : Nat :=
  match s.encEngines.getLast?, s.decEngines.getLast? with
  | some e, _ => 4096 + e
  | none, some e => e
  | none, none => 0xFFFF

/-- PACE_BELOW_RATING (R453): fault 129 with AT_MAX = 1 and PI above 1.0 for 10 ms, again after each further 10 ms. -/
def State.paceBelow (s : State) : State :=
  let lasted := fun (t : Nat) => decide (t + 10 * Config.ms ≤ s.tim.elapsed)
  if s.flag (F.FLT_SRC_STAT_CAUSE 129) && s.glb.slowFrom.any lasted && s.glb.belowAt.all lasted then
    ({ s with glb := { s.glb with belowAt := some s.tim.elapsed } }).faultUnit 129 s.slowUnit
  else s

/-! ### Temperature (R454 to R456) -/

/-- Sensors in service. -/
def State.sensIn (s : State) : List Nat := (List.range 16).filter (fun j => !s.flag (F.GLB_TEMP_SENS_EXCLUDED j))
/-- Sensors in service that have given a reading. -/
def State.sensRead (s : State) : List Nat := s.sensIn.filter (fun j => s.hasRead (32 + j))
def State.sensTemp (s : State) (j : Nat) : Int := signed 16 (s.get (F.GLB_TEMP_SENS_TEMP j))

/-- Sensors leave service, each with event 323 and fault 132. -/
def State.sensExclude (s : State) (js : List Nat) : State :=
  let s := js.foldl (fun s j => ((s.putB (F.GLB_TEMP_SENS_EXCLUDED j) true).raiseU 323).faultU 132) s
  s.put F.GLB_TEMP_STAT_SENS_IN s.sensIn.length

/-- TJ against HIGH and CRIT (R456). -/
def State.tempLimits (s : State) : State :=
  let tj := signed 16 (s.get F.GLB_TEMP_STAT_TJ)
  let high := 16 * signed 8 (s.get F.GLB_TEMP_LIMITS_HIGH)
  let crit := 16 * signed 8 (s.get F.GLB_TEMP_LIMITS_CRIT)
  let hyst := 16 * (s.get F.GLB_TEMP_LIMITS_HYST : Int)
  let s := (s.putB F.GLB_TEMP_STAT_HIGH (decide (high ≤ tj))).putB F.GLB_TEMP_STAT_CRIT (decide (crit < tj))
  let s := if high ≤ tj && !s.flag (F.EVT_SRC_STAT_ASSERTED 322) then s.raiseU 322 else s
  let s := s.setCond 322 s.unstated (decide (high ≤ tj))
  let s := if high ≤ tj ∧ s.glb.highArmed then
      ((({ s with glb := { s.glb with highArmed := false } }).setCause 130 true).faultU 130)
    else if tj < high - hyst then ({ s with glb := { s.glb with highArmed := true } }).setCause 130 false else s
  if crit < tj ∧ s.glb.critArmed then (({ s with glb := { s.glb with critArmed := false } }).setCause 131 true).faultU 131
  else if tj < crit - hyst then ({ s with glb := { s.glb with critArmed := true } }).setCause 131 false else s

/-- TJ from the sensors in service: with fewer than 4 it reads as CRIT plus 1 °C (R454). Before the first reading of a sensor
in service TJ stays as it is. -/
def State.tjUpdate (s : State) : State :=
  let hot := s.sensRead.foldl (fun (b : Option Nat) j => match b with
    | some k => if s.sensTemp k < s.sensTemp j then some j else b
    | none => some j) none
  let tj := if s.sensIn.length < 4 then 16 * (signed 8 (s.get F.GLB_TEMP_LIMITS_CRIT) + 1)
    else match hot with
      | some j => s.sensTemp j
      | none => signed 16 (s.get F.GLB_TEMP_STAT_TJ)
  let s := s.put F.GLB_TEMP_STAT_TJ (unsigned 16 tj)
  let s := match hot with | some j => s.put F.GLB_TEMP_STAT_HOTTEST j | none => s
  let s := if (hot.isSome || s.sensIn.length < 4) && signed 16 (s.get F.GLB_TEMP_MAX) < tj then s.put F.GLB_TEMP_MAX (unsigned 16 tj) else s
  s.tempLimits

/-- TEMP_UPDATE: the readings of the sensors in 1/16 °C; none for a sensor that gives no update. -/
def State.tempUpdate (s : State) (temps : List (Option Int)) : State :=
  let now := s.tim.elapsed
  let s := ((List.range 16).zip temps).foldl (fun (s : State) (p : Nat × Option Int) => match p.2 with
    | some v => { (s.put (F.GLB_TEMP_SENS_TEMP p.1) (unsigned 16 (max (-32768) (min 32767 v)))) with
        glb := { s.glb with updated := SMap.set (fun _ => 0) s.glb.updated (32 + p.1) (now + 1) } }
    | none => s) s
  let s := s.sensExclude (s.sensRead.filter (fun j => decide (s.sensTemp j < -55 * 16) || decide (150 * 16 < s.sensTemp j)))
  let m := median (s.sensRead.map (fun j => (⟨s.sensTemp j, 1⟩ : Q)))
  let far := fun (j : Nat) =>
    let t : Q := ⟨s.sensTemp j, 1⟩
    (m.plus (Q.ofNat 240)).lt t || t.lt (m.minus (Q.ofNat 240))
  (s.sensExclude (s.sensRead.filter far)).tjUpdate

/-- TEMP_SENSOR_STALE: sensors without an update for 10 ms are excluded. -/
def State.tempStale (s : State) : State :=
  let out := s.sensIn.filter (fun j => decide (s.updatedAt (32 + j) + 10 * Config.ms ≤ s.tim.elapsed))
  if out.isEmpty then s else (s.sensExclude out).tjUpdate

end Sys2Proof.Machine
end

