-- ==== Sys2Proof/Machine/Sec.lean ====
section
/-! DEFINITION. Keys, fuses and debug access (R489 to R511): showing the fuses, key records, anti-rollback steps, unlock tokens and
attestation reports. -/

namespace Sys2Proof.Machine

/-! ### Big-endian words of the SEC and NVM registers -/

/-- The word of four bytes from `off`, the first in bits [31:24]; missing bytes count as 0. -/
def wordBE (bs : List Byte) (off : Nat) : Nat := ofBytesBE ((slice bs off 4 ++ [0, 0, 0, 0]).take 4)

/-- Write `n` words from offset `base` up with the bytes of a list. -/
def State.putWords (s : State) (base : Nat) (bs : List Byte) (n : Nat) : State :=
  (List.range n).foldl (fun s i => s.wr (base + 4 * i) (wordBE bs (4 * i))) s

/-- The bytes that `n` words from offset `base` up hold. -/
def State.wordBytes (s : State) (base n : Nat) : List Byte := (List.range n).flatMap (fun i => bytesBE 4 (s.rd (base + 4 * i)))

/-- Are all bytes zero? -/
def allZero (bs : List Byte) : Bool := bs.all (fun b => decide (b = 0))

/-! ### Fuses (R490 to R495) -/

/-- The identity digest: SHA-384 of the identity public key (R490). -/
def State.idDigest (s : State) : List Byte := sha384 s.fuse.idPub

/-- The registers that show fuses take the fused values. -/
def State.fuseShow (s : State) : State :=
  let s := s.putB F.SEC_STAT_OWNER_FUSED s.fuse.ownerHash.isSome
  let s := s.putB F.SEC_STAT_LANTERN_FUSED s.fuse.lanternHash.isSome
  let s := s.putB F.SEC_STAT_DBG_DISABLED s.fuse.dbgDisable
  let s := s.putB F.GLB_ID_GRADE s.fuse.gradeI
  let s := s.putWords (R.SEC_ID_PUB 0) s.fuse.idPub 25
  let s := s.putWords (R.SEC_OWNER_HASH 0) (s.fuse.ownerHash.getD []) 12
  let s := s.putWords (R.SEC_LANTERN_HASH 0) (s.fuse.lanternHash.getD []) 12
  let s := s.wr R.SEC_ARB_FUSE s.fuse.steps
  (List.range 32).foldl (fun s i => s.put (F.GLB_PACE_MON_REF i) (s.fuse.refs.getD i 0)) s

/-- The limits of temperature that the ordering code sets at reset (R455). -/
def State.limitsReset (s : State) : State :=
  if s.fuse.gradeI then (s.put F.GLB_TEMP_LIMITS_HIGH 105).put F.GLB_TEMP_LIMITS_CRIT 110 else s

/-- The state at reset of a device with given fuses: what shows a fuse has it as its reset value (R462, R490). -/
def resetWith (f : Fuses) : State := (({ State.reset with fuse := f }).fuseShow).limitsReset

/-- The Lantern key held, as its registers show it (R493). -/
def State.setLantern (s : State) (k : Option (List Byte)) : State :=
  let s := { s with sec := { s.sec with lantern := k } }
  (s.putB F.SEC_STAT_LANTERN_KEY k.isSome).putWords (R.SEC_LANTERN_KEY 0) (match k with | some p => sha384 p | none => []) 12

/-! ### Key records (R498 to R501) -/

/-- The key of a slot. -/
def State.keySlot (s : State) (k : Nat) : Option KeySlot := SMap.get (fun _ => none) s.sec.keys k

/-- Set or empty key slot `k`, with what its registers show. -/
def State.setKey (s : State) (k : Nat) (v : Option KeySlot) (id : Nat) (image : Bool) : State :=
  let s := { s with sec := { s.sec with keys := SMap.set (fun _ => none) s.sec.keys k v } }
  let s := s.wr (R.SEC_KEY_STAT k) (match v with | some x => 1 + x.kind * 2 + (if image then 16 else 0) | none => 0)
  s.wr (R.SEC_KEY_ID k) (match v with | some _ => id | none => 0)

def keyKind (r : List Byte) : Nat := ofBytesBE (slice r 1 1)
def keySlotNo (r : List Byte) : Nat := ofBytesBE (slice r 2 2)

/-- Are the fields of a record of KIND 0 to 2 as R498 and R499 ask? -/
def State.keyFields (s : State) (r : List Byte) : Bool :=
  decide (r.length = 224) && decide (ofBytesBE (slice r 0 1) = 1) && decide (keyKind r ≤ 2) && decide (keySlotNo r ≤ 255) &&
    decide (slice r 8 48 = s.idDigest) && allZero (slice r 153 3) && allZero (slice r 220 4) &&
    (decide (keyKind r ≠ 0) || (allZero (slice r 56 97) && allZero (slice r 156 64)))

/-- Apply a key record of KIND 0 to 2: its status, and the state with the slot changed when the status is 0. -/
def State.keyApply (s : State) (r : List Byte) (image : Bool) : Nat × State :=
  let id := ofBytesBE (slice r 4 4)
  if !s.keyFields r then (0x130, s)
  else if keyKind r = 0 then (0, s.setKey (keySlotNo r) none id image)
  else
    match Config.unwrapKey r with
    | none => (0x131, s)
    | some p =>
      let n := if keyKind r = 1 then 28 else 44
      if !allZero (p.drop n) then (0x130, s) else (0, s.setKey (keySlotNo r) (some ⟨keyKind r, p.take n⟩) id image)

/-- KEY_LOAD (R500, R507): the record in SEC_KEY_WIN is loaded or refused, and the window reads as cleared. -/
def State.keyLoad (s : State) : Nat × State :=
  let r := s.wordBytes (R.SEC_KEY_WIN 0) 56
  let s := s.putWords (R.SEC_KEY_WIN 0) [] 56
  let (st, s) := if s.sec.open_ then (0x132, s) else s.keyApply r false
  let s := (s.put F.SEC_KEY_RESULT_STATUS st).put F.SEC_KEY_RESULT_SLOT (keySlotNo r % 256)
  if st = 0 then (st, (s.inc F.SEC_KEY_LOADS).raise 352 (keySlotNo r))
  else (st, ((s.inc F.SEC_KEY_FAILS).raiseU 353).faultU 146)

/-! ### Anti-rollback fuse steps (R497) -/

/-- ADVANCE: blowing starts, or nothing is needed. -/
def State.fuseAdvance (s : State) : Nat × State :=
  let goal := min 128 (s.rd R.NVM_BOOT_SVN)
  if s.sec.open_ then (0x132, s)
  else if s.flag F.SEC_FUSE_STAT_BUSY then (0, s)
  else if goal ≤ s.fuse.steps then (0, s.put F.SEC_FUSE_STAT_STATUS 0x135)
  else
    let s := { s with sec := { s.sec with advance := some goal } }
    (0, (s.putB F.SEC_FUSE_STAT_BUSY true).put F.SEC_FUSE_STAT_STATUS 0)

/-- The advance under way ends with a status. -/
def State.fuseEnd (s : State) (status : Nat) : State :=
  let s := { s with sec := { s.sec with advance := none } }
  (s.putB F.SEC_FUSE_STAT_BUSY false).put F.SEC_FUSE_STAT_STATUS status

/-- FUSE_STEP_DONE. -/
def State.fuseStep (s : State) (ok : Bool) : State :=
  match s.sec.advance with
  | none => s
  | some goal =>
    if !ok then (s.fuseEnd 0x136).faultU 145
    else
      let f := s.fuse.steps + 1
      let s := { s with fuse := { s.fuse with steps := f } }
      let s := s.wr R.SEC_ARB_FUSE f
      if goal ≤ f then (s.fuseEnd 0).raise 356 f else s

/-! ### Debug access (R504 to R507) -/

/-- A new challenge. -/
def State.newChallenge (s : State) : State :=
  let (c, s) := s.random 32
  s.putWords (R.SEC_DBG_CHAL 0) c 8

/-- Is a token as R504 and R505 ask? -/
def State.tokenOk (s : State) (t : List Byte) : Bool :=
  let scope := ofBytesBE (slice t 2 2)
  decide (ofBytesBE (slice t 0 2) = 1) && decide (scope ≠ 0) && decide (scope < 8) && allZero (slice t 4 4) &&
    decide (slice t 8 32 = s.wordBytes (R.SEC_DBG_CHAL 0) 8) && decide (slice t 40 48 = s.idDigest) && allZero (slice t 185 3) &&
    allZero (slice t 284 4) && decide (s.fuse.ownerHash = some (sha384 (slice t 88 97))) &&
    Config.ecdsaVerify (slice t 88 97) (t.take 188) (slice t 188 96)

/-- OPEN (R505): the token is verified; access opens later (R506). -/
def State.dbgOpenCmd (s : State) : Nat × State :=
  let t := s.wordBytes (R.SEC_DBG_TOKEN 0) 72
  let st :=
    if s.fuse.dbgDisable || s.fuse.ownerHash.isNone || decide (s.get F.SEC_STAT_DBG_FAILS = 3) then 0x134
    else if s.tokenOk t then 0 else 0x133
  let s := ((s.putWords (R.SEC_DBG_TOKEN 0) [] 72).newChallenge).put F.SEC_DBG_STAT_STATUS st
  let s := s.raise 354 st
  if st = 0 then
    let s := { s with sec := { s.sec with opening := some (ofBytesBE (slice t 2 2)) } }
    (st, s.putB F.SEC_DBG_STAT_BUSY true)
  else (st, (s.put F.SEC_STAT_DBG_FAILS (min 3 (s.get F.SEC_STAT_DBG_FAILS + 1))).faultU 147)

/-- Step 3 of R506: keys, session and link keys, SRTP state and the Lantern key are emptied. -/
def State.keysErase (s : State) : State :=
  let s := (List.range 256).foldl (fun s k => if (s.keySlot k).isSome then s.setKey k none 0 false else s) s
  let s := { s with ing := s.ing.map (fun (p : Nat × IngCtx) => (p.1, { p.2 with srtpTop := none, srtpSeen := [] })) }
  let s := { s with enc := { s.enc with ctx := s.enc.ctx.map (fun (p : Nat × EncCtx) => (p.1, { p.2 with rollover := 0 })) } }
  let s := { s with gng := s.gng.map (fun (p : Nat × LinkState) => (p.1, { p.2 with keys := [], hello := [], ephDraw := 0 })) }
  (s.setLantern none).putB F.SEC_STAT_ID_BLOCKED true

/-- Zero bytes in place of a list of bytes. -/
def zeroed (bs : List Byte) : List Byte := List.replicate bs.length 0

def Bank.zeroed (b : Bank) : Bank := { b with bytes := List.replicate b.bytes.length 0 }

/-- Step 4 of R506 in an ingest context: its FIFO and what it holds of an open unit. -/
def IngCtx.zeroed (x : IngCtx) : IngCtx :=
  { x with
    bankA := x.bankA.zeroed, bankB := x.bankB.zeroed, frag := x.frag.map Sys2Proof.Machine.zeroed
    au := x.au.map (fun (u : OpenAu) => { u with bytes := Sys2Proof.Machine.zeroed u.bytes }) }

/-- The same in an encode context: the tiles coded, and the records still to send. -/
def EncCtx.zeroed (x : EncCtx) : EncCtx :=
  let tile := fun (t : Option TileDone) => t.map (fun (d : TileDone) => { d with bytes := Sys2Proof.Machine.zeroed d.bytes })
  { x with
    run := x.run.map (fun (r : EncRun) => { r with done := r.done.map (fun (p : Nat × Option TileDone) => (p.1, tile p.2)) })
    recs := x.recs.map (fun (r : EncRec) => { r with nals := r.nals.map Sys2Proof.Machine.zeroed }) }

/-- The same in a DMA channel: its funnel and its template. -/
def ChanState.zeroed (x : ChanState) : ChanState :=
  { x with funnel := Sys2Proof.Machine.zeroed x.funnel, tmpl := Sys2Proof.Machine.zeroed x.tmpl }

/-- The same in the requests of the DRAM channels. -/
def MemState.zeroed (x : MemState) : MemState :=
  let reqs := fun (l : SMap (List MemReq)) => l.map (fun (p : Nat × List MemReq) =>
    (p.1, p.2.map (fun (q : MemReq) => { q with data := Sys2Proof.Machine.zeroed q.data })))
  let back := fun (r : Option ReadBack) => r.map (fun (b : ReadBack) => { b with bytes := Sys2Proof.Machine.zeroed b.bytes })
  { x with
    queue := reqs x.queue, reads := reqs x.reads, waiting := reqs x.waiting
    back := x.back.map (fun (p : Nat × Option ReadBack) => (p.1, back p.2)) }

/-- Step 4 of R506: DRAM and every SRAM partition but the control stores read zero: memory, the ingest FIFOs, the packet buffer, the
contexts and descriptors, the ring mirrors, and the calibration buffers. -/
def State.memoryErase (s : State) : State :=
  let s := { s with mem := [], memEpoch := 0 }
  let s := { s with ing := s.ing.map (fun (p : Nat × IngCtx) => (p.1, p.2.zeroed)), memc := s.memc.zeroed }
  let s := { s with enc := { s.enc with ctx := s.enc.ctx.map (fun (p : Nat × EncCtx) => (p.1, p.2.zeroed)) } }
  let s := { s with dma := { s.dma with chan := s.dma.chan.map (fun (p : Nat × ChanState) => (p.1, p.2.zeroed)) } }
  let rx := fun (b : RxBuf) => ({ b with body := zeroed b.body, items := b.items.map (fun l => l.map zeroed) } : RxBuf)
  let s := { s with net := { s.net with rx := s.net.rx.map rx } }
  let pkt := fun (x : TilePkt) => ({ x with payload := zeroed x.payload } : TilePkt)
  let s := { s with out := { s.out with
    wire := s.out.wire.map (fun (p : Nat × List Byte) => (p.1, zeroed p.2))
    queue := s.out.queue.map (fun (p : Nat × List Frame) => (p.1, p.2.map (fun (f : Frame) => { f with bytes := zeroed f.bytes })))
    flow := s.out.flow.map (fun (p : Nat × FlowState) => (p.1, { p.2 with
      configs := p.2.configs.map pkt
      frames := p.2.frames.map (fun (f : TileFrame) => { f with codes := [], pkts := f.pkts.map pkt }) })) } }
  let s := { s with rng := s.rng.map (fun (p : Nat × RingState) => (p.1, { p.2 with mirror := p.2.mirror.map zeroed })) }
  let s := { s with cal := { s.cal with
    pieces := s.cal.pieces.map (fun (p : Piece) => { p with lamps := p.lamps.map (fun _ => (0, 0, 0)) })
    cache := s.cal.cache.map (fun (p : Nat × List Byte) => (p.1, zeroed p.2)) } }
  { s with cmp := { s.cmp with filt := s.cmp.filt.map (fun (p : Nat × List Byte) => (p.1, zeroed p.2)) } }

/-- DEBUG_ACCESS_OPENED (R506): steps 2 to 5. -/
def State.dbgOpened (s : State) : State :=
  match s.sec.opening with
  | none => s
  | some scope =>
    let s := (List.range 16).foldl (fun s l => if s.flag (F.NET_LP_CTL_EN l) then s.portDisable l else s) s
    let s := if s.ctl.lock.holder.isSome then s.lockFree else s
    let s := (List.range 16).foldl (fun s i => (s.sessEnd i).sessFree i) s
    let s := { s with ctl := { s.ctl with sess := s.ctl.sess.map (fun (p : Nat × SessState) => (p.1, { p.2 with keys := [], held := [] })) } }
    let s := s.keysErase.memoryErase
    let s := { s with sec := { s.sec with opening := none, open_ := true } }
    let s := (s.putB F.SEC_DBG_STAT_BUSY false).putB F.SEC_DBG_STAT_OPEN true
    let s := (s.put F.SEC_DBG_STAT_SCOPE scope).putB F.SEC_STAT_DBG_OPEN true
    ((s.raiseU 355).setCause 144 true).faultU 144

/-! ### Attestation (R502) -/

/-- The floor record's P is shown in SEC_ARB_FLOOR; the report is built from registers and fuses. -/
def State.attestReport (s : State) (nonce : List Byte) : List Byte :=
  let fl (b : Bool) (k : Nat) : Nat := if b then 2 ^ k else 0
  let flags := fl s.fuse.ownerHash.isSome 0 + fl s.fuse.lanternHash.isSome 1 + fl s.sec.lantern.isSome 2 +
    fl (s.flag F.NVM_BOOT_STAT_FALLBACK) 3 + fl (s.flag F.NVM_BOOT_STAT_SETTINGS_APPLIED) 4 + fl (s.flag F.NVM_BOOT_STAT_CS1_OK) 5 +
    fl s.fuse.dbgDisable 6
  let pad (n : Nat) (bs : List Byte) : List Byte := (bs ++ List.replicate n 0).take n
  let body := bytesBE 2 1 ++ bytesBE 2 flags ++ bytesBE 2 (s.get F.GLB_ID_PART) ++ bytesBE 1 (s.get F.GLB_ID_STEPPING) ++
    bytesBE 1 (s.get F.GLB_ID_GRADE) ++ pad 32 nonce ++ pad 97 s.fuse.idPub ++ bytesBE 3 0 ++ pad 48 (s.fuse.ownerHash.getD []) ++
    pad 48 (s.fuse.lanternHash.getD []) ++ pad 48 (match s.sec.lantern with | some p => sha384 p | none => []) ++
    s.wordBytes (R.NVM_BOOT_DIGEST 0) 12 ++ bytesBE 4 (s.rd R.NVM_BOOT_SEQ) ++ bytesBE 4 (s.rd R.NVM_BOOT_SVN) ++
    bytesBE 4 (s.rd R.SEC_ARB_FLOOR) ++ bytesBE 1 s.fuse.steps ++ bytesBE 1 (s.get F.NVM_BOOT_STAT_SLOT) ++
    bytesBE 1 (s.get F.NVM_BOOT_STAT_FAIL_A + s.get F.NVM_BOOT_STAT_FAIL_B * 16) ++ bytesBE 1 0 ++ bytesBE 4 (s.rd (R.DEC_ENG_UCODE 0)) ++
    timeBE s.tim.now ++ bytesBE 4 0
  body ++ identitySign body

/-- ATTEST_REPORT_READY: the oldest report is built and sent. -/
def State.attestReady (s : State) : State :=
  match s.ctl.attest with
  | [] => s
  | j :: r =>
    let s := { s with ctl := { s.ctl with attest := r } }
    s.answerD ⟨j.slot, j.seq, 0x31, j.relay⟩ 0 (s.attestReport j.nonce)

end Sys2Proof.Machine
end

