-- ==== Sys2Proof/Machine/Nvm.lean ====
section
/-! DEFINITION. The NVM devices (R466 to R487): slots, image headers and section tables and their checks, the operations of NVM_OP,
persistent records and the event log. -/

namespace Sys2Proof.Machine

/-! ### The devices, byte by byte (R466, R467) -/

def State.cs0Byte (s : State) (a : Nat) : Byte := SMap.get (fun _ => (0xFF : Byte)) s.nvm.cs0 a
def State.cs1Byte (s : State) (a : Nat) : Byte := SMap.get (fun _ => (0 : Byte)) s.nvm.cs1 a

def State.cs0Bytes (s : State) (a : Nat) : Nat → List Byte
  | 0 => []
  | n + 1 => s.cs0Byte a :: s.cs0Bytes (a + 1) n
def State.cs1Bytes (s : State) (a : Nat) : Nat → List Byte
  | 0 => []
  | n + 1 => s.cs1Byte a :: s.cs1Bytes (a + 1) n

def State.cs0Write (s : State) (a : Nat) : List Byte → State
  | [] => s
  | b :: r => ({ s with nvm := { s.nvm with cs0 := SMap.set (fun _ => (0xFF : Byte)) s.nvm.cs0 a b } }).cs0Write (a + 1) r
def State.cs1Write (s : State) (a : Nat) : List Byte → State
  | [] => s
  | b :: r => ({ s with nvm := { s.nvm with cs1 := SMap.set (fun _ => (0 : Byte)) s.nvm.cs1 a b } }).cs1Write (a + 1) r

/-- Bytes of chip select 1 that a failed write leaves in an unstated state: free values. -/
def State.cs1Free (s : State) (a : Nat) : Nat → State
  | 0 => s
  | n + 1 => ({ (s.cs1Write a [Config.freeByte s.draw]) with draw := s.draw + 1 }).cs1Free (a + 1) n

/-- Bytes of chip select 0 that a failed operation leaves in an unstated state: free values. -/
def State.cs0Free (s : State) (a : Nat) : Nat → State
  | 0 => s
  | n + 1 => ({ (s.cs0Write a [Config.freeByte s.draw]) with draw := s.draw + 1 }).cs0Free (a + 1) n

def slotSize : Nat := 0x08000000
def slotEnd : Nat := 0x07FC0000
def commitOff : Nat := 0x07FFFFC0
/-- `n` bytes of slot `k` (0 A, 1 B) from `off` up. -/
def State.slotBytes (s : State) (k off n : Nat) : List Byte := s.cs0Bytes (k * slotSize + off) n
/-- The big-endian number of `n` bytes of slot `k` at `off`. -/
def State.slotNum (s : State) (k off n : Nat) : Nat := ofBytesBE (s.slotBytes k off n)

/-! ### Images (R472 to R475) -/

/-- One entry of a section table (R473). -/
structure Section_ where
  type : Nat
  flags : Nat
  dest : Nat
  off : Nat
  len : Nat
  digest : List Byte
  deriving DecidableEq, Repr

def State.imgSections (s : State) (k : Nat) : Nat := s.slotNum k 6 2
def State.imgLen (s : State) (k : Nat) : Nat := s.slotNum k 8 4
def State.imgSvn (s : State) (k : Nat) : Nat := s.slotNum k 12 4
def State.sigOff (s : State) (k : Nat) : Nat := 128 + 64 * s.imgSections k

/-- The section table of slot `k`. -/
def State.sections (s : State) (k : Nat) : List Section_ :=
  (List.range (s.imgSections k)).map (fun i =>
    let o := 128 + 64 * i
    ⟨s.slotNum k o 1, s.slotNum k (o + 1) 1, s.slotNum k (o + 2) 6, s.slotNum k (o + 8) 4, s.slotNum k (o + 12) 4, s.slotBytes k (o + 16) 48⟩)

/-- A ZERO blob stores no bytes. -/
def Section_.zero (x : Section_) : Bool := x.flags.testBit 0

/-- Is a section's TYPE, FLAGS, DEST, place and length as R473 and R475 ask? -/
def Section_.ok (x : Section_) (lo hi : Nat) : Bool :=
  decide (1 ≤ x.type) && decide (x.type ≤ 5) && decide (x.flags ≤ (if x.type = 4 then 1 else 0)) && decide (1 ≤ x.len) &&
  (if x.zero then decide (x.off = 0) && allZero x.digest
    else decide (x.off % 64 = 0) && decide (lo ≤ x.off) && decide (x.off + x.len ≤ hi)) &&
  (if x.type = 1 then decide (x.dest = 0) && decide (x.len % 12 = 0)
    else if x.type = 2 then decide (x.dest % 2 ^ 16 < 8192) && decide (x.dest / 2 ^ 17 = 0)
    else if x.type = 3 then decide (x.dest % 2 ^ 16 < 4) && decide (x.dest / 2 ^ 29 = 0) && decide (x.len % 16 = 0) &&
      decide (x.dest / 2 ^ 16 + x.len / 16 ≤ 8192)
    else if x.type = 5 then decide (x.dest = 0) && decide (x.len % 224 = 0) else true)

/-- Do two stored sections share a byte? -/
def Section_.overlaps (x y : Section_) : Bool := !x.zero && !y.zero && decide (x.off < y.off + y.len) && decide (y.off < x.off + x.len)

/-- Does any pair of a list overlap? -/
def anyOverlap : List Section_ → Bool
  | [] => false
  | x :: r => r.any (fun y => x.overlaps y) || anyOverlap r

/-- Is the header, and the table, of slot `k` as R472, R473 and R475 ask? -/
def State.headerOk (s : State) (k : Nat) : Bool :=
  let secs := s.sections k
  let n := s.imgSections k
  decide (s.slotNum k 0 4 = 0x504C5238) && decide (s.slotNum k 4 2 = 1) && decide (1 ≤ n) && decide (n ≤ 1024) &&
    decide (s.imgLen k ≤ slotEnd) && decide (s.slotNum k 16 4 ≤ 1) && allZero (s.slotBytes k 26 6) && allZero (s.slotBytes k 96 32) &&
    allZero (s.slotBytes k (s.sigOff k + 97) 3) && allZero (s.slotBytes k (s.sigOff k + 196) 60) &&
    secs.all (fun x => x.ok (s.sigOff k + 256) (s.imgLen k)) && !anyOverlap secs &&
    decide ((secs.filter (fun (x : Section_) => decide (x.type = 2) && decide (x.dest / 2 ^ 16 = 0))).length ≤ 1) &&
    decide ((secs.filter (fun (x : Section_) => decide (x.type = 2) && decide (x.dest / 2 ^ 16 = 1))).length ≤ 1)

def State.imgPub (s : State) (k : Nat) : List Byte := s.slotBytes k (s.sigOff k) 97

/-- The floor V of R495. -/
def State.floorV (s : State) : Nat := max s.fuse.steps (s.rd R.SEC_ARB_FLOOR)

/-- The VERIFY checks of slot `k`: the FAIL reason of R470, or 0. An unowned device skips OWNER_KEY (R491). -/
def State.verifyImage (s : State) (k : Nat) : Nat :=
  let target := s.slotBytes k 32 48
  if !s.headerOk k then 2
  else if !(match s.fuse.ownerHash with | some h => decide (sha384 (s.imgPub k) = h) | none => true) then 3
  else if !Config.ecdsaVerify (s.imgPub k) (s.slotBytes k 0 (s.sigOff k + 100)) (s.slotBytes k (s.sigOff k + 100) 96) then 4
  else if s.imgSvn k < s.floorV then 5
  else if !allZero target && decide (target ≠ s.idDigest) then 6
  else 0

/-- Do the bytes of a section match its digest? -/
def State.digestOk (s : State) (k : Nat) (x : Section_) : Bool := x.zero || decide (sha384 (s.slotBytes k x.off x.len) = x.digest)

/-- The microcode of a UCODE_SYN section, when its container is signed and agrees with DEST (R475). -/
def State.ucodeOf (s : State) (k : Nat) (x : Section_) : Option (Nat × Nat × Nat × List Nat) :=
  match Config.ucode (s.slotBytes k x.off x.len) with
  | some (codec, base, ver, words) =>
    if codec = x.dest / 2 ^ 16 ∧ base = x.dest % 2 ^ 16 then some (codec, base, ver, words) else none
  | none => none

/-! ### Commit records (R468) -/

def State.commitSeq (s : State) (k : Nat) : Nat := s.slotNum k (commitOff + 4) 4

/-- The digest that a commit record of slot `k` holds. -/
def State.commitDigest (s : State) (k : Nat) : List Byte := sha384 (s.slotBytes k 0 (s.sigOff k + 196))

/-- Is the commit record of slot `k` valid? -/
def State.commitOk (s : State) (k : Nat) : Bool :=
  decide (s.slotNum k commitOff 4 = 0x504C5243) && decide (s.commitSeq k ≠ 0xFFFFFFFF) &&
    decide (s.slotNum k (commitOff + 8) 4 = s.imgLen k) && decide (s.slotBytes k (commitOff + 16) 48 = s.commitDigest k)

/-! ### Persistent records (R480 to R483) -/

def recBase (kind : Nat) : Nat := if kind = 1 then 0x1000 else if kind = 2 then 0x40000 else if kind = 3 then 0x300000 else 0
/-- Records of a kind. -/
def recCount (kind : Nat) : Nat := if kind = 1 then 256 else if kind = 2 ∨ kind = 3 then 4096 else if kind = 4 then 1 else 0
/-- Device offset of copy `c` of a record. -/
def recAddr (kind r c : Nat) : Nat := recBase kind + (if kind = 3 then r else 2 * r + c) * 256

def recMagic : Nat := 0x434F4D54

/-- The 256 bytes of a committed record. -/
def recordBytes (kind r gen : Nat) (data : List Byte) : List Byte :=
  let b := bytesBE 1 kind ++ bytesBE 1 0 ++ bytesBE 2 r ++ bytesBE 4 gen ++ (data ++ List.replicate 240 0).take 240
  b ++ bytesBE 4 (crc32c b) ++ bytesBE 4 recMagic

def State.recCopy (s : State) (kind r c : Nat) : List Byte := s.cs1Bytes (recAddr kind r c) 256
def recGen (b : List Byte) : Nat := ofBytesBE (slice b 4 4)
def recData (b : List Byte) : List Byte := slice b 8 240

/-- Is a copy valid (R481)? -/
def recOk (kind r : Nat) (b : List Byte) : Bool :=
  decide (ofBytesBE (slice b 252 4) = recMagic) && decide (ofBytesBE (slice b 248 4) = crc32c (b.take 248)) &&
    decide (ofBytesBE (slice b 0 1) = kind) && decide (ofBytesBE (slice b 2 2) = r)

/-- Is generation `a` later than `b` by serial-number arithmetic? -/
def genLater (a b : Nat) : Bool := let d := (a + 2 ^ 32 - b) % 2 ^ 32; decide (0 < d) && decide (d < 2 ^ 31)

/-- The valid copy of a record that is read: its copy number and bytes. -/
def State.recRead (s : State) (kind r : Nat) : Option (Nat × List Byte) :=
  let a := s.recCopy kind r 0
  let b := s.recCopy kind r 1
  match recOk kind r a, recOk kind r b with
  | true, true => if genLater (recGen b) (recGen a) then some (1, b) else some (0, a)
  | true, false => some (0, a)
  | false, true => some (1, b)
  | false, false => none

/-- Is the record corrupt: an invalid copy beside a valid one, or absent although a copy has been written? -/
def State.recBad (s : State) (kind r : Nat) : Bool :=
  let a := s.recCopy kind r 0
  let b := s.recCopy kind r 1
  match recOk kind r a, recOk kind r b with
  | true, true => false
  | false, false => !allZero a || !allZero b
  | _, _ => true

/-- A record is looked at: a corrupt one is counted and reported (R481). -/
def State.recLook (s : State) (kind r : Nat) : State := if s.recBad kind r then (s.inc F.NVM_REC_BAD).faultU 138 else s

/-- The records of a kind that have any byte written, in order. -/
def State.recsWritten (s : State) (kind : Nat) : List Nat :=
  let step := if kind = 3 then 256 else 512
  ((s.nvm.cs1.filter (fun (p : Nat × Byte) => decide (recBase kind ≤ p.1) && decide (p.1 < recBase kind + recCount kind * step))).map
    (fun (p : Nat × Byte) => (p.1 - recBase kind) / step)).eraseDups

/-- P of R495 is shown in SEC_ARB_FLOOR. -/
def State.floorShow (s : State) : State :=
  let p := if s.flag F.NVM_BOOT_STAT_CS1_OK then
      match s.recRead 4 0 with | some (_, b) => ofBytesBE (slice b 8 4) | none => s.fuse.steps
    else s.fuse.steps
  s.wr R.SEC_ARB_FLOOR p

/-- The copy that a write goes to: an invalid one, else the older one (R481). -/
def State.recTarget (s : State) (kind r : Nat) : Nat :=
  let a := s.recCopy kind r 0
  let b := s.recCopy kind r 1
  if !recOk kind r a then 0 else if !recOk kind r b then 1 else if genLater (recGen a) (recGen b) then 1 else 0

/-- GEN of the next write of a record. -/
def State.recNextGen (s : State) (kind r : Nat) : Nat :=
  match s.recRead kind r with | some (_, b) => (recGen b + 1) % 2 ^ 32 | none => 1

/-- RECORD_WRITE_START (R481, R482): the oldest waiting write begins, unless its spacing has not passed: the COMMIT bytes of
its copy are zeroed. -/
def State.recWriteStart (s : State) : State :=
  let late := match s.nvm.lastWrite with | none => true | some t => decide (t + 20 * Config.ms ≤ s.tim.elapsed)
  match s.nvm.writing, s.nvm.persist.find? (fun (j : PersistJob) => decide (j.kind = 4) || late) with
  | none, some j =>
    let a := recAddr j.kind j.record (s.recTarget j.kind j.record)
    let last := if j.kind = 4 then s.nvm.lastWrite else some s.tim.elapsed
    let s := { s with nvm := { s.nvm with persist := s.nvm.persist.erase j, writing := some (j, a), lastWrite := last } }
    s.cs1Write (a + 252) [0, 0, 0, 0]
  | _, _ => s

/-- RECORD_WRITE_DONE: the record is committed, or its read-back has failed, which leaves the bytes of the copy that was written
free (R481). -/
def State.recWriteDone (s : State) (ok : Bool) : State :=
  match s.nvm.writing with
  | none => s
  | some (j, a) =>
    let gen := s.recNextGen j.kind j.record
    let s := { s with nvm := { s.nvm with writing := none } }
    if ok then
      let s := (s.cs1Write a (recordBytes j.kind j.record gen j.data)).inc F.NVM_REC_WRITES
      (if j.kind = 4 then s.floorShow else s).answerD ⟨j.slot, j.seq, 0x30, j.relay⟩ 0 []
    else ((s.cs1Free a 256).faultU 137).answerD ⟨j.slot, j.seq, 0x30, j.relay⟩ 0x20 []

/-! ### The event log (R484) -/

/-- The valid log record of the latest GEN, and that GEN. -/
def State.logBest (s : State) : Option (Nat × Nat) :=
  (s.recsWritten 3).foldl (fun (a : Option (Nat × Nat)) r =>
    let b := s.recCopy 3 r 0
    if !recOk 3 r b then a
    else match a with
      | none => some (r, recGen b)
      | some (_, g) => if genLater (recGen b) g then some (r, recGen b) else a) none

/-- The next log record, as SELECT finds it. -/
def State.logFind (s : State) : State :=
  s.wr R.NVM_LOG_NEXT (match s.logBest with | some (r, _) => (r + 1) % 4096 | none => 0)

/-- LOG_WRITE_START: the oldest waiting log record is written, with the GEN after the latest of the log. -/
def State.logWrite (s : State) : State :=
  match s.nvm.log with
  | [] => s
  | d :: rest =>
    let r := s.rd R.NVM_LOG_NEXT
    let gen := match s.logBest with | some (_, g) => (g + 1) % 2 ^ 32 | none => 1
    let s := { s with nvm := { s.nvm with log := rest } }
    ((s.cs1Write (recAddr 3 r 0) (recordBytes 3 r gen d)).inc F.NVM_REC_WRITES).wr R.NVM_LOG_NEXT ((r + 1) % 4096)

/-- The log record of the end of a start-up (R484). -/
def State.logBoot (s : State) : State :=
  let slot := match s.nvm.slot with | some k => k | none => 255
  s.logPersist (bytesBE 1 1 ++ bytesBE 1 slot ++ bytesBE 1 0 ++
    bytesBE 1 (s.get F.NVM_BOOT_STAT_FAIL_A + s.get F.NVM_BOOT_STAT_FAIL_B * 16) ++ bytesBE 2 (s.get F.NVM_BOOT_STAT_STAGE) ++ bytesBE 2 0 ++
    bytesBE 4 (s.rd R.NVM_BOOT_SEQ) ++ timeBE s.tim.now ++ List.replicate 216 0)

/-! ### Reading a record (R488) -/

/-- A write of NVM_REC_CMD.READ. -/
def State.recReadStart (s : State) : State :=
  let s := { s with nvm := { s.nvm with recRead := some (s.get F.NVM_REC_SEL_KIND, s.get F.NVM_REC_SEL_RECORD) } }
  s.putB F.NVM_REC_STAT_BUSY true

/-- RECORD_READ_DONE. -/
def State.recReadDone (s : State) (ok : Bool) : State :=
  match s.nvm.recRead with
  | none => s
  | some (kind, r) =>
    let s := { s with nvm := { s.nvm with recRead := none } }
    let done := fun (s : State) (valid : Bool) (copy status : Nat) =>
      (((s.putB F.NVM_REC_STAT_BUSY false).putB F.NVM_REC_STAT_VALID valid).put F.NVM_REC_STAT_COPY copy).put F.NVM_REC_STAT_STATUS status
    if recCount kind ≤ r then done s false 0 0x122
    else if !s.flag F.NVM_BOOT_STAT_CS1_OK || !ok then done s false 0 0x126
    else if kind = 3 then
      let b := s.recCopy 3 r 0
      if recOk 3 r b then done (s.putWords (R.NVM_REC_DATA 0) b 64) true 0 0
      else done (if allZero b then s else (s.inc F.NVM_REC_BAD).faultU 138) false 0 0x125
    else
      let found := s.recRead kind r
      let s := s.recLook kind r
      match found with
      | some (c, b) => done (s.putWords (R.NVM_REC_DATA 0) b 64) true c 0
      | none => done s false 0 0x125

/-! ### Operations on the slots (R479) -/

/-- The status that an operation has before it begins: an operation on the running slot, or a range outside the limits. -/
def State.nvmCheck (s : State) (op slot off len dram : Nat) : Nat :=
  let erase := 2 ^ s.get F.NVM_GEOM_CS0_ERASE_LOG2
  if op ≠ 3 ∧ s.nvm.slot = some slot then 0x121
  else if op = 1 ∧ (off % erase ≠ 0 ∨ len % erase ≠ 0 ∨ slotSize < off + len) then 0x122
  else if op = 2 ∧ (slotEnd < off + len ∨ !s.inDram dram len) then 0x122
  else if op = 3 ∧ (slotSize < off + len ∨ !s.inDram dram len) then 0x122
  else 0

/-- The sector that holds the commit record of slot `k`, erased. -/
def State.eraseCommit (s : State) (k : Nat) : State :=
  let erase := 2 ^ s.get F.NVM_GEOM_CS0_ERASE_LOG2
  let a := (k * slotSize + commitOff) / erase * erase
  s.cs0Write a (List.replicate erase 0xFF)

/-- GO is written (R479): the operation begins; ERASE has erased the commit record's sector before anything else. -/
def State.nvmGo (s : State) : Nat × State :=
  let op := s.get F.NVM_OP_CTL_OP
  if s.flag F.NVM_OP_STAT_BUSY then (0x120, s)
  else if op = 0 ∨ 5 ≤ op then (0x122, s)
  else if s.get F.NVM_BOOT_STAT_STAGE ≠ 7 then (0, s)
  else
    let slot := s.get F.NVM_OP_CTL_SLOT
    let off := s.get F.NVM_OP_OFF
    let len := s.get F.NVM_OP_LEN
    let dram := s.get F.NVM_OP_DRAM_HI * 2 ^ 32 + s.rd R.NVM_OP_DRAM_LO
    let st := s.nvmCheck op slot off len dram
    let s := { s with nvm := { s.nvm with job := some ⟨op, slot, off, len, dram, st⟩ } }
    let s := s.putB F.NVM_OP_STAT_BUSY true
    (0, if op = 1 ∧ st = 0 then s.eraseCommit slot else s)

/-- The highest SEQ of a valid commit record. -/
def State.topSeq (s : State) : Option Nat :=
  [0, 1].foldl (fun (a : Option Nat) k => if s.commitOk k then some (max (a.getD 0) (s.commitSeq k)) else a) none

/-- The check of an NVM COMMIT: VERIFY, every section digest, and the microcode (R479). -/
def State.nvmCommitCheck (s : State) (k : Nat) : Nat :=
  let v := s.verifyImage k
  if v = 5 then 0x124
  else if v ≠ 0 then 0x123
  else if (s.sections k).any (fun x => !s.digestOk k x) then 0x123
  else if (s.sections k).any (fun (x : Section_) => decide (x.type = 2) && (s.ucodeOf k x).isNone) then 0x123
  else if s.topSeq = some 0xFFFFFFFE then 0x122
  else 0

/-- The commit record that an NVM COMMIT writes. -/
def State.commitRecord (s : State) (k : Nat) : List Byte :=
  let seq := match s.topSeq with | some q => q + 1 | none => 0
  bytesBE 4 0x504C5243 ++ bytesBE 4 seq ++ bytesBE 4 (s.imgLen k) ++ bytesBE 4 0 ++ s.commitDigest k

/-- The operation ends with a status. -/
def State.nvmEnd (s : State) (status : Nat) : State :=
  let s := { s with nvm := { s.nvm with job := none } }
  let s := (s.putB F.NVM_OP_STAT_BUSY false).put F.NVM_OP_STAT_STATUS status
  (if status = 0x126 then s.faultU 137 else s).raise 338 status

/-- NVM_OP_DONE: the operation's effect, or what a device error leaves. -/
def State.nvmDone (s : State) (ok : Bool) : State :=
  match s.nvm.job with
  | none => s
  | some j =>
    let a := j.slot * slotSize + j.off
    if j.status ≠ 0 then s.nvmEnd j.status
    else if j.op = 1 then
      if ok then (s.cs0Write a (List.replicate j.len 0xFF)).nvmEnd 0 else (s.cs0Free a j.len).nvmEnd 0x126
    else if j.op = 2 then
      if ok then (s.cs0Write a (s.bytes j.dram j.len)).nvmEnd 0 else (s.cs0Free a j.len).nvmEnd 0x126
    else if j.op = 3 then
      if ok then (s.setBytes j.dram (s.slotBytes j.slot j.off j.len)).nvmEnd 0 else (s.freeBytes j.dram j.len).nvmEnd 0x126
    else if !ok then (s.cs0Free (j.slot * slotSize + commitOff) 64).nvmEnd 0x126
    else
      let st := s.nvmCommitCheck j.slot
      if st ≠ 0 then s.nvmEnd st
      else
        let rec_ := s.commitRecord j.slot
        let erased := (s.slotBytes j.slot commitOff 64).all (fun b => decide (b = 0xFF))
        ((if erased then s else s.eraseCommit j.slot).cs0Write (j.slot * slotSize + commitOff) rec_).nvmEnd 0

end Sys2Proof.Machine
end

