-- ==== Sys2Proof/Machine/Gang.lean ====
section
/-! DEFINITION. Rilsar (R512 to R525): setting links up, keepalives, replies, repeats and loss. What a member applies stands with the
control messages. -/

namespace Sys2Proof.Machine

/-! ### What the links show -/

/-- A 64-bit mask of peers in two registers. -/
def State.peerMask (s : State) (lo hi : Nat) (p : Nat → Bool) : State :=
  let m := ((List.range 64).filter p).foldl (fun a d => a + 2 ^ d) 0
  (s.wr lo (m % 2 ^ 32)).wr hi (m / 2 ^ 32)

/-- Bring GNG_STAT, the peer masks, and the causes of faults 152 to 154 up to date (R522, R523, R527). -/
def State.gangShow (s : State) : State :=
  let on := s.peersOn
  let up := on.filter (fun d => decide (s.peerState d = 2))
  let split := up.any (fun d => s.flag (F.GNG_PEER_STAT_SPLIT d))
  let s := (s.put F.GNG_STAT_UP up.length).put F.GNG_STAT_ENABLED on.length
  let s := s.putB F.GNG_STAT_HEAD_UP (s.isMember && decide (s.peerState (s.get F.GNG_CFG_HEAD) = 2))
  let s := s.peerMask R.GNG_UP_LO R.GNG_UP_HI (fun d => up.contains d)
  let s := s.peerMask R.GNG_FAULTED_LO R.GNG_FAULTED_HI (fun d => decide (s.get (F.GNG_PEER_STAT_FLT_STATE d) ≠ 0))
  let s := s.setCause 152 (s.isHead && decide (up.length < on.length))
  let s := s.setCause 154 (s.isMember && decide (up.length < on.length))
  let was := s.flag F.GNG_STAT_SPLIT
  let s := (s.putB F.GNG_STAT_SPLIT split).setCause 153 split
  let s := if split && !was then (s.raiseU 372).faultU 153 else s
  s.setCond 372 s.unstated split

def State.setPeerState (s : State) (d st : Nat) : State := s.put (F.GNG_PEER_STAT_STATE d) st

/-- LINKS: every enabled entry starts linking. -/
def State.gangLinks (s : State) : State :=
  (s.peersOn.foldl (fun s d => if s.peerState d = 0 then s.setPeerState d 1 else s) s).gangShow

/-! ### Setting a link up (R517) -/

/-- Bytes 0 to 235 of a GANG_ACCEPT body. -/
def acceptBody (linkId : Nat) (nonce eph idPub : List Byte) : List Byte :=
  bytesBE 4 linkId ++ nonce ++ eph ++ bytesBE 3 0 ++ idPub ++ bytesBE 3 0

/-- A drop of R515. -/
def State.gangDrop (s : State) : State := s.inc F.GNG_RX_DROP

def State.peerDigest (s : State) (d : Nat) : List Byte := s.wordBytes (R.GNG_PEER_DIGEST d 0) 12

/-- A failed check: event 375, fault 155. -/
def State.linkRefused (s : State) : State := (s.raiseU 375).faultU 155

/-- The link to `d` is up with keys from nonces in head, member order. -/
def State.linkUp (s : State) (d linkId draw : Nat) (peerEph headNonce memberNonce : List Byte) : State :=
  let info := "PW8 rilsar".toList.map (fun ch => BitVec.ofNat 8 ch.toNat) ++ bytesBE 4 linkId
  let v := s.link d
  let s := s.setLink d { LinkState.init with
    linkId := linkId, nonce := headNonce, peerNonce := memberNonce, keys := Config.hkdfEcdh draw peerEph (headNonce ++ memberNonce) info 72
    rxSeq := if s.isHead then 0 else 1, lastRx := s.tim.elapsed, keepAt := s.tim.elapsed, resets := v.resets, lastReq := v.lastReq
    acceptAt := v.acceptAt }
  let s := (s.setPeerState d 2).gangShow
  if s.isHead then s.raise 368 d else s.raiseU 374

/-- GANG_ACCEPT_SEND (R517): the head draws a link and sends its half. -/
def State.gangAcceptSend (s : State) (d : Nat) : State :=
  let stage := s.get F.NVM_BOOT_STAT_STAGE
  let due := match (s.link d).acceptAt with | none => true | some t => decide (t + Config.sec ≤ s.tim.elapsed)
  if !s.isHead || !s.flag (F.GNG_PEER_CTL_EN d) || decide (s.peerState d = 2) || !due ||
      !(decide (stage = 6) || decide (stage = 7) || decide (stage = 9)) || s.sec.open_ then s
  else
    let (idb, s) := s.random 4
    let id := if ofBytesBE idb = 0 then 1 else ofBytesBE idb
    let (nonce, s) := s.random 32
    let draw := s.draw
    let (eph, s) := s.random 97
    let b := gangHeader 0x01 332 s.ownId d 0 0 ++ acceptBody id nonce eph s.fuse.idPub
    let m := b ++ identitySign b
    let v := s.link d
    let s := s.setLink d { LinkState.init with
      linkId := id, nonce := nonce, hello := m, acceptAt := some s.tim.elapsed, ephDraw := draw, resets := v.resets, lastReq := v.lastReq }
    ((s.setPeerState d 1).gangShow).toPeer d m

/-- GANG_ACCEPT (R517): on a member, the head's half is checked and answered; on the head, the member's answer completes the
link. With debug access open every port has stopped, and the identity key signs nothing (R506). -/
def State.gangAccept (s : State) (d linkId : Nat) (nonce eph idPub sig : List Byte) : State :=
  let s := s.consumeRx ownGang
  let body := acceptBody linkId nonce eph idPub
  let known := decide (sha384 idPub = s.peerDigest d)
  if s.sec.open_ then s
  else if !s.flag (F.GNG_PEER_CTL_EN d) then s.gangDrop
  else if s.isMember then
    if d ≠ s.get F.GNG_CFG_HEAD then s
    else
      let h := gangHeader 0x01 332 d s.ownId 0 0 ++ body
      if !known || !Config.ecdsaVerify idPub h sig then s.linkRefused
      else
        let (mine, s) := s.random 32
        let draw := s.draw
        let (myEph, s) := s.random 97
        let b := gangHeader 0x01 332 s.ownId d linkId 0 ++ acceptBody linkId mine myEph s.fuse.idPub
        (s.toPeer d (b ++ identitySign (h ++ sig ++ b))).linkUp d linkId draw eph nonce mine
  else if s.isHead then
    if s.peerState d ≠ 1 ∨ (s.link d).acceptAt.isNone then s
    else
      let v := s.link d
      let b := gangHeader 0x01 332 d s.ownId linkId 0 ++ body
      if !known || decide (linkId ≠ v.linkId) || !Config.ecdsaVerify idPub (v.hello ++ b) sig then s.linkRefused
      else s.linkUp d linkId v.ephDraw eph v.nonce nonce
  else s.gangDrop

/-! ### Messages over a link (R515, R518) -/

/-- The pool buffer of a protected message is returned; is the message one of the link to `d`? -/
def State.gangRx (s : State) (d : Nat) (auth : Bool) : Bool × State :=
  let s := s.consumeRx ownGang
  if auth && !s.sec.open_ && s.flag (F.GNG_PEER_CTL_EN d) && decide (s.peerState d = 2) then (true, s) else (false, s.gangDrop)

/-- The head takes each member message once, within 1,024 below the highest it has seen (R518). One it does not take is no drop of
R515. -/
def State.headSeq (s : State) (d seq : Nat) : Bool × State :=
  let v := s.link d
  if v.rxSeq < seq then
    let seen := ((v.rxSeq :: v.seen).filter (fun q => decide (seq ≤ q + 1024)))
    (true, s.setLink d { v with rxSeq := seq, seen := seen, lastRx := s.tim.elapsed })
  else if seq = v.rxSeq ∨ seq = 0 ∨ v.rxSeq > seq + 1024 ∨ v.seen.contains seq then (false, s)
  else (true, s.setLink d { v with seen := seq :: v.seen, lastRx := s.tim.elapsed })

def State.showWaiting (s : State) (d : Nat) : State := s.put (F.GNG_PEER_PENDING d) (s.link d).waiting.length

/-- Count an answer with a status of R526. -/
def State.relayCount (s : State) (status : Nat) : State :=
  if 0x140 ≤ status ∧ status ≤ 0x144 then s.inc F.GNG_RELAY_FAIL else s

/-- RELAY_REPLY (R518, R519). -/
def State.relayReply (s : State) (d seq reqId : Nat) (auth : Bool) (status done : Nat) (data : List Byte) : State :=
  match s.gangRx d auth with
  | (false, s) => s
  | (true, s) =>
    if !s.isHead then s.gangDrop
    else
      match s.headSeq d seq with
      | (false, s) => s
      | (true, s) =>
        let v := s.link d
        match v.waiting.find? (fun (j : RelayJob) => decide (j.reqId = reqId)) with
        | none => s
        | some j =>
          let s := (s.setLink d { v with waiting := v.waiting.filter (fun (k : RelayJob) => decide (k.reqId ≠ reqId)) }).showWaiting d
          (s.relayCount status).answer ⟨j.slot, j.seq, j.type, none⟩ status done data

/-- KEEPALIVE of a member on the head (R521, R522). -/
def State.keepaliveHead (s : State) (d seq : Nat) (b : KaBody) : State :=
  match s.headSeq d seq with
  | (false, s) => s
  | (true, s) =>
    let v := s.link d
    let fltWas := s.get (F.GNG_PEER_STAT_FLT_STATE d)
    let split := if s.get F.TIM_STAT_STATE = 2 then !b.live || decide (s.rd R.GNG_SKEW ≤ b.offset.natAbs) else false
    let s := (s.put (F.GNG_PEER_STAT_TIM_STATE d) b.timState).putB (F.GNG_PEER_STAT_LIVE d) b.live
    let s := (s.put (F.GNG_PEER_STAT_FLT_STATE d) b.fltState).putB (F.GNG_PEER_STAT_SPLIT d) split
    let s := s.wr (R.GNG_PEER_OFFSET d) (unsigned 32 b.offset)
    let s := (s.wr (R.GNG_PEER_RESETS d) b.warmResets).wr (R.GNG_PEER_BOOT_SEQ d) b.bootSeq
    let s := s.setLink d { v with resets := some (b.warmResets, b.bootSeq) }
    let s := if fltWas ≠ s.get (F.GNG_PEER_STAT_FLT_STATE d) then s.raise 371 (d + s.get (F.GNG_PEER_STAT_FLT_STATE d) * 256) else s
    let s := match v.resets with
      | some p => if p = (b.warmResets, b.bootSeq) then s else s.raise 370 d
      | none => s
    s.gangShow

/-- KEEPALIVE_SEND (R516, R521). -/
def State.keepaliveSend (s : State) (d : Nat) : State :=
  let v := s.link d
  if s.peerState d ≠ 2 ∨ s.tim.elapsed < v.keepAt + s.get F.GNG_CTL_KA_MS * Config.ms then s
  else
    let body := if s.isHead then timeBE s.tim.now ++ bytesBE 4 0
      else bytesBE 1 (s.get F.TIM_STAT_STATE) ++ bytesBE 1 (s.get F.FLT_GLB_STAT_STATE) ++ bytesBE 2 (s.get F.TIM_STAT_LIVE) ++
        bytesBE 4 (s.rd R.TIM_OFFSET) ++ bytesBE 4 (s.rd R.GLB_WARM_RESETS) ++ bytesBE 4 (s.rd R.NVM_BOOT_SEQ) ++ timeBE s.tim.now ++ bytesBE 4 0
    (s.setLink d { v with keepAt := s.tim.elapsed }).linkSend d 0x20 body

/-! ### Loss (R523) -/

/-- PEER_LOST: no accepted message for 3 × KA_MS. -/
def State.peerLost (s : State) (d : Nat) : State :=
  let v := s.link d
  if s.peerState d ≠ 2 ∨ s.tim.elapsed < v.lastRx + 3 * s.get F.GNG_CTL_KA_MS * Config.ms then s
  else
    let s := (s.setPeerState d 3).inc (F.GNG_PEER_LOSSES d)
    if s.isHead then
      let s := (s.setLink d { v with waiting := [] }).showWaiting d
      let s := v.waiting.foldl (fun s (j : RelayJob) => (s.relayCount 0x141).answerD ⟨j.slot, j.seq, j.type, none⟩ 0x141 []) s
      ((s.raise 369 d).gangShow).faultU 152
    else
      let s := (List.range 16).foldl (fun s i => if (s.sess i).relayed then s.sessEnd i else s) s
      ((s.raiseU 373).gangShow).faultU 154

/-! ### The bytes of a relayed request (R516, R518, R519) -/

/-- The body of a control request; a member's ADDR has its device ID cleared (R519). -/
def msgBody : Msg → List Byte
  | .close => []
  | .read a n _ => bytesBE 8 (a % 2 ^ 48) ++ bytesBE 4 n
  | .write a ws _ => bytesBE 8 (a % 2 ^ 48) ++ bytesBE 4 ws.length ++ ws.flatMap (fun w => bytesBE 4 w)
  | .maskedWrite a m v => bytesBE 8 (a % 2 ^ 48) ++ bytesBE 4 m ++ bytesBE 4 v
  | .ringWrite r i es => bytesBE 2 r ++ bytesBE 2 i ++ bytesBE 2 es.length ++ bytesBE 2 0 ++ es.flatten
  | .doorbell r t => bytesBE 2 r ++ bytesBE 2 0 ++ bytesBE 4 t
  | .lock l => bytesBE 4 l
  | .stage es => bytesBE 2 es.length ++ bytesBE 2 0 ++ es.flatMap (fun (e : RegEntry) => bytesBE 4 e.off ++ bytesBE 4 e.mask ++ bytesBE 4 e.val)
  | .commit l => bytesBE 1 (if l.isSome then 1 else 0) ++ bytesBE 3 0 ++ l.getD []
  | .unlock => []
  | .persist k r d => bytesBE 1 k ++ bytesBE 1 0 ++ bytesBE 2 r ++ d
  | .attest n => n
  | .badType _ => []
  | .badLength _ => []

/-- The body of a RELAY_REQ. -/
def State.relayBody (s : State) (reqId slot : Nat) (m : Msg) : List Byte :=
  bytesBE 4 reqId ++ bytesBE 1 slot ++ bytesBE 3 0 ++ bytesBE 4 (s.rd (R.SEC_SESS_HOST_ID slot)) ++ bytesBE 1 (msgCode m) ++
    bytesBE 3 0 ++ msgBody m

/-- RELAY_RETRY (R518): the oldest unanswered request goes again, with identical bytes. -/
def State.relayRetry (s : State) (d : Nat) : State :=
  let v := s.link d
  match v.waiting with
  | [] => s
  | j :: r =>
    if s.peerState d ≠ 2 ∨ s.tim.elapsed < j.sentAt + s.get F.GNG_CTL_RETRY_MS * Config.ms then s
    else
      let s := s.setLink d { v with waiting := { j with sentAt := s.tim.elapsed } :: r }
      s.toPeer d (s.linkBytes d j.linkSeq 0x10 j.bytes)

end Sys2Proof.Machine
end

