-- ==== Sys2Proof/Machine/Access.lean ====
section
/-! DEFINITION. Register reads and writes by address (R10 to R15, R31, R331): the access codes of fields, values refused by
range, and what a write of a register brings about at once. Control messages, DMA and the Almanac all use them. -/

namespace Sys2Proof.Machine

/-- The bits of a field. -/
def FieldDef.bits (f : FieldDef) : Nat := (2 ^ f.width - 1) * 2 ^ f.lo

/-- The bits of a register whose access code is in a list. -/
def RegDef.bitsOf (d : RegDef) (as_ : List Acc) : Nat :=
  (d.fields.filter (fun f => decide (f.acc ∈ as_))).foldl (fun a f => a ||| f.bits) 0

/-- Bits of `a` that are not in `b`. -/
def clearBits (a b : Nat) : Nat := a - (a &&& b)

/-! ### The store windows (R397, R398) -/

/-- An offset in the MCS windows: store 0 to 3 Almanac and 4 to 19 syntax, word, register. -/
def windowAt (off : Nat) : Option (Nat × Nat × Nat) :=
  if 0xA00000 ≤ off ∧ off < 0xA80000 then
    some ((off - 0xA00000) / 0x20000, (off - 0xA00000) % 0x20000 / 16, off % 16 / 4)
  else if 0xB00000 ≤ off ∧ off < 0xD00000 then
    some (4 + (off - 0xB00000) / 0x20000, (off - 0xB00000) % 0x20000 / 16, off % 16 / 4)
  else none

/-- A syntax microword of engine `e`. -/
def State.synWord (s : State) (e w : Nat) : BitVec 96 := SMap.get (fun _ => 0) s.alm.syn (e * 8192 + w)
def State.setSynWord (s : State) (e w : Nat) (v : BitVec 96) : State :=
  { s with alm := { s.alm with syn := SMap.set (fun _ => 0) s.alm.syn (e * 8192 + w) v } }

/-- Register `i` of word `w` of a store. -/
def State.windowRd (s : State) (k w i : Nat) : Nat :=
  if k < 4 then Sys2Proof.bitsOf (s.almWord k w).toNat (32 * i) 32
  else if i = 3 then 0
  else Sys2Proof.bitsOf (s.synWord (k - 4) w).toNat (32 * i) 32

/-- Is sequencer `q` OFF with IDLE = 1? -/
def State.almStopped (s : State) (q : Nat) : Bool := decide (s.almState q = 0) && s.flag (F.ALM_SEQ_STAT_IDLE q)

/-- A write of 32 bits of an Almanac store (R398): status, and the state. -/
def State.storeWrite (s : State) (q w i mask val : Nat) : Nat × State :=
  if !s.almStopped q then (0xF0, s)
  else
    let v := (s.almWord q w).toNat
    let r := overlay ⟨0, mask, val⟩ (Sys2Proof.bitsOf v (32 * i) 32)
    (0, (s.setAlmWord q w (BitVec.ofNat 128 (setBits v (32 * i) 32 r))).setPoison q w false)

/-! ### Registers of absent ports (R31) -/

/-- Is the register one of a logical port that is not present? The registers of a port are those of NET_LP; TIM_PORT and OUT_PORT
belong to their own blocks and read as they stand (log entry 116). -/
def State.portAbsentReg (s : State) (off : Nat) : Bool :=
  decide (0x101000 ≤ off) && decide (off < 0x102000) && !s.portPresent ((off - 0x101000) / 0x100)

/-! ### Reading (R10, R12) -/

/-- 2 KiB units of the FIFO partition that enabled contexts hold (R73). -/
def State.fifoUsed (s : State) : Nat :=
  s.ingOn.foldl (fun a n => a + 2 * s.bankBytes n / 2048) 0

/-- The value of a mapped register, with counters of time that run counted to now. -/
def State.regLive (s : State) (off : Nat) : Nat :=
  if off = R.GLB_AVS_CEIL_TIME then s.ceilTick.rd off
  else if off = R.ING_FIFO_USED then s.fifoUsed
  else if off = R.CAL_GLB_CRV_USED then s.curvesUsed
  else if off = R.MEM_LEAP_TIME then
    match s.memc.leap with
    | some (t, _) => (s.memc.leapTotal + (s.tim.now - t)) / Config.us % 2 ^ 32
    | none => s.rd off
  else if (regIdx off (R.ARB_STAT 8) 0x100 16).isSome then
    (s.putB ⟨off, 1, 1⟩ (s.resourceBusy ((off - R.ARB_STAT 0) / 0x100))).rd off
  else match regIdx off (R.MEM_CH_PANIC_US 0) 0x40 8 with
    | some ch =>
      match SMap.get (fun _ => none) s.memc.panicAt ch with
      | some t => (SMap.get (fun _ => 0) s.memc.panicTotal ch + (s.tim.elapsed - t)) / Config.us % 2 ^ 32
      | none => s.rd off
    | none => ((((s.loadReg off).or (s.decDerived off)).or (s.encDerived off)).or (s.outDerived off)).getD (s.rd off)

/-- The value a read of a mapped register gives: an enable that waits for its stage of start-up reads as set (R464). -/
def State.regNow (s : State) (off : Nat) : Nat :=
  s.nvm.deferred.foldl (fun v (e : RegEntry) => if e.off = off then overlay e v else v) (s.regLive off)

/-- Read a register: none at an unmapped offset (R12). WO fields and registers of absent ports read 0 (R10, R31). -/
def State.regRead (s : State) (off : Nat) : Option Nat :=
  match windowAt off with
  | some (k, w, i) => some (s.windowRd k w i)
  | none =>
    match regFind off with
    | some d => some (if s.portAbsentReg off then 0 else clearBits (s.regNow off) (d.bitsOf [.wo]))
    | none => none

/-! ### Values refused by range (R331) -/

/-- Highest junction temperature of the grade in °C (R455). -/
def State.gradeMax (s : State) : Int := if s.fuse.gradeI then 110 else 100

/-- Fields whose value in the word `v` its register's rules refuse: lowest bit, bits, and the status (0 where the rules name
none). -/
def State.rangeRefused (s : State) (off v : Nat) : List (Nat × Nat × Nat) :=
  if off = R.MEM_WM then (if Sys2Proof.bitsOf v 16 10 ≤ Sys2Proof.bitsOf v 0 10 then [(0, 0x3FF03FF, 0)] else [])
  else if (regIdx off 0x800040 4 3).isSome then (if Sys2Proof.bitsOf v 8 6 ≤ Sys2Proof.bitsOf v 0 6 then [(0, 0x3F3F, 0)] else [])
  else if 0x10000 ≤ off ∧ off < 0x11000 ∧ off % 16 = 0 ∨ off = R.FLT_GLB_CTL then (if 4 < v % 8 then [(0, 7, 0x100)] else [])
  else if 0x20000 ≤ off ∧ off < 0x24000 ∧ off % 16 = 0 then
    (if v.testBit 1 && !levelSource ((off - 0x20000) / 16) then [(1, 2, 0x101)] else [])
  else if (regIdx off (R.EVT_TGT_RING_HI 0) 0x20 8).isSome then
    (if Sys2Proof.bitsOf v 8 5 < 4 ∨ 16 < Sys2Proof.bitsOf v 8 5 then [(8, 0x1F00, 0)] else [])
  else if off = R.GLB_AVS_CTL then (if Sys2Proof.bitsOf v 16 8 = 0 then [(16, 0xFF0000, 0x110)] else [])
  else if off = R.GLB_AVS_STEP then
    (if Sys2Proof.bitsOf v 0 8 < 1 ∨ 50 < Sys2Proof.bitsOf v 0 8 then [(0, 0xFF, 0x110)] else []) ++
    (if Sys2Proof.bitsOf v 8 8 < 1 ∨ 50 < Sys2Proof.bitsOf v 8 8 then [(8, 0xFF00, 0x110)] else []) ++
    (if Sys2Proof.bitsOf v 16 16 < 10 then [(16, 0xFFFF0000, 0x110)] else [])
  else if off = R.GLB_AVS_TIMING then
    (if v % 65536 < 1 ∨ s.get F.GLB_AVS_STEP_PERIOD_US < v % 65536 then [(0, 0xFFFF, 0x110)] else [])
  else if off = R.GLB_TEMP_LIMITS then
    (if s.gradeMax < signed 8 (v / 256) ∨ signed 8 (v / 256) ≤ signed 8 v then [(0, 0xFFFF, 0x110)] else []) ++
    (if Sys2Proof.bitsOf v 16 4 = 0 then [(16, 0xF0000, 0x110)] else [])
  else if (regIdx off (R.GLB_GPIO_CTL 0) 4 16).isSome then (if v % 4 = 3 then [(0, 3, 0x110)] else [])
  else if off = R.GNG_CTL then
    (if v % 65536 < 10 ∨ 10000 < v % 65536 ∨ v / 65536 < 1 ∨ v % 65536 < v / 65536 then [(0, 0xFFFFFFFF, 0)] else [])
  else if 0xC0000 ≤ off ∧ off < 0xC0400 then
    let q := (off - 0xC0000) / 0x100
    let r := off % 0x100
    if s.almStopped q then []
    else if r = 0 ∧ v / 65536 % 8192 ≠ s.get (F.ALM_SEQ_CTL_START q) then [(16, 0x1FFF0000, 0xF0)]
    else if 0x40 ≤ r ∧ r < 0xC0 then [(0, 0xFFFFFFFF, 0xF0)]
    else []
  else if (regIdx off (R.TIM_TPO_START_NS 0) 0x40 8).isSome ∨ (regIdx off (R.TIM_TCI_OPEN_NS 0) 0x40 8).isSome ∨
      (regIdx off (R.TIM_TCI_CLOSE_NS 0) 0x40 8).isSome then
    (if 999999999 < v then [(0, 0xFFFFFFFF, 0)] else [])
  else []

/-- The value that a register takes for a written word: ALM_SEQ_T_j_NS takes one above 999,999,999 as 999,999,999 (R420). -/
def takenAs (off v : Nat) : Nat :=
  if 0xC0000 ≤ off ∧ off < 0xC0400 ∧ 0x80 ≤ off % 0x100 ∧ off % 0x100 < 0xC0 ∧ off % 16 = 8 then min v 999999999 else v

/-! ### What a write brings about -/

/-- The low mark of a pool has been written: the condition of event 83 follows (R70, R429). -/
def State.lowmarkWrite (s : State) (k : Nat) : State :=
  let below := decide (s.get (F.BPM_POOL_FREE k) < s.get (F.BPM_POOL_LOWMARK k))
  let s := { s with bpm := { s.bpm with lowRaised := SMap.set (fun _ => false) s.bpm.lowRaised k below } }
  s.setCond 83 s.unstated ((List.range 8).any (fun j => SMap.get (fun _ => false) s.bpm.lowRaised j))

/-- A write of a register of DMA channel `n`: `r` is the offset in the channel, `v` the word as its RW fields take it, `wm`
the RW bits written and `w1` the W1C and W1S bits written 1 (R380 to R385). -/
def State.dmaRegWrite (s : State) (n r v wm w1 : Nat) : State :=
  let off := 0x200000 + n * 0x40 + r
  let busy := decide (s.chanState n ≠ 0) || !s.flag (F.DMA_CH_STAT_IDLE n)
  if r = 0 then
    let keep := 0x1FF50
    let old := s.rd off
    let s := s.wr off (overlay ⟨0, 0x2E, v⟩ old)
    let s := if v &&& keep = old &&& keep then s
      else if busy then s.stick (F.DMA_CH_STAT_CFG_INVALID n)
      else s.wr off (overlay ⟨0, keep, v⟩ (s.rd off))
    if !wm.testBit 0 then s else if v.testBit 0 then s.dmaEnable n else s.dmaDisable n
  else if r = 8 ∨ r = 12 then (if busy then s.stick (F.DMA_CH_STAT_CFG_INVALID n) else s.wr off v)
  else if r = 16 ∨ r = 20 then (if s.flag (F.DMA_CH_SHD_CTL_ARM n) then s.stick (F.DMA_CH_STAT_SHADOW_BUSY n) else s.wr off v)
  else if r = 24 then (if wm.testBit 0 then s.dmaArm n (v.testBit 0) else s)
  else if r = 28 then
    let s := if w1.testBit 0 then s.dmaHalt n else s
    if w1.testBit 1 then s.dmaResume n else s
  else s.wr off (clearBits (s.rd off) w1)

/-- A write of a register of block TIM that does more than store its value, or none for the others. -/
def State.timRegWrite (s : State) (off v w1 : Nat) : Option State :=
  if off = R.TIM_CMD then
    let s := if w1.testBit 0 then s.timSnap else s
    some (if w1.testBit 1 then (match s.timSetTo with | some t => s.stepping (fun s => s.stepTime t) | none => s) else s)
  else match regIdx off 0x83000 0x40 8 with
    | some i => some (s.tpoCtlWrite i v)
    | none =>
      if 0x83000 ≤ off ∧ off < 0x83200 ∧ off % 0x40 < 0x24 then some (s.tpoRegWrite ((off - 0x83000) / 0x40) off v)
      else match regIdx off (R.TIM_TCI_CMD 0) 0x40 8 with
        | some i => some (if w1.testBit 0 then s.tciPop i else s)
        | none => none

/-- The same for the Almanac, the rings and the events. -/
def State.queueRegWrite (s : State) (off v wm w1 : Nat) : Option State :=
  if off = R.ALM_HS_SET then some (s.setFlags (s.alm.flags ||| BitVec.ofNat 16 w1))
  else if off = R.ALM_HS_CLR then some (s.setFlags (s.alm.flags &&& ~~~(BitVec.ofNat 16 w1)))
  else if (regIdx off 0xC0000 0x100 4).isSome then
    let q := (off - 0xC0000) / 0x100
    let s := s.wr off (overlay ⟨0, 0x1FFF0002, v⟩ (s.rd off))
    some (if !wm.testBit 0 then s else if v.testBit 0 then s.almEnable q else s.almDisable q)
  else match regIdx off 0x280000 0x40 1024 with
    | some r =>
      let s := s.putB (F.RNG_RING_CTL_NOTIFY r) (v.testBit 7)
      some (if !wm.testBit 0 then s else if v.testBit 0 then s.ringEnable r else s.ringDisable r)
    | none => match regIdx off (R.RNG_RING_HEAD 0) 0x40 1024 with
      | some r => some (s.ringHeadWrite r v)
      | none => match regIdx off (R.EVT_SRC_ROUTE 0) 0x10 1024 with
        | some n => some (if v = s.rd off then s else s.routeWrite n v)
        | none => match regIdx off (R.EVT_TGT_RING_HEAD 0) 0x20 8 with
          | some t => some (s.eventHeadWrite t v)
          | none => none

/-- The same for the fault collector, ports, pools, engines and arbiters. -/
def State.unitRegWrite (s : State) (off v wm w1 : Nat) : Option State :=
  if off = R.FLT_RETIRED_PIPES then some ((setBitsOf 4 w1).foldl State.pipeReturn s)
  else if off = R.FLT_RETIRED_PORTS then some ((setBitsOf 16 w1).foldl State.portReturn s)
  else if off = R.FLT_RETIRED_MOVERS then some ((setBitsOf 32 w1).foldl State.moverReturn s)
  else if (regIdx off (R.EVT_TGT_CTL 0) 0x20 8).isSome then some (s.maskWrite ((off - R.EVT_TGT_CTL 0) / 0x20) (v.testBit 0))
  else if (regIdx off (R.EVT_SINK_CTL 0) 0x20 16).isSome then some (s.maskWrite (8 + (off - R.EVT_SINK_CTL 0) / 0x20) (v.testBit 0))
  else match regIdx off (R.FLT_SRC_STAT 0) 0x10 256 with
    | some n =>
      let s := if w1.testBit 2 then s.putB (F.FLT_SRC_STAT_CLEAR_REFUSED n) false else s
      some (if w1.testBit 0 then s.clearStatus n else s)
    | none => match regIdx off 0x101000 0x100 16 with
      | some l =>
        let s := s.wr off (overlay ⟨0, 6, v⟩ (s.rd off))
        some (if !wm.testBit 0 then s else if v.testBit 0 then s.portEnable l else s.portDisable l)
      | none => match regIdx off (R.BPM_POOL_LOWMARK 0) 0x20 8 with
        | some k => some ((s.wr off v).lowmarkWrite k)
        | none => match regIdx off (R.DEC_ENG_STAT 0) 0x40 16 with
          | some e =>
            let s := s.wr off (clearBits (s.rd off) (w1 &&& 16))
            some (if w1.testBit 3 then s.decEngineReturn e else s)
          | none => match regIdx off (R.ENC_ENG_STAT 0) 0x40 4 with
            | some e =>
              let s := s.wr off (clearBits (s.rd off) (w1 &&& 16))
              some (if w1.testBit 3 then s.encEngineReturn e else s)
            | none => match regIdx off (R.ENC_CTX_BSB_RD 0) 0x100 64 with
              | some n => some (s.encBsbRd n v)
              | none => match regIdx off 0x900000 0x100 25 with
                | some a =>
                  let s := if 8 ≤ a ∧ a < 24 then s
                    else s.wr off (overlay ⟨0, 0xFFFFFF00, if Sys2Proof.bitsOf v 8 8 = 0 then v + 256 else v⟩ (s.rd off))
                  some (if wm.testBit 0 then s.freeze a (v.testBit 0) else s)
                | none => none

/-- The same for GLB, NVM and SEC, with the status of a command. -/
def State.sysRegWrite (s : State) (off v w1 : Nat) : Option (Nat × State) :=
  if off = R.GLB_AVS_CTL then
    let s := s.wr off v
    some (0, if v.testBit 0 then s.avsStart else s.avsStop)
  else if off = R.GLB_TEMP_LIMITS then some (0, (s.wr off v).tjUpdate)
  else if off = R.GLB_RST_CMD then
    some (0, if w1.testBit 0 ∧ s.nvm.warmAt.isNone then { s with nvm := { s.nvm with warmAt := some s.tim.elapsed } } else s)
  else if off = R.NVM_OP_CMD then some (if w1.testBit 0 then s.nvmGo else (0, s))
  else if off = R.NVM_REC_CMD then some (0, if w1.testBit 0 then s.recReadStart else s)
  else if off = R.SEC_FUSE_CMD then some (if w1.testBit 0 then s.fuseAdvance else (0, s))
  else if off = R.SEC_KEY_LOAD then some (if w1.testBit 0 then s.keyLoad else (0, s))
  else if off = R.SEC_DBG_CMD then some (if w1.testBit 0 then s.dbgOpenCmd else (0, s))
  else match regIdx off (R.SEC_SESS_CMD 0) 0x40 16 with
    | some i => some (0, if w1.testBit 0 then s.sessClose i else s)
    | none => none

/-! ### Writing (R331, R332) -/

/-- A write to a mapped register `d`: the masked bits of `val`, each field by its access code. The status is that of the
refused field whose least significant bit is lowest. A W1C bit that hardware set in the same instant stays (R13); a fault STATUS has a
rule of its own (R435). -/
def State.fieldWrite (s : State) (d : RegDef) (off mask val : Nat) : Nat × State :=
  let old := s.rd off
  let eff := s.regNow off
  let v := overlay ⟨off, mask, val⟩ eff
  let out := s.rangeRefused off v
  let refused := out.filter (fun x => decide (v &&& x.2.1 ≠ eff &&& x.2.1) || decide (mask &&& x.2.1 ≠ 0))
  let locked := d.fields.filterMap (fun f =>
    if f.acc = .rwb ∧ v &&& f.bits ≠ eff &&& f.bits then some (f.lo, 0, 0x11)
    else if f.acc = .rwl ∧ v &&& f.bits ≠ eff &&& f.bits then some (f.lo, 0, 0x12) else none)
  let status := ((refused ++ locked).foldl (fun (b : Option (Nat × Nat)) x =>
    if x.2.2 = 0 then b
    else match b with
      | some (lo, _) => if x.1 < lo then some (x.1, x.2.2) else b
      | none => some (x.1, x.2.2)) none).elim 0 (·.2)
  let wm := clearBits (mask &&& d.bitsOf [.rw, .wo]) (refused.foldl (fun a x => a ||| x.2.1) 0)
  let new := takenAs off (overlay ⟨off, wm, val⟩ old)
  let stuck := s.stuckBits off
  let stuck := if 0x10000 ≤ off ∧ off < 0x11000 then clearBits stuck 1 else stuck
  let w1c := clearBits (mask &&& val &&& d.bitsOf [.w1c]) stuck
  let w1s := mask &&& val &&& d.bitsOf [.w1s]
  let w1 := w1c ||| w1s
  if wm = 0 ∧ w1 = 0 then (status, s)
  else match s.sysRegWrite off new w1 with
    | some (st, s') => (if status = 0 then st else status, s')
    | none =>
      if 0x200000 ≤ off ∧ off < 0x240000 then
        (status, s.dmaRegWrite ((off - 0x200000) / 0x40) (off % 0x40) new wm w1)
      else (status, (((s.timRegWrite off new w1).orElse (fun _ => s.queueRegWrite off new wm w1)).orElse
        (fun _ => s.unitRegWrite off new wm w1)).getD (s.wr off (clearBits new w1c ||| w1s)))

/-- A write of the masked bits of a register at any offset of the window: its status, and the state. -/
def State.regWrite (s : State) (off mask val : Nat) : Nat × State :=
  match windowAt off with
  | some (k, w, i) => if k < 4 then s.storeWrite k w i mask val else (0x11, s)
  | none =>
    match regFind off with
    | none => (0x10, s)
    | some d =>
      if s.portAbsentReg off then (0, s)
      else if R.NVM_OP_CTL ≤ off ∧ off ≤ R.NVM_OP_STAT ∧ s.flag F.NVM_OP_STAT_BUSY then (0x120, s)
      else (s.dropDue off (mask &&& d.bitsOf [.rw])).fieldWrite d off mask val

/-! ### Words at device addresses (R24, R27, R330, R331) -/

/-- Does an address of the packet buffer lie in a buffer that is in use (R27, R68)? -/
def State.bufInUse (s : State) (a : Nat) : Bool :=
  (List.range 5).any (fun k =>
    let b := s.poolBase k
    decide (b ≤ a) && decide (a < b + s.get (F.BPM_POOL_COUNT k) * poolSize k) && decide (s.bufOwner k ((a - b) / poolSize k) ≠ 0))

/-- A byte of the ingest FIFO partition: that of the bank which holds it. Where no bank does, it is a free value. -/
def State.fifoByte (s : State) (a : Nat) : Byte :=
  let o := a - (sramBase + 0x7000000)
  match s.ingOn.find? (fun n => decide ((s.fifoRange n).1 ≤ o) && decide (o < (s.fifoRange n).2)) with
  | some n =>
    let c := s.ingCtx n
    let i := o - (s.fifoRange n).1
    let b := if i < s.bankBytes n then c.bankA else c.bankB
    b.bytes.getD (i % s.bankBytes n) (Config.freeMemory 0 a)
  | none => Config.freeMemory 0 a

/-- `n` bytes at a device address of DRAM or SRAM, as a reader outside the owning block sees them. -/
def State.memRead (s : State) (a n : Nat) : List Byte :=
  if s.place a = .fifo then (List.range n).map (fun k => if s.place (a + k) = .fifo then s.fifoByte (a + k) else s.byte (a + k))
  else s.bytes a n

/-- Read the word at a device address that is a multiple of 4: its value, or none at an unmapped address. -/
def State.wordRead (s : State) (a : Nat) : Option Nat :=
  match s.place a with
  | .unmapped => none
  | .register off => s.regRead off
  | .app _ => none
  | .packetBuf => if s.bufInUse a then some (ofBytesLE (s.bytes a 4)) else none
  | _ => some (ofBytesLE (s.memRead a 4))

/-- Write a word at a device address that is a multiple of 4 outside the APP window: its status, and the state. -/
def State.wordWrite (s : State) (a val : Nat) : Nat × State :=
  let mem := fun (s : State) => if s.isProtected a 4 then (0x7B, s.lanternHit) else (0, (s.setBytes a (bytesLE 4 val)).hostWrote a)
  match s.place a with
  | .unmapped => (0x10, s)
  | .register off => s.regWrite off 0xFFFFFFFF val
  | .app _ => (0x10, s)
  | .fifo => (0x10, s)
  | .packetBuf => if s.bufInUse a then mem s else (0x10, s)
  | _ => mem s

end Sys2Proof.Machine
end

