-- ==== Sys2Proof/Machine/AlmOp.lean ====
section
/-! DEFINITION. The operations of Almanac microwords (R403 to R409). -/

namespace Sys2Proof.Machine

/-- A masked register write of sequencer `q` (R406): completed where R331 allows, and a refusal is recorded and reported. -/
def State.almWrite (s : State) (q off mask val : Nat) : State :=
  let (st, s) := s.regWrite off mask val
  let s := s.inc (F.ALM_SEQ_WRITES q)
  if st = 0 then s
  else
    let s := (s.stick (F.ALM_SEQ_STAT_WRITE_REFUSED q)).inc (F.ALM_SEQ_REFUSED q)
    (((s.put (F.ALM_SEQ_LAST_REFUSED_OFFSET q) (off / 4)).put (F.ALM_SEQ_LAST_REFUSED_STATUS q) st)).raiseU 314

/-- WRI and WRG. -/
def State.almWri (s : State) (q : Nat) (m : Micro) : State := s.almWrite q (m.addr * 4) m.mask m.imm
def State.almWrg (s : State) (q : Nat) (m : Micro) : State := s.almWrite q (m.addr * 4) m.mask (s.almG q m.ra)

/-- RDG. -/
def State.almRdg (s : State) (q : Nat) (m : Micro) : State :=
  let v := (s.regRead (m.addr * 4)).getD 0 &&& m.mask
  (s.setAlmG q m.ra v).setZ q (decide (v = m.imm))

/-- LDI, ADDI, ADDG, ANDI and CMP. -/
def State.almLdi (s : State) (q : Nat) (m : Micro) : State := s.setAlmG q m.ra m.imm
def State.almResult (s : State) (q ra v : Nat) : State := (s.setAlmG q ra (v % 2 ^ 32)).setZ q (decide (v % 2 ^ 32 = 0))
def State.almAddi (s : State) (q : Nat) (m : Micro) : State := s.almResult q m.ra (s.almG q m.ra + m.imm)
def State.almAddg (s : State) (q : Nat) (m : Micro) : State := s.almResult q m.ra (s.almG q m.ra + s.almG q m.rb)
def State.almAndi (s : State) (q : Nat) (m : Micro) : State := s.almResult q m.ra (s.almG q m.ra &&& m.imm)
def State.almCmp (s : State) (q : Nat) (m : Micro) : State := s.setZ q (decide (s.almG q m.ra &&& m.mask = m.imm))

/-- TNOW, TSET, TADD and TSEG. -/
def State.almTnow (s : State) (q : Nat) (m : Micro) : State := s.setAlmT q m.ra s.tim.now
def State.almTset (s : State) (q : Nat) (m : Micro) : State :=
  s.setAlmT q m.ra (mkTime (m.mask % 65536 * 2 ^ 32 + m.imm) 0 0)
def State.almTadd (s : State) (q : Nat) (m : Micro) : State := s.setAlmT q m.ra (s.almT q m.ra + mkTime m.imm m.mask 0)
def State.almTseg (s : State) (q : Nat) (m : Micro) : State :=
  let g := m.imm % 64
  if !s.flag (F.TIM_SEG_CTL_EN g) then s.almError q 0xF1 121
  else s.setAlmT q m.ra (s.segT g (frameFrom (s.get (F.TIM_SEG_RATE_NUM g)) (s.get (F.TIM_SEG_RATE_DEN g)) (s.almT q m.rb)))

/-- The 16 bytes of a microword, bits [7:0] first. -/
def State.almWordBytes (s : State) (q w : Nat) : List Byte := bytesLE 16 (s.almWord q w).toNat

/-- POST (R407). A poisoned word among the four is one that the sequencer fetches (R414, log entry 114). -/
def State.almPost (s : State) (q : Nat) (m : Micro) : State :=
  let r := bitsOf m.addr 0 10
  if !(s.chipFed r && decide (s.get (F.RNG_RING_BIND_PROD_INDEX r) = q)) then s.almError q 0xF3 121
  else if (s.ringN r : Int) ≤ s.ringUsed r then (s.setZ q true).inc (F.ALM_SEQ_RING_FULL q)
  else
    let w := m.imm % 8192
    if (List.range 4).any (fun k => s.poisoned q (w + k)) then s.almError q 0xF4 120
    else
      let e := (List.range 4).flatMap (fun k => s.almWordBytes q (w + k))
      let e := if m.mask.testBit 0 then e.take 4 ++ bytesLE 4 (s.almG q m.rb) ++ e.drop 8 else e
      let t := s.ringTail r
      let flags := setBits (e.getD 1 0).toNat 1 1 (1 - t.2)
      let e := e.take 1 ++ bytesLE 1 flags ++ e.drop 2
      let s := s.setBytes (s.slotAddr r t) e
      let s := (s.setTail r (posAdvance (s.ringN r) t 1)).chipAdvance r
      (s.inc (F.ALM_SEQ_POSTS q)).setZ q false

/-- CQPOP (R357, R408). -/
def State.almCqpop (s : State) (q : Nat) (m : Micro) : State :=
  let r := bitsOf m.addr 0 10
  if !(s.chipCq r && decide (s.get (F.RNG_RING_BIND_CONS_INDEX r) = q)) then s.almError q 0xF3 121
  else
    let h := s.ringHead r
    let e := s.bytes (s.slotAddr r h) 16
    if 0 < s.ringUsed r ∧ (e.getD 7 0).toNat / 128 = 1 - h.2 then
      let s := (s.setAlmG q m.ra (ofBytesLE (slice e 4 4))).setAlmG q m.rb (ofBytesLE (slice e 8 4))
      let s := (s.setHead r (posAdvance (s.ringN r) h 1)).cqHeadMoved r
      s.setZ q false
    else s.setZ q true

/-- RAISE and DREQ. -/
def State.almRaise (s : State) (q : Nat) (m : Micro) : State := s.raise (304 + m.imm % 8) (s.almG q m.ra)
def State.almDreq (s : State) (m : Micro) : State := s.lineRequest (m.imm % 256)

/-- The operation of a microword. -/
def State.almEffect (s : State) (q : Nat) (m : Micro) : State :=
  match m.op with
  | 1 => s.almWri q m
  | 2 => s.almWrg q m
  | 3 => s.almRdg q m
  | 4 => s.almLdi q m
  | 5 => s.almAddi q m
  | 6 => s.almAddg q m
  | 7 => s.almAndi q m
  | 8 => s.almCmp q m
  | 9 => s.almTnow q m
  | 10 => s.almTset q m
  | 11 => s.almTadd q m
  | 12 => s.almTseg q m
  | 13 => s.almPost q m
  | 14 => s.almCqpop q m
  | 15 => s.almRaise q m
  | 16 => s.almDreq m
  | _ => s

/-- Is the operation `op` the one that sequencer `q` has to run: it is in RUN, and its microword's wait has ended? -/
def State.almReady (s : State) (q op : Nat) : Bool :=
  decide (s.almState q = 1) && decide ((s.almMicro q).op = op) && (decide ((s.almMicro q).wait = 0) || s.almWaitDone q)

/-- Run an operation of sequencer `q`, and go on to the next address unless it has stopped the sequencer. -/
def State.almOp (s : State) (q op : Nat) : State :=
  if !s.almReady q op then s
  else
    let s := s.almEffect q (s.almMicro q)
    if s.almState q = 1 then s.almNext q else if s.almState q = 4 then s else s.inc (F.ALM_SEQ_WORDS q)

/-- ALM_TIME_WAIT_END (R404, R405): a TIME wait that is due and not gated ends with Z = 0, and its operation runs. -/
def State.almTimeWait (s : State) (q : Nat) : State :=
  match s.almWaiting q with
  | some (1, j) =>
    if s.almDue q j && !s.almGated q then ((s.timedFirst (s.almT q j)).almTimeEnd q j false).almOp q (s.almMicro q).op else s
  | _ => s

end Sys2Proof.Machine
end

