-- ==== Sys2Proof/Machine/Dma.lean ====
section
/-! DEFINITION. DMA transfers (R371 to R378, R386 to R393): fetching and checking a descriptor, moving bytes through the
funnel, frames for ports, ring entries, and the APP. -/

namespace Sys2Proof.Machine

/-! ### Descriptors (R371, R372) -/

/-- The descriptor that 32 bytes spell. -/
def descOf (b : List Byte) : Desc :=
  ⟨ofBytesLE (slice b 0 8), ofBytesLE (slice b 8 8), ofBytesLE (slice b 16 4), ofBytesLE (slice b 20 4), ofBytesLE (slice b 24 8)⟩

/-- Is a descriptor invalid (R372)? -/
def descInvalid (d : Desc) : Bool :=
  decide (d.length = 0) || decide (2 ^ 24 ≤ d.length) || decide (2 ^ 13 ≤ d.flags) ||
  (!d.fill && decide (2 ^ 48 ≤ d.src)) || decide (2 ^ 48 ≤ d.dst) ||
  (!d.last && (decide (2 ^ 48 ≤ d.next) || decide (d.next % 32 ≠ 0))) ||
  (d.fill && (d.srcSg || d.srcFixed)) || (d.dstPort && (d.dstSg || d.dstFixed)) ||
  (d.srcFixed && d.srcSg) || (d.dstFixed && d.dstSg) ||
  (d.srcFixed && (decide (d.src % 4 ≠ 0) || decide (d.length % 4 ≠ 0))) ||
  (d.dstFixed && (decide (d.dst % 4 ≠ 0) || decide (d.length % 4 ≠ 0)))

/-! ### Endpoints (R374, R375) -/

/-- The kinds of endpoint: DRAM and SRAM, registers, the APP window. -/
inductive Endpoint where
  | mem | reg | app
  deriving DecidableEq, Repr

/-- Does a range lie between two addresses? -/
def within (lo hi a n : Nat) : Bool := decide (lo ≤ a) && decide (a + n ≤ hi)

/-- The endpoint of a range, or the status that refuses it (R27, R374): a source may run from the ingest FIFOs into the contexts
behind them, both of which it may read. -/
def State.endpoint (s : State) (isDst : Bool) (a n : Nat) : Except Nat Endpoint :=
  if isDst && s.isProtected a n then .error 0x7B
  else if s.inDram a n then .ok .mem
  else if within (sramBase + 0x4800000) (sramBase + 0x6000000) a n then
    (if (List.range n).all (fun k => s.bufInUse (a + k)) then .ok .mem else .error 0xE0)
  else if within (sramBase + (if isDst then 0x7800000 else 0x7000000)) (sramBase + 0x7E00000) a n then .ok .mem
  else if within regBase (regBase + 0x1000000) a n then
    (if a % 4 ≠ 0 ∨ n % 4 ≠ 0 then .error 0xE1
     else if (List.range (n / 4)).all (fun k => (s.regRead (a - regBase + 4 * k)).isSome) then .ok .reg else .error 0xE0)
  else if within appBase (appBase + 0x100000000) a n && s.flag F.APP_CTL_EN then .ok .app
  else .error 0xE0

/-! ### Frame templates (R376) -/

/-- Where the headers that a template's FIXUP names lie: the IP header and its length, the UDP header, the TFP header. -/
structure Fixup where
  v4 : Bool
  v6 : Bool
  udp : Bool
  tfp : Bool
  l3 : Nat
  l4 : Nat
  app : Nat
  deriving DecidableEq, Repr

def tmplFixup (t : List Byte) : Fixup :=
  let f := (t.getD 2 0).toNat
  let l3 := (t.getD 3 0).toNat
  let hdr := t.drop 16
  let ipLen := if f.testBit 0 then (hdr.getD l3 0).toNat % 16 * 4 else 40
  let eth := if be hdr 12 2 = 0x8100 then 18 else 14
  ⟨f.testBit 0, f.testBit 1, f.testBit 2, f.testBit 3, l3, l3 + ipLen,
    if f.testBit 0 || f.testBit 1 then l3 + ipLen + 8 else eth⟩

/-- The header bytes of a template. -/
def tmplHdr (t : List Byte) : List Byte := slice t 16 (t.getD 1 0).toNat

/-- Is a template invalid? -/
def tmplInvalid (t : List Byte) : Bool :=
  let n := (t.getD 1 0).toNat
  let c := tmplChunk t
  let x := tmplFixup t
  decide (16 ≤ (t.getD 0 0).toNat) || decide (n < 14) || decide (112 < n) || decide (16 ≤ (t.getD 2 0).toNat) ||
  decide (c < 1) || decide (8912 < c) || decide (9596 - n < c) || !(slice t 12 4).all (· = 0) ||
  (x.v4 && x.v6) || (x.udp && !(x.v4 || x.v6)) ||
  (x.v4 && (decide (x.l4 < x.l3 + 20) || decide (n < x.l4))) || (x.v6 && decide (n < x.l4)) ||
  (x.udp && decide (n < x.l4 + 8)) || (x.tfp && decide (n < x.app + 32))

/-- `v` laid over a list of bytes from `off`. -/
def patch (bs : List Byte) (off : Nat) (v : List Byte) : List Byte := bs.take off ++ v ++ bs.drop (off + v.length)

/-- The TFP SEQ of a frame of a template, and the state with the tile flow's number moved on: that of the header's tile when
ALL_TILES is 0 and the tile is enabled, else SEQ0 plus the frame's number. -/
def State.tmplSeq (s : State) (t : List Byte) (k : Nat) : Nat × State :=
  let h := (tmplHdr t).drop (tmplFixup t).app
  let tile := be h 4 2 % 4096
  if !(h.getD 2 0).toNat.testBit 2 && s.flag (F.CMP_TILE_POS_EN tile) then
    let fl := s.flow tile
    (fl.seq, s.setFlow tile { fl with seq := (fl.seq + 1) % 65536 })
  else ((ofBytesLE (slice t 6 2) + k) % 65536, s)

/-- The frame of a template with its header fields patched: `at_` is the chunk's position in the descriptor. Bytes of HDR behind a TFP
header begin its payload (R248). -/
def tmplFrame (t chunk : List Byte) (at_ seq : Nat) : List Byte :=
  let x := tmplFixup t
  let h := tmplHdr t
  let isFw := decide ((h.getD (x.app + 1) 0).toNat = 5)
  let h := if x.tfp then
      let h := patch (patch h (x.app + 12) (bytesBE 2 seq)) (x.app + 14) (bytesBE 2 (h.length - (x.app + 32) + chunk.length))
      let h := if isFw then patch h (x.app + 20) (bytesBE 4 ((ofBytesLE (slice t 8 4) + at_) % 2 ^ 32)) else h
      patch h (x.app + 28) (bytesBE 4 (crc32c (slice h x.app 28 ++ h.drop (x.app + 32) ++ chunk)))
    else h
  let total := h.length + chunk.length
  let h := if x.v4 then patch h (x.l3 + 2) (bytesBE 2 (total - x.l3)) else h
  let h := if x.v6 then patch h (x.l3 + 4) (bytesBE 2 (total - x.l4)) else h
  let h := if x.udp then
      let h := patch (patch h (x.l4 + 4) (bytesBE 2 (total - x.l4))) (x.l4 + 6) (bytesBE 2 0)
      let pseudo := if x.v4 then slice h (x.l3 + 12) 8 else slice h (x.l3 + 8) 32
      let c := csum (sum16 pseudo + 17 + (total - x.l4) + sum16 (h.drop x.l4 ++ chunk))
      patch h (x.l4 + 6) (bytesBE 2 (if c = 0 then 65535 else c))
    else h
  let h := if x.v4 then
      let h := patch h (x.l3 + 10) (bytesBE 2 0)
      patch h (x.l3 + 10) (bytesBE 2 (csum (sum16 (slice h x.l3 (x.l4 - x.l3)))))
    else h
  h ++ chunk

/-! ### Moving bytes -/

/-- The status of the checks made before any byte of a descriptor moves (R372, R374 to R376), or 0. -/
def State.descCheck (s : State) (d : Desc) : Nat :=
  if descInvalid d then 0xE2
  else
    let src := if d.fill || d.srcSg then (if d.srcSg && decide (d.src % 16 ≠ 0) then .error 0xE3 else .ok .mem)
      else s.endpoint false d.src (if d.srcFixed then 4 else d.length)
    match src with
    | .error e => e
    | .ok _ =>
      if d.dstPort then
        let t := s.bytes d.dst 128
        if d.dst % 64 ≠ 0 ∨ !(s.inDram d.dst 128 || within (sramBase + 0x7800000) (sramBase + 0x7E00000) d.dst 128) then 0xE8
        else if tmplInvalid t then 0xE8
        else if !s.portRuns (t.getD 0 0).toNat then 0xE9
        else 0
      else if d.dstSg then (if d.dst % 16 ≠ 0 then 0xE3 else 0)
      else match s.endpoint true d.dst (if d.dstFixed then 4 else d.length) with
        | .error e => e
        | .ok _ => 0

/-- The next range of one side: a side with no bytes left reads the next scatter-gather entry (R373). `left` is what the
descriptor still moves on this side. -/
def State.sgRefill (s : State) (isDst : Bool) (c : Cursor) (left : Nat) : Except Nat Cursor :=
  if c.left ≠ 0 then .ok c
  else if !s.inDram c.next 16 && !within (sramBase + 0x7800000) (sramBase + 0x7E00000) c.next 16 then .error 0xE0
  else
    let e := s.bytes c.next 16
    let len := ofBytesLE (slice e 8 4)
    let addr := ofBytesLE (slice e 0 6)
    if len = 0 ∨ 2 ^ 24 ≤ len ∨ left < len ∨ !((slice e 6 2).all (· = 0)) ∨ !((slice e 12 4).all (· = 0)) then .error 0xE3
    else match s.endpoint isDst addr len with
      | .error x => .error x
      | .ok _ => .ok ⟨c.next + 16, addr, len⟩

/-- The kind of endpoint of a range that has been checked. -/
def endpointOf (a : Nat) : Endpoint :=
  if regBase ≤ a ∧ a < regBase + 0x1000000 then .reg else if appBase ≤ a then .app else .mem

/-- A cursor after `k` bytes; a FIXED side's address stays. -/
def Cursor.move (c : Cursor) (fixed : Bool) (k : Nat) : Cursor := { c with addr := if fixed then c.addr else c.addr + k, left := c.left - k }

/-- Bytes that the descriptor may move now: with WAIT_REQ, those whose requests have come. -/
def State.chanLimit (s : State) (n : Nat) (d : Desc) : Nat := if s.waits n d then min d.length (s.chan n).granted else d.length

/-- Bytes of one naturally aligned access at `a` with `left` bytes to go: 64, or less at the ends of the range (R378). -/
def accessSize (a left : Nat) : Nat :=
  ([64, 32, 16, 8, 4, 2, 1].find? (fun k => decide (a % k = 0) && decide (k ≤ left))).getD 0

/-- Bytes of the next APP access of one side whose range `x` may move `left` bytes more (R378). -/
def Cursor.access (x : Cursor) (fixed : Bool) (left : Nat) : Nat := if fixed then 4 else accessSize x.addr (min x.left left)

/-- Bytes that the next write waits for beyond those in the funnel: a frame's chunk, a register word, an APP access, or a range of
memory. -/
def State.funnelRoom (s : State) (n : Nat) (d : Desc) : Nat :=
  let c := s.chan n
  let k := c.funnel.length
  if d.dstPort then min (tmplChunk c.tmpl) (d.length - c.moved) - k
  else match s.sgRefill true c.dst (d.length - c.moved) with
    | .error _ => 0
    | .ok x => match endpointOf x.addr with
      | .reg => 4 - k
      | .app => x.access d.dstFixed (s.chanLimit n d - c.moved) - k
      | .mem => if k ≠ 0 then 0 else if d.dstFixed then d.length else x.left

/-- A fault found during the transfer (R387): the destination bytes not yet written are undefined, and the descriptor ends. -/
def State.midFail (s : State) (n status : Nat) (d : Desc) : State :=
  let c := s.chan n
  let rest := if d.dstPort then [] else if d.dstFixed then [(d.dst, 4)]
    else (c.dst.addr, c.dst.left) :: (if d.dstSg then s.sgRanges c.dst.next (d.length - c.moved - c.dst.left) d.length else [])
  (rest.foldl (fun (s : State) (p : Nat × Nat) => s.undefBytes p.1 p.2) s).descFail n status

/-- The source bytes of one access of memory or registers. With an overlap of source and destination, the order of reads and
writes is not stated, and the bytes are free values. -/
def State.srcBytes (s : State) (n : Nat) (d : Desc) (w : Nat) : List Byte × State :=
  let c := s.chan n
  let off := c.moved + c.funnel.length
  if d.fill then ((List.range w).map (fun j => BitVec.ofNat 8 (d.src / 2 ^ (8 * ((off + j) % 8)))), s)
  else if endpointOf c.src.addr = .reg then
    let a := c.src.addr - regBase
    let k := if d.srcFixed then off % 4 else a % 4
    (slice (bytesLE 4 ((s.regRead (a / 4 * 4)).getD 0)) k w, s)
  else
    let surplus := !d.dstPort && decide (c.src.addr < c.dst.addr + c.dst.left) && decide (c.dst.addr < c.src.addr + w)
    if surplus then ((List.range w).map (fun j => Config.freeByte (s.draw + j)), { s with draw := s.draw + w })
    else if d.srcFixed then (slice (s.memRead c.src.addr 4) (off % 4) w, s)
    else (s.memRead c.src.addr w, s)

/-- Does the next byte of the source fail: an uncorrectable unit begins there (R387), or its scatter-gather entry is refused (R373, R374)? -/
def State.srcFails (s : State) (n : Nat) (d : Desc) : Bool :=
  let c := s.chan n
  let off := c.moved + c.funnel.length
  decide (c.bad = some off) || (!d.fill && (match s.sgRefill false c.src (d.length - off) with | .error _ => true | .ok _ => false))

/-- Take bytes from memory, a register or the fill pattern into the funnel, as many as one run of the source, the room and the grant
allow; a register or memory as the destination ends a grant at its last byte, a frame or an APP access once it is whole. A source fault
stops the descriptor once the APP has what lies in the funnel (R373). Answers whether anything was taken. -/
def State.gather (s : State) (n : Nat) (d : Desc) : Bool × State :=
  let c := s.chan n
  let off := c.moved + c.funnel.length
  let room := min (s.funnelRoom n d) (s.chanLimit n d - off)
  let toApp := !d.dstPort && decide (endpointOf c.dst.addr = .app)
  if room = 0 ∨ s.grantOver n then (false, s)
  else if toApp && !c.funnel.isEmpty && s.srcFails n d then (false, s)
  else if c.bad = some off then (false, (s.midFail n 0xE4 d).faultUnit 112 n)
  else match (if d.fill then .ok { c.src with left := d.length - off } else s.sgRefill false c.src (d.length - off)) with
    | .error e => (false, s.midFail n e d)
    | .ok src =>
      let s := s.setChan n { c with src := src }
      if !d.fill ∧ endpointOf src.addr = .app then (false, s)
      else
        let w := min room src.left
        let w := if d.dstPort || toApp then w else min w (s.grantBytes - c.used)
        let w := if d.srcFixed then min w (4 - off % 4) else if endpointOf src.addr = .reg ∧ !d.fill then min w (4 - src.addr % 4) else w
        let w := match c.bad with | some b => if off < b then min w (b - off) else w | none => w
        let (bs, s) := s.srcBytes n d w
        let c := s.chan n
        (true, s.setChan n { c with funnel := c.funnel ++ bs, src := c.src.move d.srcFixed w, used := c.used + w })

/-- Bytes of a destination range before the first access that would reach a protected Lantern range (R191, R374, R378). -/
def State.openBytes (s : State) (a w : Nat) : Nat :=
  if !s.isProtected a w then w
  else match (List.range w).find? (fun k => s.isProtected (a + k) 1) with
    | some k => (a + k) / 64 * 64 - a
    | none => w

/-- Write what the funnel holds to memory or a register. Answers whether anything was written. -/
def State.scatter (s : State) (n : Nat) (d : Desc) : Bool × State :=
  let c := s.chan n
  if d.dstPort ∨ s.chanLimit n d ≤ c.moved then (false, s)
  else match s.sgRefill true c.dst (d.length - c.moved) with
    | .error e =>
      if e = 0x7B then (false, (s.midFail n e d).lanternHit) else (false, s.midFail n e d)
    | .ok dst =>
      let s := s.setChan n { c with dst := dst }
      if c.funnel.isEmpty then (false, s)
      else match endpointOf dst.addr with
      | .app => (false, s)
      | .reg =>
        if c.funnel.length < 4 then (false, s)
        else
          let (st, s) := s.regWrite (dst.addr - regBase) 0xFFFFFFFF (ofBytesLE (c.funnel.take 4))
          let c := s.chan n
          let bad := c.refused || decide (st ≠ 0)
          (c.desc.isSome,
            s.setChan n { c with funnel := c.funnel.drop 4, moved := c.moved + 4, dst := c.dst.move d.dstFixed 4, refused := bad })
      | .mem =>
        let a := if d.dstFixed then dst.addr + c.moved % 4 else dst.addr
        let want := if d.dstFixed then min c.funnel.length (4 - c.moved % 4) else min c.funnel.length dst.left
        let w := s.openBytes a want
        let s := s.setBytes a (c.funnel.take w)
        let c := s.chan n
        let s := s.setChan n { c with funnel := c.funnel.drop w, moved := c.moved + w, dst := c.dst.move d.dstFixed w }
        if w < want then (false, (s.midFail n 0x7B d).lanternHit) else (true, s)

/-- Move on as far as memory, registers and the requests allow. -/
def State.pump (s : State) (n : Nat) : Nat → State
  | 0 => s
  | fuel + 1 =>
    match (s.chan n).desc with
    | none => s
    | some d =>
      let (a, s) := s.scatter n d
      if a then s.pump n fuel
      else match (s.chan n).desc with
        | none => s
        | some _ =>
          let (b, s) := s.gather n d
          if b then s.pump n fuel else s

/-- A channel whose grant is over gives its mover back and competes again; it goes on where it stopped once it holds one (R312, R369). -/
def State.grantNext (s : State) (n : Nat) : State := if s.grantOver n then (s.moverRelease n).moverSync else s

/-- The requests of the granules that have moved since `before` are consumed (R380). -/
def State.granuleEnd (s : State) (n : Nat) (before : Bool) (d : Desc) : State :=
  if s.waits n d && !before && (s.chan n).desc.isSome && (s.chan n).granuleDone d then s.lineConsume (s.get (F.DMA_CH_CTL_REQ_LINE n)) else s

/-- Serve a channel, grant after grant: with WAIT_REQ a granule for each pending request, which is consumed once the granule has
moved (R380). -/
def State.serve (s : State) (n : Nat) : Nat → State
  | 0 => s
  | fuel + 1 =>
    match (s.chan n).desc with
    | none => s
    | some d =>
      let c := s.chan n
      if c.mover.isNone ∨ s.chanState n ≠ 1 then s
      else if s.grantOver n then (s.grantNext n).serve n fuel
      else if !s.waits n d then
        let s := s.pump n (2 * d.length + 2)
        if s.grantOver n then s.serve n fuel else s
      else if !c.granuleDone d then
        let s := (s.pump n (2 * d.length + 2)).granuleEnd n false d
        if s.grantOver n || ((s.chan n).desc.isSome && (s.chan n).granuleDone d) then s.serve n fuel else s
      else if c.granted < d.length ∧ 0 < s.linePend (s.get (F.DMA_CH_CTL_REQ_LINE n)) then
        (s.setChan n { c with granted := min d.length (c.granted + d.gran) }).serve n fuel
      else s

/-- Serve a channel with fuel for every grant and every pending request of its descriptor. -/
def State.serveAll (s : State) (n : Nat) : State :=
  match (s.chan n).desc with
  | some d => s.serve n (d.length / 2048 + 1200)
  | none => s

/-- Serve every channel that holds a mover, until none has anything left to move: movers go from grant to grant. -/
def State.serveRounds (s : State) : Nat → State
  | 0 => s
  | fuel + 1 =>
    let t := (s.chansOn.foldl (fun (s : State) n => s.serveAll n) s).moverSync
    if t.dma.chan = s.dma.chan then t else t.serveRounds fuel

/-- Serve the channels, and let movers come and go. -/
def State.serveLines (s : State) : State := s.moverSync.serveRounds 10000

/-! ### Fetching (R371, R387) -/

/-- The descriptor that the channel fetches next. -/
def State.nextDesc (s : State) (n : Nat) : Desc :=
  match (s.chan n).inline with
  | some d => d
  | none => descOf (s.bytes (s.cur n) 32)

/-- May a channel fetch a descriptor now? -/
def State.mayFetch (s : State) (n : Nat) : Bool :=
  let c := s.chan n
  decide (s.chanState n = 1) && c.mover.isSome && c.desc.isNone &&
    (if s.flag (F.DMA_CH_CTL_MODE n) then c.entry.isSome else true) && (c.inline.isSome || !s.flag (F.DMA_CH_CUR_HI_END n))

/-- DESCRIPTOR_FETCHED: the descriptor is checked, and its transfer begins. `bad` is the offset in its source at which an
uncorrectable unit begins. -/
def State.descFetched (s : State) (n : Nat) (readOk : Bool) (bad : Option Nat) : State :=
  if !s.mayFetch n then s
  else
    let a := s.cur n
    if (s.chan n).inline.isNone ∧ !(s.inDram a 32 || within (sramBase + 0x7800000) (sramBase + 0x7E00000) a 32) then s.descFail n 0xE0
    else if !readOk then (s.descFail n 0xE4).faultUnit 112 n
    else
      let d := s.nextDesc n
      let st := s.descCheck d
      if st ≠ 0 then
        let s := if st = 0x7B then s.lanternHit else s
        s.descFail n st
      else
        let side := fun (sg : Bool) (a : Nat) => if sg then (⟨a, 0, 0⟩ : Cursor) else ⟨0, a, d.length⟩
        let s := s.setChan n { s.chan n with
          desc := some d, moved := 0, granted := 0, src := side d.srcSg d.src, dst := side d.dstSg d.dst, funnel := []
          bad := bad, refused := false, tmpl := if d.dstPort then s.bytes d.dst 128 else [] }
        (s.serveAll n).moverSync

/-- Are frames of a channel still on their way to its port? -/
def State.framesQueued (s : State) (n : Nat) : Bool :=
  s.out.queue.any (fun p => p.2.any (fun f => decide (f.kind = .dma) && decide (f.index = n)))

/-- DESCRIPTOR_RETIRED (R370, R375, R377). -/
def State.descDone (s : State) (n : Nat) : State :=
  let c := s.chan n
  match c.desc with
  | none => s
  | some d =>
    if c.moved < d.length ∨ c.mover.isNone ∨ s.chanState n ≠ 1 ∨ s.framesQueued n then s
    else if c.refused then s.descFail n 0xE7 else s.descRetire n d

/-! ### Frames (R376, R377) -/

/-- DMA_FRAME_BUILT: the funnel holds a whole chunk, and a pool buffer is granted. -/
def State.frameBuilt (s : State) (n : Nat) : State :=
  let c := s.chan n
  match c.desc, c.mover with
  | some d, some m =>
    let want := min (tmplChunk c.tmpl) (d.length - c.moved)
    if !d.dstPort ∨ want = 0 ∨ c.funnel.length < want ∨ s.chanState n ≠ 1 then s
    else
      let (b, s') := s.takeBuf (ownMover m) ((tmplHdr c.tmpl).length + want)
      match b with
      | none => s'
      | some buf =>
        let l := (c.tmpl.getD 0 0).toNat
        let k := c.moved / tmplChunk c.tmpl
        let (seq, s) := if (tmplFixup c.tmpl).tfp then s'.tmplSeq c.tmpl k else (0, s')
        let bs := tmplFrame c.tmpl (c.funnel.take want) c.moved seq
        let s := s.send l ⟨.dma, n, k, s.counted l bs.length, bs, some buf⟩
        let s := s.setChan n { s.chan n with funnel := c.funnel.drop want, moved := c.moved + want }
        (s.serveAll n).moverSync
  | _, _ => s

/-! ### The APP (R378, R389 to R393) -/

/-- Data cycles of an access: the words it touches (R389). -/
def dataCycles (a k : Nat) : Nat := ceilDiv (a % 4 + k) 4

/-- The access of the APP that a channel makes next: it writes or not, its address and its bytes. -/
def State.appNext (s : State) (n : Nat) : Option (Bool × Nat × Nat) :=
  let c := s.chan n
  match c.desc with
  | none => none
  | some d =>
    if s.chanState n ≠ 1 ∨ c.mover.isNone then none
    else
      let off := c.moved + c.funnel.length
      let read := if d.fill ∨ s.grantOver n ∨ min (s.funnelRoom n d) (s.chanLimit n d - off) = 0 then none
        else match s.sgRefill false c.src (d.length - off) with
          | .ok x => if endpointOf x.addr = .app then some (false, x.addr, x.access d.srcFixed (s.chanLimit n d - off)) else none
          | .error _ => none
      let write := if d.dstPort ∨ c.funnel.isEmpty then none
        else match s.sgRefill true c.dst (d.length - c.moved) with
          | .ok x =>
            let k := x.access d.dstFixed (s.chanLimit n d - c.moved)
            if endpointOf x.addr ≠ .app then none
            else if k ≤ c.funnel.length then some (true, x.addr, k)
            else if s.srcFails n d then some (true, x.addr, x.access false c.funnel.length)
            else none
          | .error _ => none
      match write with
      | some w => some w
      | none => read

/-- APP_TRANSACTION: `data` holds the words that the partner gives in the data cycles of a read. -/
def State.appTransfer (s : State) (n : Nat) (data : List Word) : State :=
  match s.appNext n, (s.chan n).desc with
  | some (wr, a, k), some d =>
    let c := s.chan n
    let off := c.moved + c.funnel.length
    let s : State := if wr then
        match s.sgRefill true c.dst (d.length - c.moved) with
        | .ok x => s.setChan n { c with funnel := c.funnel.drop k, moved := c.moved + k, dst := x.move d.dstFixed k }
        | .error _ => s
      else
        match s.sgRefill false c.src (d.length - off) with
        | .ok x =>
          let bs := slice ((data.map (fun w => bytesLE 4 w.toNat)).flatten ++ List.replicate 64 0) (a % 4) k
          s.setChan n { c with funnel := c.funnel ++ bs, src := x.move d.srcFixed k, used := c.used + k }
        | .error _ => s
    let s := (s.add (if wr then F.APP_WR_WORDS else F.APP_RD_WORDS) (dataCycles a k)).putB F.APP_STAT_ACK false
    ((s.granuleEnd n (c.granuleDone d) d).serveAll n).moverSync
  | _, _ => s

/-- What every timeout of the APP reports (R392). Whether APP_ACK did not rise or did not fall is free; it is low before the next
transaction starts (log entry 114). -/
def State.appLate (s : State) (off : Nat) (chan : Option Nat) : State :=
  let s := ((s.inc F.APP_TIMEOUTS).wr R.APP_LAST_ADDR off).raiseU 294
  let s := (s.put F.APP_STAT_ACK (Config.freeNat s.draw)).used
  match chan with
  | some n => s.faultUnit 113 n
  | none => s.faultU 113

/-- APP_TIMEOUT: a transaction of a channel is ended. -/
def State.appTimeout (s : State) (n : Nat) : State :=
  match s.appNext n, (s.chan n).desc with
  | some (_, a, _), some d => (s.appLate ((a - appBase) / 4 * 4) (some n)).midFail n 0xE5 d
  | _, _ => s

/-- APP_DREQ and APP_DREQ_FALL (R393). With APP_CTL.EN = 0 the pins are ignored. -/
def State.dreqRise (s : State) (k : Nat) : State :=
  if !s.flag F.APP_CTL_EN then s
  else (s.put F.APP_DREQ_DREQ (setBits (s.get F.APP_DREQ_DREQ) k 1 1)).lineShow (256 + k)

def State.dreqFall (s : State) (k : Nat) : State :=
  if !s.flag F.APP_CTL_EN then s
  else
    let s := s.put F.APP_DREQ_DREQ (setBits (s.get F.APP_DREQ_DREQ) k 1 0)
    (s.put F.APP_DREQ_DACK (setBits (s.get F.APP_DREQ_DACK) k 1 0)).lineShow (256 + k)

/-! ### Ring entries (R350, R364, R386) -/

/-- The status of a ring entry's own checks: an undefined OPCODE, or a reserved bit or byte that is not zero. -/
def entryStatus (e : List Byte) (chip : Bool) : Nat :=
  let op := (e.getD 0 0).toNat
  let flags := (e.getD 1 0).toNat
  let zero := fun (lo n : Nat) => (slice e lo n).all (· = 0)
  if 2 < op then 0xD5
  else if 4 ≤ flags ∨ (!chip ∧ 2 ≤ flags) ∨ !zero 2 2 then 0xD6
  else if op = 0 then (if zero 8 56 then 0 else 0xD6)
  else if op = 1 then (if zero 40 24 then 0 else 0xD6)
  else if zero 16 48 ∧ ofBytesLE (slice e 8 8) % 32 = 0 ∧ ofBytesLE (slice e 8 8) < 2 ^ 48 then 0 else 0xD6

/-- The entry at the head of ring `r` is started by its channel, when its OPCODE is one that `ops` takes. -/
def State.ringEntry (s : State) (r : Nat) (readOk : Bool) (ops : Nat → Bool) : State :=
  let n := s.get (F.RNG_RING_BIND_CONS_INDEX r)
  let c := s.chan n
  match s.ringFront r with
  | none => s
  | some e =>
    let op := (e.getD 0 0).toNat
    if !s.ringReady r ∨ s.chanRing n ≠ some r ∨ s.chanState n ≠ 1 ∨ !s.flag (F.DMA_CH_CTL_MODE n) ∨ c.mover.isNone ∨ c.entry.isSome ∨
        !ops op then s
    else
      let idx := (s.ringHead r).1
      let tag := ofBytesLE (slice e 4 4)
      let compl := (e.getD 1 0).toNat.testBit 0
      let chip := s.chipFed r
      let s := s.ringStart r
      let st := if readOk then entryStatus e chip else 0xD4
      if st = 0 ∧ op = 1 then
        let s := s.setChan n { s.chan n with entry := some ⟨r, idx, tag, compl, 0⟩, inline := some (descOf (slice e 8 32)) }
        ((s.put (F.DMA_CH_CUR_LO n) s.unstated).used).putB (F.DMA_CH_CUR_HI_END n) false
      else if st = 0 ∧ op = 2 then
        let s := s.setChan n { s.chan n with entry := some ⟨r, idx, tag, compl, 0⟩, inline := none }
        s.setCur n (ofBytesLE (slice e 8 8)) false
      else
        let s := if readOk then s else s.faultUnit 104 r
        let s := s.ringFinish r idx tag compl st 0
        if st ≠ 0 ∧ s.flag (F.DMA_CH_CTL_STOP_ON_ERR n) then s.chanHalted n else s.chanBoundary n

end Sys2Proof.Machine
end

