-- ==== Sys2Proof/Machine/Pins.lean ====
section
/-! DEFINITION. The pins (spec/21): rails, reference clocks, GPIO balls and the TAP. -/

namespace Sys2Proof.Machine

/-! ### Rails (R540) -/

/-- RAIL_OUT_OF_RANGE and RAIL_BACK_IN_RANGE. -/
def State.railOut (s : State) (n : Nat) : State :=
  let ok := s.get F.GLB_RAIL_STAT_OK
  if !ok.testBit n then s
  else
    let s := (s.put F.GLB_RAIL_STAT_OK (ok - 2 ^ n)).inc F.GLB_RAIL_EVENTS
    (s.setCause 160 true).faultData 160 n

def State.railBack (s : State) (n : Nat) : State :=
  let s := s.put F.GLB_RAIL_STAT_OK (s.get F.GLB_RAIL_STAT_OK ||| 2 ^ n)
  s.setCause 160 (decide (s.get F.GLB_RAIL_STAT_OK ≠ 127))

/-! ### Reference clocks (R543) -/

/-- REFCLK_ETH_LOST: the ports of physical port `p` lose link. -/
def State.ethClkLost (s : State) (p : Nat) : State :=
  let ok := s.get F.GLB_CLK_STAT_ETH_OK
  if !ok.testBit p then s
  else
    let s := s.put F.GLB_CLK_STAT_ETH_OK (ok - 2 ^ p)
    let up := ((List.range 4).map (4 * p + ·)).filter (fun l => s.flag (F.NET_LP_STAT_LINK l))
    let s := up.foldl (fun (s : State) l => s.linkChange l false) s
    let s := { s with net := { s.net with clkLost := s.net.clkLost ++ up } }
    (s.setCause 161 true).faultU 161

/-- REFCLK_ETH_RETURN: the ports regain link without any write. -/
def State.ethClkBack (s : State) (p : Nat) : State :=
  let s := s.put F.GLB_CLK_STAT_ETH_OK (s.get F.GLB_CLK_STAT_ETH_OK ||| 2 ^ p)
  let s := s.setCause 161 (decide (s.get F.GLB_CLK_STAT_ETH_OK ≠ 15))
  let mine := s.net.clkLost.filter (fun l => decide (l / 4 = p))
  let s := { s with net := { s.net with clkLost := s.net.clkLost.filter (fun l => decide (l / 4 ≠ p)) } }
  mine.foldl (fun (s : State) l => s.linkChange l true) s

/-! ### GPIO (R554) -/

/-- GPIO_EDGE: a counted change of level of ball `g`. -/
def State.gpioEdge (s : State) (g : Nat) (high : Bool) : State :=
  if s.pin.gpio.toNat.testBit g = high then s
  else
    let v := if high then s.pin.gpio.toNat + 2 ^ g else s.pin.gpio.toNat - 2 ^ g
    let s := ({ s with pin := { s.pin with gpio := BitVec.ofNat 16 v } }).put F.GLB_GPIO_IN v
    let edge := s.get (F.GLB_GPIO_CTL_EDGE g)
    let s := if edge.testBit (if high then 0 else 1) then s.raise (384 + g) (if high then 1 else 0) else s
    s.setCond (384 + g) (if high then 1 else 0) high

/-- LANTERN_N_CHANGE: the pin's level now, and the time of the change (R192). -/
def State.lanternPin (s : State) (low : Bool) : State :=
  if s.cmp.ltLow = low then s
  else ({ s with cmp := { s.cmp with ltLow := low, ltEdge := s.tim.elapsed } }).putB F.CMP_GLB_LT_PIN_RAW low

/-! ### The TAP (R508, R550, R551) -/

/-- Carry out a scan: the TAP works in every state, a held cold reset among them (R508). -/
def State.tap (s : State) (dt : Nat) (f : State → State) : Host.Outcome State Fault Refusal :=
  if !s.railsOk railPin then .fault .undefinedRail
  else if !s.tempOk railPin then .fault .undefinedTemperature
  else .next ((f (s.timed dt)).keepOutside s)

/-- The value of IDCODE. -/
def idCode : Nat := 0x10F0855D

/-- A register of `n` bits after bits have been shifted in from TDI. -/
def shiftIn (n : Nat) : List Bool → Nat → Nat
  | [], v => v
  | b :: r, v => shiftIn n r (v / 2 + (if b then 2 ^ (n - 1) else 0))

/-- A list of levels as a number, the first in bit 0. -/
def levels : List Bool → Nat
  | [] => 0
  | b :: r => (if b then 1 else 0) + 2 * levels r

/-- A scan of the boundary register with instruction `ir`: the captured value goes out, and the bits shifted in are latched. -/
def State.scanBoundary (s : State) (ir cap : Nat) (drive : Bool) (bits : List Bool) : State :=
  { s with pin := { s.pin with ir := ir, tdo := cap % 2 ^ 2202, drive := drive,
                               boundary := BitVec.ofNat 2202 (shiftIn 2202 bits (cap % 2 ^ 2202)) } }

/-- EXTEST: the balls are driven from the boundary register. What its cells capture, the spec does not say. -/
def State.extest (s : State) (bits : List Bool) : State := s.used.scanBoundary 0 (Config.freeNat s.draw) true bits

/-- SAMPLE/PRELOAD: the levels of the balls are captured. -/
def State.samplePreload (s : State) (pins bits : List Bool) : State := s.scanBoundary 1 (levels pins) false bits

/-- IDCODE: the identification register goes out. -/
def State.idcode (s : State) : State :=
  { s with pin := { s.pin with ir := 2, tdo := idCode, drive := false } }

/-- Instructions that select the bypass register, which captures 0 (IEEE 1149.1). -/
def State.bypassScan (s : State) (ir : Nat) (drive : Bool) : State :=
  { s with pin := { s.pin with ir := ir, tdo := 0, drive := drive } }

/-- BYPASS: one bit passes through. -/
def State.tapBypass (s : State) (bit : Bool) : State :=
  let s := s.bypassScan 0xFF false
  { s with pin := { s.pin with bypass := bit } }

/-- Test-Logic-Reset selects IDCODE. -/
def State.tapReset (s : State) : State := { s with pin := { s.pin with ir := 2, drive := false } }

/-- May SECREG reach a register? -/
def secregReach (off : Nat) : Bool :=
  (regIdx off (R.SEC_ID_PUB 0) 4 25).isSome || (regIdx off (R.SEC_DBG_CHAL 0) 4 8).isSome ||
    (regIdx off (R.SEC_DBG_TOKEN 0) 4 72).isSome || decide (off = R.SEC_DBG_CMD)

/-- What a read by SECREG finds. -/
def State.secregValue (s : State) (v : Nat) : Nat :=
  let off := 0x30000 + bitsOf v 32 16
  if secregReach off then (s.regRead off).getD 0 else 0

/-- The access of an Update-DR of SECREG. A block held in reset takes no write (R462); SEC_ID_PUB reads at all times (R490). -/
def State.secregAccess (s : State) (v : Nat) : State :=
  let off := 0x30000 + bitsOf v 32 16
  if !v.testBit 48 then { s with pin := { s.pin with secData := s.secregValue v } }
  else if s.nvm.held || !secregReach off then s
  else (s.regWrite off 0xFFFFFFFF (v % 2 ^ 32)).2

/-- SECREG: capture, shift of 49 bits, update. -/
def State.secregScan (s : State) (bits : BitVec 49) : State :=
  let cap := setBits s.pin.secreg.toNat 0 32 s.pin.secData
  ({ s with pin := { s.pin with ir := 0x20, tdo := cap, drive := false, secreg := bits } }).secregAccess bits.toNat

end Sys2Proof.Machine
end

