-- ==== Sys2Proof/Machine/Boot.lean ====
section
/-! DEFINITION. Reset and start-up (R462 to R478, R490 to R497): cold and warm resets, the stages FUSES to RUN, applying an image and the
persisted settings, and what a failed slot leaves. -/

namespace Sys2Proof.Machine

/-! ### Resets (R217, R462, R463, R507, R540 to R543) -/

/-- Registers that show pins and rails as they are now. -/
def liveRegs : List Nat := [R.GLB_RAIL_STAT, R.GLB_CLK_STAT, R.GLB_GPIO_IN]

/-- Registers of `s` put into `t`. -/
def State.carry (s t : State) (offs : List Nat) : State := offs.foldl (fun (t : State) o => t.wr o (s.rd o)) t

/-- ASSERTED of the events of the GPIO balls shows their levels (R429). -/
def State.ballsAsserted (s : State) : State :=
  (List.range 16).foldl (fun (s : State) g => s.putB (F.EVT_SRC_STAT_ASSERTED (384 + g)) (s.pin.gpio.getLsbD g)) s

/-- Conditions that outlive a reset hold CAUSE of their faults, rails, clocks and debug access, and show in ASSERTED of their
events. -/
def State.liveCauses (s : State) : State :=
  let s := s.setCause 160 (decide (s.get F.GLB_RAIL_STAT_OK ≠ 127))
  let s := s.setCause 161 (decide (s.get F.GLB_CLK_STAT_ETH_OK ≠ 15))
  let s := s.setCause 134 (decide (s.get F.GLB_PACE_STAT_MON_IN < 8))
  (s.setCause 144 s.sec.open_).ballsAsserted

/-- Every block at reset, but for what no reset touches: the waiting commands, the free-value counter, the fuses, the two
NVM devices, and the pins. -/
def State.clean (s : State) : State :=
  let t := { State.reset with regs := (resetWith s.fuse).regs }
  let nvm := { t.nvm with cs0 := s.nvm.cs0, cs1 := s.nvm.cs1, sysrstLow := s.nvm.sysrstLow, memClkLost := s.nvm.memClkLost, held := s.nvm.held }
  let t := { t with pending := s.pending, draw := s.draw, fuse := s.fuse, nvm := nvm, pin := s.pin }
  let t := { t with cmp := { t.cmp with ltLow := s.cmp.ltLow } }
  (s.carry t liveRegs).putB F.CMP_GLB_LT_PIN_RAW s.cmp.ltLow

/-- The cold reset (R462): device time starts again at 0. -/
def State.coldReset (s : State) : State := ((s.clean).liveCauses).newChallenge

/-- PORST_N goes low: every block is held in reset (R462). -/
def State.porstLow (s : State) : State :=
  let s := s.coldReset
  { s with nvm := { s.nvm with held := true } }

/-- PORST_N is released. -/
def State.porstRelease (s : State) : State :=
  if !s.nvm.held then s
  else
    let s := s.coldReset
    { s with nvm := { s.nvm with held := false } }

/-- REFCLK_MEM is lost: a cold reset, and start-up waits until the clock returns (R543). -/
def State.memClkLoss (s : State) : State :=
  let s := s.coldReset
  { s with nvm := { s.nvm with memClkLost := true } }

/-- REFCLK_MEM returns: the reset that its loss caused ends, from which NVM_BOOT_MS counts. -/
def State.memClkBack (s : State) : State :=
  if s.nvm.memClkLost then { s with nvm := { s.nvm with memClkLost := false, bootAt := s.tim.elapsed } } else s

/-- What a warm reset keeps beside `clean`: device time and its frequency adjustment, the pace monitor exclusions, the
requested core voltage, GLB_RST_CAUSE with the bit of `cause` added, the count of warm resets, NVM_BOOT_CTL, and open
debug access with what it blocks (R217, R448, R449, R463, R507). -/
def State.warmBase (s : State) (cause : Fld) : State :=
  let t := s.clean
  let t := { t with tim := { t.tim with now := s.tim.now, elapsed := s.tim.elapsed } }
  let t := { t with memEpoch := s.memEpoch + 1 }
  let t := { t with glb := { t.glb with updated := s.glb.updated } }
  let t := { t with cmp := { t.cmp with ltEdge := s.cmp.ltEdge } }
  let t := { t with sec := { t.sec with open_ := s.sec.open_ } }
  let t := s.carry t [R.TIM_FREQ_ADJ, R.GLB_RST_CAUSE, R.NVM_BOOT_CTL, R.GLB_WARM_RESETS]
  let t := t.put F.GLB_PACE_STAT_MON_IN (s.get F.GLB_PACE_STAT_MON_IN)
  let t := (List.range 32).foldl (fun (t : State) i => t.putB (F.GLB_PACE_MON_EXCLUDED i) (s.flag (F.GLB_PACE_MON_EXCLUDED i))) t
  let t := t.put F.GLB_AVS_STAT_VREQ (s.get F.GLB_AVS_STAT_VREQ)
  let t := if s.sec.open_ then s.carry t [R.SEC_DBG_STAT] else t
  let t := (t.putB F.SEC_STAT_DBG_OPEN s.sec.open_).putB F.SEC_STAT_ID_BLOCKED (s.flag F.SEC_STAT_ID_BLOCKED)
  let t := t.put F.SEC_STAT_DBG_FAILS (s.get F.SEC_STAT_DBG_FAILS)
  (((t.stick cause).inc F.GLB_WARM_RESETS).liveCauses).newChallenge

/-- A warm reset (R463): start-up runs again from SELECT, unless the fuses are still to be read. -/
def State.warmReset (s : State) (cause : Fld) : State :=
  let t := s.warmBase cause
  let t := { t with nvm := { t.nvm with bootAt := s.tim.elapsed } }
  if s.get F.NVM_BOOT_STAT_STAGE = 0 then t else t.put F.NVM_BOOT_STAT_STAGE 1

/-- SYSRST_N goes low (R541): ignored while PORST_N is low. -/
def State.sysrstFall (s : State) : State :=
  let s := s.warmReset F.GLB_RST_CAUSE_PIN
  { s with nvm := { s.nvm with sysrstLow := true } }

/-- SYSRST_N returns high: SELECT begins, and NVM_BOOT_MS counts from here (R465, R541). -/
def State.sysrstRise (s : State) : State :=
  if s.nvm.sysrstLow then { s with nvm := { s.nvm with sysrstLow := false, bootAt := s.tim.elapsed } } else s

/-- WARM_RESET_DELAY_EXPIRY: 1 ms after the WARM write was applied (R463). -/
def State.warmDelay (s : State) : State :=
  match s.nvm.warmAt with
  | some t => if t + Config.ms ≤ s.tim.elapsed then s.warmReset F.GLB_RST_CAUSE_CMD else s
  | none => s

/-- The reset of every block but NVM and TIM that a slot failure brings, and the reload of R478. Nothing the slot applied
survives; what start-up itself has found out stays. -/
def State.slotReset (s : State) : State :=
  let t := s.warmBase F.GLB_RST_CAUSE_RELOAD
  let t := { t with nvm := { s.nvm with deferred := [], warmAt := none, recRead := none } }
  let keep := [R.NVM_BOOT_STAT, R.NVM_GEOM_CS0, R.NVM_GEOM_CS1, R.NVM_REC_WRITES, R.NVM_LOG_NEXT, R.NVM_LOG_DROPPED, R.NVM_REC_BAD]
  let t := (s.carry t keep).putB F.NVM_BOOT_CTL_FORCE false
  let t := t.setCause 139 (!t.flag F.NVM_BOOT_STAT_CS1_OK)
  t.floorShow

/-! ### FUSES and SELECT (R462, R466 to R471) -/

def State.bootStage (s : State) : Nat := s.get F.NVM_BOOT_STAT_STAGE
def State.setStage (s : State) (n : Nat) : State := s.put F.NVM_BOOT_STAT_STAGE n

/-- FUSES_READ. -/
def State.fusesRead (s : State) : State :=
  if s.bootStage = 0 ∧ !s.nvm.memClkLost then (s.fuseShow).setStage 1 else s

/-- No slot could be started (R471). -/
def State.bootFailed (s : State) : State :=
  let s := s.setStage 8
  if s.flag F.NVM_BOOT_STAT_CS1_OK then s.logBoot else s

/-- FAIL_A or FAIL_B. -/
def failField (k : Nat) : Fld := if k = 0 then F.NVM_BOOT_STAT_FAIL_A else F.NVM_BOOT_STAT_FAIL_B

/-- The size and erase size that SFDP gives (R466). -/
def State.geomShow (s : State) (off : Nat) (g : Option (Nat × Nat)) : State :=
  s.wr off (match g with | some (size, erase) => size % 32 + erase % 32 * 256 + 65536 | none => 0)

/-- Slots with a valid commit record, by SEQ, slot A first among equals (R469). -/
def State.bootOrder (s : State) : List Nat :=
  let ok := [0, 1].filter (fun k => s.commitOk k)
  sortBy (fun a b => decide (s.commitSeq b ≤ s.commitSeq a)) ok

/-- The order with a forced slot in front (R469). -/
def State.forcedOrder (s : State) (order : List Nat) : List Nat :=
  let f := s.get F.NVM_BOOT_CTL_FORCE_SLOT
  if s.flag F.NVM_BOOT_CTL_FORCE && order.contains f then f :: order.filter (fun k => decide (k ≠ f)) else order

/-- SELECT_DONE: the geometry of each usable chip select, the record area, and the order of the slots. With debug access
open no slot is tried (R507). -/
def State.selectDone (s : State) (cs0 cs1 : Option (Nat × Nat)) : State :=
  if s.bootStage ≠ 1 || s.nvm.sysrstLow then s
  else
    let s := (s.geomShow R.NVM_GEOM_CS0 cs0).geomShow R.NVM_GEOM_CS1 cs1
    let s := s.putB F.NVM_BOOT_STAT_CS1_OK cs1.isSome
    let s := if cs1.isSome then
        let s := [1, 2, 4, 3].foldl (fun (s : State) k => (s.recsWritten k).foldl (fun (s : State) r => s.recLook k r) s) s
        s.logFind
      else (s.setCause 139 true).faultU 139
    let s := s.floorShow
    if s.sec.open_ then s.bootFailed
    else if cs0.isNone then ((s.put F.NVM_BOOT_STAT_FAIL_A 12).put F.NVM_BOOT_STAT_FAIL_B 12).bootFailed
    else
      let order := s.bootOrder
      let s := [0, 1].foldl (fun (s : State) k => if order.contains k then s else s.put (failField k) 1) s
      let s := s.putB F.NVM_BOOT_STAT_FORCED (s.flag F.NVM_BOOT_CTL_FORCE)
      let order := s.forcedOrder order
      let s := s.putB F.NVM_BOOT_CTL_FORCE false
      if order.isEmpty then s.bootFailed
      else
        let s := { s with nvm := { s.nvm with cand := order, firstCand := order.head?, noSettings := false } }
        s.setStage 2

/-- The slot under trial fails with reason `r` (R469, R470): the next one is tried. -/
def State.slotFail (s : State) (r : Nat) : State :=
  let s := (s.put (failField (s.nvm.cand.headD 0)) r).putB F.NVM_BOOT_STAT_SETTINGS_APPLIED false
  let s := s.slotReset
  let s := { s with nvm := { s.nvm with cand := s.nvm.cand.drop 1, noSettings := false } }
  if s.nvm.cand.isEmpty then s.bootFailed else s.setStage 2

/-! ### VERIFY (R472 to R474, R491) -/

/-- The owner hash of an unowned device is fused; a failure leaves a partly blown hash, which is a free value. -/
def State.fuseOwner (s : State) (pub : List Byte) (ok : Bool) : State :=
  if ok then ({ s with fuse := { s.fuse with ownerHash := some (sha384 pub) } }).fuseShow
  else
    let h := (List.range 48).map (fun i => Config.freeByte (s.draw + i))
    (({ s with fuse := { s.fuse with ownerHash := some h }, draw := s.draw + 48 }).fuseShow).faultU 145

/-- VERIFY_DONE. -/
def State.verifyDone (s : State) (readOk fuseOk : Bool) : State :=
  match s.nvm.cand with
  | [] => s
  | k :: _ =>
    if s.bootStage ≠ 2 then s
    else if !readOk then s.slotFail 12
    else
      let r := s.verifyImage k
      if r ≠ 0 then s.slotFail r
      else (if s.fuse.ownerHash.isNone then s.fuseOwner (s.imgPub k) fuseOk else s).setStage 3

/-! ### LOAD: register-write records (R464, R476) -/

/-- The enable bits of a register whose functions start after LOAD (R464). -/
def enableBits (off : Nat) : Nat :=
  if off = R.GLB_AVS_CTL ∨ off = R.APP_CTL then 1
  else if off = R.TIM_CTL then 3
  else if (regIdx off 0x740000 8 4096).isSome then 2 ^ 31
  else if (regIdx off 0x101000 0x100 16).isSome || (regIdx off 0x81000 0x40 16).isSome || (regIdx off 0x280000 0x40 1024).isSome ||
      (regIdx off 0x200000 0x40 4096).isSome || (regIdx off 0x1C0000 0x80 256).isSome || (regIdx off 0x410000 0x100 256).isSome ||
      (regIdx off 0x610000 0x100 64).isSome || (regIdx off 0x82000 0x20 64).isSome || (regIdx off 0x701000 0x400 4).isSome ||
      (regIdx off 0x710000 0x100 16).isSome || (regIdx off 0x720000 0x100 48).isSome || (regIdx off 0x83000 0x40 8).isSome ||
      (regIdx off 0x84000 0x40 8).isSome || (regIdx off 0xC0000 0x100 4).isSome then 1
  else 0

/-- The records of a section or of a settings record. -/
def recordsOf (bs : List Byte) : List RegEntry :=
  (List.range (bs.length / 12)).map (fun i =>
    ⟨ofBytesBE (slice bs (12 * i) 4), ofBytesBE (slice bs (12 * i + 4) 4), ofBytesBE (slice bs (12 * i + 8) 4)⟩)

/-- Is the MASK of a record made of bits whose access code is in a list, at a mapped offset that is a multiple of 4? The
syntax store windows hold no such bit (R398). -/
def maskOk (as_ : List Acc) (e : RegEntry) : Bool :=
  decide (e.off < 2 ^ 24) && decide (e.off % 4 = 0) &&
    match windowAt e.off with
    | some (k, _, _) => decide (k < 4) || decide (e.mask = 0)
    | none =>
      match regFind e.off with
      | some d => decide (clearBits e.mask (d.bitsOf as_) = 0)
      | none => false

/-- A record takes effect (R476): RWB and RWL fields are written directly, enables wait (R464), and the other fields act as their
codes state. -/
def State.imageWrite (s : State) (e : RegEntry) : State :=
  match windowAt e.off with
  | some (k, w, i) => if k < 4 then (s.storeWrite k w i e.mask e.val).2 else s
  | none =>
    match regFind e.off with
    | none => s
    | some d =>
      let en := e.mask &&& enableBits e.off
      let s := if en = 0 then s else { s with nvm := { s.nvm with deferred := s.nvm.deferred ++ [{ e with mask := en }] } }
      let m := clearBits e.mask en
      let direct := m &&& d.bitsOf [.rwb, .rwl]
      let acts := if (regIdx e.off (R.CMP_LT_CMD 0) 0x100 4).isSome then 1 else 0
      let t := (s.lay { e with mask := clearBits direct acts }).fieldWrite d e.off (clearBits m direct) e.val
      match regIdx e.off (R.BPM_POOL_COUNT 0) 0x20 8, regIdx e.off (R.BPM_POOL_LOWEST 0) 0x20 8 with
      | some k, _ => t.2.poolCounted k
      | none, some k => { t.2 with bpm := { t.2.bpm with lowSet := k :: t.2.bpm.lowSet } }
      | none, none => t.2

/-- The records of a REGS section, in order, up to one that is invalid (R476). -/
def State.loadRecords (s : State) : List RegEntry → Nat × State
  | [] => (0, s)
  | e :: r => if maskOk [.rw, .rwb, .rwl, .w1c, .w1s, .wo] e then (s.imageWrite e).loadRecords r else (9, s)

/-! ### LOAD: microcode and keys (R399, R416, R475, R493, R500) -/

/-- Words put into a syntax store from a base word up. -/
def State.putSyn (s : State) (e base : Nat) : List Nat → State
  | [] => s
  | v :: r => (s.setSynWord e base (BitVec.ofNat 96 v)).putSyn e (base + 1) r

/-- Words of 16 bytes put into an Almanac store from a word up. -/
def State.putAlm (s : State) (q w : Nat) (bs : List Byte) : Nat → State
  | 0 => s
  | n + 1 => (s.setAlmWord q w (BitVec.ofNat 128 (ofBytesBE (bs.take 16)))).putAlm q (w + 1) (bs.drop 16) n

/-- A UCODE_SYN section is loaded into all 16 syntax stores. -/
def State.loadSyn (s : State) (k : Nat) (x : Section_) : Nat × State :=
  match s.ucodeOf k x with
  | none => (8, s)
  | some (codec, base, ver, words) =>
    let s := (List.range 16).foldl (fun (s : State) e => (s.putSyn e base (words.take (8192 - base))).put
      (if codec = 0 then F.DEC_ENG_UCODE_HEVC_VER e else F.DEC_ENG_UCODE_AV1_VER e) ver) s
    let s := s.put (if codec = 0 then F.MCS_SYN_RANGE_HEVC_BASE else F.MCS_SYN_RANGE_AV1_BASE) base
    let digest := s.alm.synDigest ++ [(base, words.length, sha384 (s.slotBytes k x.off x.len))]
    let s := { s with alm := { s.alm with synDigest := digest } }
    (0, (List.range 16).foldl (fun (s : State) e => (s.putB (F.MCS_STORE_STAT_LOADED (4 + e)) true).putB (F.MCS_STORE_STAT_CHECK_OK (4 + e)) true) s)

/-- A key record of KIND 16 (R493): its status. -/
def State.lanternRecord (s : State) (r : List Byte) : Nat × State :=
  let pub := slice r 56 97
  let named := decide (ofBytesBE (slice r 0 1) = 1) && decide (ofBytesBE (slice r 2 2) ≤ 1) && allZero (slice r 4 52) &&
    allZero (slice r 153 71)
  let match_ := match s.fuse.lanternHash with | some h => decide (h = sha384 pub) | none => true
  if !named || !match_ || s.sec.lantern.isSome then (10, s) else (0, s.setLantern (some pub))

/-- The records of a KEYS section, in order, up to one that is refused. -/
def State.loadKeys (s : State) (bs : List Byte) : Nat → Nat × State
  | 0 => (0, s)
  | n + 1 =>
    let r := bs.take 224
    let (st, t) := if keyKind r = 16 then s.lanternRecord r else s.keyApply r true
    if st = 0 then t.loadKeys (bs.drop 224) n else (10, s)

/-- Does a KEYS section ask for the Lantern hash to be fused? -/
def State.lanternFuse (s : State) (k : Nat) : Bool :=
  (s.sections k).any (fun (x : Section_) => decide (x.type = 5) && (List.range (x.len / 224)).any (fun i =>
    let r := s.slotBytes k (x.off + 224 * i) 4
    decide (keyKind r = 16) && decide (ofBytesBE (slice r 2 2) = 1)))

/-- One section other than BLOB: its digest, then its content. -/
def State.loadSection (s : State) (k : Nat) (x : Section_) : Nat × State :=
  let bs := s.slotBytes k x.off x.len
  if !s.digestOk k x then (7, s)
  else if x.type = 1 then s.loadRecords (recordsOf bs)
  else if x.type = 2 then s.loadSyn k x
  else if x.type = 3 then (0, s.putAlm (x.dest % 4) (x.dest / 2 ^ 16) bs (x.len / 16))
  else if x.type = 5 then s.loadKeys bs (x.len / 224)
  else (0, s)

/-- The sections other than BLOB in table order. -/
def State.loadSections (s : State) (k : Nat) : List Section_ → Nat × State
  | [] => (0, s)
  | x :: r =>
    match if x.type = 4 then (0, s) else s.loadSection k x with
    | (0, s) => s.loadSections k r
    | (st, s) => (st, s)

/-! ### LOAD: settings and validation (R416, R477, R478) -/

/-- One persisted settings record: applied, or skipped whole. -/
def State.settingApply (s : State) (r : Nat) : State :=
  match s.recRead 1 r with
  | none => s
  | some (_, b) =>
    let d := recData b
    let count := ofBytesBE (slice d 0 2)
    let es := recordsOf (slice d 4 (12 * count))
    if 19 < count || !es.all (maskOk [.rw, .rwl]) then (s.putB F.NVM_BOOT_STAT_SETTING_SKIPPED true).raise 339 r
    else (es.foldl (fun (s : State) e => s.imageWrite e) s).putB F.NVM_BOOT_STAT_SETTINGS_APPLIED true

/-- The settings, when the image asks for them and chip select 1 is usable. -/
def State.settings (s : State) (k : Nat) : State :=
  if (s.slotNum k 16 4).testBit 0 && s.flag F.NVM_BOOT_STAT_CS1_OK && !s.nvm.noSettings then
    (s.recsWritten 1).foldl (fun (s : State) r => s.settingApply r) s
  else s

/-- Engines that the image retires are out of service from the start (R92). -/
def State.imageRetire (s : State) : State :=
  let s := (List.range 16).foldl (fun (s : State) e =>
    if s.flag (F.DEC_ENG_CTL_RETIRE e) then s.putB (F.DEC_ENG_STAT_IN_SERVICE e) false else s) s
  let s := (List.range 4).foldl (fun (s : State) e =>
    if s.flag (F.ENC_ENG_CTL_RETIRE e) then s.putB (F.ENC_ENG_STAT_IN_SERVICE e) false else s) s
  (s.put F.DEC_GLB_ADMIT_ENGINES s.decEngines.length).put F.ENC_GLB_ADMIT_ENGINES s.encEngines.length

/-- Do the two microcode images share a word, or does one reach past word 8,191 (R416)? -/
def State.ucodeOverlap (s : State) : Bool :=
  s.alm.synDigest.any (fun a => decide (8192 < a.1 + a.2.1)) ||
    match s.alm.synDigest with
    | [a, b] => decide (a.1 < b.1 + b.2.1) && decide (b.1 < a.1 + a.2.1)
    | _ => false

/-- Does the configuration under load fail validation (R477)? Filter tables are checked once the blobs are in DRAM. -/
def State.loadInvalid (s : State) (k : Nat) : Bool :=
  (s.configBad s.nvm.deferred).isSome || (s.resultOf s.nvm.deferred).imageBad || s.ucodeOverlap ||
    (s.sections k).any (fun (x : Section_) => decide (x.type = 4) && !s.inDram x.dest x.len)

/-- The value of an enable field that waits, if one does. -/
def dueBit (es : List RegEntry) (off bit : Nat) : Bool :=
  (es.foldl (fun v (e : RegEntry) => if e.off = off then overlay e v else v) 0).testBit bit

/-- End of LOAD: the pools fill, FREERUN_OK counts, the Lantern hash is fused when asked, and the AVS loop starts (R219, R449,
R464, R493). -/
def State.loadEnd (s : State) (k : Nat) : State :=
  let s := s.setLive s.tim.liveState
  let s := (List.range 8).foldl (fun (s : State) p => s.lowmarkWrite p) s
  let s := (List.range 4).foldl (fun (s : State) q => s.putB (F.MCS_STORE_STAT_LOADED q) true) s
  let s := match s.sec.lantern with
    | some p => if s.fuse.lanternHash.isNone && s.lanternFuse k then
        ({ s with fuse := { s.fuse with lanternHash := some (sha384 p) } }).fuseShow else s
    | none => s
  let es := s.nvm.deferred.filter (fun (e : RegEntry) => decide (e.off = R.GLB_AVS_CTL))
  let s := { s with nvm := { s.nvm with deferred := s.nvm.deferred.filter (fun (e : RegEntry) => decide (e.off ≠ R.GLB_AVS_CTL)) } }
  let s := if dueBit es R.GLB_AVS_CTL 0 then (s.putB F.GLB_AVS_CTL_EN true).avsStart else s
  s.memLoads

/-- The slot is loaded again without settings (R478). -/
def State.reloadPlain (s : State) : State :=
  let s := (s.putB F.NVM_BOOT_STAT_SETTINGS_APPLIED false).slotReset
  let s := { s with nvm := { s.nvm with noSettings := true } }
  (s.setStage 3).faultU 140

/-- LOAD_DONE. -/
def State.loadDone (s : State) (readOk : Bool) : State :=
  match s.nvm.cand with
  | [] => s
  | k :: _ =>
    if s.bootStage ≠ 3 then s
    else if !readOk then s.slotFail 12
    else
      match s.loadSections k (s.sections k) with
      | (0, s) =>
        let s := (s.settings k).imageRetire
        if s.loadInvalid k then (if s.flag F.NVM_BOOT_STAT_SETTINGS_APPLIED then s.reloadPlain else s.slotFail 11)
        else (s.loadEnd k).setStage 4
      | (st, s) => s.slotFail st

/-! ### DRAM, BLOBS and LINKS (R190, R213, R294, R464, R470) -/

/-- LINKS: the logical ports, PTP and the links of a gang start as configured, and the slot is the one that was started. -/
def State.linksStart (s : State) (k : Nat) : State :=
  let s := { s with nvm := { s.nvm with slot := some k, ownerPub := s.imgPub k } }
  let s := (s.put F.NVM_BOOT_STAT_SLOT k).wr R.NVM_BOOT_SEQ (s.commitSeq k)
  let s := (s.wr R.NVM_BOOT_SVN (s.imgSvn k)).putWords (R.NVM_BOOT_DIGEST 0) (s.commitDigest k) 12
  let es := s.nvm.deferred
  let isPort := fun (e : RegEntry) => (regIdx e.off 0x101000 0x100 16).isSome
  let isPtp := fun (e : RegEntry) => decide (e.off = R.TIM_CTL) || (regIdx e.off 0x81000 0x40 16).isSome
  let s := { s with nvm := { s.nvm with deferred := es.filter (fun (e : RegEntry) => !isPort e && !isPtp e) } }
  let s := (List.range 16).foldl (fun (s : State) l => if dueBit es (R.NET_LP_CTL l) 0 then s.portEnable l else s) s
  (s.acceptCommit (es.filter isPtp) [] []).gangLinks

/-- DRAM_TRAINING_DONE: bit `ch` of `pass` is set for a channel that passed. A failure leads to SERVICE (R470). -/
def State.trainingDone (s : State) (pass : Nat) : State :=
  match s.nvm.cand with
  | [] => s
  | k :: _ =>
    if s.bootStage ≠ 4 then s
    else
      let s := (s.put F.MEM_STAT_CH_READY pass).putB F.MEM_STAT_READY (decide (pass = 255))
      if pass = 255 then
        let now := s.tim.elapsed
        let s := { s with memc := { s.memc with lastTrain := (List.range 8).map (fun ch => (ch, now)) } }
        (s.setStage 5).leapOpen
      else
        let s := s.setStage 9
        let s := ((List.range 8).filter (fun ch => !pass.testBit ch)).foldl (fun (s : State) _ => s.faultU 88) s
        (s.linksStart k).logBoot

/-- The BLOB sections in table order: digest, then copy or zero fill. -/
def State.blobSections (s : State) (k : Nat) : List Section_ → Nat × State
  | [] => (0, s)
  | x :: r =>
    if x.type ≠ 4 then s.blobSections k r
    else if !s.digestOk k x then (7, s)
    else (s.setBytes x.dest (if x.zero then List.replicate x.len 0 else s.slotBytes k x.off x.len)).blobSections k r

/-- The filter tables that the image's layers name (R172). -/
def State.imageFilters (s : State) : List Nat := (List.range 16).filter (fun v => decide (s.filtAddr v ≠ 0))

/-- The curve tables that the tiles to be enabled name, by tile (R203, R213). -/
def State.imageCurves (s : State) : List (Nat × Nat) :=
  let k := s.resultOf s.nvm.deferred
  (k.tilesOn.filter (fun t => k.flag (F.CAL_TILE_CTL_CRV_EN t))).map (fun t => (t, k.curveBase t))

/-- Curve tables loaded before the first frame: a tile whose table has an uncorrectable unit bypasses its curve, with fault 65
(R213). `bad` holds table bases in units of 64 bytes. -/
def State.loadCurves (s : State) (bad : List Nat) : State :=
  let named := s.imageCurves
  let s := s.readCurves (((named.map (fun p => p.2)).eraseDups).filter (fun b => !bad.contains b))
  (named.filter (fun p => bad.contains p.2)).foldl (fun (s : State) p =>
    ({ s with cal := { s.cal with bypass := SMap.set (fun _ => false) s.cal.bypass p.1 true } }).faultUnit 65 p.1) s

/-- A Lantern state set by the image is checked: a mismatch sets MODE to OFF with fault 58 (R190). -/
def State.checkLantern (s : State) (c : Nat) : State :=
  if s.get (F.CMP_LT_CTL_MODE c) = 0 then s
  else if !s.ltMatch c then (s.put (F.CMP_LT_CTL_MODE c) 0).faultU 58
  else
    let s := s.putB (F.CMP_LT_STAT_VERIFIED c) true
    match s.ltRange c with
    | some r => { s with cmp := { s.cmp with protected_ := s.cmp.protected_ ++ [r] } }
    | none => s

/-- BLOBS_DONE. -/
def State.blobsDone (s : State) (readOk : Bool) (badCurves : List Nat) : State :=
  match s.nvm.cand with
  | [] => s
  | k :: _ =>
    if s.bootStage ≠ 5 then s
    else if !readOk then s.slotFail 12
    else
      match s.blobSections k (s.sections k) with
      | (0, s) =>
        let filts := s.imageFilters
        if filts.any (fun v => !s.inDram (s.filtAddr v) 1792 || !filtOk (s.bytes (s.filtAddr v) 1792)) then s.slotFail 11
        else
          let s := filts.foldl (fun (s : State) v =>
            { s with cmp := { s.cmp with filt := SMap.set (fun _ => []) s.cmp.filt v (s.bytes (s.filtAddr v) 1792) } }) s
          let s := [0, 1, 2, 3].foldl (fun (s : State) c => s.checkLantern c) (s.loadCurves badCurves)
          (s.linksStart k).setStage 6
      | (st, s) => s.slotFail st

/-! ### RUN (R464, R470, R496) -/

/-- The elements of an array of registers whose waiting enable is 1, ascending. -/
def dueIdx (es : List RegEntry) (base stride n bit : Nat) : List Nat :=
  let named := (es.filterMap (fun (e : RegEntry) => regIdx e.off base stride n)).eraseDups
  sortBy (fun a b => decide (a ≤ b)) (named.filter (fun i => dueBit es (base + i * stride) bit))

/-- The rings whose enable waits: completion rings first. -/
def State.dueRings (s : State) (es : List RegEntry) : List Nat :=
  let rs := dueIdx es 0x280000 0x40 1024 0
  rs.filter (fun r => !s.isSub r) ++ rs.filter (fun r => s.isSub r)

/-- The enables that a COMMIT would apply, in the order of R464: ingest, stream and encode contexts, segments, tiles, canvases
and layers. -/
def dueEntries (es : List RegEntry) : List RegEntry :=
  let on := fun (base stride n : Nat) => (dueIdx es base stride n 0).map (fun i => (⟨base + i * stride, 1, 1⟩ : RegEntry))
  on 0x1C0000 0x80 256 ++ on 0x410000 0x100 256 ++ on 0x610000 0x100 64 ++ on 0x82000 0x20 64 ++
    (dueIdx es 0x740000 8 4096 31).map (fun t => (⟨R.CMP_TILE_POS t, 2 ^ 31, 2 ^ 31⟩ : RegEntry)) ++
    on 0x701000 0x400 4 ++ on 0x710000 0x100 16 ++ on 0x720000 0x100 48

/-- The functions that start on entry to RUN. -/
def State.startAll (s : State) : State :=
  let es := s.nvm.deferred
  let s := { s with nvm := { s.nvm with deferred := [] } }
  let s := (s.dueRings es).foldl (fun (s : State) r => s.ringEnable r) s
  let s := (dueIdx es 0x200000 0x40 4096 0).foldl (fun (s : State) n => s.dmaEnable n) s
  let s := s.acceptCommit (dueEntries es) [] []
  let s := if dueBit es R.APP_CTL 0 then s.putB F.APP_CTL_EN true else s
  let s := (dueIdx es 0x83000 0x40 8 0).foldl (fun (s : State) i => s.tpoCtlWrite i (setBits (s.rd (R.TIM_TPO_CTL i)) 0 1 1)) s
  let s := (dueIdx es 0x84000 0x40 8 0).foldl (fun (s : State) i => s.putB (F.TIM_TCI_CTL_EN i) true) s
  let s := (dueIdx es 0xC0000 0x100 4 0).foldl (fun (s : State) q => s.almEnable q) s
  s

/-- A slot other than the first of the order was started (R470). -/
def State.fallbackShow (s : State) : State :=
  if s.nvm.firstCand ≠ s.nvm.slot then ((s.putB F.NVM_BOOT_STAT_FALLBACK true).raiseU 337).faultU 136 else s

/-- The anti-rollback record follows the SVN of the started slot (R496). -/
def State.floorWrite (s : State) : State :=
  let svn := s.rd R.NVM_BOOT_SVN
  if s.rd R.SEC_ARB_FLOOR < svn ∧ s.flag F.NVM_BOOT_STAT_CS1_OK then
    { s with nvm := { s.nvm with persist := s.nvm.persist ++ [⟨16, 0, 4, 0, bytesBE 4 svn, none⟩] } }
  else s

/-- RUN_ENTRY. -/
def State.runEntry (s : State) : State :=
  if s.bootStage ≠ 6 then s
  else
    let s := (s.setStage 7).wr R.NVM_BOOT_MS ((s.tim.elapsed - s.nvm.bootAt) / Config.ms % 2 ^ 32)
    let s := (s.raise 336 (s.rd R.NVM_BOOT_SEQ)).fallbackShow
    ((s.startAll).floorWrite).logBoot

end Sys2Proof.Machine
end

