-- ==== Sys2Proof/Machine/Msg.lean ====
section
/-! DEFINITION. What control requests do (R319 to R344): access to registers and memory, the staged-change lock, records and
attestation, relays to members, the order in which messages are applied, and EVENT messages. -/

namespace Sys2Proof.Machine

/-! ### READ, WRITE, MASKED_WRITE (R330 to R332, R392) -/

/-- One word of a READ: whether it is mapped, its status, its value, and what is left of the answers of the APP partner. A
word of the APP window is one transaction; without an answer it times out and reads 0 (R392). -/
def State.readWord (s : State) (a : Nat) (app : List (Option Nat)) : (Nat × Nat × List (Option Nat)) × State :=
  match s.place a with
  | .app off =>
    match app with
    | some v :: r => ((0, v % 2 ^ 32, r), (s.inc F.APP_RD_WORDS).putB F.APP_STAT_ACK false)
    | r => ((0xE5, 0, r.drop 1), s.appLate off none)
  | _ =>
    match s.wordRead a with
    | some v => ((0, v, app), s)
    | none => ((0x10, 0, app), s)

/-- `n` words from `a` up: the words, the status with the index of its word, and the state. It is UNMAPPED with the first such word if
any word was unmapped, else the first that is not OK (R331, R392). -/
def State.readWords (s : State) (a : Nat) (app : List (Option Nat)) (i : Nat) (bad : Option (Nat × Nat)) :
    Nat → (List Nat × Option (Nat × Nat)) × State
  | 0 => (([], bad), s)
  | n + 1 =>
    let ((st, v, app), s) := s.readWord a app
    let first := match bad with
      | none => if st = 0 then none else some (st, i)
      | some b => if st = 0x10 ∧ b.1 ≠ 0x10 then some (st, i) else bad
    let ((vs, bad), s) := s.readWords (a + 4) app (i + 1) first n
    ((v :: vs, bad), s)

/-- One word of a WRITE: its status, and what is left of the answers of the APP partner. -/
def State.writeWord (s : State) (a v : Nat) (app : List (Option Nat)) : (Nat × List (Option Nat)) × State :=
  match s.place a with
  | .app off =>
    match app with
    | some _ :: r => ((0, r), (s.inc F.APP_WR_WORDS).putB F.APP_STAT_ACK false)
    | r => ((0xE5, r.drop 1), s.appLate off none)
  | _ => let (st, s) := s.wordWrite a v; ((st, app), s)

/-- Words written from `a` up in ascending order: the first status that is not OK with its index, and the state. -/
def State.writeWords (s : State) (a : Nat) (app : List (Option Nat)) (i : Nat) (bad : Option (Nat × Nat)) :
    List Nat → Option (Nat × Nat) × State
  | [] => (bad, s)
  | v :: vs =>
    let ((st, app), s) := s.writeWord a v app
    s.writeWords (a + 4) app (i + 1) (if st ≠ 0 ∧ bad = none then some (st, i) else bad) vs

/-- READ of `n` words: the device ID of the address is the receiver's own. -/
def State.msgRead (s : State) (k : Asker) (addr n : Nat) (app : List (Option Nat)) : State :=
  let a := addr % 2 ^ 48
  if n < 1 ∨ 2048 < n then s.answerD k 0x14 []
  else if a % 4 ≠ 0 then s.answerD k 0x13 []
  else
    let ((vs, bad), s) := s.readWords a app 0 none n
    s.answer k (bad.getD (0, n)).1 (bad.getD (0, n)).2 (vs.flatMap (fun v => bytesBE 4 v))

def State.msgWrite (s : State) (k : Asker) (addr : Nat) (words : List Nat) (app : List (Option Nat)) : State :=
  let a := addr % 2 ^ 48
  let n := words.length
  if n < 1 ∨ 2060 < n then s.answerD k 0x14 []
  else if a % 4 ≠ 0 then s.answerD k 0x13 []
  else
    let (bad, s) := s.writeWords a app 0 none words
    s.answer k (bad.getD (0, n)).1 (bad.getD (0, n)).2 []

def State.msgMasked (s : State) (k : Asker) (addr mask val : Nat) : State :=
  let a := addr % 2 ^ 48
  if a % 4 ≠ 0 then s.answerD k 0x13 []
  else
    match s.place a with
    | .register off =>
      let (st, s) := s.regWrite off mask val
      s.answer k st (if st = 0 then 1 else 0) []
    | _ => s.answer k 0x21 0 []

/-! ### Rings (R333, R353, R354) -/

def State.msgRingWrite (s : State) (k : Asker) (r index : Nat) (entries : List (List Byte)) : State :=
  if entries.length < 1 ∨ 128 < entries.length ∨ entries.any (fun e => decide (e.length ≠ 64)) then s.answerD k 0x14 []
  else
    let slot := fun (i : Nat) => s.ringBase r + (index + i) % s.ringN r * 64
    let hit := (List.range entries.length).filter (fun i => s.isProtected (slot i) 64)
    let ((st, done), s) := s.ringWrite r index entries
    if st = 0 ∧ hit ≠ [] then s.answer k 0x7B (done - hit.length) [] else s.answer k st done []

def State.msgDoorbell (s : State) (k : Asker) (r tail : Nat) : State :=
  let ((st, done), s) := s.doorbell r tail
  s.answer k st done []

/-! ### The staged-change lock (R334 to R337) -/

def State.holds (s : State) (k : Asker) : Bool := decide (s.ctl.lock.holder = some k.slot)

/-- The length of a lease. -/
def State.leaseOf (s : State) (ms : Nat) : Nat :=
  (if ms = 0 then s.get F.SEC_CP_LEASE_DEFAULT_MS else min ms (s.get F.SEC_CP_LEASE_MAX_MS)) * Config.ms

/-- LOCK (R334): a renewal keeps the nonce and the staged entries. -/
def State.msgLock (s : State) (k : Asker) (leaseMs : Nat) : State :=
  match s.ctl.lock.holder with
  | some h =>
    if h = k.slot then
      let l := s.ctl.lock
      let s := s.setLock { l with expiry := s.tim.now + s.leaseOf leaseMs }
      s.answerD k 0 (l.nonce ++ timeBE s.ctl.lock.expiry)
    else s.answer k 0x18 h []
  | none =>
    let (nonce, s) := s.random 16
    let s := s.setLock ⟨some k.slot, nonce, s.tim.now + s.leaseOf leaseMs, []⟩
    s.answerD k 0 (nonce ++ timeBE s.ctl.lock.expiry)

/-- The 12 bytes of a staged entry on the wire. -/
def stagedBytes (e : RegEntry) : List Byte := bytesBE 4 e.off ++ bytesBE 4 e.mask ++ bytesBE 4 e.val

/-- STAGE_DIGEST. -/
def State.stageDigest (s : State) : List Byte := sha384 (s.ctl.lock.staged.flatMap stagedBytes)

/-- The status of a STAGE: the first entry that is unmapped or not lockable, else a full list. -/
def State.stageStatus (s : State) (es : List RegEntry) : Nat :=
  let bad := es.findSome? (fun (e : RegEntry) =>
    if 2 ^ 24 ≤ e.off ∨ e.off % 4 ≠ 0 then some 0x10
    else if (windowAt e.off).isSome then (if e.mask = 0 then none else some 0x17)
    else match regFind e.off with
      | none => some 0x10
      | some d => if clearBits e.mask (d.bitsOf [.rwl]) = 0 then none else some 0x17)
  match bad with
  | some st => st
  | none => if 8192 < s.ctl.lock.staged.length + es.length then 0x1A else 0

def State.msgStage (s : State) (k : Asker) (es : List RegEntry) : State :=
  if !s.holds k then s.answerD k 0x19 []
  else
    let st := s.stageStatus es
    if st ≠ 0 then s.answer k st s.ctl.lock.staged.length []
    else
      let l := s.ctl.lock
      let s := s.setLock { l with staged := l.staged ++ es }
      s.answer k 0 s.ctl.lock.staged.length s.stageDigest

def State.msgUnlock (s : State) (k : Asker) : State :=
  if !s.holds k then s.answerD k 0x19 []
  else
    let n := s.ctl.lock.staged.length
    s.lockFree.answer k 0 n []

/-! ### COMMIT (R189, R190, R203, R337) -/

/-- A COMMIT is refused: counted, reported, and answered with the entry to blame. -/
def State.commitRefuse (s : State) (k : Asker) (status done : Nat) : State :=
  let s := ((s.inc F.SEC_CP_REFUSED).put F.SEC_CP_LAST_REFUSE_STATUS status).put F.SEC_CP_LAST_REFUSE_SLOT k.slot
  (s.raiseU 260).answer k status done []

/-- Verified surfaces become protected (R191). -/
def State.ltProtect (s : State) (ranges : List (Nat × Nat × Nat)) : State :=
  { s with cmp := { s.cmp with protected_ := s.cmp.protected_ ++ ranges } }

/-- A COMMIT is accepted: the entries leave the staged list, a new nonce is drawn, and tiles whose curve it names bypass it no longer
(R213). -/
def State.commitAccept (s : State) (k : Asker) (es : List RegEntry) (tables : List Nat) : State :=
  let named := (s.namedCurves (s.resultOf es) es).map (fun p => p.1)
  let gated := (s.tilesRising es).filter (fun t => named.contains t)
  let s := named.foldl (fun (s : State) t => { s with cal := { s.cal with bypass := SMap.set (fun _ => false) s.cal.bypass t false } }) s
  let (nonce, s) := s.random 16
  let l := s.ctl.lock
  let s := (s.setLock { l with nonce := nonce, staged := [] }).inc F.SEC_CP_COMMITS
  let s := if tables.isEmpty then s else s.readCurves tables
  (s.acceptCommit es gated tables).answerD k 0 nonce

/-- The Lantern authorisation of a COMMIT (R189, R337, R494): `sig` is its LANTERN_SIG. -/
def State.lanternAuth (s : State) (sig : Option (List Byte)) : Bool :=
  match s.sec.lantern, sig with
  | some key, some g => Config.ecdsaVerify key (s.ctl.lock.nonce ++ s.stageDigest) g
  | _, _ => false

def State.msgCommit (s : State) (k : Asker) (lantern : Option (List Byte)) : State :=
  if !s.holds k then s.answerD k 0x19 []
  else
    let es := s.ctl.lock.staged
    let lt := s.ltChanges (s.resultOf es) es
    if (!lt.isEmpty || lantern.isSome) && !s.lanternAuth lantern then
      let (st, done) := blame lt (0x79, isLantern)
      (s.ltRefused (s.ltNamed (s.resultOf es) es) st).commitRefuse k st done
    else
      match s.configBad es with
      | some b => let (st, done) := blame es b; s.commitRefuse k st done
      | none =>
        let r := s.resultOf es
        let cs := s.ltChecks r es
        let tables := ((s.namedCurves r es).map (fun p => p.2)).eraseDups
        if cs.isEmpty ∧ tables.isEmpty then s.commitAccept k es []
        else
          let s := cs.foldl (fun (s : State) c => s.putB (F.CMP_LT_STAT_VERIFYING c) true) s
          { s with cmp := { s.cmp with checks := s.cmp.checks ++ [(⟨k.slot, k.seq, k.relay, es, cs, tables, []⟩ : CheckJob)] } }

/-- Who sent the COMMIT of a check. -/
def CheckJob.asker (j : CheckJob) : Asker := ⟨j.slot, j.seq, 0x22, j.relay⟩

/-- The COMMIT whose surfaces and curves are read goes on: `j` names what is still to be read, and `tables` what was. -/
def State.checkNext (s : State) (j : CheckJob) (tables : List Nat) : State :=
  if j.canvases.isEmpty ∧ j.tables.isEmpty then s.commitAccept j.asker j.entries tables
  else { s with cmp := { s.cmp with checks := j :: s.cmp.checks } }

/-- LANTERN_HASH_CHECK_DONE (R190). -/
def State.lanternChecked (s : State) : State :=
  let s := s.leaseExpiry
  match s.cmp.checks with
  | [] => s
  | j :: rest =>
    if j.canvases.isEmpty then s
    else
      let s := { s with cmp := { s.cmp with checks := rest } }
      let s := j.canvases.foldl (fun (s : State) c => s.putB (F.CMP_LT_STAT_VERIFYING c) false) s
      let r := s.resultOf j.entries
      let bad := j.canvases.filter (fun c => !r.ltMatch c)
      let ranges := j.canvases.filterMap (fun c => r.ltRange c)
      if bad.isEmpty then (s.ltProtect ranges).checkNext { j with canvases := [], verified := ranges } (if j.tables.isEmpty then ((s.namedCurves r j.entries).map (fun p => p.2)).eraseDups else [])
      else
        let (st, done) := blame j.entries (0x7A, fun o => bad.any (fun c => ltRegs c o))
        (s.ltRefused bad st).commitRefuse j.asker st done

/-- CURVE_READS_DONE (R203). -/
def State.curvesRead (s : State) (readOk : Bool) : State :=
  let s := s.leaseExpiry
  match s.cmp.checks with
  | [] => s
  | j :: rest =>
    if j.tables.isEmpty then s
    else
      let s := { s with cmp := { s.cmp with checks := rest } }
      if readOk then s.checkNext { j with tables := [] } j.tables
      else
        let s := j.canvases.foldl (fun (s : State) c => s.putB (F.CMP_LT_STAT_VERIFYING c) false) s
        let (st, done) := blame j.entries (0x82, fun o => isCal o || isCmp o)
        (s.ltRelease j.verified).commitRefuse j.asker st done

/-! ### PERSIST and ATTEST (R339, R340, R482, R485, R507) -/

def State.msgPersist (s : State) (k : Asker) (kind r : Nat) (data : List Byte) : State :=
  if 240 < data.length then s.answerD k 0x14 []
  else if kind ≠ 1 ∧ kind ≠ 2 then s.answerD k 0x1F []
  else if recCount kind ≤ r then s.answerD k 0x122 []
  else if !s.flag F.NVM_BOOT_STAT_CS1_OK then s.answerD k 0x126 []
  else if 16 ≤ (s.nvm.persist.filter (fun (j : PersistJob) => decide (j.kind ≠ 4))).length then s.answerD k 0x120 []
  else { s with nvm := { s.nvm with persist := s.nvm.persist ++ [⟨k.slot, k.seq, kind, r, data, k.relay⟩] } }

def State.msgAttest (s : State) (k : Asker) (nonce : List Byte) : State :=
  if nonce.length ≠ 32 then s.answerD k 0x14 []
  else if s.sec.open_ then s.answerD k 0x132 []
  else { s with ctl := { s.ctl with attest := s.ctl.attest ++ [⟨k.slot, k.seq, nonce, k.relay⟩] } }

/-! ### Relays (R26, R333, R341, R513, R519) -/

/-- The PERM bit that grants a message (R320); CLOSE needs none. -/
def msgPerm : Msg → Option Nat
  | .read _ _ _ => some 0
  | .attest _ => some 0
  | .write _ _ _ => some 1
  | .maskedWrite _ _ _ => some 1
  | .ringWrite _ _ _ => some 1
  | .doorbell _ _ => some 1
  | .lock _ => some 2
  | .stage _ => some 2
  | .commit _ => some 2
  | .unlock => some 2
  | .persist _ _ _ => some 3
  | .close => none
  | .badType _ => none
  | .badLength _ => none

/-- Does a PERM value grant a message? -/
def permits (perm : Nat) (m : Msg) : Bool := match msgPerm m with | some b => perm.testBit b | none => true

/-- An answer of R526. -/
def State.relayRefuse (s : State) (k : Asker) (status : Nat) : State := (s.relayCount status).answerD k status []

/-- The head relays a request to member `d`. -/
def State.relayOut (s : State) (k : Asker) (d : Nat) (m : Msg) : State :=
  let v := s.link d
  if 64 ≤ d ∨ !s.flag (F.GNG_PEER_CTL_EN d) then s.relayRefuse k 0x140
  else if s.peerState d ≠ 2 then s.relayRefuse k 0x141
  else if 256 ≤ v.waiting.length then s.relayRefuse k 0x142
  else
    let id := (v.lastReq + 1) % 2 ^ 32
    let b := s.relayBody id k.slot m
    let j : RelayJob := ⟨id, k.slot, k.seq, k.type, b, s.tim.elapsed, v.txSeq + 1⟩
    let s := if replyFree (msgCode m) then s else s.replyLater k.slot k.seq
    let s := s.setLink d { v with lastReq := id, waiting := v.waiting ++ [j] }
    ((s.linkSend d 0x10 b).showWaiting d).inc F.GNG_RELAYS

/-- A request for another device. -/
def State.relayTo (s : State) (k : Asker) (perm d : Nat) (m : Msg) : State :=
  if !perm.testBit 5 ∨ !permits perm m then s.answerD k 0x16 []
  else if !s.isHead then s.relayRefuse k 0x144
  else
    match m with
    | .close => s.relayRefuse k 0x143
    | .badType _ => s.relayRefuse k 0x143
    | .badLength _ => s.answerD k 0x14 []
    | _ => s.relayOut k d m

/-- The device ID that the address of a request carries, when it is another device's. A relayed request reaches a member
with its ID cleared (R519). -/
def State.otherDevice (s : State) (k : Asker) (m : Msg) : Option Nat :=
  let id (a : Nat) : Option Nat := if k.relay.isSome ∨ a / 2 ^ 48 % 64 = s.ownId then none else some (a / 2 ^ 48 % 64)
  match m with
  | .read a _ _ => id a
  | .write a _ _ => id a
  | .maskedWrite a _ _ => id a
  | _ => none

/-! ### One request (R320, R325, R328) -/

/-- A request of this device itself, which its PERM grants. -/
def State.msgDo (s : State) (k : Asker) (m : Msg) : State :=
  match m with
  | .close => (s.answerD k 0 []).sessEnd k.slot
  | .read a n app => s.msgRead k a n app
  | .write a ws app => s.msgWrite k a ws app
  | .maskedWrite a mask v => s.msgMasked k a mask v
  | .ringWrite r i es => s.msgRingWrite k r i es
  | .doorbell r t => s.msgDoorbell k r t
  | .lock ms => s.msgLock k ms
  | .stage es => s.msgStage k es
  | .commit g => s.msgCommit k g
  | .unlock => s.msgUnlock k
  | .persist kind r d => s.msgPersist k kind r d
  | .attest n => s.msgAttest k n
  | .badType _ => s.answerD k 0x15 []
  | .badLength _ => s.answerD k 0x14 []

/-- A request is applied: its type, its length, its permission, then its work. A lease that has run out is over before it (R334). -/
def State.msgApply (s : State) (k : Asker) (perm : Nat) (req : Req) : State :=
  let s := s.leaseExpiry
  match req with
  | .relay d m => s.relayTo k perm d m
  | .own m =>
    if !permits perm m then s.answerD k 0x16 []
    else match s.otherDevice k m with
      | some d => if s.isHead then s.relayTo k perm d m else s.relayRefuse k 0x144
      | none => s.msgDo k m

/-! ### Order of the messages of a session (R326 to R328) -/

def State.nextSeq (s : State) (i : Nat) : Nat := s.rd (R.SEC_SESS_NEXT_SEQ_HI i) * 2 ^ 32 + s.rd (R.SEC_SESS_NEXT_SEQ_LO i)

/-- The messages a slot holds. -/
def State.heldShow (s : State) (i : Nat) : State := s.put (F.SEC_SESS_STAT_HELD i) (s.sess i).held.length

/-- The next message of session `i`, when it has come and no COMMIT's reads hold the others up. -/
def State.sessReady (s : State) (i : Nat) : Option HeldMsg :=
  if s.cmp.checks.isEmpty && s.sessOpen i then SMap.get (fun _ => none) (s.sess i).held (s.nextSeq i) else none

/-- The next message of the link from the head, on a member. -/
def State.linkReady (s : State) : Option GangMsg :=
  let h := s.get F.GNG_CFG_HEAD
  if s.cmp.checks.isEmpty && s.isMember then SMap.get (fun _ => none) (s.link h).held (s.link h).rxSeq else none

/-- A message of session `i` is being applied; it has been, and one that wrote the session's own SEC_SESS_CMD.CLOSE ends it. -/
def State.applyBegin (s : State) (i : Nat) : State := { s with ctl := { s.ctl with applying := some (i, false) } }
def State.applyEnd (s : State) : State :=
  let k := s.ctl.applying
  let s := { s with ctl := { s.ctl with applying := none } }
  match k with
  | some (i, true) => s.sessEnd i
  | _ => s

/-- Session `i` applies its next message, and answers its sender (R319). -/
def State.sessStep (s : State) (i : Nat) (m : HeldMsg) : State :=
  let n := s.nextSeq i
  let v := s.sess i
  let s := s.setSess i { v with
    held := SMap.set (fun _ => none) v.held n none, gapAt := none, gapTold := false, port := m.port, peer := m.peer }
  let s := (s.wr (R.SEC_SESS_NEXT_SEQ_HI i) ((n + 1) / 2 ^ 32)).wr (R.SEC_SESS_NEXT_SEQ_LO i) ((n + 1) % 2 ^ 32)
  let s := ((s.heldShow i).inc (F.SEC_SESS_RX_MSGS i)).applyBegin i
  (s.msgApply ⟨i, n, reqCode m.req, none⟩ v.perm m.req).applyEnd

/-- The slot of a member that a relayed request uses is OPEN from the first one (R520). -/
def State.relaySlot (s : State) (i hostId : Nat) : State :=
  if s.sessOpen i then s
  else
    let s := s.setSess i { s.sess i with relayed := true, perm := 63 }
    (s.sessOpenSlot i hostId).put (F.SEC_SESS_STAT_PERM i) 63

/-- The member applies the next message of its head (R516, R518, R520). -/
def State.linkStep (s : State) (g : GangMsg) : State :=
  let h := s.get F.GNG_CFG_HEAD
  let v := s.link h
  let q := v.rxSeq
  let s := s.setLink h { v with held := SMap.set (fun _ => none) v.held q none, rxSeq := q + 1 }
  match g with
  | .keepalive => s
  | .sessionEnd i => if (s.sess i).relayed then s.sessEnd i else s
  | .relay id i hostId m =>
    let s := (s.relaySlot (i % 16) hostId).inc (F.SEC_SESS_RX_MSGS (i % 16))
    s.msgApply ⟨i % 16, q, msgCode m, some (q, id)⟩ 63 (.own m)

/-- Apply what is ready, the lowest session slot first, and then the link (R328). -/
def State.drainMsgs (s : State) : Nat → State
  | 0 => s
  | f + 1 =>
    match (List.range 16).findSome? (fun i => (s.sessReady i).map (fun r => (i, r))) with
    | some (i, r) => (s.sessStep i r).drainMsgs f
    | none =>
      match s.linkReady with
      | some g => (s.linkStep g).drainMsgs f
      | none => s

/-- A gap opens, or none is left: a higher message is held and the next one has not come (R327). -/
def State.gapWatch (s : State) (i : Nat) : State :=
  let v := s.sess i
  let gap := s.sessOpen i && !v.held.isEmpty && (SMap.get (fun _ => none) v.held (s.nextSeq i)).isNone
  if gap && v.gapAt.isNone then s.setSess i { v with gapAt := some s.tim.elapsed }
  else if !gap && v.gapAt.isSome then s.setSess i { v with gapAt := none, gapTold := false }
  else s

/-- Apply everything that is ready, and watch for gaps. -/
def State.msgSettle (s : State) : State := (List.range 16).foldl (fun (s : State) i => s.gapWatch i) (s.drainMsgs 600)

/-- SEQ_GAP_TIMER (R327). -/
def State.gapTimer (s : State) (i : Nat) : State :=
  let v := s.sess i
  match v.gapAt with
  | none => s
  | some t =>
    if t + s.get F.SEC_CP_TIMERS_GAP_MS * Config.ms ≤ s.tim.elapsed then
      let s := s.setSess i { v with gapAt := some s.tim.elapsed, gapTold := true }
      let s := (s.ctlSend i 0x41 (Reply.body ⟨s.nextSeq i, 0, 0x1E, s.unstated, []⟩)).used
      if v.gapTold then s else s.raiseU 261
    else s

/-- A message that fails R323 is dropped: fault 97 at most once per second (R346). -/
def State.authFail (s : State) (i : Nat) : State :=
  let s := s.inc (F.SEC_SESS_AUTH_FAIL i)
  if s.limitOk 97 Config.sec then (s.limitMark 97).faultUnit 97 i else s

/-- A protected message of session `i` arrives (R323, R326). -/
def State.sessMsg (s : State) (i seq : Nat) (auth : Bool) (req : Req) : State :=
  let from_ := s.senderOf i
  let s := s.consumeRx (ownSession i)
  if !s.sessOpen i || (s.sess i).relayed then s.inc F.SEC_CP_DROPPED
  else if !auth then s.authFail i
  else
    let n := s.nextSeq i
    let s := s.setSess i { s.sess i with lastAccept := s.tim.elapsed }
    let v := s.sess i
    if n ≤ seq ∧ seq < n + 32 then
      let held := if (SMap.get (fun _ => none) v.held seq).isNone then SMap.set (fun _ => none) v.held seq (some ⟨req, from_.1, from_.2⟩)
        else v.held
      ((s.setSess i { v with held := held }).heldShow i).msgSettle
    else if seq < n ∧ n ≤ seq + 1024 then
      let s := (s.setSess i { v with port := from_.1, peer := from_.2 }).inc (F.SEC_SESS_DUP i)
      match v.replies.find? (fun (r : Reply) => decide (r.reqSeq = seq)) with
      | some r => s.ctlSend i 0x41 r.body
      | none => (s.ctlSend i 0x41 (Reply.body ⟨seq, reqCode req, 1, s.unstated, []⟩)).used
    else s.inc (F.SEC_SESS_DROPPED i)

/-! ### Messages of the head, on a member (R515, R516, R518) -/

/-- A message of the link from peer `d` arrives. -/
def State.linkMsg (s : State) (d seq : Nat) (g : GangMsg) : State :=
  let v := s.link d
  if !s.isMember ∨ d ≠ s.get F.GNG_CFG_HEAD then s.gangDrop
  else if v.rxSeq ≤ seq ∧ seq < v.rxSeq + 32 then
    let held := if (SMap.get (fun _ => none) v.held seq).isNone then SMap.set (fun _ => none) v.held seq (some g) else v.held
    (s.setLink d { v with held := held, lastRx := s.tim.elapsed }).msgSettle
  else if seq < v.rxSeq ∧ v.rxSeq ≤ seq + 1024 then
    let s := s.setLink d { v with lastRx := s.tim.elapsed }
    match v.replies.find? (fun p => decide (p.1 = seq)) with
    | some (_, r) => s.linkSend d 0x11 (bytesBE 4 r.reqSeq ++ bytesBE 2 r.status ++ bytesBE 2 0 ++ bytesBE 4 r.done ++ r.data)
    | none => s
  else s.gangDrop

/-- RELAY_REQ. -/
def State.relayReq (s : State) (d seq reqId : Nat) (auth : Bool) (hostId slot : Nat) (m : Msg) : State :=
  match s.gangRx d auth with
  | (false, s) => s
  | (true, s) => s.linkMsg d seq (.relay reqId slot hostId m)

/-- SESSION_END. -/
def State.sessionEnd (s : State) (d seq : Nat) (auth : Bool) (slot : Nat) : State :=
  match s.gangRx d auth with
  | (false, s) => s
  | (true, s) => s.linkMsg d seq (.sessionEnd slot)

/-- KEEPALIVE: of a member on the head, or of the head on a member. -/
def State.keepaliveRx (s : State) (d seq : Nat) (auth : Bool) (b : KaBody) : State :=
  match s.gangRx d auth with
  | (false, s) => s
  | (true, s) => if s.isHead then s.keepaliveHead d seq b else s.linkMsg d seq .keepalive

/-! ### EVENT messages (R342, R428) -/

/-- One record of an EVENT message. -/
def EvRec.wire (r : EvRec) : List Byte :=
  bytesBE 2 r.src ++ bytesBE 1 (if r.overflow then 1 else 0) ++ bytesBE 1 0 ++ bytesBE 4 r.count ++ bytesBE 4 r.data ++ timeBE r.time

/-- EVENT_MESSAGE: sink `i` sends its oldest records, up to 64. -/
def State.eventMessage (s : State) (i : Nat) : State :=
  if !s.sinkDue i then s
  else
    let q := s.queueOf (8 + i)
    let out := q.take 64
    let n := (s.sess i).sinkSeq + 1
    let s := s.setSess i { s.sess i with sinkSeq := n }
    let s := s.ctlSend i 0x40 (bytesBE 4 n ++ bytesBE 2 out.length ++ bytesBE 2 0 ++ out.flatMap EvRec.wire)
    let s := { s with evt := { s.evt with lastMsg := SMap.set (fun _ => none) s.evt.lastMsg i (some s.tim.elapsed)
                                          bypass := SMap.set (fun _ => false) s.evt.bypass i false } }
    let s := (s.putQueue (8 + i) (q.drop 64)).inc (F.EVT_SINK_MSGS i)
    s.evtsComplete out

end Sys2Proof.Machine
end

