-- ==== Sys2Proof/Machine/TimCmd.lean ====
section
/-! DEFINITION. What the commands of the time base do (R218 to R232): received PTP messages, the intervals of a PTP port,
PPS_IN and TIME_REF. -/

namespace Sys2Proof.Machine

/-! ### Received PTP messages -/

/-- A received PTP message of port `l`: its pool buffer is returned, and it is accepted or dropped (R227). Answers whether
it was accepted, its ingress stamp (R231), and the state. -/
def State.ptpTake (s : State) (l : Nat) (h : PtpHdr) : (Bool × Nat) × State :=
  let t := s.ingressStamp l (s.rxArrival (ownPort l))
  let r := (s.consumeRx (ownPort l)).ptpAccept l h.version h.domain h.transport h.ok
  ((r.1, t), r.2)

/-- SYNC: a one-step Sync gives a measurement, and a two-step Sync waits for its Follow_Up (R218, R220). -/
def State.syncRx (s : State) (l : Nat) (h : PtpHdr) (origin : Nat) : State :=
  let ((ok, t), s) := s.ptpTake l h
  if !ok || !s.fromParent l h then s
  else if h.twoStep then { s with tim := { s.tim with syncWait := some ⟨h.seq, l, t, h.corr⟩ } }
  else s.stepping (fun s => s.syncMeasure l ((t : Int) - origin - h.corr - s.asym l))

/-- FOLLOW_UP: it completes the measurement of the two-step Sync of its sequence number. -/
def State.followUpRx (s : State) (l : Nat) (h : PtpHdr) (origin : Nat) : State :=
  let ((ok, _), s) := s.ptpTake l h
  match s.tim.syncWait with
  | some w =>
    if ok && s.fromParent l h && decide (w.port = l) && decide (w.seq = h.seq) then
      ({ s with tim := { s.tim with syncWait := none } }).stepping (fun s =>
        s.syncMeasure l ((w.stamp : Int) - origin - w.corr - h.corr - s.asym l))
    else s
  | none => s

/-- DELAY_REQ: a port in MASTER answers with a Delay_Resp that carries the ingress stamp (R232). -/
def State.delayReqRx (s : State) (l : Nat) (h : PtpHdr) : State :=
  let ((ok, t), s) := s.ptpTake l h
  if ok && decide (s.get (F.TIM_PORT_STAT_STATE l) = 6) then s.ptpSend l leavePlain h.seq false (s.ptpDelayResp l h t) else s

/-- DELAY_RESP to the outstanding Delay_Req of the slave port: the mean path delay (R218). `receive` is the time at which
the master took the Delay_Req. -/
def State.delayRespRx (s : State) (l : Nat) (h : PtpHdr) (receive reqId reqPort : Nat) : State :=
  let ((ok, _), s) := s.ptpTake l h
  match SMap.get (fun _ => none) s.tim.delayReq l, s.tim.msDiff with
  | some (seq, t3), some ms =>
    if ok && s.fromParent l h && decide (seq = h.seq) && decide (reqId = s.clockId) && decide (reqPort = l + 1) then
      let d := (ms + ((receive : Int) - t3 - h.corr)).tdiv 2
      let s := { s with tim := { s.tim with pathDelay := d, pathDone := true,
                                            delayReq := SMap.set (fun _ => none) s.tim.delayReq l none
                                            delayLog := SMap.set (fun _ => none) s.tim.delayLog l (some h.log) } }
      s.wr R.TIM_PATH_DELAY (sat32 (unitsToNs d))
    else s
  | _, _ => s

/-- ANNOUNCE: the dataset of a foreign master feeds the best master clock algorithm (R229). Announces of the clock itself,
those 255 steps away, and those a port with MASTER_ONLY hears, are of no master (log entry 13). -/
def State.announceRx (s : State) (l : Nat) (h : PtpHdr) (b : AnnounceBody) : State :=
  let ((ok, _), s) := s.ptpTake l h
  if ok && decide (h.srcId ≠ s.clockId) && decide (b.steps < 255) && !s.flag (F.TIM_PORT_CTL_MASTER_ONLY l) then
    let d : PtpData := ⟨b.prio1, b.cls, b.acc, b.var, b.prio2, b.gmId, b.steps, h.srcId, h.srcPort, b.utc⟩
    let mine := fun (f : Foreign) => decide (f.data.parentId = d.parentId ∧ f.data.parentPort = d.parentPort)
    let prev := ((s.foreignOf l).find? mine).map (fun f => f.at_)
    (s.setForeign l ((s.foreignOf l).filter (fun f => !mine f) ++ [⟨d, s.tim.elapsed, prev⟩])).bmca
  else s

/-! ### Intervals of a PTP port (R229, R230) -/

/-- ANNOUNCE_RECEIPT_TIMEOUT of a port: a port in SLAVE or UNCALIBRATED has had no Announce of its parent, one in PASSIVE none of the
masters it knows, and one in LISTENING none at all, for ANNOUNCE_TIMEOUT intervals (R218, R230). The masters that have gone silent
are forgotten; a port that only listened becomes master, unless the clock is slave-only. -/
def State.announceLost (s : State) (l : Nat) : State :=
  let wait := s.get F.TIM_PTP_INTV_ANNOUNCE_TIMEOUT * s.announceInterval
  let live := (s.foreignOf l).filter (fun f => decide (s.tim.elapsed < f.at_ + wait))
  if s.get (F.TIM_PORT_STAT_STATE l) = 4 then
    if !live.isEmpty || decide (s.tim.elapsed < SMap.get (fun _ => 0) s.tim.listenAt l + wait) then s
    else
      let s := s.setForeign l []
      if 2 ≤ s.get F.TIM_CTL_ROLE then (s.portState l 6).bmca
      else { s with tim := { s.tim with listenAt := SMap.set (fun _ => 0) s.tim.listenAt l s.tim.elapsed } }
  else if live.length = (s.foreignOf l).length then s
  else (s.setForeign l live).bmca

/-- SYNC_INTERVAL of a port in MASTER (R232). -/
def State.syncSend (s : State) (l : Nat) : State :=
  if s.get (F.TIM_PORT_STAT_STATE l) ≠ 6 then s
  else
    let (seq, s) := s.ptpSeq l 0
    let two := s.flag F.TIM_CTL_TWO_STEP
    s.ptpSend l (if two then leaveSyncTwo else leaveSyncOne) seq true (s.ptpSync l seq 0 two)

/-- ANNOUNCE_INTERVAL of a port in MASTER. -/
def State.announceSend (s : State) (l : Nat) : State :=
  if s.get (F.TIM_PORT_STAT_STATE l) ≠ 6 then s
  else
    let (seq, s) := s.ptpSeq l 1
    (s.ptpSend l leavePlain seq false (s.ptpAnnounce l seq)).used

/-- The longest interval between Delay_Reqs of port `l` in units: 2 × 2^LOG_DELAY_REQ s, of the master's newest Delay_Resp, and of
TIM_PTP_INTV before one (R230; log entry 13). -/
def State.delayReqMax (s : State) (l : Nat) : Nat :=
  let log := match SMap.get (fun _ => none) s.tim.delayLog l with
    | some v => v
    | none => signed 8 (s.get F.TIM_PTP_INTV_LOG_DELAY_REQ)
  unitsPerSec * 2 ^ ((log + 129).toNat) / 2 ^ 128

/-- DELAY_REQ_INTERVAL of the slave port: a Delay_Req that is due is sent, and the time to the next is drawn at random (R230). -/
def State.delayReqSend (s : State) (l : Nat) : State :=
  if s.slavePort ≠ some l ∨ s.tim.elapsed < SMap.get (fun _ => 0) s.tim.delayDue l then s
  else
    let gap := Config.freeNat s.draw % (s.delayReqMax l + 1)
    let s := { s.used with tim := { s.used.tim with delayDue := SMap.set (fun _ => 0) s.tim.delayDue l (s.tim.elapsed + gap) } }
    let (seq, s) := s.ptpSeq l 2
    s.ptpSend l leaveDelayReq seq true (s.ptpDelayReq l seq)

/-! ### PPS_IN and TIME_REF (R221 to R223) -/

/-- Signed units from the nearest whole second to a stamp; at the middle of two seconds the spec does not say which one
counts. -/
def ppsError (t : Nat) (up : Bool) : Int :=
  let r := t % unitsPerSec
  if r * 2 < unitsPerSec ∨ (r * 2 = unitsPerSec ∧ up) then r else (r : Int) - unitsPerSec

/-- Do the spacings of PPS edges, newest first, agree within 1 µs? -/
def ppsAgree (l : List Nat) : Bool :=
  let d := l.zipWith (fun a b => a - b) (l.drop 1)
  d.all (fun x => d.all (fun y => decide (x ≤ y + Config.us)))

/-- PPS_OK changes. -/
def State.ppsOk (s : State) (b : Bool) : State :=
  if s.flag F.TIM_STAT_PPS_OK = b then s else (s.putB F.TIM_STAT_PPS_OK b).raiseU 198

/-- PPS_EDGE (R222). With ROLE = 0 the edge is a measurement, but in FREERUN, which the source leaves when PPS_OK becomes 1
and whose first measurement is the next edge (R220). -/
def State.ppsEdge (s : State) : State :=
  if !s.flag F.TIM_CTL_PPS_EN then s
  else
    let t := round16 s.tim.now
    let e := ppsError t (Config.freeBool s.draw)
    let s := s.used.wr R.TIM_PPS_ERR (sat32 (unitsToNs e))
    let good := match s.tim.ppsEdges with
      | u :: _ => decide (u + 999 * 1000000 * Config.ns ≤ t) && decide (t ≤ u + 1001 * 1000000 * Config.ns)
      | [] => true
    let l := if good then (t :: s.tim.ppsEdges).take 4 else [t]
    let s := { s with tim := { s.tim with ppsEdges := l, ppsAt := s.tim.elapsed } }
    let free := decide (s.get F.TIM_STAT_STATE = 0)
    let master := decide (s.get F.TIM_CTL_ROLE = 0)
    let was := s.flag F.TIM_STAT_PPS_OK
    let s := if !good then s.ppsOk false else if l.length = 4 ∧ ppsAgree l then s.ppsOk true else s
    if !master then s
    else if free then (if !was && s.flag F.TIM_STAT_PPS_OK then s.timState 1 else s)
    else s.stepping (fun s => s.measure e)

/-- PPS_TIMEOUT: 1.5 s without an edge (R218, R222). -/
def State.ppsTimeout (s : State) : State :=
  if s.tim.ppsEdges.isEmpty ∨ s.tim.elapsed < s.tim.ppsAt + 1500 * Config.ms then s
  else
    let s := ({ s with tim := { s.tim with ppsEdges := [] } }).ppsOk false
    if s.get F.TIM_CTL_ROLE = 0 then s.sourceLost else s

/-- TIME_REF_CHANGE (R221): the measured frequency of TIME_REF, in µHz, is now `freq`; 0 when there is none. -/
def State.timeRefChange (s : State) (freq : Nat) : State := ({ s with tim := { s.tim with refFreq := freq } }).refJudge

/-- HOLDOVER_EXPIRY (R223): HOLDOVER has lasted HOLDOVER_S seconds. -/
def State.holdoverExpiry (s : State) : State :=
  if s.get F.TIM_STAT_STATE = 3 ∧ !s.tim.holdoverRaised ∧
      s.tim.holdoverAt + s.get F.TIM_LIMITS_HOLDOVER_S * unitsPerSec ≤ s.tim.elapsed then
    ({ s with tim := { s.tim with holdoverRaised := true } }).faultU 73
  else s

end Sys2Proof.Machine
end

