-- ==== Sys2Proof/Machine/Settle.lean ====
section
/-! DEFINITION. What follows from a command within the same step: messages that have become next are applied, waiting
requests move on, fault reactions are carried out, the sequencers look at their conditions, and flows
join and leave their ports' choices. -/

namespace Sys2Proof.Machine

/-- A write met a protected Lantern range: fault 58, once for the command (R191). -/
def State.lanternTell (s : State) : State :=
  if s.cmp.protHit then ({ s with cmp := { s.cmp with protHit := false } }).faultU 58 else s

/-- Encode sources that have stopped (R152). -/
def State.encSources (s : State) : State := s.enc.ctx.foldl (fun (s : State) p => (s.encSrcIdle p.1).encPassed p.1) s

/-- Reactions carried out after one command; each names a unit or function that leaves service, so their number is bounded. -/
def reactionFuel : Nat := 4096

/-- Carry out everything that a command brings about (R281, R326, R379, R404, R431). -/
def State.settle (s : State) : State :=
  let s := s.msgSettle
  let s := (s.lanternTell).reactions reactionFuel
  let s := (s.serveLines.almWake).encSources
  (((s.lanternTell).reactions reactionFuel).drrSync).ceilEnds

/-- Carry a command out, and what follows from it. -/
def State.run (s : State) (dt rails : Nat) (f : State → State) : Host.Outcome State Fault Refusal :=
  s.act dt rails (fun s => (f s).settle)

/-- Carry out a change of a pin, a rail or a clock. While a cold reset is held, only the levels themselves change (R462). -/
def State.runPin (s : State) (dt rails : Nat) (f : State → State) : Host.Outcome State Fault Refusal :=
  if s.nvm.held then .next ((f s).coldReset.keepOutside s) else s.run dt rails f

/-! ### What several commands share -/

/-- What exec answers for a command. -/
abbrev Answer := Host.Outcome State Fault Refusal

/-- A register write, but for its status. -/
def State.writeReg (s : State) (off mask val : Nat) : State := (s.regWrite off mask val).2

/-- A write of one field of a register. -/
def State.setField (s : State) (f : Fld) (v : Nat) : State := s.writeReg f.off ((2 ^ f.width - 1) * 2 ^ f.lo) (v * 2 ^ f.lo)

/-- DRAIN_RESUME: a drain that stalled goes on when its space is released (R56). -/
def State.drainResume (s : State) (n : Nat) : State := if s.flag (F.ING_CTX_STAT_ESB_STALLED n) then s.drainStart n else s

/-- ACCEPT_WINDOW_OPEN: the head packet of a flow whose window is open joins its port's choice (R276, R281). -/
def State.windowOpens (s : State) (t : Nat) : State :=
  match s.headPort t with
  | some _ => s.drrSync
  | none => s

/-- TILE_STATUS: the frame leaves its pool buffer, and its packet is judged (R265). -/
def State.statusRx (s : State) (packet : List Byte) (mac ip : Nat) : State :=
  let o := ownSegment (be packet 6 1 % 64)
  let arr := s.rxArrival o
  (s.consumeRx o).tileStatus packet mac ip arr

/-- ARB_GRANT: arbiters 0 to 7 are the DRAM channels, 8 to 23 the ports and 24 the DMA movers (R311). -/
def State.grantCmd (s : State) (a requests : Nat) : State :=
  if a < 8 then (s.arbGrant a requests).arbRun a else if a < 24 then (s.passFrame (a - 8) false).drainCheck a else s.moverSync

/-- ARB_HOLD_CUTOFF (R313). -/
def State.cutoffCmd (s : State) (a requests : Nat) : State := if a = 24 then s.moverCutoff else (s.holdCutoff a requests).arbRun a

/-- The message of a CLOSE command: a CLOSE, or a message that is no request of R325. -/
def closeMsg : Option Malformed → Msg
  | none => .close
  | some (.type k) => .badType k
  | some (.length k) => .badLength k

/-- REQUEST_LINE: internal lines 0 to 255, and external lines from 256 up (R379, R393). -/
def State.requestCmd (s : State) (line : Nat) : State := if line < 256 then s.lineRequest line else s.dreqRise (line - 256)

/-- SRAM_ERROR (R441): a corrected error is counted, with event 0 at most once per millisecond; a double-bit error in an array
that no block rule covers records fault 0, with DATA, and UNIT (log entry 91), naming the unit in the format of R438. -/
def State.sramError (s : State) (double : Bool) (unit : Nat) : State :=
  if double then s.fault 0 unit unit else s.sramCorrected

/-- An NVM operation is chosen and started (R479). -/
def State.nvmOpCmd (s : State) (op : Nat) : State := (s.setField F.NVM_OP_CTL_OP op).setField F.NVM_OP_CMD_GO 1

/-- A scan of SECREG, and what its access brings about unless a cold reset is held (R551). -/
def State.secregCmd (s : State) (bits : BitVec 49) : State := if s.nvm.held then s.secregScan bits else (s.secregScan bits).settle

end Sys2Proof.Machine
end

