-- ==== Sys2Proof/Machine/AlmCmds.lean ====
section
/-! DEFINITION. The commands of the Almanac and of the control stores (spec/15). -/

namespace Sys2Proof.Machine
open Sys2Proof

/-- ALM_ENABLE (R410): A write of ALM_SEQ_CTL.EN = 1 starts the sequencer at START. -/
def execAlmEnable (dt : Nat) (q : Fin 4) (s : State) : Answer :=
  s.run dt railCore (fun s => s.setField (F.ALM_SEQ_CTL_EN q) 1)

/-- ALM_DISABLE (R410): A write of ALM_SEQ_CTL.EN = 0 abandons the wait, discards the queue and stops. -/
def execAlmDisable (dt : Nat) (q : Fin 4) (s : State) : Answer :=
  s.run dt railCore (fun s => s.setField (F.ALM_SEQ_CTL_EN q) 0)

/-- ALM_STORE_WRITE (R398): A write through an MCS window updates a microword or is refused. -/
def execAlmStoreWrite (dt : Nat) (store : Fin 4) (word : Fin 8192) (i : Fin 4) (val : Word) (s : State) : Answer :=
  s.run dt railCore (fun s => (s.storeWrite store word i 0xFFFFFFFF val.toNat).2)

/-! ### Microword operations -/

/-- NOP (R403): Microword operation NOP does nothing. -/
def execNop (dt : Nat) (q : Fin 4) (s : State) : Answer :=
  s.run dt railCore (fun s => s.almOp q 0)

/-- WRI (R406): Microword WRI writes the masked immediate to a register. -/
def execWri (dt : Nat) (q : Fin 4) (s : State) : Answer :=
  s.run dt railCore (fun s => s.almOp q 1)

/-- WRG (R406): Microword WRG writes a masked general register to a register. -/
def execWrg (dt : Nat) (q : Fin 4) (s : State) : Answer :=
  s.run dt railCore (fun s => s.almOp q 2)

/-- RDG (R403): Microword RDG reads a masked register into G[RA] and compares it. -/
def execRdg (dt : Nat) (q : Fin 4) (s : State) : Answer :=
  s.run dt railCore (fun s => s.almOp q 3)

/-- LDI (R403): Microword LDI loads an immediate into G[RA]. -/
def execLdi (dt : Nat) (q : Fin 4) (s : State) : Answer :=
  s.run dt railCore (fun s => s.almOp q 4)

/-- ADDI (R403): Microword ADDI adds an immediate to G[RA] and sets Z. -/
def execAddi (dt : Nat) (q : Fin 4) (s : State) : Answer :=
  s.run dt railCore (fun s => s.almOp q 5)

/-- ADDG (R403): Microword ADDG adds G[RB] to G[RA] and sets Z. -/
def execAddg (dt : Nat) (q : Fin 4) (s : State) : Answer :=
  s.run dt railCore (fun s => s.almOp q 6)

/-- ANDI (R403): Microword ANDI masks G[RA] by an immediate and sets Z. -/
def execAndi (dt : Nat) (q : Fin 4) (s : State) : Answer :=
  s.run dt railCore (fun s => s.almOp q 7)

/-- CMP (R403): Microword CMP compares masked G[RA] with an immediate into Z. -/
def execCmp (dt : Nat) (q : Fin 4) (s : State) : Answer :=
  s.run dt railCore (fun s => s.almOp q 8)

/-- TNOW (R403): Microword TNOW loads device time into T[RA]. -/
def execTnow (dt : Nat) (q : Fin 4) (s : State) : Answer :=
  s.run dt railCore (fun s => s.almOp q 9)

/-- TSET (R403): Microword TSET sets T[RA] seconds from the immediates. -/
def execTset (dt : Nat) (q : Fin 4) (s : State) : Answer :=
  s.run dt railCore (fun s => s.almOp q 10)

/-- TADD (R403): Microword TADD adds seconds and nanoseconds to T[RA]. -/
def execTadd (dt : Nat) (q : Fin 4) (s : State) : Answer :=
  s.run dt railCore (fun s => s.almOp q 11)

/-- TSEG (R403): Microword TSEG sets T[RA] to the next frame boundary of a segment. -/
def execTseg (dt : Nat) (q : Fin 4) (s : State) : Answer :=
  s.run dt railCore (fun s => s.almOp q 12)

/-- POST (R407): Microword POST writes an entry to an on-chip submission ring. -/
def execPost (dt : Nat) (q : Fin 4) (s : State) : Answer :=
  s.run dt railCore (fun s => s.almOp q 13)

/-- CQPOP (R408): Microword CQPOP takes a record from an on-chip completion ring. -/
def execCqpop (dt : Nat) (q : Fin 4) (s : State) : Answer :=
  s.run dt railCore (fun s => s.almOp q 14)

/-- RAISE (R403): Microword RAISE raises event 304 + IMM[2:0]. -/
def execRaise (dt : Nat) (q : Fin 4) (s : State) : Answer :=
  s.run dt railCore (fun s => s.almOp q 15)

/-- DREQ (R403): Microword DREQ makes one request on an internal DMA line. -/
def execDreq (dt : Nat) (q : Fin 4) (s : State) : Answer :=
  s.run dt railCore (fun s => s.almOp q 16)

/-! ### Waits, flags and scrubbing -/

/-- ALM_TIME_WAIT_END (R404): Device time reaches a TIME wait's T register and the microword's operation runs. -/
def execAlmTimeWaitEnd (dt : Nat) (q : Fin 4) (s : State) : Answer :=
  s.run dt railCore (fun s => s.almTimeWait q)

/-- ALM_HS_SET (R409): A write to ALM_HS_SET sets handshake flags and may end a HANDSHAKE wait. -/
def execAlmHsSet (dt : Nat) (mask : Word) (s : State) : Answer :=
  s.run dt railCore (fun s => s.writeReg R.ALM_HS_SET 0xFFFFFFFF mask.toNat)

/-- ALM_HS_CLR (R409): A write to ALM_HS_CLR clears handshake flags. -/
def execAlmHsClr (dt : Nat) (mask : Word) (s : State) : Answer :=
  s.run dt railCore (fun s => s.writeReg R.ALM_HS_CLR 0xFFFFFFFF mask.toNat)

/-- STORE_SCRUB (R414): The scrubber checks store words, correcting single-bit errors and poisoning double-bit ones.
-/
def execStoreScrub (dt : Nat) (store : Fin 20) (word : Fin 8192) (double : Bool) (s : State) : Answer :=
  s.run dt railCore (fun s => s.storeScrub store word double)

end Sys2Proof.Machine
end

