-- ==== Sys2Proof/Machine/BootCmds.lean ====
section
/-! DEFINITION. The commands of reset and start-up (spec/18, spec/21). -/

namespace Sys2Proof.Machine
open Sys2Proof

/-- PORST_N_RELEASE (R462): Cold reset ends: fuses re-read, device time starts at 0, every register resets and start-
up begins. -/
def execPorstNRelease (dt : Nat) (s : State) : Answer :=
  .next (s.advance dt).porstRelease

/-- SYSRST_N_LOW (R541): SYSRST_N is recognised after 1 µs low and begins a warm reset. -/
def execSysrstNLow (dt : Nat) (s : State) : Answer :=
  s.run dt 0 (fun s => s.sysrstFall)

/-- WARM (R463): A write of GLB_RST_CMD.WARM schedules a warm reset 1 ms after its message is applied. -/
def execWarm (dt : Nat) (s : State) : Answer :=
  s.run dt railCore (fun s => s.setField F.GLB_RST_CMD_WARM 1)

/-- WARM_RESET_DELAY_EXPIRY (R463): The 1 ms after a WARM write ends and the warm reset takes place. -/
def execWarmResetDelayExpiry (dt : Nat) (s : State) : Answer :=
  s.run dt 0 (fun s => s.warmDelay)

/-- VAON_LOW (R540): VAON stays below 0.70 V for 1 µs and the device performs a cold reset. -/
def execVaonLow (dt : Nat) (s : State) : Answer :=
  .next ((s.advance dt).coldReset.keepOutside s)

/-- RAIL_OUT_OF_RANGE (R540): A monitored rail stays outside its transient range for 10 µs and fault 160 is raised. -/
def execRailOutOfRange (dt : Nat) (rail : Fin 7) (s : State) : Answer :=
  s.runPin dt 0 (fun s => s.railOut rail)

/-- RAIL_BACK_IN_RANGE (R540): A monitored rail returns into range and fault 160 CAUSE falls once all rails are in
range. -/
def execRailBackInRange (dt : Nat) (rail : Fin 7) (s : State) : Answer :=
  s.runPin dt 0 (fun s => s.railBack rail)

/-- REFCLK_ETH_LOST (R543): REFCLK_ETHp shows no edge for 1 µs, so its ports lose link, ETH_OK falls and fault 161 is
raised. -/
def execRefclkEthLost (dt : Nat) (p : Fin 4) (s : State) : Answer :=
  s.runPin dt 0 (fun s => s.ethClkLost p)

/-- REFCLK_ETH_RETURN (R543): REFCLK_ETHp returns and its ports regain link without any write. -/
def execRefclkEthReturn (dt : Nat) (p : Fin 4) (s : State) : Answer :=
  s.runPin dt 0 (fun s => s.ethClkBack p)

/-- REFCLK_MEM_LOST (R543): REFCLK_MEM shows no edge for 1 µs and the device performs a cold reset. -/
def execRefclkMemLost (dt : Nat) (s : State) : Answer :=
  .next ((s.advance dt).memClkLoss.keepOutside s)

/-- FUSES_READ (R462): The FUSES stage completes and start-up enters SELECT. -/
def execFusesRead (dt : Nat) (s : State) : Answer :=
  s.run dt railCore (fun s => s.fusesRead)

/-- SELECT_DONE (R469): Both chip selects are initialised, records scanned and slots ordered, and the first candidate
goes to VERIFY. -/
def execSelectDone (dt : Nat) (cs0 cs1 : Option (Nat × Nat)) (s : State) : Answer :=
  s.run dt railCore (fun s => s.selectDone cs0 cs1)

/-- VERIFY_DONE (R474): The header, table, owner key, signature, SVN and TARGET of a slot are checked, failing it or
passing it to LOAD. -/
def execVerifyDone (dt : Nat) (readOk fuseOk : Bool) (s : State) : Answer :=
  s.run dt railCore (fun s => s.verifyDone readOk fuseOk)

/-- LOAD_DONE (R477): Records, microcode and keys are applied, persisted settings applied and the configuration
validated; the AVS loop may start. -/
def execLoadDone (dt : Nat) (readOk : Bool) (s : State) : Answer :=
  s.run dt railCore (fun s => s.loadDone readOk)

/-- DRAM_TRAINING_DONE (R294): Channel training ends, giving READY or fault 88 and the SERVICE stage. -/
def execDramTrainingDone (dt : Nat) (pass : BitVec 8) (s : State) : Answer :=
  s.run dt railMem (fun s => s.trainingDone pass.toNat)

/-- BLOBS_DONE (R475): BLOB sections are copied or zero-filled, curve tables loaded and Lantern surfaces checked, then
LINKS begins. -/
def execBlobsDone (dt : Nat) (readOk : Bool) (badCurves : List Nat) (s : State) : Answer :=
  s.run dt railMem (fun s => s.blobsDone readOk badCurves)

/-- RUN_ENTRY (R464): Start-up completes, deferred enables start in their order and BOOT_DONE is raised. -/
def execRunEntry (dt : Nat) (s : State) : Answer :=
  s.run dt railCore (fun s => s.runEntry)

/-- PORST_N_LOW (R462): PORST_N is driven low and every block is held in cold reset until its release. -/
def execPorstNLow (dt : Nat) (s : State) : Answer :=
  .next (s.advance dt).porstLow

/-- SYSRST_N_HIGH (R541): SYSRST_N returns high after a pin warm reset and start-up begins again at SELECT. -/
def execSysrstNHigh (dt : Nat) (s : State) : Answer :=
  .next (s.timed dt).sysrstRise

/-- REFCLK_MEM_RETURN (R543): REFCLK_MEM returns after a loss and the cold reset it caused ends, letting start-up
proceed. -/
def execRefclkMemReturn (dt : Nat) (s : State) : Answer :=
  .next (s.timed dt).memClkBack

end Sys2Proof.Machine
end

