-- ==== Sys2Proof/Machine/CmpCmds.lean ====
section
/-! DEFINITION. The commands of composition and calibration (spec/06, spec/07). -/

namespace Sys2Proof.Machine
open Sys2Proof

/-- CANVAS_LATCH (R159): At P − LEAD a canvas fixes staged changes, order table, invalidations, layer pictures and
Lantern state. -/
def execCanvasLatch (dt : Nat) (c : Fin 4) (s : State) : Answer :=
  s.run dt railMem (fun s => s.canvasLatch c)

/-- CANVAS_FRAME_START (R161): The first piece of a latched frame starts after the previous frame's composition ends.
-/
def execCanvasFrameStart (dt : Nat) (c : Fin 4) (s : State) : Answer :=
  s.run dt railMem (fun s => s.cvFrameStart c)

/-- TILE_PIECE_COMPOSED (R160): A tile piece is composed and passed to calibration, and the slack forecast is updated.
-/
def execTilePieceComposed (dt : Nat) (c : Fin 4) (badBrick : Bool) (s : State) : Answer :=
  s.run dt railMem (fun s => s.pieceCmd c badBrick)

/-- DIRTY (R183): A write of CMP_GL_CMD.DIRTY invalidates the named bricks at the next latch. -/
def execDirty (dt : Nat) (g : Fin 48) (s : State) : Answer :=
  s.run dt railCore (fun s => s.setField (F.CMP_GL_CMD_DIRTY g) 1)

/-- LANTERN_N_CHANGE (R192): LANTERN_N changes level and the 1 ms alarm filter restarts. -/
def execLanternNChange (dt : Nat) (low : Bool) (s : State) : Answer :=
  s.runPin dt railPin (fun s => s.lanternPin low)

/-- LANTERN_ALARM_FILTER (R192): LANTERN_N holds its level for 1 ms and the alarm asserts or deasserts with event 150.
-/
def execLanternAlarmFilter (dt : Nat) (s : State) : Answer :=
  s.run dt railPin (fun s => s.lanternFilter)

/-- LANTERN_HASH_CHECK_DONE (R190): The SHA-384 check of a Lantern surface ends, applying the COMMIT or refusing it
with LANTERN_HASH. -/
def execLanternHashCheckDone (dt : Nat) (s : State) : Answer :=
  s.run dt railMem (fun s => s.lanternChecked)

/-- PIECE_CALIBRATED (R211): The codes of a piece are quantised and placed in the packet buffer for TFP build. -/
def execPieceCalibrated (dt : Nat) (badUnits : List Nat) (s : State) : Answer :=
  s.run dt railMem (fun s => s.calibrate badUnits)

/-- CURVE_READS_DONE (R204): The curve tables named by a COMMIT are read, letting its CAL changes apply at the next
latch. -/
def execCurveReadsDone (dt : Nat) (readOk : Bool) (s : State) : Answer :=
  s.run dt railMem (fun s => s.curvesRead readOk)

end Sys2Proof.Machine
end

