-- ==== Sys2Proof/Machine/CtlCmds.lean ====
section
/-! DEFINITION. The commands of control sessions and of the lock (spec/12). -/

namespace Sys2Proof.Machine
open Sys2Proof

/-- HELLO (R321): A HELLO is checked and answered with ACCEPT, or refused. -/
def execHello (dt : Nat) (port : Fin 16) (peer : Peer) (nonce eph : List Byte) (cert : Cert) (s : State) : Answer :=
  s.run dt railCore (fun s => (s.consumeRx (ownSession 0)).hello port peer nonce eph cert)

/-- FINISH (R322): A FINISH opens the session or ends its setup with SETUP_FAILED. -/
def execFinish (dt : Nat) (slot : Fin 16) (sig : List Byte) (s : State) : Answer :=
  s.run dt railCore (fun s => ((s.heard slot).consumeRx (ownSession slot)).finish slot sig)

/-- SETUP_TIMEOUT (R322): SETUP_MS pass after ACCEPT without FINISH and the slot returns to FREE. -/
def execSetupTimeout (dt : Nat) (slot : Fin 16) (s : State) : Answer :=
  s.run dt railCore (fun s => s.setupTimeout slot)

/-- CLOSE (R322): A CLOSE message ends the session. -/
def execClose (dt : Nat) (slot : Fin 16) (seq : Nat) (auth : Bool) (malformed : Option Malformed)
    (s : State) : Answer :=
  s.run dt railCore (fun s => s.sessMsg slot seq auth (.own (closeMsg malformed)))

/-- SESSION_CLOSE_CMD (R322): A write of SEC_SESS_CMD.CLOSE ends the session. -/
def execSessionCloseCmd (dt : Nat) (slot : Fin 16) (s : State) : Answer :=
  s.run dt railCore (fun s => s.setField (F.SEC_SESS_CMD_CLOSE slot) 1)

/-- SESSION_IDLE_TIMEOUT (R322): No message is accepted for IDLE_S seconds and the session ends. -/
def execSessionIdleTimeout (dt : Nat) (slot : Fin 16) (s : State) : Answer :=
  s.run dt railCore (fun s => s.sessIdle slot)

/-- READ (R330): A READ returns COUNT words from device or gang addresses. -/
def execRead (dt : Nat) (slot : Fin 16) (seq : Nat) (auth : Bool) (addr count : Nat) (app : List (Option Nat))
    (s : State) : Answer :=
  s.run dt railCore (fun s => s.sessMsg slot seq auth (.own (.read addr count app)))

/-- WRITE (R331): A WRITE stores words by their field access codes and reports the first non-OK status. -/
def execWrite (dt : Nat) (slot : Fin 16) (seq : Nat) (auth : Bool) (addr : Nat) (words : List Word) (app : List (Option Nat))
    (s : State) : Answer :=
  s.run dt railCore (fun s => s.sessMsg slot seq auth (.own (.write addr (words.map BitVec.toNat) app)))

/-- REGISTER_WRITE (R331): A write to a register with no row of its own is applied field by field by its access codes.
-/
def execRegisterWrite (dt : Nat) (off : Nat) (mask val : Word) (s : State) : Answer :=
  s.run dt railCore (fun s => s.writeReg off mask.toNat val.toNat)

/-- MASKED_WRITE (R332): A MASKED_WRITE sets the masked bits of one register in one atomic read-modify-write. -/
def execMaskedWrite (dt : Nat) (slot : Fin 16) (seq : Nat) (auth : Bool) (addr : Nat) (mask val : Word)
    (s : State) : Answer :=
  s.run dt railCore (fun s => s.sessMsg slot seq auth (.own (.maskedWrite addr mask.toNat val.toNat)))

/-- RING_WRITE (R353): A RING_WRITE copies submission entries into a host-fed ring. -/
def execRingWrite (dt : Nat) (slot : Fin 16) (seq : Nat) (auth : Bool) (ring index : Nat) (entries : List (List Byte))
    (s : State) : Answer :=
  s.run dt railCore (fun s => s.sessMsg slot seq auth (.own (.ringWrite ring index entries)))

/-- DOORBELL (R354): A DOORBELL advances TAIL of a host-fed ring. -/
def execDoorbell (dt : Nat) (slot : Fin 16) (seq : Nat) (auth : Bool) (ring tail : Nat) (s : State) : Answer :=
  s.run dt railCore (fun s => s.sessMsg slot seq auth (.own (.doorbell ring tail)))

/-- LOCK (R334): A LOCK grants or renews the staged-change lock with a fresh nonce. -/
def execLock (dt : Nat) (slot : Fin 16) (seq : Nat) (auth : Bool) (leaseMs : Nat) (s : State) : Answer :=
  s.run dt railCore (fun s => s.sessMsg slot seq auth (.own (.lock leaseMs)))

/-- STAGE (R336): A STAGE appends masked RWL entries to the staged list and returns its digest. -/
def execStage (dt : Nat) (slot : Fin 16) (seq : Nat) (auth : Bool) (entries : List RegEntry) (s : State) : Answer :=
  s.run dt railCore (fun s => s.sessMsg slot seq auth (.own (.stage entries)))

/-- COMMIT (R337): A COMMIT checks the staged configuration and accepts it whole or refuses it. -/
def execCommit (dt : Nat) (slot : Fin 16) (seq : Nat) (auth : Bool) (lantern : Option (List Byte))
    (s : State) : Answer :=
  s.run dt railCore (fun s => s.sessMsg slot seq auth (.own (.commit lantern)))

/-- UNLOCK (R335): An UNLOCK frees the lock and discards the staged entries. -/
def execUnlock (dt : Nat) (slot : Fin 16) (seq : Nat) (auth : Bool) (s : State) : Answer :=
  s.run dt railCore (fun s => s.sessMsg slot seq auth (.own .unlock))

/-- LEASE_EXPIRY (R335): The lease ends, staged entries are discarded, the lock freed and event 256 and fault 96
raised. -/
def execLeaseExpiry (dt : Nat) (s : State) : Answer :=
  s.run dt railCore (fun s => s.leaseExpiry)

/-- SEQ_GAP_TIMER (R327): Every GAP_MS while a message is missing a SEQ_GAP completion is sent. -/
def execSeqGapTimer (dt : Nat) (slot : Fin 16) (s : State) : Answer :=
  s.run dt railCore (fun s => s.gapTimer slot)

/-- PERSIST (R339): A PERSIST queues a write of a settings or calibration reference record. -/
def execPersist (dt : Nat) (slot : Fin 16) (seq : Nat) (auth : Bool) (kind record : Nat) (data : List Byte)
    (s : State) : Answer :=
  s.run dt railCore (fun s => s.sessMsg slot seq auth (.own (.persist kind record data)))

/-- ATTEST (R340): An ATTEST starts building a signed attestation report over the host nonce. -/
def execAttest (dt : Nat) (slot : Fin 16) (seq : Nat) (auth : Bool) (nonce : List Byte) (s : State) : Answer :=
  s.run dt railCore (fun s => s.sessMsg slot seq auth (.own (.attest nonce)))

/-- GANG_RELAY (R341): A GANG_RELAY forwards one request to a member. -/
def execGangRelay (dt : Nat) (slot : Fin 16) (seq : Nat) (auth : Bool) (device : Nat) (msg : Msg)
    (s : State) : Answer :=
  s.run dt railCore (fun s => s.sessMsg slot seq auth (.relay device msg))

/-- EVENT_MESSAGE (R428): A sink's send condition is met and an EVENT message carries its queued records. -/
def execEventMessage (dt : Nat) (sink : Fin 16) (s : State) : Answer :=
  s.run dt railCore (fun s => s.eventMessage sink)

end Sys2Proof.Machine
end

