-- ==== Sys2Proof/Machine/DecCmds.lean ====
section
/-! DEFINITION. The commands of decoding and concealment (spec/03, spec/04). -/

namespace Sys2Proof.Machine
open Sys2Proof

/-- PICTURE_DISPATCH (R84): A picture whose dispatch conditions all hold is placed on the engines of its placement. -/
def execPictureDispatch (dt : Nat) (n : Fin 256) (pic : Pic) (s : State) : Answer :=
  s.run dt railMem (fun s => s.decDispatch n pic)

/-- PICTURE_PART_DONE (R87): An engine finishes a picture part; a complete picture is published or held for
reordering. -/
def execPicturePartDone (dt : Nat) (n : Fin 256) (e : Fin 16) (epoch : BitVec 8) (s : State) : Answer :=
  s.run dt railMem (fun s => s.decPartDone n e epoch.toNat)

/-- ENGINE_FAILURE (R90): An engine reports a failure; the picture is retried, moved to a new placement or treated as
corrupt. -/
def execEngineFailure (dt : Nat) (n : Fin 256) (e : Fin 16) (s : State) : Answer :=
  s.run dt railMem (fun s => s.decFail n e)

/-- ENGINE_COMPLETION_TIMEOUT (R90): A picture has no completion within 4 × work time + 1 ms and counts as an engine
failure. -/
def execEngineCompletionTimeout (dt : Nat) (n : Fin 256) (e : Fin 16) (s : State) : Answer :=
  s.run dt railMem (fun s => s.decTimeout n e)

/-- DEC_ENGINE_RETURN (R92): Writing 1 to DEC_ENG_STAT.RETIRED_FAULT starts the store check before the engine returns
to service. -/
def execDecEngineReturn (dt : Nat) (e : Fin 16) (s : State) : Answer :=
  s.run dt railCore (fun s => s.setField (F.DEC_ENG_STAT_RETIRED_FAULT e) 1)

/-- STORE_CHECK_DONE (R417): A syntax store is reloaded and digest-checked, returning the engine or keeping it out
with fault 122. -/
def execStoreCheckDone (dt : Nat) (store : Fin 20) (ok : Bool) (s : State) : Answer :=
  s.run dt railCore (fun s => s.storeCheckDone store ok)

/-- FORECAST_REFRESH (R94): The 100 µs lateness forecast refresh updates slack and may raise event 101. -/
def execForecastRefresh (dt : Nat) (s : State) : Answer :=
  s.run dt railCore (fun s => s.decForecast)

/-- DEC_RATE_WINDOW (R95): A one-second window ends and per-context rate counting starts again. -/
def execDecRateWindow (dt : Nat) (s : State) : Answer :=
  s.run dt railCore (fun s => s.decWindow)

/-- REWIND_TRIGGER (R116): An unreadable reference slot or poisoned picture starts a rewind from the mark. -/
def execRewindTrigger (dt : Nat) (n : Fin 256) (slot : Option Nat) (s : State) : Answer :=
  s.run dt railMem (fun s => s.decRewind n slot)

/-- REPLAY_PICTURE_DONE (R118): A replayed reference picture completes, and the next replay or the failing picture is
dispatched. -/
def execReplayPictureDone (dt : Nat) (r : Replayed) (s : State) : Answer :=
  s.run dt railMem (fun s => s.decReplayDone r.ctx r.epoch.toNat)

end Sys2Proof.Machine
end

