-- ==== Sys2Proof/Machine/DmaCmds.lean ====
section
/-! DEFINITION. The commands of the DMA channels and of the APP bus (spec/14). -/

namespace Sys2Proof.Machine
open Sys2Proof

/-- DMA_ENABLE (R385): A write of DMA_CH_CTL.EN = 1 starts the channel, or is refused. -/
def execDmaEnable (dt : Nat) (n : Fin 4096) (s : State) : Answer :=
  s.run dt railCore (fun s => s.setField (F.DMA_CH_CTL_EN n) 1)

/-- DMA_DISABLE (R384): A write of DMA_CH_CTL.EN = 0 stops the channel at once. -/
def execDmaDisable (dt : Nat) (n : Fin 4096) (s : State) : Answer :=
  s.run dt railCore (fun s => s.setField (F.DMA_CH_CTL_EN n) 0)

/-- HALT (R384): A write of DMA_CH_CMD.HALT stops the channel at the next descriptor boundary. -/
def execHalt (dt : Nat) (n : Fin 4096) (s : State) : Answer :=
  s.run dt railCore (fun s => s.setField (F.DMA_CH_CMD_HALT n) 1)

/-- RESUME (R384): A write of DMA_CH_CMD.RESUME continues a halted channel or reruns a failed descriptor. -/
def execResume (dt : Nat) (n : Fin 4096) (s : State) : Answer :=
  s.run dt railCore (fun s => s.setField (F.DMA_CH_CMD_RESUME n) 1)

/-- ARM (R381): A write of DMA_CH_SHD_CTL.ARM arms the shadow chain or starts it from WAIT_ARM with a gap. -/
def execArm (dt : Nat) (n : Fin 4096) (s : State) : Answer :=
  s.run dt railCore (fun s => s.setField (F.DMA_CH_SHD_CTL_ARM n) 1)

/-- DESCRIPTOR_FETCHED (R371): A fetched descriptor is checked and its transfer begins. -/
def execDescriptorFetched (dt : Nat) (n : Fin 4096) (readOk : Bool) (bad : Option Nat) (s : State) : Answer :=
  s.run dt railMem (fun s => s.descFetched n readOk bad)

/-- DESCRIPTOR_RETIRED (R370): All writes of a descriptor complete; it is counted and the next descriptor fetched. -/
def execDescriptorRetired (dt : Nat) (n : Fin 4096) (s : State) : Answer :=
  s.run dt railMem (fun s => s.descDone n)

/-- REQUEST_LINE (R379): A request arrives on a DMA line and a waiting descriptor moves one granule. -/
def execRequestLine (dt : Nat) (line : Fin 272) (s : State) : Answer :=
  s.run dt railCore (fun s => s.requestCmd line)

/-- DMA_FRAME_BUILT (R377): A frame built from a template passes to its port's DMA entry or common flow. -/
def execDmaFrameBuilt (dt : Nat) (n : Fin 4096) (s : State) : Answer :=
  s.run dt railCore (fun s => s.frameBuilt n)

/-- DMA_CHANNEL_IDLE (R384): A stopping channel releases its mover, its writes complete and it reaches OFF. -/
def execDmaChannelIdle (dt : Nat) (n : Fin 4096) (s : State) : Answer :=
  s.run dt railCore (fun s => s.dmaIdle n)

/-- APP_TRANSACTION (R389): An APP transaction completes its address and data cycles. -/
def execAppTransaction (dt : Nat) (n : Fin 4096) (data : List Word) (s : State) : Answer :=
  s.run dt railPin (fun s => s.appTransfer n data)

/-- APP_TIMEOUT (R392): APP_ACK misses its TIMEOUT and the transaction ends with event 294 and fault 113. -/
def execAppTimeout (dt : Nat) (n : Fin 4096) (s : State) : Answer :=
  s.run dt railPin (fun s => s.appTimeout n)

/-- APP_DREQ (R393): A partner raises APP_DREQi to make one request on line 256 + i. -/
def execAppDreq (dt : Nat) (k : Fin 16) (s : State) : Answer :=
  s.run dt railPin (fun s => s.dreqRise k)

/-- APP_DREQ_FALL (R393): The partner lowers APP_DREQi and the PW8 lowers APP_DACKi. -/
def execAppDreqFall (dt : Nat) (k : Fin 16) (s : State) : Answer :=
  s.run dt railPin (fun s => s.dreqFall k)

end Sys2Proof.Machine
end

