-- ==== Sys2Proof/Machine/EncCmds.lean ====
section
/-! DEFINITION. The commands of encoding (spec/05). -/

namespace Sys2Proof.Machine
open Sys2Proof

/-- ENC_SOURCE_PICTURE (R123): A tap's source picture completes and is taken or passed over by DIV. -/
def execEncSourcePicture (dt : Nat) (n : Fin 64) (s : State) : Answer :=
  s.run dt railMem (fun s => s.encSourceCmd n)

/-- ENC_SOURCE_COPY_DONE (R126): The copy of a taken picture into its source slot completes and the store slot hold is
released. -/
def execEncSourceCopyDone (dt : Nat) (n : Fin 64) (s : State) : Answer :=
  s.run dt railMem (fun s => s.encCopyDone n)

/-- ENC_PICTURE_DISPATCH (R135): A waiting picture is dispatched once engines are free and the previous picture is
complete. -/
def execEncPictureDispatch (dt : Nat) (n : Fin 64) (leading : Bool) (s : State) : Answer :=
  s.run dt railMem (fun s => s.encDispatch n leading)

/-- ENC_TILE_DONE (R135): An encode engine finishes a tile; when all tiles are done the record is written. -/
def execEncTileDone (dt : Nat) (n : Fin 64) (e : Fin 4) (epoch : BitVec 8) (tile : Nat) (code : TileCode)
    (s : State) : Answer :=
  s.run dt railMem (fun s => s.encTileDone n e epoch.toNat tile code)

/-- ENC_ENGINE_FAILURE (R137): An encode engine failure is retried, moved or ends in a skipped picture and the next
IDR. -/
def execEncEngineFailure (dt : Nat) (n : Fin 64) (e : Fin 4) (s : State) : Answer :=
  s.run dt railMem (fun s => s.encFail n e)

/-- ENC_ENGINE_TIMEOUT (R137): An encode picture has no completion in time and counts as an engine failure. -/
def execEncEngineTimeout (dt : Nat) (n : Fin 64) (e : Fin 4) (s : State) : Answer :=
  s.run dt railMem (fun s => s.encTimeout n e)

/-- ENC_RTP_PACKET (R150): The next RTP packet of a record is sent once its pacing time arrives. -/
def execEncRtpPacket (dt : Nat) (n : Fin 64) (s : State) : Answer :=
  s.run dt railMem (fun s => s.encPacket n)

/-- FORCE_IDR (R131): A write of ENC_CTX_CMD.FORCE_IDR makes the next dispatched picture an IDR. -/
def execForceIdr (dt : Nat) (n : Fin 64) (s : State) : Answer :=
  s.run dt railCore (fun s => s.setField (F.ENC_CTX_CMD_FORCE_IDR n) 1)

/-- ENC_BSB_RD_WRITE (R151): Host software releases capture records by writing ENC_CTX_BSB_RD, or sets RD_INVALID. -/
def execEncBsbRdWrite (dt : Nat) (n : Fin 64) (val : Word) (s : State) : Answer :=
  s.run dt railCore (fun s => s.writeReg (R.ENC_CTX_BSB_RD n) 0xFFFFFFFF val.toNat)

/-- ENC_ENGINE_RETURN (R438): Writing 1 to ENC_ENG_STAT.RETIRED_FAULT returns an encode engine and admission runs
again. -/
def execEncEngineReturn (dt : Nat) (e : Fin 4) (s : State) : Answer :=
  s.run dt railCore (fun s => s.setField (F.ENC_ENG_STAT_RETIRED_FAULT e) 1)

end Sys2Proof.Machine
end

