-- ==== Sys2Proof/Machine/EvtCmds.lean ====
section
/-! DEFINITION. The commands of events and faults (spec/16). -/

namespace Sys2Proof.Machine
open Sys2Proof

/-- DELIVERY_ATTEMPT (R423): A pending event record moves into a destination's delivery queue. -/
def execDeliveryAttempt (dt : Nat) (s : State) : Answer :=
  s.run dt railCore (fun s => s.deliveryAttempt)

/-- EVENT_RING_WRITE (R426): A ring agent writes an event record into its event ring. -/
def execEventRingWrite (dt : Nat) (tgt : Fin 8) (s : State) : Answer :=
  s.run dt railCore (fun s => s.eventRingWrite tgt)

/-- EVENT_RING_HEAD_WRITE (R426): A write of EVT_TGT_RING_HEAD releases event ring records. -/
def execEventRingHeadWrite (dt : Nat) (tgt : Fin 8) (val : Word) (s : State) : Answer :=
  s.run dt railCore (fun s => s.writeReg (R.EVT_TGT_RING_HEAD tgt) 0xFFFFFFFF val.toNat)

/-- EVENT_ROUTE_WRITE (R422): A write of EVT_SRC_ROUTE merges or discards pending records of removed destinations. -/
def execEventRouteWrite (dt : Nat) (n : Fin 1024) (val : Word) (s : State) : Answer :=
  s.run dt railCore (fun s => s.writeReg (R.EVT_SRC_ROUTE n) 0xFFFFFFFF val.toNat)

/-- FAULT_STATUS_CLEAR (R435): A write of 1 to FLT_SRC_STAT.STATUS clears it while CAUSE is 0, or sets CLEAR_REFUSED.
-/
def execFaultStatusClear (dt : Nat) (n : Fin 256) (s : State) : Answer :=
  s.run dt 0 (fun s => s.setField (F.FLT_SRC_STAT_STATUS n) 1)

/-- RETURN_PIPE (R439): A write to FLT_RETIRED_PIPES returns a canvas pipe and canvases are placed again. -/
def execReturnPipe (dt : Nat) (c : Fin 4) (s : State) : Answer :=
  s.run dt 0 (fun s => s.writeReg R.FLT_RETIRED_PIPES (2 ^ c.val) (2 ^ c.val))

/-- RETURN_PORT (R440): A write to FLT_RETIRED_PORTS returns a port and its flows go back at the next boundary. -/
def execReturnPort (dt : Nat) (l : Fin 16) (s : State) : Answer :=
  s.run dt 0 (fun s => s.writeReg R.FLT_RETIRED_PORTS (2 ^ l.val) (2 ^ l.val))

/-- RETURN_MOVER (R438): A write to FLT_RETIRED_MOVERS returns a DMA mover to the pool. -/
def execReturnMover (dt : Nat) (m : Fin 32) (s : State) : Answer :=
  s.run dt 0 (fun s => s.writeReg R.FLT_RETIRED_MOVERS (2 ^ m.val) (2 ^ m.val))

/-- SRAM_ERROR (R441): An SRAM ECC error is corrected with event 0, or a double-bit error records fault 0. -/
def execSramError (dt : Nat) (double : Bool) (unit : BitVec 16) (s : State) : Answer :=
  s.run dt 0 (fun s => s.sramError double unit.toNat)

end Sys2Proof.Machine
end

