-- ==== Sys2Proof/Machine/GangCmds.lean ====
section
/-! DEFINITION. The commands of a gang (spec/20). -/

namespace Sys2Proof.Machine
open Sys2Proof

/-- GANG_ACCEPT (R517): A GANG_ACCEPT is verified and answered, setting up the link keys or refusing it. -/
def execGangAccept (dt : Nat) (peer : Fin 64) (linkId : Nat) (nonce eph idPub sig : List Byte) (s : State) : Answer :=
  s.run dt railCore (fun s => s.gangAccept peer linkId nonce eph idPub sig)

/-- GANG_ACCEPT_SEND (R517): Once per second the head sends GANG_ACCEPT to each member not UP. -/
def execGangAcceptSend (dt : Nat) (peer : Fin 64) (s : State) : Answer :=
  s.run dt railCore (fun s => s.gangAcceptSend peer)

/-- RELAY_REQ (R520): A member applies a relayed request as session slot SLOT and replies. -/
def execRelayReq (dt : Nat) (peer : Fin 64) (seq reqId : Nat) (auth : Bool) (hostId slot : Nat) (msg : Msg)
    (s : State) : Answer :=
  s.run dt railCore (fun s => s.relayReq peer seq reqId auth hostId slot msg)

/-- RELAY_REPLY (R519): The head matches a member reply and sends the session its COMPLETION. -/
def execRelayReply (dt : Nat) (peer : Fin 64) (seq reqId : Nat) (auth : Bool) (status done : Nat) (data : List Byte)
    (s : State) : Answer :=
  s.run dt railCore (fun s => s.relayReply peer seq reqId auth status done data)

/-- RELAY_RETRY (R518): The oldest unanswered RELAY_REQ is resent after RETRY_MS. -/
def execRelayRetry (dt : Nat) (peer : Fin 64) (s : State) : Answer :=
  s.run dt railCore (fun s => s.relayRetry peer)

/-- SESSION_END (R520): A member ends a relayed session slot. -/
def execSessionEnd (dt : Nat) (peer : Fin 64) (seq : Nat) (auth : Bool) (slot : Nat) (s : State) : Answer :=
  s.run dt railCore (fun s => s.sessionEnd peer seq auth slot)

/-- KEEPALIVE (R521): The head copies a member keepalive into its peer registers and judges the member's state. -/
def execKeepalive (dt : Nat) (peer : Fin 64) (seq : Nat) (auth : Bool) (body : KaBody) (s : State) : Answer :=
  s.run dt railCore (fun s => s.keepaliveRx peer seq auth body)

/-- KEEPALIVE_SEND (R521): Every KA_MS a KEEPALIVE is sent over the link. -/
def execKeepaliveSend (dt : Nat) (peer : Fin 64) (s : State) : Answer :=
  s.run dt railCore (fun s => s.keepaliveSend peer)

/-- PEER_LOST (R523): No message arrives for 3 × KA_MS and the peer is LOST, with its requests answered. -/
def execPeerLost (dt : Nat) (peer : Fin 64) (s : State) : Answer :=
  s.run dt railCore (fun s => s.peerLost peer)

end Sys2Proof.Machine
end

