-- ==== Sys2Proof/Machine/GlbCmds.lean ====
section
/-! DEFINITION. The commands of pace, supply and temperature (spec/17). -/

namespace Sys2Proof.Machine
open Sys2Proof

/-- PACE_MEASUREMENT (R447): Monitors measure their pace every 10 µs and PI is updated, with outlier exclusion. -/
def execPaceMeasurement (dt : Nat) (periods : List (Option Nat)) (s : State) : Answer :=
  s.run dt 0 (fun s => s.paceMeasurement periods)

/-- PACE_MONITOR_STALE (R448): A monitor gives no measurement for 100 µs and is excluded. -/
def execPaceMonitorStale (dt : Nat) (s : State) : Answer :=
  s.run dt 0 (fun s => s.paceStale)

/-- AVS_DECISION (R451): A loop decision steps VCORE up, down or holds it and sends a Voltage write. -/
def execAvsDecision (dt : Nat) (s : State) : Answer :=
  s.run dt 0 (fun s => s.avsDecision)

/-- AVS_FRAME_DONE (R450): An AVSBus frame ends; a failure is retried once and a second failure raises fault 135. -/
def execAvsFrameDone (dt : Nat) (ok : Bool) (s : State) : Answer :=
  s.run dt 0 (fun s => s.avsFrameDone ok)

/-- AVS_READBACK (R450): Every 10 ms voltage and current are read back and compared with VREQ. -/
def execAvsReadback (dt : Nat) (volts amps : Nat) (ok : Bool) (s : State) : Answer :=
  s.run dt 0 (fun s => s.avsReadback volts amps ok)

/-- AVS_CEILING (R452): AT_MAX holds for CEIL_MS with PI above target or risk and fault 128 is raised. -/
def execAvsCeiling (dt : Nat) (s : State) : Answer :=
  s.run dt 0 (fun s => s.avsCeiling)

/-- PACE_BELOW_RATING (R453): PI stays above 1.0 at VMAX for 10 ms and fault 129 retires an engine. -/
def execPaceBelowRating (dt : Nat) (s : State) : Answer :=
  s.run dt 0 (fun s => s.paceBelow)

/-- TEMP_UPDATE (R454): Sensors update every 1 ms, TJ is formed and compared with HIGH and CRIT. -/
def execTempUpdate (dt : Nat) (temps : List (Option Int)) (s : State) : Answer :=
  s.run dt 0 (fun s => s.tempUpdate temps)

/-- TEMP_SENSOR_STALE (R454): A sensor gives no update for 10 ms and is excluded. -/
def execTempSensorStale (dt : Nat) (s : State) : Answer :=
  s.run dt 0 (fun s => s.tempStale)

end Sys2Proof.Machine
end

