-- ==== Sys2Proof/Machine/IngCmds.lean ====
section
/-! DEFINITION. The commands of stream ingest (spec/02). -/

namespace Sys2Proof.Machine
open Sys2Proof

/-- INGEST_ITEM (R53): A classified datagram or TS packet is decrypted, depacketised and packed into its context FIFO
or dropped. -/
def execIngestItem (dt : Nat) (n : Fin 256) (stray : Bool) (ptr : BitVec 64) (before after : Bool)
    (s : State) : Answer :=
  s.run dt railCore (fun s => s.ingestItem n (if stray then some ptr.toNat else none) before after)

/-- BANK_DRAIN_START (R59): A handed-over bank begins draining into the ES buffer once the other bank's drain is
finished. -/
def execBankDrainStart (dt : Nat) (n : Fin 256) (s : State) : Answer :=
  s.run dt railMem (fun s => s.drainStart n)

/-- DRAIN_RESUME (R56): A consumer release frees ES buffer space and a stalled drain continues. -/
def execDrainResume (dt : Nat) (n : Fin 256) (s : State) : Answer :=
  s.run dt railMem (fun s => s.drainResume n)

/-- BANK_DRAINED (R55): A bank drain completes; length slot written, ESB_WR advanced and a completion notice sent for
each published record. -/
def execBankDrained (dt : Nat) (n : Fin 256) (s : State) : Answer :=
  s.run dt railMem (fun s => s.bankDrained n)

end Sys2Proof.Machine
end

