-- ==== Sys2Proof/Machine/MemCmds.lean ====
section
/-! DEFINITION. The commands of the memory system and the arbiters (spec/11). -/

namespace Sys2Proof.Machine
open Sys2Proof

/-- DRAM_REQUEST (R299): A request enters a channel queue, completing a write for its requester. -/
def execDramRequest (dt : Nat) (owner : Fin 29) (addr : Nat) (data : Option (List Byte)) (s : State) : Answer :=
  s.run dt railMem (fun s => s.dramRequest owner addr data)

/-- DRAM_ISSUE (R297): A channel picks and issues its next request by refresh, panic, age, class and row hit. -/
def execDramIssue (dt : Nat) (ch : Fin 8) (ready : BitVec 32) (s : State) : Answer :=
  s.run dt railMem (fun s => s.dramIssue ch ready.toNat)

/-- DRAM_READ_RETURN (R308): Read data returns, with corrected errors counted and uncorrectable data poisoned with
fault 89. -/
def execDramReadReturn (dt : Nat) (ch : Fin 8) (error : Fin 3) (link : Bool) (s : State) : Answer :=
  s.run dt railMem (fun s => s.readReturn ch error link)

/-- PANIC_CHANGE (R300): A real-time port enters or leaves panic by its buffer fill. -/
def execPanicChange (dt : Nat) (owner : Fin 29) (fill : Fin 65) (s : State) : Answer :=
  s.run dt railMem (fun s => s.panicChange owner fill)

/-- REFRESH_DUE (R301): A channel's refresh falls due and is issued, postponed, covered by credit or forced. -/
def execRefreshDue (dt : Nat) (ch : Fin 8) (s : State) : Answer :=
  s.run dt railMem (fun s => s.refreshDue ch)

/-- RETRAIN_DUE (R304): A channel falls due for retraining by period or temperature change. -/
def execRetrainDue (dt : Nat) (ch : Fin 8) (temp : Int) (s : State) : Answer :=
  s.run dt railMem (fun s => s.retrainDue ch temp)

/-- RETRAIN_STEP_DONE (R304): A retraining step ends and its settings take effect, with event 242 after the last. -/
def execRetrainStepDone (dt : Nat) (s : State) : Answer :=
  s.run dt railMem (fun s => s.retrainStepDone)

/-- RETRAIN_OVERDUE (R305): A retraining is not complete LIMIT_MS after it fell due and fault 90 is raised. -/
def execRetrainOverdue (dt : Nat) (ch : Fin 8) (s : State) : Answer :=
  s.run dt railMem (fun s => s.retrainOverdue ch)

/-- ARB_GRANT (R311): A grant ends and the arbitration winner takes the resource. -/
def execArbGrant (dt : Nat) (a : Fin 25) (requests : BitVec 32) (s : State) : Answer :=
  s.run dt railCore (fun s => s.grantCmd a requests.toNat)

/-- ARB_HOLD_CUTOFF (R313): An owner holds a grant for HOLD × 16 ns and is cut off with event 243 and fault 91. -/
def execArbHoldCutoff (dt : Nat) (a : Fin 25) (requests : BitVec 32) (s : State) : Answer :=
  s.run dt railCore (fun s => s.cutoffCmd a requests.toNat)

/-- FREEZE (R315): A write of ARB_CTL.FREEZE stops or resumes new grants. -/
def execFreeze (dt : Nat) (a : Fin 25) (on : Bool) (s : State) : Answer :=
  s.run dt railCore (fun s => s.setField (F.ARB_CTL_FREEZE a) (if on then 1 else 0))

end Sys2Proof.Machine
end

