-- ==== Sys2Proof/Machine/NetCmds.lean ====
section
/-! DEFINITION. The commands of the Ethernet ports (spec/02). -/

namespace Sys2Proof.Machine
open Sys2Proof

/-- RX_FRAME (R42): A received frame is length and FCS checked, classified and copied into a pool buffer of its class
owner. -/
def execRxFrame (dt : Nat) (l : Fin 16) (frame : List Byte) (fcsOk both : Bool) (s : State) : Answer :=
  s.run dt railEth (fun s => s.rxFrame l frame fcsOk both)

/-- PAUSE (R35): A received PAUSE frame stops transmission on the port for its quanta, or resumes it with quanta 0. -/
def execPause (dt : Nat) (l : Fin 16) (quanta : BitVec 16) (s : State) : Answer :=
  s.run dt railEth (fun s => (s.consumeRx (ownPort l)).pauseRx l quanta.toNat)

/-- PAUSE_EXPIRY (R35): The pause time of a received PAUSE runs out and transmission resumes. -/
def execPauseExpiry (dt : Nat) (l : Fin 16) (s : State) : Answer :=
  s.run dt railEth (fun s => s.pauseExpiry l)

/-- ARP_REQUEST (R39): An ARP request for the port address is answered to its link-layer source. -/
def execArpRequest (dt : Nat) (l : Fin 16) (src : List Byte) (senderIp targetIp : Nat) (s : State) : Answer :=
  s.run dt railEth (fun s => (s.consumeRx (ownPort l)).arpAnswer l src senderIp targetIp)

/-- NEIGHBOUR_SOLICITATION (R39): An IPv6 neighbour solicitation for an owned address is answered. -/
def execNeighbourSolicitation (dt : Nat) (l : Fin 16) (src : List Byte) (senderIp targetIp : Nat) (conflict : Bool)
    (s : State) : Answer :=
  s.run dt railEth (fun s => (s.consumeRx (ownPort l)).nsAnswer l src senderIp targetIp conflict)

/-- ECHO_REQUEST (R39): An ICMP or ICMPv6 echo request is answered while ICMP_ECHO is 1. -/
def execEchoRequest (dt : Nat) (l : Fin 16) (src : List Byte) (ipv6 : Bool) (senderIp targetIp : Nat) (body : List Byte)
    (s : State) : Answer :=
  s.run dt railEth (fun s => (s.consumeRx (ownPort l)).echoAnswer l src ipv6 senderIp targetIp body)

/-- MEMBERSHIP_QUERY (R40): An IGMP or MLD query is answered with the memberships of the enabled contexts. -/
def execMembershipQuery (dt : Nat) (l : Fin 16) (ipv6 : Bool) (group : Option Nat) (sources : List Nat) (version : Nat)
    (s : State) : Answer :=
  s.run dt railEth (fun s => (s.consumeRx (ownPort l)).queryAnswer l ipv6 group sources version)

/-- UNSOLICITED_REPORT (R40): The next of the ROBUSTNESS unsolicited membership reports falls due and is sent. -/
def execUnsolicitedReport (dt : Nat) (s : State) : Answer :=
  s.run dt railEth (fun s => s.unsolicited)

/-- LINK_CHANGE (R71): The link of a logical port changes, raising event 64 + l and, on loss, fault 18. -/
def execLinkChange (dt : Nat) (l : Fin 16) (up : Bool) (s : State) : Answer :=
  s.run dt railEth (fun s => s.linkChange l up)

/-- FEC_UNCORRECTABLE (R71): An uncorrectable FEC codeword is counted and fault 19 is raised. -/
def execFecUncorrectable (dt : Nat) (p : Fin 4) (lane : Fin 4) (s : State) : Answer :=
  s.run dt railEth (fun s => s.fecUncorrectable p lane)

/-- PORT_ENABLE (R37): A write of NET_LP_CTL.EN = 1 enables the port, or is refused while IDLE is 0. -/
def execPortEnable (dt : Nat) (l : Fin 16) (s : State) : Answer :=
  s.run dt railEth (fun s => s.setField (F.NET_LP_CTL_EN l) 1)

/-- PORT_DISABLE (R37): A write of NET_LP_CTL.EN = 0 stops reception and transmission at frame boundaries. -/
def execPortDisable (dt : Nat) (l : Fin 16) (s : State) : Answer :=
  s.run dt railEth (fun s => s.setField (F.NET_LP_CTL_EN l) 0)

/-- PORT_IDLE (R37): No frame of a disabled port remains in staging, parser or transmit path, and IDLE becomes 1. -/
def execPortIdle (dt : Nat) (l : Fin 16) (s : State) : Answer :=
  s.run dt railEth (fun s => s.portIdle l)

end Sys2Proof.Machine
end

