-- ==== Sys2Proof/Machine/NvmCmds.lean ====
section
/-! DEFINITION. The commands of the NVM, the persistent records and the log (spec/12, spec/18). -/

namespace Sys2Proof.Machine
open Sys2Proof

/-- RECORD_WRITE_START (R482): A queued persistent record write starts once 20 ms have passed since the previous one.
-/
def execRecordWriteStart (dt : Nat) (s : State) : Answer :=
  s.run dt railCore (fun s => s.recWriteStart)

/-- RECORD_WRITE_DONE (R481): A record copy's COMMIT is written or its read-back fails, and the PERSIST reply is sent.
-/
def execRecordWriteDone (dt : Nat) (ok : Bool) (s : State) : Answer :=
  s.run dt railCore (fun s => s.recWriteDone ok)

/-- LOG_WRITE_START (R484): A queued event log record is written to the cyclic log. -/
def execLogWriteStart (dt : Nat) (s : State) : Answer :=
  s.run dt railCore (fun s => s.logWrite)

/-- ERASE (R479): NVM operation ERASE erases the commit sector and a range of an inactive slot. -/
def execErase (dt : Nat) (s : State) : Answer :=
  s.run dt railCore (fun s => s.nvmOpCmd 1)

/-- PROGRAM (R479): NVM operation PROGRAM writes DRAM bytes into an inactive slot. -/
def execProgram (dt : Nat) (s : State) : Answer :=
  s.run dt railCore (fun s => s.nvmOpCmd 2)

/-- NVM_READ (R479): NVM operation READ copies slot bytes to DRAM. -/
def execNvmRead (dt : Nat) (s : State) : Answer :=
  s.run dt railCore (fun s => s.nvmOpCmd 3)

/-- NVM_COMMIT (R479): NVM operation COMMIT checks an inactive slot and writes its commit record. -/
def execNvmCommit (dt : Nat) (s : State) : Answer :=
  s.run dt railCore (fun s => s.nvmOpCmd 4)

/-- NVM_OP_DONE (R479): An NVM operation ends, clearing BUSY and raising event 338 with its status. -/
def execNvmOpDone (dt : Nat) (ok : Bool) (s : State) : Answer :=
  s.run dt railCore (fun s => s.nvmDone ok)

/-- RECORD_READ (R488): A write of NVM_REC_CMD.READ starts copying a persistent record's valid copy. -/
def execRecordRead (dt : Nat) (s : State) : Answer :=
  s.run dt railCore (fun s => s.setField F.NVM_REC_CMD_READ 1)

/-- RECORD_READ_DONE (R488): The record copy is in NVM_REC_DATA, or its absence is reported. -/
def execRecordReadDone (dt : Nat) (ok : Bool) (s : State) : Answer :=
  s.run dt railCore (fun s => s.recReadDone ok)

end Sys2Proof.Machine
end

