-- ==== Sys2Proof/Machine/OutCmds.lean ====
section
/-! DEFINITION. The commands of the output flows (spec/09, spec/10). -/

namespace Sys2Proof.Machine
open Sys2Proof

/-- BUFFER_WAIT_RESUME (R274): A buffer of the awaited pool is returned and a waiting packet build continues. -/
def execBufferWaitResume (dt : Nat) (t : Fin 4096) (s : State) : Answer :=
  s.run dt railCore (fun s => s.buildFlow t)

/-- ACCEPT_WINDOW_OPEN (R276): Device time reaches P_n − ACCEPT_US and the frame's packets become eligible. -/
def execAcceptWindowOpen (dt : Nat) (t : Fin 4096) (s : State) : Answer :=
  s.run dt railCore (fun s => s.windowOpens t)

/-- CALENDAR_WHEEL_RELEASE (R277): A wheel slot closes and its flows are released for a refill. -/
def execCalendarWheelRelease (dt : Nat) (slot : Fin 8192) (s : State) : Answer :=
  s.run dt railCore (fun s => s.wheelRelease slot)

/-- OVERFLOW_LIST_MOVE (R277): Once per revolution overflow flows due in the next revolution move onto the wheel. -/
def execOverflowListMove (dt : Nat) (s : State) : Answer :=
  s.run dt railCore (fun s => s.overflowMove)

/-- FRAME_PASSES_TO_PORT (R278): A free port selects the next frame by PAUSE, PRESENT, WFQ and DRR order. -/
def execFramePassesToPort (dt : Nat) (l : Fin 16) (badBuffer : Bool) (s : State) : Answer :=
  s.run dt railEth (fun s => s.passFrame l badBuffer)

/-- SEGMENT_DEADLINE (R282): At P_n − GUARD_US unsent packets of frame n are discarded and late tiles counted. -/
def execSegmentDeadline (dt : Nat) (g : Fin 64) (s : State) : Answer :=
  s.run dt railCore (fun s => s.segDeadlines g)

/-- TILE_CONFIG_REPEAT (R262): The once-per-second TILE_CONFIG of an enabled tile falls due. -/
def execTileConfigRepeat (dt : Nat) (t : Fin 4096) (s : State) : Answer :=
  s.run dt railCore (fun s => s.configRepeat t)

/-- TILE_CONFIG_RESEND (R262): The resend 1 ms or 2 ms after a TILE_CONFIG falls due. -/
def execTileConfigResend (dt : Nat) (t : Fin 4096) (s : State) : Answer :=
  s.run dt railCore (fun s => s.configResend t)

/-- TILE_STATUS (R265): A TILE_STATUS is accepted or dropped, stored and compared, raising its events and faults. -/
def execTileStatus (dt : Nat) (_l : Fin 16) (packet : List Byte) (srcMac : Nat) (srcIp : Nat) (s : State) : Answer :=
  s.run dt railCore (fun s => s.statusRx packet srcMac srcIp)

/-- RECEIVER_SILENT (R265): A tile has no accepted status for 3 × STATUS_MS and becomes silent with event 209 and
fault 80. -/
def execReceiverSilent (dt : Nat) (t : Fin 4096) (s : State) : Answer :=
  s.run dt railCore (fun s => s.tileSilent t)

end Sys2Proof.Machine
end

