-- ==== Sys2Proof/Machine/PinCmds.lean ====
section
/-! DEFINITION. The commands of the TAP and of the GPIO balls (spec/21). -/

namespace Sys2Proof.Machine
open Sys2Proof

/-- EXTEST (R550): JTAG instruction EXTEST selects the boundary register to drive the balls. -/
def execExtest (dt : Nat) (shiftIn : List Bool) (s : State) : Answer :=
  s.tap dt (fun s => s.extest shiftIn)

/-- SAMPLE_PRELOAD (R550): JTAG instruction SAMPLE/PRELOAD selects the boundary register. -/
def execSamplePreload (dt : Nat) (pins : List Bool) (shiftIn : List Bool) (s : State) : Answer :=
  s.tap dt (fun s => s.samplePreload pins shiftIn)

/-- IDCODE (R550): JTAG instruction IDCODE returns the identification code. -/
def execIdcode (dt : Nat) (s : State) : Answer :=
  s.tap dt (fun s => s.idcode)

/-- HIGHZ (R550): JTAG instruction HIGHZ places every boundary output at high impedance. -/
def execHighz (dt : Nat) (s : State) : Answer :=
  s.tap dt (fun s => s.bypassScan 3 true)

/-- CLAMP (R550): JTAG instruction CLAMP holds outputs at the boundary values with bypass. -/
def execClamp (dt : Nat) (s : State) : Answer :=
  s.tap dt (fun s => s.bypassScan 4 true)

/-- SECREG (R551): JTAG instruction SECREG reads or writes one of the reachable SEC registers at Update-DR. -/
def execSecreg (dt : Nat) (shiftIn : BitVec 49) (s : State) : Answer :=
  s.tap dt (fun s => s.secregCmd shiftIn)

/-- BYPASS (R550): JTAG instruction BYPASS selects the one-bit bypass register. -/
def execBypass (dt : Nat) (bit : Bool) (s : State) : Answer :=
  s.tap dt (fun s => s.tapBypass bit)

/-- GPIO_EDGE (R554): A GPIO level holds through its debounce and a selected edge raises event 384 + g. -/
def execGpioEdge (dt : Nat) (g : Fin 16) (high : Bool) (s : State) : Answer :=
  s.runPin dt railPin (fun s => s.gpioEdge g high)

/-- TEST_LOGIC_RESET (R550): TRST_N low puts the TAP into Test-Logic-Reset, selecting IDCODE and ending EXTEST, HIGHZ
or CLAMP control of the balls. -/
def execTestLogicReset (dt : Nat) (s : State) : Answer :=
  s.tap dt (fun s => s.tapReset)

end Sys2Proof.Machine
end

