-- ==== Sys2Proof/Machine/RngCmds.lean ====
section
/-! DEFINITION. The commands of the descriptor rings (spec/13). -/

namespace Sys2Proof.Machine
open Sys2Proof

/-- RING_ENABLE (R349): A write of RNG_RING_CTL.EN = 1 enables a ring at index 0, or is refused. -/
def execRingEnable (dt : Nat) (r : Fin 1024) (s : State) : Answer :=
  s.run dt railCore (fun s => s.setField (F.RNG_RING_CTL_EN r) 1)

/-- RING_DISABLE (R362): A write of RNG_RING_CTL.EN = 0 stops fetching and discards the mirror. -/
def execRingDisable (dt : Nat) (r : Fin 1024) (s : State) : Answer :=
  s.run dt railCore (fun s => s.setField (F.RNG_RING_CTL_EN r) 0)

/-- RING_HEAD_WRITE (R361): A write of RNG_RING_HEAD releases completion records and moves held records in. -/
def execRingHeadWrite (dt : Nat) (r : Fin 1024) (val : Word) (s : State) : Answer :=
  s.run dt railCore (fun s => s.writeReg (R.RNG_RING_HEAD r) 0xFFFFFFFF val.toNat)

/-- RING_NOP (R350): A NOP entry completes with OK and does nothing. -/
def execRingNop (dt : Nat) (r : Fin 1024) (readOk : Bool) (s : State) : Answer :=
  s.run dt railCore (fun s => s.ringEntry r readOk (fun op => decide (op ≠ 1 ∧ op ≠ 2)))

/-- RUN_INLINE (R386): A ring entry runs the descriptor chain held inline in its body. -/
def execRunInline (dt : Nat) (r : Fin 1024) (readOk : Bool) (s : State) : Answer :=
  s.run dt railCore (fun s => s.ringEntry r readOk (fun op => decide (op = 1)))

/-- RUN_CHAIN (R386): A ring entry runs the descriptor chain at the address in its body. -/
def execRunChain (dt : Nat) (r : Fin 1024) (readOk : Bool) (s : State) : Answer :=
  s.run dt railCore (fun s => s.ringEntry r readOk (fun op => decide (op = 2)))

end Sys2Proof.Machine
end

