-- ==== Sys2Proof/Machine/SecCmds.lean ====
section
/-! DEFINITION. The commands of security (spec/19). -/

namespace Sys2Proof.Machine
open Sys2Proof

/-- ATTEST_REPORT_READY (R502): The signed report is complete and the ATTEST reply is sent. -/
def execAttestReportReady (dt : Nat) (s : State) : Answer :=
  s.run dt railCore (fun s => s.attestReady)

/-- KEY_LOAD (R500): A write of SEC_KEY_LOAD unwraps the key record in the window into its slot or refuses it. -/
def execKeyLoad (dt : Nat) (s : State) : Answer :=
  s.run dt railCore (fun s => s.setField F.SEC_KEY_LOAD_LOAD 1)

/-- ADVANCE (R497): A write of SEC_FUSE_CMD.ADVANCE starts blowing anti-rollback fuse steps. -/
def execAdvance (dt : Nat) (s : State) : Answer :=
  s.run dt railCore (fun s => s.setField F.SEC_FUSE_CMD_ADVANCE 1)

/-- FUSE_STEP_DONE (R497): A fuse step is blown and read back, continuing, finishing with event 356 or failing. -/
def execFuseStepDone (dt : Nat) (ok : Bool) (s : State) : Answer :=
  s.run dt railCore (fun s => s.fuseStep ok)

/-- OPEN (R505): A write of SEC_DBG_CMD.OPEN verifies the unlock token and draws a new challenge. -/
def execOpenDebug (dt : Nat) (s : State) : Answer :=
  s.run dt railCore (fun s => s.setField F.SEC_DBG_CMD_OPEN 1)

/-- DEBUG_ACCESS_OPENED (R506): Ports stop, keys are emptied and memory zeroed, and then debug access of SCOPE opens.
-/
def execDebugAccessOpened (dt : Nat) (s : State) : Answer :=
  s.run dt railCore (fun s => s.dbgOpened)

end Sys2Proof.Machine
end

