-- ==== Sys2Proof/Machine/TimCmds.lean ====
section
/-! DEFINITION. The commands of the time base (spec/08). -/

namespace Sys2Proof.Machine
open Sys2Proof

/-- FRAME_BOUNDARY (R233): Frame n of a segment begins at T_n, applying TIM and OUT changes. -/
def execFrameBoundary (dt : Nat) (g : Fin 64) (s : State) : Answer :=
  s.run dt 0 (fun s => s.boundaryCmd g)

/-- SYNC (R220): A Sync gives a measurement that steps or slews device time and moves the time base states. -/
def execSync (dt : Nat) (l : Fin 16) (hdr : PtpHdr) (origin : Nat) (s : State) : Answer :=
  s.run dt railEthTime (fun s => s.syncRx l hdr origin)

/-- FOLLOW_UP (R227): A Follow_Up completes the measurement of a two-step Sync. -/
def execFollowUp (dt : Nat) (l : Fin 16) (hdr : PtpHdr) (origin : Nat) (s : State) : Answer :=
  s.run dt railEthTime (fun s => s.followUpRx l hdr origin)

/-- DELAY_REQ (R232): A Delay_Req is stamped and answered with a Delay_Resp. -/
def execDelayReq (dt : Nat) (l : Fin 16) (hdr : PtpHdr) (s : State) : Answer :=
  s.run dt railEthTime (fun s => s.delayReqRx l hdr)

/-- DELAY_RESP (R218): A Delay_Resp updates the mean path delay. -/
def execDelayResp (dt : Nat) (l : Fin 16) (hdr : PtpHdr) (receive : Nat) (reqId reqPort : Nat) (s : State) : Answer :=
  s.run dt railEthTime (fun s => s.delayRespRx l hdr receive reqId reqPort)

/-- ANNOUNCE (R229): An Announce feeds the best master clock algorithm and the port states. -/
def execAnnounce (dt : Nat) (l : Fin 16) (hdr : PtpHdr) (body : AnnounceBody) (s : State) : Answer :=
  s.run dt railEthTime (fun s => s.announceRx l hdr body)

/-- ANNOUNCE_RECEIPT_TIMEOUT (R218): The announce receipt timeout expires and the source is lost. -/
def execAnnounceReceiptTimeout (dt : Nat) (l : Fin 16) (s : State) : Answer :=
  s.run dt 0 (fun s => s.announceLost l)

/-- SYNC_INTERVAL (R232): A master port's Sync interval elapses and a Sync, and with TWO_STEP a Follow_Up, is sent. -/
def execSyncInterval (dt : Nat) (l : Fin 16) (s : State) : Answer :=
  s.run dt railEthTime (fun s => s.syncSend l)

/-- ANNOUNCE_INTERVAL (R230): A master port's Announce interval elapses and an Announce is sent. -/
def execAnnounceInterval (dt : Nat) (l : Fin 16) (s : State) : Answer :=
  s.run dt railEthTime (fun s => s.announceSend l)

/-- DELAY_REQ_INTERVAL (R230): A slave's random Delay_Req interval elapses and a Delay_Req is sent. -/
def execDelayReqInterval (dt : Nat) (l : Fin 16) (s : State) : Answer :=
  s.run dt railEthTime (fun s => s.delayReqSend l)

/-- PPS_EDGE (R222): A rising PPS_IN edge is stamped and may set PPS_OK or serve as a measurement. -/
def execPpsEdge (dt : Nat) (s : State) : Answer :=
  s.run dt railPinTime (fun s => s.ppsEdge)

/-- PPS_TIMEOUT (R222): 1.5 s pass without a PPS_IN edge and PPS_OK falls. -/
def execPpsTimeout (dt : Nat) (s : State) : Answer :=
  s.run dt 0 (fun s => s.ppsTimeout)

/-- TIME_REF_CHANGE (R221): REF_OK changes with the TIME_REF frequency, raising event 199 and on loss fault 74. -/
def execTimeRefChange (dt : Nat) (freq : Nat) (s : State) : Answer :=
  s.run dt railPinTime (fun s => s.timeRefChange freq)

/-- HOLDOVER_EXPIRY (R223): HOLDOVER lasts HOLDOVER_S seconds and fault 73 is raised. -/
def execHoldoverExpiry (dt : Nat) (s : State) : Answer :=
  s.run dt 0 (fun s => s.holdoverExpiry)

/-- TIM_SNAP (R224): A write of TIM_CMD.SNAP copies device time into the snapshot registers. -/
def execTimSnap (dt : Nat) (s : State) : Answer :=
  s.run dt 0 (fun s => s.setField F.TIM_CMD_SNAP 1)

/-- TIM_SET (R224): A write of TIM_CMD.SET loads device time as a step. -/
def execTimSet (dt : Nat) (s : State) : Answer :=
  s.run dt 0 (fun s => s.setField F.TIM_CMD_SET 1)

/-- TPO_CTL_WRITE (R238): A write to a time pulse output enables or stops it, or is refused. -/
def execTpoCtlWrite (dt : Nat) (i : Fin 8) (val : Word) (s : State) : Answer :=
  s.run dt 0 (fun s => s.writeReg (R.TIM_TPO_CTL i) 0xFFFFFFFF val.toNat)

/-- TPO_ENABLE_TAKES_EFFECT (R237): 1 µs after an enable the output begins to produce edges or records a missed ONCE
edge. -/
def execTpoEnableTakesEffect (dt : Nat) (i : Fin 8) (s : State) : Answer :=
  s.run dt 0 (fun s => s.tpoEffectDue i)

/-- TPO_EDGE (R236): A pulse edge falls due and the pin begins its pulse, with a done output clearing EN. -/
def execTpoEdge (dt : Nat) (i : Fin 8) (s : State) : Answer :=
  s.run dt railPinTime (fun s => s.tpoEdgeCmd i)

/-- TPO_PULSE_END (R236): A pulse's WIDTH elapses and the pin returns to idle. -/
def execTpoPulseEnd (dt : Nat) (i : Fin 8) (s : State) : Answer :=
  s.run dt railPinTime (fun s => s.tpoPulseEnd i)

/-- TCI_EDGE (R239): A selected edge on a capture input is stamped into its FIFO or lost. -/
def execTciEdge (dt : Nat) (i : Fin 8) (rising : Bool) (s : State) : Answer :=
  s.run dt railPinTime (fun s => s.tciEdge i rising)

/-- POP (R240): A write of TCI_CMD.POP removes the oldest capture stamp. -/
def execPop (dt : Nat) (i : Fin 8) (s : State) : Answer :=
  s.run dt 0 (fun s => s.setField (F.TIM_TCI_CMD_POP i) 1)

/-- SEGMENT_IDLE (R235): Device time passes the last latched present time of a disabled segment and IDLE becomes 1. -/
def execSegmentIdle (dt : Nat) (g : Fin 64) (s : State) : Answer :=
  s.run dt 0 (fun s => s.segmentIdle g)

end Sys2Proof.Machine
end

