-- ==== Sys2Proof/Machine/Dispatch.lean ====
section
/-! DEFINITION. The dispatch of exec: one arm for each command, each one direct call of that command's meaning. -/

namespace Sys2Proof.Machine
open Sys2Proof

/-- The effect of a command on everything but the queue. -/
def exec (i : Instr) (s : State) : Host.Outcome State Fault Refusal :=
  match i with
  | .porstNRelease dt => Sys2Proof.Machine.execPorstNRelease dt s
  | .sysrstNLow dt => Sys2Proof.Machine.execSysrstNLow dt s
  | .warm dt => Sys2Proof.Machine.execWarm dt s
  | .warmResetDelayExpiry dt => Sys2Proof.Machine.execWarmResetDelayExpiry dt s
  | .vaonLow dt => Sys2Proof.Machine.execVaonLow dt s
  | .railOutOfRange dt rail => Sys2Proof.Machine.execRailOutOfRange dt rail s
  | .railBackInRange dt rail => Sys2Proof.Machine.execRailBackInRange dt rail s
  | .refclkEthLost dt p => Sys2Proof.Machine.execRefclkEthLost dt p s
  | .refclkEthReturn dt p => Sys2Proof.Machine.execRefclkEthReturn dt p s
  | .refclkMemLost dt => Sys2Proof.Machine.execRefclkMemLost dt s
  | .fusesRead dt => Sys2Proof.Machine.execFusesRead dt s
  | .selectDone dt cs0 cs1 => Sys2Proof.Machine.execSelectDone dt cs0 cs1 s
  | .verifyDone dt readOk fuseOk => Sys2Proof.Machine.execVerifyDone dt readOk fuseOk s
  | .loadDone dt readOk => Sys2Proof.Machine.execLoadDone dt readOk s
  | .dramTrainingDone dt pass => Sys2Proof.Machine.execDramTrainingDone dt pass s
  | .blobsDone dt readOk badCurves => Sys2Proof.Machine.execBlobsDone dt readOk badCurves s
  | .runEntry dt => Sys2Proof.Machine.execRunEntry dt s
  | .rxFrame dt l frame fcsOk both => Sys2Proof.Machine.execRxFrame dt l frame fcsOk both s
  | .pause dt l quanta => Sys2Proof.Machine.execPause dt l quanta s
  | .pauseExpiry dt l => Sys2Proof.Machine.execPauseExpiry dt l s
  | .arpRequest dt l src senderIp targetIp => Sys2Proof.Machine.execArpRequest dt l src senderIp targetIp s
  | .neighbourSolicitation dt l src senderIp targetIp conflict => Sys2Proof.Machine.execNeighbourSolicitation dt l src senderIp targetIp conflict s
  | .echoRequest dt l src ipv6 senderIp targetIp body => Sys2Proof.Machine.execEchoRequest dt l src ipv6 senderIp targetIp body s
  | .membershipQuery dt l ipv6 group sources version => Sys2Proof.Machine.execMembershipQuery dt l ipv6 group sources version s
  | .unsolicitedReport dt => Sys2Proof.Machine.execUnsolicitedReport dt s
  | .linkChange dt l up => Sys2Proof.Machine.execLinkChange dt l up s
  | .fecUncorrectable dt p lane => Sys2Proof.Machine.execFecUncorrectable dt p lane s
  | .portEnable dt l => Sys2Proof.Machine.execPortEnable dt l s
  | .portDisable dt l => Sys2Proof.Machine.execPortDisable dt l s
  | .portIdle dt l => Sys2Proof.Machine.execPortIdle dt l s
  | .ingestItem dt n stray ptr before after => Sys2Proof.Machine.execIngestItem dt n stray ptr before after s
  | .bankDrainStart dt n => Sys2Proof.Machine.execBankDrainStart dt n s
  | .drainResume dt n => Sys2Proof.Machine.execDrainResume dt n s
  | .bankDrained dt n => Sys2Proof.Machine.execBankDrained dt n s
  | .bufferWaitResume dt t => Sys2Proof.Machine.execBufferWaitResume dt t s
  | .pictureDispatch dt n pic => Sys2Proof.Machine.execPictureDispatch dt n pic s
  | .picturePartDone dt n e epoch => Sys2Proof.Machine.execPicturePartDone dt n e epoch s
  | .engineFailure dt n e => Sys2Proof.Machine.execEngineFailure dt n e s
  | .engineCompletionTimeout dt n e => Sys2Proof.Machine.execEngineCompletionTimeout dt n e s
  | .decEngineReturn dt e => Sys2Proof.Machine.execDecEngineReturn dt e s
  | .storeCheckDone dt store ok => Sys2Proof.Machine.execStoreCheckDone dt store ok s
  | .forecastRefresh dt => Sys2Proof.Machine.execForecastRefresh dt s
  | .decRateWindow dt => Sys2Proof.Machine.execDecRateWindow dt s
  | .rewindTrigger dt n slot => Sys2Proof.Machine.execRewindTrigger dt n slot s
  | .replayPictureDone dt r => Sys2Proof.Machine.execReplayPictureDone dt r s
  | .encSourcePicture dt n => Sys2Proof.Machine.execEncSourcePicture dt n s
  | .encSourceCopyDone dt n => Sys2Proof.Machine.execEncSourceCopyDone dt n s
  | .encPictureDispatch dt n leading => Sys2Proof.Machine.execEncPictureDispatch dt n leading s
  | .encTileDone dt n e epoch tile code => Sys2Proof.Machine.execEncTileDone dt n e epoch tile code s
  | .encEngineFailure dt n e => Sys2Proof.Machine.execEncEngineFailure dt n e s
  | .encEngineTimeout dt n e => Sys2Proof.Machine.execEncEngineTimeout dt n e s
  | .encRtpPacket dt n => Sys2Proof.Machine.execEncRtpPacket dt n s
  | .forceIdr dt n => Sys2Proof.Machine.execForceIdr dt n s
  | .encBsbRdWrite dt n val => Sys2Proof.Machine.execEncBsbRdWrite dt n val s
  | .encEngineReturn dt e => Sys2Proof.Machine.execEncEngineReturn dt e s
  | .canvasLatch dt c => Sys2Proof.Machine.execCanvasLatch dt c s
  | .canvasFrameStart dt c => Sys2Proof.Machine.execCanvasFrameStart dt c s
  | .tilePieceComposed dt c badBrick => Sys2Proof.Machine.execTilePieceComposed dt c badBrick s
  | .dirty dt g => Sys2Proof.Machine.execDirty dt g s
  | .lanternNChange dt low => Sys2Proof.Machine.execLanternNChange dt low s
  | .lanternAlarmFilter dt => Sys2Proof.Machine.execLanternAlarmFilter dt s
  | .lanternHashCheckDone dt => Sys2Proof.Machine.execLanternHashCheckDone dt s
  | .pieceCalibrated dt badUnits => Sys2Proof.Machine.execPieceCalibrated dt badUnits s
  | .curveReadsDone dt readOk => Sys2Proof.Machine.execCurveReadsDone dt readOk s
  | .frameBoundary dt g => Sys2Proof.Machine.execFrameBoundary dt g s
  | .sync dt l hdr origin => Sys2Proof.Machine.execSync dt l hdr origin s
  | .followUp dt l hdr origin => Sys2Proof.Machine.execFollowUp dt l hdr origin s
  | .delayReq dt l hdr => Sys2Proof.Machine.execDelayReq dt l hdr s
  | .delayResp dt l hdr receive reqId reqPort => Sys2Proof.Machine.execDelayResp dt l hdr receive reqId reqPort s
  | .announce dt l hdr body => Sys2Proof.Machine.execAnnounce dt l hdr body s
  | .announceReceiptTimeout dt l => Sys2Proof.Machine.execAnnounceReceiptTimeout dt l s
  | .syncInterval dt l => Sys2Proof.Machine.execSyncInterval dt l s
  | .announceInterval dt l => Sys2Proof.Machine.execAnnounceInterval dt l s
  | .delayReqInterval dt l => Sys2Proof.Machine.execDelayReqInterval dt l s
  | .ppsEdge dt => Sys2Proof.Machine.execPpsEdge dt s
  | .ppsTimeout dt => Sys2Proof.Machine.execPpsTimeout dt s
  | .timeRefChange dt freq => Sys2Proof.Machine.execTimeRefChange dt freq s
  | .holdoverExpiry dt => Sys2Proof.Machine.execHoldoverExpiry dt s
  | .timSnap dt => Sys2Proof.Machine.execTimSnap dt s
  | .timSet dt => Sys2Proof.Machine.execTimSet dt s
  | .tpoCtlWrite dt idx val => Sys2Proof.Machine.execTpoCtlWrite dt idx val s
  | .tpoEnableTakesEffect dt idx => Sys2Proof.Machine.execTpoEnableTakesEffect dt idx s
  | .tpoEdge dt idx => Sys2Proof.Machine.execTpoEdge dt idx s
  | .tpoPulseEnd dt idx => Sys2Proof.Machine.execTpoPulseEnd dt idx s
  | .tciEdge dt idx rising => Sys2Proof.Machine.execTciEdge dt idx rising s
  | .pop dt idx => Sys2Proof.Machine.execPop dt idx s
  | .segmentIdle dt g => Sys2Proof.Machine.execSegmentIdle dt g s
  | .acceptWindowOpen dt t => Sys2Proof.Machine.execAcceptWindowOpen dt t s
  | .calendarWheelRelease dt slot => Sys2Proof.Machine.execCalendarWheelRelease dt slot s
  | .overflowListMove dt => Sys2Proof.Machine.execOverflowListMove dt s
  | .framePassesToPort dt l badBuffer => Sys2Proof.Machine.execFramePassesToPort dt l badBuffer s
  | .segmentDeadline dt g => Sys2Proof.Machine.execSegmentDeadline dt g s
  | .tileConfigRepeat dt t => Sys2Proof.Machine.execTileConfigRepeat dt t s
  | .tileConfigResend dt t => Sys2Proof.Machine.execTileConfigResend dt t s
  | .tileStatus dt l packet srcMac srcIp => Sys2Proof.Machine.execTileStatus dt l packet srcMac srcIp s
  | .receiverSilent dt t => Sys2Proof.Machine.execReceiverSilent dt t s
  | .dramRequest dt owner addr data => Sys2Proof.Machine.execDramRequest dt owner addr data s
  | .dramIssue dt ch ready => Sys2Proof.Machine.execDramIssue dt ch ready s
  | .dramReadReturn dt ch error link => Sys2Proof.Machine.execDramReadReturn dt ch error link s
  | .panicChange dt owner fill => Sys2Proof.Machine.execPanicChange dt owner fill s
  | .refreshDue dt ch => Sys2Proof.Machine.execRefreshDue dt ch s
  | .retrainDue dt ch temp => Sys2Proof.Machine.execRetrainDue dt ch temp s
  | .retrainStepDone dt => Sys2Proof.Machine.execRetrainStepDone dt s
  | .retrainOverdue dt ch => Sys2Proof.Machine.execRetrainOverdue dt ch s
  | .arbGrant dt a requests => Sys2Proof.Machine.execArbGrant dt a requests s
  | .arbHoldCutoff dt a requests => Sys2Proof.Machine.execArbHoldCutoff dt a requests s
  | .freeze dt a on => Sys2Proof.Machine.execFreeze dt a on s
  | .hello dt port peer nonce eph cert => Sys2Proof.Machine.execHello dt port peer nonce eph cert s
  | .finish dt slot sig => Sys2Proof.Machine.execFinish dt slot sig s
  | .setupTimeout dt slot => Sys2Proof.Machine.execSetupTimeout dt slot s
  | .close dt slot seq auth malformed => Sys2Proof.Machine.execClose dt slot seq auth malformed s
  | .sessionCloseCmd dt slot => Sys2Proof.Machine.execSessionCloseCmd dt slot s
  | .sessionIdleTimeout dt slot => Sys2Proof.Machine.execSessionIdleTimeout dt slot s
  | .read dt slot seq auth addr count app => Sys2Proof.Machine.execRead dt slot seq auth addr count app s
  | .write dt slot seq auth addr words app => Sys2Proof.Machine.execWrite dt slot seq auth addr words app s
  | .registerWrite dt off mask val => Sys2Proof.Machine.execRegisterWrite dt off mask val s
  | .maskedWrite dt slot seq auth addr mask val => Sys2Proof.Machine.execMaskedWrite dt slot seq auth addr mask val s
  | .ringWrite dt slot seq auth ring index entries => Sys2Proof.Machine.execRingWrite dt slot seq auth ring index entries s
  | .doorbell dt slot seq auth ring tail => Sys2Proof.Machine.execDoorbell dt slot seq auth ring tail s
  | .lock dt slot seq auth leaseMs => Sys2Proof.Machine.execLock dt slot seq auth leaseMs s
  | .stage dt slot seq auth entries => Sys2Proof.Machine.execStage dt slot seq auth entries s
  | .commit dt slot seq auth lantern => Sys2Proof.Machine.execCommit dt slot seq auth lantern s
  | .unlock dt slot seq auth => Sys2Proof.Machine.execUnlock dt slot seq auth s
  | .leaseExpiry dt => Sys2Proof.Machine.execLeaseExpiry dt s
  | .seqGapTimer dt slot => Sys2Proof.Machine.execSeqGapTimer dt slot s
  | .persist dt slot seq auth kind record data => Sys2Proof.Machine.execPersist dt slot seq auth kind record data s
  | .recordWriteStart dt => Sys2Proof.Machine.execRecordWriteStart dt s
  | .recordWriteDone dt ok => Sys2Proof.Machine.execRecordWriteDone dt ok s
  | .logWriteStart dt => Sys2Proof.Machine.execLogWriteStart dt s
  | .attest dt slot seq auth nonce => Sys2Proof.Machine.execAttest dt slot seq auth nonce s
  | .attestReportReady dt => Sys2Proof.Machine.execAttestReportReady dt s
  | .gangRelay dt slot seq auth device msg => Sys2Proof.Machine.execGangRelay dt slot seq auth device msg s
  | .eventMessage dt sink => Sys2Proof.Machine.execEventMessage dt sink s
  | .ringEnable dt r => Sys2Proof.Machine.execRingEnable dt r s
  | .ringDisable dt r => Sys2Proof.Machine.execRingDisable dt r s
  | .ringHeadWrite dt r val => Sys2Proof.Machine.execRingHeadWrite dt r val s
  | .ringNop dt r readOk => Sys2Proof.Machine.execRingNop dt r readOk s
  | .runInline dt r readOk => Sys2Proof.Machine.execRunInline dt r readOk s
  | .runChain dt r readOk => Sys2Proof.Machine.execRunChain dt r readOk s
  | .dmaEnable dt n => Sys2Proof.Machine.execDmaEnable dt n s
  | .dmaDisable dt n => Sys2Proof.Machine.execDmaDisable dt n s
  | .halt dt n => Sys2Proof.Machine.execHalt dt n s
  | .resume dt n => Sys2Proof.Machine.execResume dt n s
  | .arm dt n => Sys2Proof.Machine.execArm dt n s
  | .descriptorFetched dt n readOk bad => Sys2Proof.Machine.execDescriptorFetched dt n readOk bad s
  | .descriptorRetired dt n => Sys2Proof.Machine.execDescriptorRetired dt n s
  | .requestLine dt line => Sys2Proof.Machine.execRequestLine dt line s
  | .dmaFrameBuilt dt n => Sys2Proof.Machine.execDmaFrameBuilt dt n s
  | .dmaChannelIdle dt n => Sys2Proof.Machine.execDmaChannelIdle dt n s
  | .appTransaction dt n data => Sys2Proof.Machine.execAppTransaction dt n data s
  | .appTimeout dt n => Sys2Proof.Machine.execAppTimeout dt n s
  | .appDreq dt k => Sys2Proof.Machine.execAppDreq dt k s
  | .appDreqFall dt k => Sys2Proof.Machine.execAppDreqFall dt k s
  | .almEnable dt q => Sys2Proof.Machine.execAlmEnable dt q s
  | .almDisable dt q => Sys2Proof.Machine.execAlmDisable dt q s
  | .almStoreWrite dt store word idx val => Sys2Proof.Machine.execAlmStoreWrite dt store word idx val s
  | .nop dt q => Sys2Proof.Machine.execNop dt q s
  | .wri dt q => Sys2Proof.Machine.execWri dt q s
  | .wrg dt q => Sys2Proof.Machine.execWrg dt q s
  | .rdg dt q => Sys2Proof.Machine.execRdg dt q s
  | .ldi dt q => Sys2Proof.Machine.execLdi dt q s
  | .addi dt q => Sys2Proof.Machine.execAddi dt q s
  | .addg dt q => Sys2Proof.Machine.execAddg dt q s
  | .andi dt q => Sys2Proof.Machine.execAndi dt q s
  | .cmp dt q => Sys2Proof.Machine.execCmp dt q s
  | .tnow dt q => Sys2Proof.Machine.execTnow dt q s
  | .tset dt q => Sys2Proof.Machine.execTset dt q s
  | .tadd dt q => Sys2Proof.Machine.execTadd dt q s
  | .tseg dt q => Sys2Proof.Machine.execTseg dt q s
  | .post dt q => Sys2Proof.Machine.execPost dt q s
  | .cqpop dt q => Sys2Proof.Machine.execCqpop dt q s
  | .raise dt q => Sys2Proof.Machine.execRaise dt q s
  | .dreq dt q => Sys2Proof.Machine.execDreq dt q s
  | .almTimeWaitEnd dt q => Sys2Proof.Machine.execAlmTimeWaitEnd dt q s
  | .almHsSet dt mask => Sys2Proof.Machine.execAlmHsSet dt mask s
  | .almHsClr dt mask => Sys2Proof.Machine.execAlmHsClr dt mask s
  | .storeScrub dt store word double => Sys2Proof.Machine.execStoreScrub dt store word double s
  | .deliveryAttempt dt => Sys2Proof.Machine.execDeliveryAttempt dt s
  | .eventRingWrite dt tgt => Sys2Proof.Machine.execEventRingWrite dt tgt s
  | .eventRingHeadWrite dt tgt val => Sys2Proof.Machine.execEventRingHeadWrite dt tgt val s
  | .eventRouteWrite dt n val => Sys2Proof.Machine.execEventRouteWrite dt n val s
  | .faultStatusClear dt n => Sys2Proof.Machine.execFaultStatusClear dt n s
  | .returnPipe dt c => Sys2Proof.Machine.execReturnPipe dt c s
  | .returnPort dt l => Sys2Proof.Machine.execReturnPort dt l s
  | .returnMover dt m => Sys2Proof.Machine.execReturnMover dt m s
  | .sramError dt double unit => Sys2Proof.Machine.execSramError dt double unit s
  | .paceMeasurement dt periods => Sys2Proof.Machine.execPaceMeasurement dt periods s
  | .paceMonitorStale dt => Sys2Proof.Machine.execPaceMonitorStale dt s
  | .avsDecision dt => Sys2Proof.Machine.execAvsDecision dt s
  | .avsFrameDone dt ok => Sys2Proof.Machine.execAvsFrameDone dt ok s
  | .avsReadback dt volts amps ok => Sys2Proof.Machine.execAvsReadback dt volts amps ok s
  | .avsCeiling dt => Sys2Proof.Machine.execAvsCeiling dt s
  | .paceBelowRating dt => Sys2Proof.Machine.execPaceBelowRating dt s
  | .tempUpdate dt temps => Sys2Proof.Machine.execTempUpdate dt temps s
  | .tempSensorStale dt => Sys2Proof.Machine.execTempSensorStale dt s
  | .erase dt => Sys2Proof.Machine.execErase dt s
  | .program dt => Sys2Proof.Machine.execProgram dt s
  | .nvmRead dt => Sys2Proof.Machine.execNvmRead dt s
  | .nvmCommit dt => Sys2Proof.Machine.execNvmCommit dt s
  | .nvmOpDone dt ok => Sys2Proof.Machine.execNvmOpDone dt ok s
  | .recordRead dt => Sys2Proof.Machine.execRecordRead dt s
  | .recordReadDone dt ok => Sys2Proof.Machine.execRecordReadDone dt ok s
  | .keyLoad dt => Sys2Proof.Machine.execKeyLoad dt s
  | .advance dt => Sys2Proof.Machine.execAdvance dt s
  | .fuseStepDone dt ok => Sys2Proof.Machine.execFuseStepDone dt ok s
  | .openDebug dt => Sys2Proof.Machine.execOpenDebug dt s
  | .debugAccessOpened dt => Sys2Proof.Machine.execDebugAccessOpened dt s
  | .extest dt shiftIn => Sys2Proof.Machine.execExtest dt shiftIn s
  | .samplePreload dt pins shiftIn => Sys2Proof.Machine.execSamplePreload dt pins shiftIn s
  | .idcode dt => Sys2Proof.Machine.execIdcode dt s
  | .highz dt => Sys2Proof.Machine.execHighz dt s
  | .clamp dt => Sys2Proof.Machine.execClamp dt s
  | .secreg dt shiftIn => Sys2Proof.Machine.execSecreg dt shiftIn s
  | .bypass dt bit => Sys2Proof.Machine.execBypass dt bit s
  | .gangAccept dt peer linkId nonce eph idPub sig => Sys2Proof.Machine.execGangAccept dt peer linkId nonce eph idPub sig s
  | .gangAcceptSend dt peer => Sys2Proof.Machine.execGangAcceptSend dt peer s
  | .relayReq dt peer seq reqId auth hostId slot msg => Sys2Proof.Machine.execRelayReq dt peer seq reqId auth hostId slot msg s
  | .relayReply dt peer seq reqId auth status done data => Sys2Proof.Machine.execRelayReply dt peer seq reqId auth status done data s
  | .relayRetry dt peer => Sys2Proof.Machine.execRelayRetry dt peer s
  | .sessionEnd dt peer seq auth slot => Sys2Proof.Machine.execSessionEnd dt peer seq auth slot s
  | .keepalive dt peer seq auth body => Sys2Proof.Machine.execKeepalive dt peer seq auth body s
  | .keepaliveSend dt peer => Sys2Proof.Machine.execKeepaliveSend dt peer s
  | .peerLost dt peer => Sys2Proof.Machine.execPeerLost dt peer s
  | .gpioEdge dt g high => Sys2Proof.Machine.execGpioEdge dt g high s
  | .porstNLow dt => Sys2Proof.Machine.execPorstNLow dt s
  | .sysrstNHigh dt => Sys2Proof.Machine.execSysrstNHigh dt s
  | .refclkMemReturn dt => Sys2Proof.Machine.execRefclkMemReturn dt s
  | .testLogicReset dt => Sys2Proof.Machine.execTestLogicReset dt s

end Sys2Proof.Machine
end

