-- ==== Sys2Proof/Safety.lean ====
section
/-! DEFINITION. The terms in which claims are stated: when a block can carry a command out, what a command answers, when a
state brings nothing more about, and what a held cold reset leaves. -/

namespace Sys2Proof.Machine

/-- A command whose block needs the rails `rails` is carried out: no cold reset is held (R462), the rails are in range (R540)
and the junction is within the range of its grade (R16). -/
def State.ready (s : State) (rails : Nat) : Prop :=
  s.nvm.held = false ∧ s.railsOk rails = true ∧ s.tempOk rails = true

/-- The TAP carries a scan out: its rails are in range, and the junction is. It works in every state (R508). -/
def State.tapReady (s : State) : Prop := s.railsOk railPin = true ∧ s.tempOk railPin = true

/-- A state in which nothing waits to follow: no message is next, no internal line is served, no sequencer can go on, no
source has stopped, no reaction is left, no flow joins or leaves its port's choice, and the
condition of fault 128 does not end. -/
def State.quiet (u : State) : Prop :=
  u.cmp.protHit = false ∧ u.flt.todo = [] ∧ u.msgSettle = u ∧ u.serveLines = u ∧ u.almWake = u ∧ u.encSources = u ∧
    u.drrSync = u ∧ u.ceilEnds = u

/-- A command's answer is the next state that `u`, its own effect, leads to: `u`, followed by what it brings about within the
same step (R281, R326, R379, R404, R431), with the waiting commands of `s`. Where `u` is quiet nothing follows: the answer is
`u`. -/
def SettlesTo (s : State) (o : Answer) (u : State) : Prop :=
  o = .next (u.settle.keepOutside s) ∧ (u.quiet → o = .next (u.keepOutside s))

/-- Registers that show pins, rails and clocks while a cold reset is held: GLB_RAIL_STAT, GLB_CLK_STAT, GLB_GPIO_IN,
CMP_GLB_LT_PIN, the status of faults 134, 144, 160 and 161, whose CAUSE follows a lasting condition (R435), that of the events of
the GPIO balls (R429), and the challenge that each reset draws anew (R505). -/
def heldLive (off : Nat) : Bool :=
  off ∈ [R.GLB_RAIL_STAT, R.GLB_CLK_STAT, R.GLB_GPIO_IN, R.CMP_GLB_LT_PIN, R.FLT_SRC_STAT 134, R.FLT_SRC_STAT 144,
    R.FLT_SRC_STAT 160, R.FLT_SRC_STAT 161] || (List.range 16).any (fun g => decide (off = R.EVT_SRC_STAT (384 + g))) || decide (R.SEC_DBG_CHAL 0 ≤ off ∧ off < R.SEC_DBG_CHAL 8)

/-- Every block is in reset: all that R462 does not leave to the fuses, the NVM devices, the pins and the TAP stands as at
reset. -/
structure State.AtReset (s : State) : Prop where
  mem : s.mem = []
  memEpoch : s.memEpoch = 0
  evt : s.evt = State.reset.evt
  flt : s.flt = State.reset.flt
  tim : s.tim = State.reset.tim
  ctl : s.ctl = State.reset.ctl
  rng : s.rng = []
  dma : s.dma = State.reset.dma
  alm : s.alm = State.reset.alm
  glb : s.glb = State.reset.glb
  nvm : s.nvm = { State.reset.nvm with cs0 := s.nvm.cs0, cs1 := s.nvm.cs1, held := s.nvm.held,
                                       memClkLost := s.nvm.memClkLost, sysrstLow := s.nvm.sysrstLow }
  sec : s.sec = State.reset.sec
  gng : s.gng = []
  net : s.net = State.reset.net
  bpm : s.bpm = State.reset.bpm
  ing : s.ing = []
  dec : s.dec = State.reset.dec
  enc : s.enc = State.reset.enc
  cmp : s.cmp = { State.reset.cmp with ltLow := s.cmp.ltLow }
  cal : s.cal = State.reset.cal
  out : s.out = State.reset.out
  memc : s.memc = State.reset.memc
  regs : ∀ off, heldLive off = false → s.rd off = (resetWith s.fuse).rd off

/-- R462: while PORST_N holds the device in cold reset, every block is in reset. -/
def State.HeldReset (s : State) : Prop := s.nvm.held = true → s.AtReset

/-- The commands that can move the device into or out of a held cold reset (R462). -/
def isPorst : Instr → Bool
  | .porstNRelease _ => true
  | .porstNLow _ => true
  | _ => false

/-- The offset lies outside block EVT (R29). -/
def NotEvt (off : Nat) : Prop := off < 0x20000 ∨ 0x30000 ≤ off

/-- The offset lies outside blocks FLT and EVT, and is not the count of dropped log records (R29). -/
def NotFlt (off : Nat) : Prop := (off < 0x10000 ∨ 0x30000 ≤ off) ∧ off ≠ R.NVM_LOG_DROPPED

/-- The commands that act while a cold reset is held: the levels of pins, rails and clocks (R462), and the scans of the TAP
(R508). -/
def reachesHeld : Instr → Bool
  | .railOutOfRange _ _ => true
  | .railBackInRange _ _ => true
  | .refclkEthLost _ _ => true
  | .refclkEthReturn _ _ => true
  | .lanternNChange _ _ => true
  | .gpioEdge _ _ _ => true
  | .extest _ _ => true
  | .samplePreload _ _ _ => true
  | .idcode _ => true
  | .highz _ => true
  | .clamp _ => true
  | .secreg _ _ => true
  | .bypass _ _ => true
  | .testLogicReset _ => true
  | .porstNRelease _ => true
  | .vaonLow _ => true
  | .refclkMemLost _ => true
  | .porstNLow _ => true
  | .sysrstNHigh _ => true
  | .refclkMemReturn _ => true
  | _ => false

end Sys2Proof.Machine
end

