-- ==== Sys2Proof/Certificates/Slice0/Obligations.lean ====
section
/-! DEFINITION. The statements for the provers. -/

open Sys2Proof Sys2Proof.Machine

/-! ### The block, its queue and its resets -/

/-- A step takes the command at the front of the queue and carries it out with the queue's rest. -/
def Obligations.StepRunsFrontCommand : Prop :=
  ∀ (s : State) (c : Instr) (rest : List Instr),
    step { s with pending := c :: rest } = exec c { s with pending := rest }

/-- On an empty queue the block idles. The model's choice (log entry 1): the spec gives no tick. -/
def Obligations.EmptyQueueIdles : Prop := ∀ s : State, s.pending = [] → step s = .next s

/-- At reset every block is in reset, every register reads its reset value, the memory is in canonical form, device time is 0
(R217), every session slot is FREE (R322), start-up is at its first stage (R464), and no command waits. That the
unlisted bytes of memory read 0 is the model's choice (log entry 2). -/
def Obligations.ResetStateAtReset : Prop :=
  State.reset.AtReset ∧ State.reset.HeldReset ∧ State.reset.pending = [] ∧ Memory.wf State.reset = true ∧
  State.reset.tim.now = 0 ∧ State.reset.get F.NVM_BOOT_STAT_STAGE = 0 ∧
  (∀ i : Fin 16, State.reset.get (F.SEC_SESS_STAT_STATE i) = 0) ∧ (∀ off, State.reset.rd off = (resetWord off).toNat) ∧
  (∀ a, State.reset.byte a = 0)

/-- R462: whatever the command, a state in which a held cold reset leaves every block in reset is followed by such a state. -/
def Obligations.StepKeepsHeldReset : Prop :=
  ∀ s s' : State, s.HeldReset → step s = .next s' → s'.HeldReset

/-- R462: while a cold reset is held, a command that is neither a change of a pin, a rail or a clock nor a scan of the TAP
(R508) does nothing. -/
def Obligations.HeldResetStopsCommands : Prop :=
  ∀ (c : Instr) (s : State), s.nvm.held = true → reachesHeld c = false → exec c s = .next s

/-- No command changes the queue of waiting commands, and only PORST_N holds or releases a cold reset (R462). -/
def Obligations.OnlyPorstHolds : Prop :=
  ∀ (c : Instr) (s s' : State), exec c s = .next s' →
    s'.pending = s.pending ∧ (isPorst c = false → s'.nvm.held = s.nvm.held)

/-- With every rail in range (R540) and the junction within its grade's range (R16), every command answers a next state. -/
def Obligations.EveryCommandCompletes : Prop :=
  ∀ (c : Instr) (s : State), s.get F.GLB_RAIL_STAT_OK = 127 → s.outOfTemp = false → ∃ t, exec c s = .next t

/-- A command stops only where R540 or R16 leaves the behaviour of its block undefined: the one fault names an out-of-range
rail, the other a junction outside the grade's range, and no command is refused. -/
def Obligations.StopsOnlyOutOfRange : Prop :=
  ∀ (c : Instr) (s : State),
    (∀ r, exec c s ≠ .refused r) ∧
    (exec c s = .fault .undefinedRail → s.get F.GLB_RAIL_STAT_OK ≠ 127) ∧
    (exec c s = .fault .undefinedTemperature → s.outOfTemp = true)

/-- A command of the digital blocks stops under its own name while the core rail is out of range (R540; which rails supply
which block is the model's reading, log entry 9). -/
def Obligations.CoreRailStopsBlocks : Prop :=
  ∀ (s : State) (dt : Nat) (q : Fin 4), s.nvm.held = false → (s.get F.GLB_RAIL_STAT_OK).testBit 0 = false →
    exec (.nop dt q) s = .fault .undefinedRail ∧ exec (.leaseExpiry dt) s = .fault .undefinedRail ∧
    exec (.forecastRefresh dt) s = .fault .undefinedRail

/-! ### Time (spec/08) -/

/-- R233: frame boundary, present time and current frame number of a segment, the same on every device with the same NUM,
DEN, D and device time. -/
def Obligations.FrameBoundaryFormula : Prop :=
  ∀ (s : State) (g num den : Nat), s.get (F.TIM_SEG_RATE_NUM g) = num → s.get (F.TIM_SEG_RATE_DEN g) = den → 0 < num → 0 < den →
    (∀ n, s.segT g n = n * den * 1000000000 * 65536 / num) ∧
    (∀ n, s.segP g n = s.segT g n + s.get (F.TIM_SEG_DELAY g) * 65536) ∧
    s.segT g (s.segN g) ≤ s.tim.now ∧ s.tim.now < s.segT g (s.segN g + 1) ∧
    (∀ n, s.segT g n ≤ s.tim.now → n ≤ s.segN g) ∧
    (∀ (s' : State) (g' : Nat), s'.get (F.TIM_SEG_RATE_NUM g') = num → s'.get (F.TIM_SEG_RATE_DEN g') = den →
      s'.get (F.TIM_SEG_DELAY g') = s.get (F.TIM_SEG_DELAY g) → s'.tim.now = s.tim.now →
      s'.segN g' = s.segN g ∧ ∀ n, s'.segT g' n = s.segT g n ∧ s'.segP g' n = s.segP g n)

/-- R7: the fields of a time value, and the time they make. -/
def Obligations.TimeValueFields : Prop :=
  ∀ t : Nat, timeS t < 2 ^ 48 ∧ timeNs t ≤ 999999999 ∧ timeSub t < 2 ^ 16 ∧
    (t < 2 ^ 48 * Config.sec → mkTime (timeS t) (timeNs t) (timeSub t) = t) ∧
    (∀ sec ns sub, sec < 2 ^ 48 → ns ≤ 999999999 → sub < 2 ^ 16 →
      timeS (mkTime sec ns sub) = sec ∧ timeNs (mkTime sec ns sub) = ns ∧ timeSub (mkTime sec ns sub) = sub ∧
      mkTime sec ns sub = (sec * 1000000000 + ns) * 65536 + sub)

/-- TIM_CMD.SNAP copies device time into its four registers as one value (R224), and changes nothing else. -/
def Obligations.SnapshotCopiesTime : Prop :=
  ∀ (s : State) (dt : Nat), s.ready 0 → let u := (s.advance dt).setField F.TIM_CMD_SNAP 1;
      SettlesTo s (exec (.timSnap dt) s) u ∧
    mkTime (u.rd R.TIM_SNAP_S_HI * 2 ^ 32 + u.rd R.TIM_SNAP_S_LO) (u.rd R.TIM_SNAP_NS) (u.rd R.TIM_SNAP_SUBNS) =
      (s.tim.now + dt) % (2 ^ 48 * Config.sec) ∧
    (∀ off, off ≠ R.TIM_SNAP_S_HI → off ≠ R.TIM_SNAP_S_LO → off ≠ R.TIM_SNAP_NS → off ≠ R.TIM_SNAP_SUBNS → u.rd off = s.rd off) ∧
    u.mem = s.mem ∧ u.tim = (s.advance dt).tim ∧ u.evt = s.evt

/-- A selected edge of a capture input with EN = 1, inside its window where it has one, is stamped to 1/16 ns, stored and
counted; one that finds the FIFO of 16 full, or comes less than 20 ns after the one before, is counted as lost, and the stamps
in the FIFO are kept (R239, R240). Any other edge stores nothing; that it is not counted as lost is the model's reading (log
entry 111). -/
def Obligations.CaptureEdgeStampsOrLoses : Prop :=
  ∀ (s : State) (dt : Nat) (i : Fin 8) (rising : Bool), s.ready railPinTime →
    let u := (s.advance dt).tciEdge i rising;
      SettlesTo s (exec (.tciEdge dt i rising) s) u ∧
      (let t := round16 (s.tim.now + dt)
       let soon := match (s.tci i).last with | some e => decide (s.tim.elapsed + dt < e + 20 * Config.ns) | none => false
       let captured := (s.get (F.TIM_TCI_CTL_EDGE i) = 3 ∨ s.get (F.TIM_TCI_CTL_EDGE i) = if rising then 1 else 2) ∧
         s.flag (F.TIM_TCI_CTL_EN i) = true ∧
         (s.flag (F.TIM_TCI_CTL_WIN_EN i) = true → s.tciOpen i ≤ t ∧ t < s.tciClose i)
       (captured → (soon = true ∨ 16 ≤ (s.tci i).fifo.length) → (u.tci i).fifo = (s.tci i).fifo ∧
          u.get (F.TIM_TCI_LOST i) = (s.get (F.TIM_TCI_LOST i) + 1) % 2 ^ 32) ∧
       (captured → soon = false → (s.tci i).fifo.length < 16 → (u.tci i).fifo = (s.tci i).fifo ++ [⟨t, rising⟩] ∧
          u.get (F.TIM_TCI_LOST i) = s.get (F.TIM_TCI_LOST i)) ∧
       (¬captured → (u.tci i).fifo = (s.tci i).fifo ∧ u.get (F.TIM_TCI_LOST i) = s.get (F.TIM_TCI_LOST i))) ∧
      u.mem = s.mem ∧ (∀ j, j ≠ i.val → u.tci j = s.tci j)

/-- After HOLDOVER_S seconds of HOLDOVER fault 73 is raised, once, and the state, LIVE and the frequency stay (R223); sooner,
in another state, or once it has been raised, the command does nothing. -/
def Obligations.HoldoverRaisesFault : Prop :=
  ∀ (s : State) (dt : Nat), s.ready 0 →
    let due := s.get F.TIM_STAT_STATE = 3 ∧ s.tim.holdoverRaised = false ∧
      s.tim.holdoverAt + s.get F.TIM_LIMITS_HOLDOVER_S * Config.sec ≤ s.tim.elapsed + dt
    (¬due → SettlesTo s (exec (.holdoverExpiry dt) s) (s.advance dt)) ∧
    (due → let u := (s.advance dt).holdoverExpiry;
      SettlesTo s (exec (.holdoverExpiry dt) s) u ∧
      u.get (F.FLT_SRC_COUNT 73) = (s.get (F.FLT_SRC_COUNT 73) + 1) % 2 ^ 32 ∧
      (∀ off, NotFlt off → u.rd off = s.rd off) ∧ u.mem = s.mem ∧
      u.tim = { (s.advance dt).tim with holdoverRaised := true })

/-! ### Events and faults (spec/16) -/

/-- R421: what an occurrence of an event source does to the count of its source and to the pending record of each
destination. A route change that waits for a delivery attempt (R422) is set aside. -/
def Obligations.EventOccurrence : Prop :=
  ∀ (s : State) (n data d : Nat), n < 1024 → d < 24 → SMap.get (fun _ => none) s.evt.oldRoute n = none →
    let u := s.occur n data
    let routed := s.flag (F.EVT_SRC_CFG_EN n) = true ∧ (s.rd (R.EVT_SRC_ROUTE n)).testBit d = true
    let goes := if n = 256 then 8 ≤ d ∨ routed else routed
    u.get (F.EVT_SRC_COUNT n) = (s.get (F.EVT_SRC_COUNT n) + 1) % 2 ^ 32 ∧
    (goes → ∀ r, s.pendOf n d = some r → u.pendOf n d = some { r with count := (r.count + 1) % 2 ^ 32 }) ∧
    (goes → s.pendOf n d = none → u.pendOf n d = some ⟨n, 1, data % 2 ^ 32, s.tim.now, false, 0⟩) ∧
    (¬goes → u.pendOf n d = s.pendOf n d) ∧
    (∀ m, m ≠ n → u.pendOf m d = s.pendOf m d)

/-- An event changes no more than the event controller, and a fault no more than the fault collector, the event controller and
the waiting records of the persistent log: every other register, the memory and every other block stay (R29). -/
def Obligations.EventAndFaultFrame : Prop :=
  ∀ (s : State) (n data unit off : Nat),
    (n < 1024 → (off < 0x20000 ∨ 0x30000 ≤ off) → (s.raise n data).rd off = s.rd off) ∧
    (s.raise n data = { s with evt := (s.raise n data).evt, regs := (s.raise n data).regs }) ∧
    (n < 256 → NotFlt off → (s.fault n unit data).rd off = s.rd off) ∧
    (let u := s.fault n unit data
     u = { s with evt := u.evt, regs := u.regs, draw := u.draw, nvm := { s.nvm with log := u.nvm.log },
                  flt := { s.flt with todo := u.flt.todo, setAt := u.flt.setAt, setNow := u.flt.setNow } })

/-- A fault occurrence is counted; at NOTE it names its unit and sets no status, and at WARN or above it also sets STATUS, takes
the severity that the set statuses of its class give it, and leaves its reaction to be carried out (R431 to R433). -/
def Obligations.FaultSetsStatusAndLevel : Prop :=
  ∀ (s : State) (n unit data : Nat), n < 256 →
    let u := s.fault n unit data
    let sev := s.get (F.FLT_SRC_CFG_SEV n)
    let e := match s.classLevel (s.get (F.FLT_SRC_CFG_CLASS n)) with
      | some l => max sev (min (l + 1) (s.get F.FLT_GLB_CTL_ESC_MAX))
      | none => sev
    u.get (F.FLT_SRC_COUNT n) = (s.get (F.FLT_SRC_COUNT n) + 1) % 2 ^ 32 ∧
    (sev = 0 → u.rd (R.FLT_SRC_STAT n) % 65536 = s.rd (R.FLT_SRC_STAT n) % 65536 ∧
      u.get (F.FLT_SRC_STAT_UNIT n) = unit % 65536 ∧ u.flt = s.flt) ∧
    (sev ≠ 0 → u.flag (F.FLT_SRC_STAT_STATUS n) = true ∧ u.get (F.FLT_SRC_STAT_LEVEL n) = e % 8 ∧
      u.get (F.FLT_SRC_STAT_UNIT n) = unit % 65536 ∧
      u.flt.todo = s.flt.todo ++ (if 2 ≤ e then [⟨n, e, unit⟩] else []))

/-- A write of 1 to a fault status clears it only while CAUSE is 0; while CAUSE is 1 it is ignored and CLEAR_REFUSED is set
(R435). A status that hardware has set in the same instant stays (R13). -/
def Obligations.StatusClearsOnlyWithoutCause : Prop :=
  ∀ (s : State) (n : Nat), n < 256 → s.flag (F.FLT_SRC_STAT_STATUS n) = true →
    let u := s.clearStatus n
    let setNow := (s.stuckBits (R.FLT_SRC_STAT n)).testBit 0
    (s.flag (F.FLT_SRC_STAT_CAUSE n) = true → u.flag (F.FLT_SRC_STAT_STATUS n) = true ∧
      u.flag (F.FLT_SRC_STAT_CLEAR_REFUSED n) = true ∧ (∀ off, off ≠ R.FLT_SRC_STAT n → u.rd off = s.rd off)) ∧
    (s.flag (F.FLT_SRC_STAT_CAUSE n) = false → setNow = true → u = s) ∧
    (s.flag (F.FLT_SRC_STAT_CAUSE n) = false → setNow = false → u.flag (F.FLT_SRC_STAT_STATUS n) = false ∧
      (∀ m, m < 256 → m ≠ n → u.rd (R.FLT_SRC_STAT m) = s.rd (R.FLT_SRC_STAT m))) ∧
    u.mem = s.mem ∧ u.flt.todo = s.flt.todo

/-! ### Memory and fabric (spec/01, spec/06, spec/11) -/

/-- What is written is read back, every other byte stays, a byte of a protected Lantern range is not written but noted for
fault 58 (R191), and the memory keeps its canonical form. -/
def Obligations.MemoryWritesReadBack : Prop :=
  ∀ (s : State) (a : Nat) (l : List Byte),
    (Memory.wf s = true → Memory.wf (s.setBytes a l) = true) ∧
    (∀ q, (q < a ∨ a + l.length ≤ q) → (s.setBytes a l).byte q = s.byte q) ∧
    (∀ k, k < l.length → (s.setBytes a l).byte (a + k) = if s.protectedAt (a + k) then s.byte (a + k) else l.getD k 0) ∧
    (s.setBytes a l).cmp.protHit = (s.cmp.protHit || (List.range l.length).any (fun k => s.protectedAt (a + k))) ∧
    (let u := s.setBytes a l
     u = { s with mem := u.mem, cmp := { s.cmp with protHit := u.cmp.protHit, watch := u.cmp.watch } })

/-- A request of an owner reaches the arbiter of its channel (R293). Where no grant is active and no other owner requests, it is
granted, and enters the channel queue at the tail; a write completes as it does (R299): its bytes, within one 64-byte unit, are in
memory, and every other byte stays, while the reads of that unit by other owners in flight are marked. A read changes no byte. At a
frozen arbiter without a grant (R315), or where the queue holds 1,024 requests (R312), the request waits, and nothing is
written. -/
def Obligations.DramRequestEntersQueue : Prop :=
  ∀ (s : State) (dt : Nat) (owner : Fin 29) (addr : Nat) (data : Option (List Byte)), s.ready railMem → s.inDram addr 1 = true →
    let ch := dramChannel addr;
    let bs := (data.getD []).take (64 - addr % 64);
    let r : MemReq := ⟨owner, data.isSome, data.isSome && decide (bs.length < 64), addr, s.tim.elapsed + dt, bs, false⟩;
    ((s.memQueue ch).length < 1024 → s.grantOf ch = none → s.flag (F.ARB_CTL_FREEZE ch) = false → s.memWaiting ch = [] →
      SMap.get (fun _ => 0) s.memc.asking ch = 0 →
      let u := (s.advance dt).dramRequest owner addr data;
      SettlesTo s (exec (.dramRequest dt owner addr data) s) u ∧
        (∀ a, u.byte a = if addr ≤ a ∧ a < addr + bs.length ∧ s.protectedAt a = false then bs.getD (a - addr) 0 else s.byte a) ∧
        u.memQueue ch = (if data.isSome then (s.memQueue ch).map r.meet else s.memQueue ch) ++
          [{ r with data := if data.isSome then bs else s.bytes (addr / 64 * 64) 64 }] ∧
        u.memWaiting ch = [] ∧ u.grantOf ch = none ∧ u.get (F.ARB_GRANTS ch) = (s.get (F.ARB_GRANTS ch) + 1) % 2 ^ 32 ∧
        (∀ k, k ≠ ch → u.memQueue k = s.memQueue k)) ∧
    (1024 ≤ (s.memQueue ch).length ∨ (s.grantOf ch = none ∧ s.flag (F.ARB_CTL_FREEZE ch) = true) →
      let u := (s.advance dt).dramRequest owner addr data;
      SettlesTo s (exec (.dramRequest dt owner addr data) s) u ∧ u.mem = s.mem ∧
        u.memWaiting ch = s.memWaiting ch ++ [r] ∧ ∀ k, u.memQueue k = s.memQueue k)

/-- The winner of an arbitration phase is a requester of the highest priority, and among those the first in ascending number
after the last owner granted, wrapping (R311). -/
def Obligations.ArbiterPicksHighestPriority : Prop :=
  ∀ (n last : Nat) (prio : Nat → Nat) (want : Nat → Bool), 0 < n →
    ((∃ o, o < n ∧ want o = true) ↔ (arbWinner n last prio want).isSome = true) ∧
    (∀ w, arbWinner n last prio want = some w → ∃ k, k < n ∧ w = (last + 1 + k) % n ∧ want w = true ∧
      (∀ j, j < n → want ((last + 1 + j) % n) = true → prio ((last + 1 + j) % n) ≤ prio w) ∧
      (∀ j, j < k → want ((last + 1 + j) % n) = true → prio ((last + 1 + j) % n) < prio w))

/-- A refresh that falls due: CREDIT, the forced refresh at DEBT 8, the postponed one under real-time load, and the refresh
itself, which closes the rows of the channel (R296, R301). Inside a Leap window the channel then issues what it has postponed and
pulls in up to CREDIT 8, one after another behind the refreshes it is still at, as long as they end before the window's close (R303,
R306). -/
def Obligations.RefreshDueCases : Prop :=
  ∀ (s : State) (dt : Nat) (ch : Fin 8), s.ready railMem →
    let v := (s.advance dt).refreshFalls ch;
    let u := v.leapFill ch;
    let b := v.leapBurst ch;
      SettlesTo s (exec (.refreshDue dt ch) s) u ∧
      (let credit := s.get (F.MEM_CH_STAT_CREDIT ch)
       let debt := s.get (F.MEM_CH_STAT_DEBT ch)
       let closed := ∀ k, k / 32 = ch.val → SMap.get (fun _ => none) v.memc.row k = none
       (0 < credit → v.get (F.MEM_CH_STAT_CREDIT ch) = credit - 1 ∧ v.get (F.MEM_CH_STAT_DEBT ch) = debt ∧ v.memc = s.memc) ∧
       (credit = 0 → 8 ≤ debt → v.get (F.MEM_CH_REF_FORCED ch) = (s.get (F.MEM_CH_REF_FORCED ch) + 1) % 2 ^ 32 ∧
          v.get (F.MEM_CH_STAT_DEBT ch) = debt ∧ closed) ∧
       (credit = 0 → debt < 8 → s.rtQueued ch = true → v.get (F.MEM_CH_STAT_DEBT ch) = debt + 1 ∧ v.memc.row = s.memc.row) ∧
       (credit = 0 → debt < 8 → s.rtQueued ch = false → v.get (F.MEM_CH_STAT_DEBT ch) = debt ∧ closed)) ∧
      (s.memc.leap = none → u = v) ∧
      (∀ open_ close, s.memc.leap = some (open_, some close) →
        let from_ := max v.tim.now (SMap.get (fun _ => 0) s.memc.refreshEnd ch);
        (0 < b.1 + b.2 → from_ + (b.1 + b.2) * (280 * Config.ns) < close) ∧
        (b.1 = v.get (F.MEM_CH_STAT_DEBT ch) ∨ (b.2 = 0 ∧ close ≤ from_ + (b.1 + 1) * (280 * Config.ns)))) ∧
      (∀ open_, s.memc.leap = some (open_, none) →
        u.get (F.MEM_CH_STAT_DEBT ch) = 0 ∧ 8 ≤ u.get (F.MEM_CH_STAT_CREDIT ch)) ∧
      u.mem = s.mem ∧ u.tim = (s.advance dt).tim ∧
      (∀ c : Fin 8, c ≠ ch → u.rd (R.MEM_CH_STAT c) = s.rd (R.MEM_CH_STAT c))

/-- An owner that has held a grant of a DRAM arbiter for HOLD is cut off: HOG, HOGS, LAST_HOG, the grant's end, and fault 91, and
the arbiter goes to the winner of the next phase, unless it is frozen or its channel queue is full. HOLD = 0 disables the cut-off,
and an egress arbiter never cuts off (R311 to R313). -/
def Obligations.HoldCutoffEndsGrant : Prop :=
  ∀ (s : State) (dt : Nat) (a : Fin 25) (req : BitVec 32), s.ready railCore → a.val < 24 → s.memWaiting a = [] →
    ((8 ≤ a.val ∨ s.get (F.ARB_CTL_HOLD a) = 0 ∨ s.grantOf a = none) →
      SettlesTo s (exec (.arbHoldCutoff dt a req) s) (s.advance dt)) ∧
    (∀ k t, a.val < 8 → s.get (F.ARB_CTL_HOLD a) ≠ 0 → s.grantOf a = some (k, t) →
      t + s.get (F.ARB_CTL_HOLD a) * 16 * Config.ns ≤ s.tim.elapsed + dt →
      let u := (s.advance dt).holdCutoff a req.toNat;
      let blocked := s.flag (F.ARB_CTL_FREEZE a) = true ∨ 1024 ≤ (s.memQueue a).length;
      let winner := arbWinner 29 (s.get (F.ARB_STAT_OWNER a)) (fun o => s.ownPrio a o) (fun o => req.toNat.testBit o);
      SettlesTo s (exec (.arbHoldCutoff dt a req) s) u ∧
        u.flag (F.ARB_STAT_HOG a) = true ∧ u.get (F.ARB_HOGS a) = (s.get (F.ARB_HOGS a) + 1) % 2 ^ 32 ∧
        u.get (F.ARB_LAST_HOG a) = s.get (F.ARB_STAT_OWNER a) ∧
        u.get (F.FLT_SRC_COUNT 91) = (s.get (F.FLT_SRC_COUNT 91) + 1) % 2 ^ 32 ∧
        ((blocked ∨ winner = none) → u.grantOf a = none) ∧
        (∀ w, ¬ blocked → winner = some w → u.grantOf a = some (0, s.tim.elapsed + dt) ∧ u.get (F.ARB_STAT_OWNER a) = w) ∧
        u.mem = s.mem ∧ (∀ b, b ≠ a.val → u.grantOf b = s.grantOf b))

/-! ### Rings, DMA and the Almanac (spec/13 to spec/15) -/

/-- The arithmetic of ring positions (R352): `used` counts what `advance` adds, empty and full are told apart by the phase. -/
def Obligations.RingPositionArithmetic : Prop :=
  ∀ (n : Nat) (p : Pos) (k : Nat), 0 < n → p.1 < n → p.2 ≤ 1 → k ≤ n →
    (posAdvance n p k).1 < n ∧ (posAdvance n p k).2 ≤ 1 ∧
    posUsed n p (posAdvance n p k) = k ∧
    posUsed n p p = 0 ∧ posAdvance n p n = (p.1, 1 - p.2) ∧
    (∀ q : Pos, q.1 < n → q.2 ≤ 1 → 0 ≤ posUsed n p q → posUsed n p q ≤ n → q = posAdvance n p (posUsed n p q).toNat)

/-- A request on an internal line is one more pending up to 255, and lost and counted beyond (R379). -/
def Obligations.DmaLineCountsRequests : Prop :=
  ∀ (s : State) (dt : Nat) (line : Fin 272), s.ready railCore → line.val < 256 →
    let u := (s.advance dt).requestCmd line;
      SettlesTo s (exec (.requestLine dt line) s) u ∧
      (s.linePend line < 255 → u.linePend line = s.linePend line + 1 ∧ u.get F.DMA_GLB_REQ_LOST = s.get F.DMA_GLB_REQ_LOST) ∧
      (255 ≤ s.linePend line → u.linePend line = s.linePend line ∧
        u.get F.DMA_GLB_REQ_LOST = (s.get F.DMA_GLB_REQ_LOST + 1) % 2 ^ 32) ∧
      (∀ k, k < 256 → k ≠ line.val → u.linePend k = s.linePend k) ∧ u.mem = s.mem ∧ u.evt = s.evt

/-- LDI, ADDI, ADDG, ANDI and CMP of R403: the general register and Z that each writes, and nothing else. -/
def Obligations.AlmanacArithmetic : Prop :=
  ∀ (s : State) (q : Fin 4) (m : Micro), m.ra < 16 → m.rb < 16 → m.imm < 2 ^ 32 →
    let go := fun op => s.almEffect q { m with op := op }
    let z := fun (u : State) => u.flag (F.ALM_SEQ_STAT_Z q)
    (go 4).almG q m.ra = m.imm ∧ z (go 4) = z s ∧
    (go 5).almG q m.ra = (s.almG q m.ra + m.imm) % 2 ^ 32 ∧ z (go 5) = decide ((s.almG q m.ra + m.imm) % 2 ^ 32 = 0) ∧
    (go 6).almG q m.ra = (s.almG q m.ra + s.almG q m.rb) % 2 ^ 32 ∧
      z (go 6) = decide ((s.almG q m.ra + s.almG q m.rb) % 2 ^ 32 = 0) ∧
    (go 7).almG q m.ra = s.almG q m.ra &&& m.imm ∧ z (go 7) = decide (s.almG q m.ra &&& m.imm = 0) ∧
    (go 8).almG q m.ra = s.almG q m.ra ∧ z (go 8) = decide (s.almG q m.ra &&& m.mask = m.imm) ∧
    (∀ op, op ∈ [4, 5, 6, 7, 8] → (∀ off, off ≠ R.ALM_SEQ_G q m.ra → off ≠ R.ALM_SEQ_STAT q → (go op).rd off = s.rd off) ∧
      go op = { s with regs := (go op).regs })

/-- R411: a write to START, to a general register or to a time register of a sequencer that is not OFF with IDLE = 1 is discarded
and answered with ALM_STORE_BUSY (0x00F0). START shares its word with EN and GATE; it counts as written where its value changes. -/
def Obligations.AlmanacParametersLocked : Prop :=
  ∀ (s : State) (q : Fin 4) (off mask val : Nat), (s.get (F.ALM_SEQ_STAT_STATE q) ≠ 0 ∨ s.flag (F.ALM_SEQ_STAT_IDLE q) = false) →
    mask < 2 ^ 32 →
    (((∃ i, i < 16 ∧ off = R.ALM_SEQ_G q i) ∨
        (∃ i, i < 4 ∧ (off = R.ALM_SEQ_T_S_HI q i ∨ off = R.ALM_SEQ_T_S_LO q i ∨ off = R.ALM_SEQ_T_NS q i))) → mask ≠ 0 →
      (s.regWrite off mask val).1 = 0xF0 ∧ ∀ o, (s.regWrite off mask val).2.rd o = s.rd o) ∧
    (off = R.ALM_SEQ_CTL q →
      (s.regWrite off mask val).2.get (F.ALM_SEQ_CTL_START q) = s.get (F.ALM_SEQ_CTL_START q) ∧
      (bitsOf (overlay ⟨off, mask, val⟩ (s.rd off)) 16 13 ≠ s.get (F.ALM_SEQ_CTL_START q) → (s.regWrite off mask val).1 = 0xF0))

/-- A write of ALM_HS_SET sets the flags of its mask and leaves the others, and one of ALM_HS_CLR clears them (R409). -/
def Obligations.HandshakeFlagWrites : Prop :=
  ∀ (s : State) (dt : Nat) (mask : Word), s.ready railCore →
    (let u := (s.advance dt).writeReg R.ALM_HS_SET 0xFFFFFFFF mask.toNat;
      SettlesTo s (exec (.almHsSet dt mask) s) u ∧ (∀ k, k < 16 → u.alm.flags.getLsbD k = (s.alm.flags.getLsbD k || mask.getLsbD k)) ∧
      u.mem = s.mem ∧ (∀ off, off ≠ R.ALM_HS_SET → off ≠ R.ALM_HS_CLR → u.rd off = s.rd off)) ∧
    (let u := (s.advance dt).writeReg R.ALM_HS_CLR 0xFFFFFFFF mask.toNat;
      SettlesTo s (exec (.almHsClr dt mask) s) u ∧ (∀ k, k < 16 → u.alm.flags.getLsbD k = (s.alm.flags.getLsbD k && !mask.getLsbD k)) ∧
      u.mem = s.mem ∧ (∀ off, off ≠ R.ALM_HS_SET → off ≠ R.ALM_HS_CLR → u.rd off = s.rd off))

/-! ### Control sessions, security, records and gangs (spec/12, spec/18 to spec/20) -/

/-- When device time reaches the lease's expiry the staged entries are discarded, the lock is freed, and fault 96 is raised;
before that the command does nothing (R335). -/
def Obligations.LeaseExpiryBreaksLock : Prop :=
  ∀ (s : State) (dt : Nat), s.ready railCore →
    ((s.ctl.lock.holder = none ∨ s.tim.now + dt < s.ctl.lock.expiry) →
      SettlesTo s (exec (.leaseExpiry dt) s) (s.advance dt)) ∧
    (∀ h, s.ctl.lock.holder = some h → s.ctl.lock.expiry ≤ s.tim.now + dt → s.cmp.checks = [] →
      let u := (s.advance dt).leaseExpiry;
      SettlesTo s (exec (.leaseExpiry dt) s) u ∧ u.ctl.lock.holder = none ∧ u.ctl.lock.staged = [] ∧
        u.ctl.accepted = s.ctl.accepted ∧ u.flag F.SEC_CP_LOCK_HELD = false ∧
        u.get (F.FLT_SRC_COUNT 96) = (s.get (F.FLT_SRC_COUNT 96) + 1) % 2 ^ 32 ∧
        u.mem = s.mem ∧ u.tim = (s.advance dt).tim)

/-- A message whose SEQ is neither next, nor held, nor a duplicate is dropped and counted, and nothing of it is applied
(R326). -/
def Obligations.MessageOutsideWindowDropped : Prop :=
  ∀ (s : State) (i : Nat) (seq : Nat) (req : Req), i < 16 → s.sessOpen i = true → (s.sess i).relayed = false →
    s.net.rx = [] → (s.nextSeq i + 32 ≤ seq ∨ seq + 1024 < s.nextSeq i) →
    let u := s.sessMsg i seq true req
    u.get (F.SEC_SESS_DROPPED i) = (s.get (F.SEC_SESS_DROPPED i) + 1) % 2 ^ 32 ∧
    (∀ off, off ≠ R.SEC_SESS_DROPPED i → u.rd off = s.rd off) ∧ u.mem = s.mem ∧
    (u.sess i).held = (s.sess i).held ∧
    u.ctl.lock = s.ctl.lock ∧ u.ctl.accepted = s.ctl.accepted ∧ u.evt = s.evt

/-- A fuse step: blown and read back it adds one to the fuses and goes on or ends with the count reached; not read back as
blown it ends the advance with FUSE_FAIL and fault 145, and the fuses stay (R497). -/
def Obligations.FuseStepBlowsOrFails : Prop :=
  ∀ (s : State) (dt goal : Nat), s.ready railCore → s.sec.advance = some goal →
    (let u := (s.advance dt).fuseStep true;
      SettlesTo s (exec (.fuseStepDone dt true) s) u ∧ u.fuse.steps = s.fuse.steps + 1 ∧
      (goal ≤ s.fuse.steps + 1 → u.sec.advance = none ∧ u.flag F.SEC_FUSE_STAT_BUSY = false ∧ u.get F.SEC_FUSE_STAT_STATUS = 0) ∧
      (s.fuse.steps + 1 < goal → u.sec.advance = some goal ∧ u.flag F.SEC_FUSE_STAT_BUSY = s.flag F.SEC_FUSE_STAT_BUSY) ∧
      u.mem = s.mem ∧ u.fuse = { s.fuse with steps := s.fuse.steps + 1 }) ∧
    (let u := (s.advance dt).fuseStep false;
      SettlesTo s (exec (.fuseStepDone dt false) s) u ∧ u.fuse = s.fuse ∧ u.sec.advance = none ∧
      u.flag F.SEC_FUSE_STAT_BUSY = false ∧ u.get F.SEC_FUSE_STAT_STATUS = 0x136 ∧
      u.get (F.FLT_SRC_COUNT 145) = (s.get (F.FLT_SRC_COUNT 145) + 1) % 2 ^ 32 ∧ u.mem = s.mem)

/-- A write of a settings or calibration record starts no sooner than 20 ms after the one before, and then the oldest that
waits goes first (R482). -/
def Obligations.RecordWritesAreSpaced : Prop :=
  ∀ (s : State) (dt : Nat), s.ready railCore → s.nvm.writing = none → (∀ j ∈ s.nvm.persist, j.kind ≠ 4) →
    (∀ t, s.nvm.lastWrite = some t → s.tim.elapsed + dt < t + 20 * Config.ms →
      SettlesTo s (exec (.recordWriteStart dt) s) (s.advance dt)) ∧
    (∀ j rest, s.nvm.persist = j :: rest →
      (s.nvm.lastWrite = none ∨ ∃ t, s.nvm.lastWrite = some t ∧ t + 20 * Config.ms ≤ s.tim.elapsed + dt) →
      let u := (s.advance dt).recWriteStart;
      SettlesTo s (exec (.recordWriteStart dt) s) u ∧ (∃ a, u.nvm.writing = some (j, a)) ∧ u.nvm.persist = rest ∧
        u.nvm.lastWrite = some (s.tim.elapsed + dt) ∧ u.nvm.cs0 = s.nvm.cs0 ∧ u.regs = s.regs ∧ u.mem = s.mem)

/-! ### Supply, pins and ports (spec/17, spec/21, spec/02) -/

/-- A failed AVSBus frame is sent once more; a second failure counts in GLB_AVS_BUS_ERR, clears BUS_OK, and raises fault 135
with its CAUSE at 1 (R450). -/
def Obligations.AvsFrameFailsTwice : Prop :=
  ∀ (s : State) (dt : Nat), s.ready 0 → s.glb.busy = true →
    (s.glb.retry = false → let u := (s.advance dt).avsFrameDone false;
      SettlesTo s (exec (.avsFrameDone dt false) s) u ∧ u.glb = { s.glb with retry := true } ∧
      u.regs = s.regs ∧ u.mem = s.mem ∧ u.evt = s.evt) ∧
    (s.glb.retry = true → let u := (s.advance dt).avsFrameDone false;
      SettlesTo s (exec (.avsFrameDone dt false) s) u ∧
      u.glb = { s.glb with retry := false, busy := false } ∧
      u.get F.GLB_AVS_BUS_ERR = (s.get F.GLB_AVS_BUS_ERR + 1) % 2 ^ 32 ∧ u.flag F.GLB_AVS_STAT_BUS_OK = false ∧
      u.flag (F.FLT_SRC_STAT_CAUSE 135) = true ∧
      u.get (F.FLT_SRC_COUNT 135) = (s.get (F.FLT_SRC_COUNT 135) + 1) % 2 ^ 32 ∧
      u.get F.GLB_AVS_STAT_VREQ = s.get F.GLB_AVS_STAT_VREQ ∧ u.mem = s.mem)

/-- The TAP instructions of R550 and Test-Logic-Reset: the register each selects and what goes out, whatever the state of the
rest (R508): the TAP works while a cold reset is held. Which value the boundary cells capture under EXTEST is free. -/
def Obligations.TapInstructions : Prop :=
  ∀ (s : State) (dt : Nat) (bit : Bool) (pins bits : List Bool), s.tapReady →
    (∃ t, exec (.idcode dt) s = .next t ∧ t.pin = { s.pin with ir := 2, tdo := 0x10F0855D, drive := false } ∧ t.regs = s.regs ∧ t.mem = s.mem) ∧
    (∃ t, exec (.testLogicReset dt) s = .next t ∧ t.pin = { s.pin with ir := 2, drive := false } ∧ t.regs = s.regs ∧ t.mem = s.mem) ∧
    (∃ t, exec (.highz dt) s = .next t ∧ t.pin = { s.pin with ir := 3, tdo := 0, drive := true } ∧ t.regs = s.regs ∧ t.mem = s.mem) ∧
    (∃ t, exec (.clamp dt) s = .next t ∧ t.pin = { s.pin with ir := 4, tdo := 0, drive := true } ∧ t.regs = s.regs ∧ t.mem = s.mem) ∧
    (∃ t, exec (.bypass dt bit) s = .next t ∧ t.pin = { s.pin with ir := 0xFF, tdo := 0, drive := false, bypass := bit } ∧
      t.regs = s.regs ∧ t.mem = s.mem) ∧
    (∃ t, exec (.samplePreload dt pins bits) s = .next t ∧ t.pin.ir = 1 ∧ t.pin.drive = false ∧
      t.pin.tdo = levels pins % 2 ^ 2202 ∧ t.regs = s.regs ∧ t.mem = s.mem ∧
      (bits.length = 2202 → ∀ k, k < 2202 → t.pin.boundary.getLsbD k = bits.getD k false)) ∧
    (∃ t, exec (.extest dt bits) s = .next t ∧ t.pin.ir = 0 ∧ t.pin.drive = true ∧ t.regs = s.regs ∧ t.mem = s.mem ∧
      (bits.length = 2202 → ∀ k, k < 2202 → t.pin.boundary.getLsbD k = bits.getD k false))

/-- A counted change of level of a GPIO ball shows in GLB_GPIO_IN and in no other ball (R554); an edge that shows the level the
ball already has changes nothing. -/
def Obligations.GpioEdgeShowsLevel : Prop :=
  ∀ (s : State) (dt : Nat) (g : Fin 16) (high : Bool), s.ready railPin →
    (s.pin.gpio.getLsbD g = high → SettlesTo s (exec (.gpioEdge dt g high) s) (s.advance dt)) ∧
    (s.pin.gpio.getLsbD g ≠ high → let u := (s.advance dt).gpioEdge g high;
      SettlesTo s (exec (.gpioEdge dt g high) s) u ∧
      (∀ k, k < 16 → u.pin.gpio.getLsbD k = if k = g.val then high else s.pin.gpio.getLsbD k) ∧
      u.get F.GLB_GPIO_IN = u.pin.gpio.toNat ∧ u.mem = s.mem ∧
      (∀ off, off ≠ R.GLB_GPIO_IN → (off < 0x20000 ∨ 0x30000 ≤ off) → u.rd off = s.rd off))

/-- An uncorrectable codeword of a port with FEC is counted and raises fault 19; without FEC, or in a mode without it, the
command does nothing (R33, R71). That the receiver then reports its corrected codewords and HI_SER too is the model's choice
(log entry 49). -/
def Obligations.FecErrorCounted : Prop :=
  ∀ (s : State) (dt : Nat) (p lane : Fin 4), s.ready railEth →
    ((s.flag (F.NET_PHY_CTL_FEC_EN p) = false ∨ 2 ≤ s.get (F.NET_PHY_CTL_MODE p)) →
      SettlesTo s (exec (.fecUncorrectable dt p lane) s) (s.advance dt)) ∧
    (s.flag (F.NET_PHY_CTL_FEC_EN p) = true → s.get (F.NET_PHY_CTL_MODE p) ≤ 1 →
      let u := (s.advance dt).fecUncorrectable p lane;
      SettlesTo s (exec (.fecUncorrectable dt p lane) s) u ∧
        u.get (F.NET_PHY_FEC_UNCORR p) = (s.get (F.NET_PHY_FEC_UNCORR p) + 1) % 2 ^ 32 ∧
        u.get (F.FLT_SRC_COUNT 19) = (s.get (F.FLT_SRC_COUNT 19) + 1) % 2 ^ 32 ∧
        (∀ off, off ≠ R.NET_PHY_FEC_UNCORR p → off ≠ R.NET_PHY_FEC_CORR p → off ≠ R.NET_PHY_STAT p → NotFlt off →
          u.rd off = s.rd off) ∧ u.mem = s.mem)

/-- When the time of a received PAUSE has run out, transmission resumes on the port and on no other (R35). -/
def Obligations.PauseEnds : Prop :=
  ∀ (s : State) (dt : Nat) (l : Fin 16) (t : Nat), s.ready railEth → SMap.get (fun _ => none) s.net.pause l = some t →
    (s.tim.elapsed + dt < t → SettlesTo s (exec (.pauseExpiry dt l) s) (s.advance dt)) ∧
    (t ≤ s.tim.elapsed + dt → let u := (s.advance dt).pauseExpiry l;
      SettlesTo s (exec (.pauseExpiry dt l) s) u ∧ u.portPaused l = false ∧
      u.flag (F.NET_LP_STAT_PAUSED l) = false ∧
      (∀ k, k ≠ l.val → SMap.get (fun _ => none) u.net.pause k = SMap.get (fun _ => none) s.net.pause k) ∧
      (∀ off, off ≠ R.NET_LP_STAT l → u.rd off = s.rd off) ∧ u.mem = s.mem)

/-! ### Pools, ingest, decoding, encoding, composition, calibration and output (spec/02 to spec/07, spec/10) -/

/-- A request is served from the pool with the smallest buffers that hold it (R65, R67), and the buffer it is given was free
and is its owner's from then on. -/
def Obligations.PoolGivesSmallestFit : Prop :=
  (∀ n k, poolFor n = some k → k < 8 ∧ n ≤ poolSize k ∧ ∀ j, j < k → poolSize j < n) ∧
  (∀ n, poolFor n = none ↔ 1048576 < n) ∧
  (∀ (s : State) (o n k i : Nat) (u : State), s.takeBuf o n = (some (k, i), u) → i < 2 ^ 20 →
    poolFor n = some k ∧ s.bufOwner k i = 0 ∧ u.bufOwner k i = o + 1 ∧
    (∀ k' i', i' < 2 ^ 20 → (k' ≠ k ∨ i' ≠ i) → u.bufOwner k' i' = s.bufOwner k' i') ∧ u.mem = s.mem) ∧
  (∀ (s : State) (o n : Nat) (u : State), s.takeBuf o n = (none, u) → u.bpm = s.bpm ∧ u.mem = s.mem)

/-- The replay window of a context (R48): a packet inside the window whose number has not come is taken if and only if it opens
under the key of the context's slot; of two packets of one number at most one is taken; and a packet that is not taken is
counted in ING_CTX_SRTP_FAIL and changes nothing else. -/
def Obligations.ReplayedPacketRefused : Prop :=
  ∀ (s : State) (n : Nat) (h : Rtp) (b : List Byte), h.seq < 65536 →
    let c := s.ingCtx n
    let i := srtpIndex c.srtpTop h.seq
    let r := s.srtpAccept n h b
    (i ∉ c.srtpSeen → (∀ t, c.srtpTop = some t → t < i + 128) →
      r.1 = (SMap.get (fun _ => none) s.sec.keys (s.get (F.ING_CTX_CTL_KEY_SLOT n))).bind
        (fun k => Config.srtpOpen k.key i (b.take h.len) (b.drop h.len))) ∧
    ((i ∈ c.srtpSeen ∨ ∃ t, c.srtpTop = some t ∧ i + 128 ≤ t) → r.1 = none) ∧
    (∀ (h' : Rtp) (b' : List Byte), h'.seq = h.seq → r.1 = none ∨ (r.2.srtpAccept n h' b').1 = none) ∧
    r.2 = (if r.1.isSome then { s with ing := r.2.ing } else s.inc (F.ING_CTX_SRTP_FAIL n)) ∧
    ∀ m, m ≠ n → r.2.ingCtx m = s.ingCtx m

/-- The substitute for a lost reference is a readable picture of its own coded video sequence in another slot of the store, the
nearest to the target, and of two equally near in display order the earlier; a picture that starts a sequence has none
(R104). -/
def Obligations.SubstituteIsNearest : Prop :=
  ∀ (c : DecCtx) (p : Pic) (slot bits : Nat) (target : Int),
    let mayServe := fun q : DecPic => p.newSeq = false ∧ q ∈ c.pics ∧ q.current = true ∧ q.unreadable = false ∧ q.slot ≠ slot
    let choice := substitute (c.candidates p slot) bits target
    (choice = none ↔ ∀ q, ¬mayServe q) ∧
    (∀ b, choice = some b → mayServe b ∧
      ∀ q, mayServe q → (posDist bits b.pos target).natAbs ≤ (posDist bits q.pos target).natAbs ∧
        (bits = 0 → (posDist 0 b.pos target).natAbs = (posDist 0 q.pos target).natAbs → b.pos ≤ q.pos))

/-- A one-second window of device time ends: the counts of every context whose window was another one start again, and nothing
else changes (R95). -/
def Obligations.RateWindowRestarts : Prop :=
  ∀ (s : State) (dt : Nat), s.ready railCore → let u := (s.advance dt).decWindow;
      SettlesTo s (exec (.decRateWindow dt) s) u ∧
    (∀ n, let c := s.decCtx n
      let w := u.decCtx n
      (c.winSec = u.tim.now / Config.sec → w = c) ∧
      (c.winSec ≠ u.tim.now / Config.sec → w = { c with winSec := w.winSec, winPics := 0, winBits := 0, winRaised := false })) ∧
    u.regs = s.regs ∧ u.mem = s.mem ∧ u.evt = s.evt

/-- A write of ENC_CTX_BSB_RD releases whole bytes up to what is written, and any other value is refused with RD_INVALID and
releases nothing (R151). -/
def Obligations.BitstreamReleaseIsBounded : Prop :=
  ∀ (s : State) (n : Fin 64) (val : Nat), s.get (F.ENC_CTX_CTL_OUT n) = 1 → (s.encCtx n).rdLin ≤ (s.encCtx n).wrLin →
    let u := s.encBsbRd n val
    (s.encCtx n).rdLin ≤ (u.encCtx n).rdLin ∧ (u.encCtx n).rdLin ≤ (s.encCtx n).wrLin ∧
    (u.encCtx n).wrLin = (s.encCtx n).wrLin ∧
    ((u.encCtx n).rdLin ≠ (s.encCtx n).rdLin → (u.encCtx n).rdLin % max 1 (s.encBsbSize n) = val) ∧
    (max 1 (s.encBsbSize n) ≤ val → u.flag (F.ENC_CTX_STAT_RD_INVALID n) = true ∧ u.enc = s.enc) ∧ u.mem = s.mem

/-- LANTERN_N that has held its level for 1 ms without a break moves the alarm, which latches the layers that ask for it
(R192); before that the command does nothing. -/
def Obligations.LanternAlarmFollowsPin : Prop :=
  ∀ (s : State) (dt : Nat), s.ready railPin →
    ((s.cmp.ltLow = s.flag F.CMP_GLB_LT_PIN_ALARM ∨ s.tim.elapsed + dt < s.cmp.ltEdge + Config.ms) →
      SettlesTo s (exec (.lanternAlarmFilter dt) s) (s.advance dt)) ∧
    (s.cmp.ltLow ≠ s.flag F.CMP_GLB_LT_PIN_ALARM → s.cmp.ltEdge + Config.ms ≤ s.tim.elapsed + dt →
      let u := (s.advance dt).lanternFilter;
      SettlesTo s (exec (.lanternAlarmFilter dt) s) u ∧ u.flag F.CMP_GLB_LT_PIN_ALARM = s.cmp.ltLow ∧
        (∀ c : Fin 4, u.flag (F.CMP_LT_STAT_LATCHED c) =
          (s.flag (F.CMP_LT_STAT_LATCHED c) || (s.cmp.ltLow && s.flag (F.CMP_LT_CTL_LATCH c)))) ∧
        u.mem = s.mem ∧ u.cmp = s.cmp)

/-- The stages of calibration keep their ranges: the scaled value and the clip of the matrix stage stay within 0 to 65,536, the
brightness stage within 0 to 1,048,560, the threshold below one code, and the code within its format (R198, R208, R209). -/
def Obligations.CalibrationStaysInRange : Prop :=
  ∀ (code sl fmt z d u bu mode x y c frame : Nat) (w : Int),
    calScale code sl ≤ 65536 ∧ calClip w ≤ 65536 ∧ calBright u bu ≤ 1048560 ∧
    calQuant fmt z d < 2 ^ fmtBits fmt ∧
    (mode ≤ 3 → ditherD mode (fmtShift fmt) x y c frame < 2 ^ fmtShift fmt) ∧
    (bu = 2048 → u ≤ 65535 → calBright u bu = u)

/-- WFQ takes the entry with a head frame and the least finish, the lower of two equal ones (R280). -/
def Obligations.WfqTakesLeastFinish : Prop :=
  ∀ (s : State) (l : Nat), (∀ i q, i < 16 → s.finishOf l i = some q → 0 < q.den) →
    let f := fun i => (s.finishOf l i).getD ⟨0, 1⟩
    (s.wfqNext l = none ↔ ∀ i, i < 16 → s.isHeaded l i = false) ∧
    (∀ i q, s.wfqNext l = some (i, q) → i < 16 ∧ s.isHeaded l i = true ∧ q = f i ∧
      (∀ j, j < 16 → s.isHeaded l j = true → (f i).le (f j) = true) ∧
      (∀ j, j < i → s.isHeaded l j = true → (f i).lt (f j) = true))

/-- A KEEPALIVE is due KA_MS after the one before to an UP peer: it is sent and the time noted; sooner, or to a peer that is not
UP, the command does nothing (R521). -/
def Obligations.KeepaliveIsPaced : Prop :=
  ∀ (s : State) (dt : Nat) (d : Fin 64), s.ready railCore →
    ((s.peerState d ≠ 2 ∨ s.tim.elapsed + dt < (s.link d).keepAt + s.get F.GNG_CTL_KA_MS * Config.ms) →
      SettlesTo s (exec (.keepaliveSend dt d) s) (s.advance dt)) ∧
    (s.peerState d = 2 → (s.link d).keepAt + s.get F.GNG_CTL_KA_MS * Config.ms ≤ s.tim.elapsed + dt →
      let u := (s.advance dt).keepaliveSend d;
      SettlesTo s (exec (.keepaliveSend dt d) s) u ∧ u.link d = { s.link d with keepAt := s.tim.elapsed + dt, txSeq := (s.link d).txSeq + 1 } ∧
        u.regs = s.regs ∧ u.mem = s.mem ∧
        (∀ e, e ≠ d.val → u.link e = s.link e))

/-! ### Every command completes -/

/-- The commands of the ports and of ingest (spec/02): each answers the state its effect leads to, whenever its block can act. -/
def Obligations.PortAndIngestCommandsComplete : Prop :=
  ∀ (s : State) (dt : Nat),
    (∀ (l : Fin 16) (frame : List Byte) (fcsOk both : Bool), s.ready railEth →
      SettlesTo s (exec (.rxFrame dt l frame fcsOk both) s) ((s.advance dt).rxFrame l frame fcsOk both)) ∧
    (∀ (l : Fin 16) (quanta : BitVec 16), s.ready railEth → SettlesTo s (exec (.pause dt l quanta) s)
      (((s.advance dt).consumeRx (ownPort l)).pauseRx l quanta.toNat)) ∧
    (∀ (l : Fin 16), s.ready railEth → SettlesTo s (exec (.pauseExpiry dt l) s) ((s.advance dt).pauseExpiry l)) ∧
    (∀ (l : Fin 16) (src : List Byte) (senderIp targetIp : Nat), s.ready railEth →
      SettlesTo s (exec (.arpRequest dt l src senderIp targetIp) s) (((s.advance dt).consumeRx (ownPort l)).arpAnswer l src senderIp targetIp)) ∧
    (∀ (l : Fin 16) (src : List Byte) (senderIp targetIp : Nat) (conflict : Bool), s.ready railEth →
      SettlesTo s (exec (.neighbourSolicitation dt l src senderIp targetIp conflict) s) (((s.advance dt).consumeRx (ownPort l)).nsAnswer l src senderIp targetIp conflict)) ∧
    (∀ (l : Fin 16) (src : List Byte) (ipv6 : Bool) (senderIp targetIp : Nat) (body : List Byte), s.ready railEth →
      SettlesTo s (exec (.echoRequest dt l src ipv6 senderIp targetIp body) s) (((s.advance dt).consumeRx (ownPort l)).echoAnswer l src ipv6 senderIp targetIp body)) ∧
    (∀ (l : Fin 16) (ipv6 : Bool) (group : Option Nat) (sources : List Nat) (version : Nat), s.ready railEth →
      SettlesTo s (exec (.membershipQuery dt l ipv6 group sources version) s) (((s.advance dt).consumeRx (ownPort l)).queryAnswer l ipv6 group sources version)) ∧
    (s.ready railEth → SettlesTo s (exec (.unsolicitedReport dt) s) ((s.advance dt).unsolicited)) ∧
    (∀ (l : Fin 16) (up : Bool), s.ready railEth → SettlesTo s (exec (.linkChange dt l up) s)
      ((s.advance dt).linkChange l up)) ∧
    (∀ (p : Fin 4) (lane : Fin 4), s.ready railEth → SettlesTo s (exec (.fecUncorrectable dt p lane) s)
      ((s.advance dt).fecUncorrectable p lane)) ∧
    (∀ (l : Fin 16), s.ready railEth → SettlesTo s (exec (.portEnable dt l) s)
      ((s.advance dt).setField (F.NET_LP_CTL_EN l) 1)) ∧
    (∀ (l : Fin 16), s.ready railEth → SettlesTo s (exec (.portDisable dt l) s)
      ((s.advance dt).setField (F.NET_LP_CTL_EN l) 0)) ∧
    (∀ (l : Fin 16), s.ready railEth → SettlesTo s (exec (.portIdle dt l) s) ((s.advance dt).portIdle l)) ∧
    (∀ (n : Fin 256) (stray : Bool) (ptr : BitVec 64) (before after : Bool), s.ready railCore →
      SettlesTo s (exec (.ingestItem dt n stray ptr before after) s) ((s.advance dt).ingestItem n (if stray then some ptr.toNat else none) before after)) ∧
    (∀ (n : Fin 256), s.ready railMem → SettlesTo s (exec (.bankDrainStart dt n) s) ((s.advance dt).drainStart n)) ∧
    (∀ (n : Fin 256), s.ready railMem → SettlesTo s (exec (.drainResume dt n) s) ((s.advance dt).drainResume n)) ∧
    (∀ (n : Fin 256), s.ready railMem → SettlesTo s (exec (.bankDrained dt n) s) ((s.advance dt).bankDrained n))

/-- The commands of decoding and concealment (spec/03, spec/04): each answers the state its effect leads to, whenever its block can act. -/
def Obligations.DecodingCommandsComplete : Prop :=
  ∀ (s : State) (dt : Nat),
    (∀ (n : Fin 256) (pic : Pic), s.ready railMem → SettlesTo s (exec (.pictureDispatch dt n pic) s)
      ((s.advance dt).decDispatch n pic)) ∧
    (∀ (n : Fin 256) (e : Fin 16) (epoch : BitVec 8), s.ready railMem → SettlesTo s (exec (.picturePartDone dt n e epoch) s)
      ((s.advance dt).decPartDone n e epoch.toNat)) ∧
    (∀ (n : Fin 256) (e : Fin 16), s.ready railMem → SettlesTo s (exec (.engineFailure dt n e) s)
      ((s.advance dt).decFail n e)) ∧
    (∀ (n : Fin 256) (e : Fin 16), s.ready railMem → SettlesTo s (exec (.engineCompletionTimeout dt n e) s)
      ((s.advance dt).decTimeout n e)) ∧
    (∀ (e : Fin 16), s.ready railCore → SettlesTo s (exec (.decEngineReturn dt e) s)
      ((s.advance dt).setField (F.DEC_ENG_STAT_RETIRED_FAULT e) 1)) ∧
    (∀ (store : Fin 20) (ok : Bool), s.ready railCore → SettlesTo s (exec (.storeCheckDone dt store ok) s)
      ((s.advance dt).storeCheckDone store ok)) ∧
    (s.ready railCore → SettlesTo s (exec (.forecastRefresh dt) s) ((s.advance dt).decForecast)) ∧
    (s.ready railCore → SettlesTo s (exec (.decRateWindow dt) s) ((s.advance dt).decWindow)) ∧
    (∀ (n : Fin 256) (slot : Option Nat), s.ready railMem → SettlesTo s (exec (.rewindTrigger dt n slot) s)
      ((s.advance dt).decRewind n slot)) ∧
    (∀ (r : Replayed), s.ready railMem → SettlesTo s (exec (.replayPictureDone dt r) s)
      ((s.advance dt).decReplayDone r.ctx r.epoch.toNat))

/-- The commands of encoding (spec/05): each answers the state its effect leads to, whenever its block can act. -/
def Obligations.EncodingCommandsComplete : Prop :=
  ∀ (s : State) (dt : Nat),
    (∀ (n : Fin 64), s.ready railMem → SettlesTo s (exec (.encSourcePicture dt n) s) ((s.advance dt).encSourceCmd n)) ∧
    (∀ (n : Fin 64), s.ready railMem → SettlesTo s (exec (.encSourceCopyDone dt n) s) ((s.advance dt).encCopyDone n)) ∧
    (∀ (n : Fin 64) (leading : Bool), s.ready railMem → SettlesTo s (exec (.encPictureDispatch dt n leading) s)
      ((s.advance dt).encDispatch n leading)) ∧
    (∀ (n : Fin 64) (e : Fin 4) (epoch : BitVec 8) (tile : Nat) (code : TileCode), s.ready railMem →
      SettlesTo s (exec (.encTileDone dt n e epoch tile code) s) ((s.advance dt).encTileDone n e epoch.toNat tile code)) ∧
    (∀ (n : Fin 64) (e : Fin 4), s.ready railMem → SettlesTo s (exec (.encEngineFailure dt n e) s)
      ((s.advance dt).encFail n e)) ∧
    (∀ (n : Fin 64) (e : Fin 4), s.ready railMem → SettlesTo s (exec (.encEngineTimeout dt n e) s)
      ((s.advance dt).encTimeout n e)) ∧
    (∀ (n : Fin 64), s.ready railMem → SettlesTo s (exec (.encRtpPacket dt n) s) ((s.advance dt).encPacket n)) ∧
    (∀ (n : Fin 64), s.ready railCore → SettlesTo s (exec (.forceIdr dt n) s)
      ((s.advance dt).setField (F.ENC_CTX_CMD_FORCE_IDR n) 1)) ∧
    (∀ (n : Fin 64) (val : Word), s.ready railCore → SettlesTo s (exec (.encBsbRdWrite dt n val) s)
      ((s.advance dt).writeReg (R.ENC_CTX_BSB_RD n) 0xFFFFFFFF val.toNat)) ∧
    (∀ (e : Fin 4), s.ready railCore → SettlesTo s (exec (.encEngineReturn dt e) s)
      ((s.advance dt).setField (F.ENC_ENG_STAT_RETIRED_FAULT e) 1))

/-- The commands of composition and lamp calibration (spec/06, spec/07): each answers the state its effect leads to, whenever its block can act. -/
def Obligations.CompositionCommandsComplete : Prop :=
  ∀ (s : State) (dt : Nat),
    (∀ (c : Fin 4), s.ready railMem → SettlesTo s (exec (.canvasLatch dt c) s) ((s.advance dt).canvasLatch c)) ∧
    (∀ (c : Fin 4), s.ready railMem → SettlesTo s (exec (.canvasFrameStart dt c) s) ((s.advance dt).cvFrameStart c)) ∧
    (∀ (c : Fin 4) (badBrick : Bool), s.ready railMem → SettlesTo s (exec (.tilePieceComposed dt c badBrick) s)
      ((s.advance dt).pieceCmd c badBrick)) ∧
    (∀ (g : Fin 48), s.ready railCore → SettlesTo s (exec (.dirty dt g) s) ((s.advance dt).setField (F.CMP_GL_CMD_DIRTY g) 1)) ∧
    (∀ (low : Bool), s.ready railPin → SettlesTo s (exec (.lanternNChange dt low) s) ((s.advance dt).lanternPin low)) ∧
    (s.ready railPin → SettlesTo s (exec (.lanternAlarmFilter dt) s) ((s.advance dt).lanternFilter)) ∧
    (s.ready railMem → SettlesTo s (exec (.lanternHashCheckDone dt) s) ((s.advance dt).lanternChecked)) ∧
    (∀ (badUnits : List Nat), s.ready railMem → SettlesTo s (exec (.pieceCalibrated dt badUnits) s)
      ((s.advance dt).calibrate badUnits)) ∧
    (∀ (readOk : Bool), s.ready railMem → SettlesTo s (exec (.curveReadsDone dt readOk) s) ((s.advance dt).curvesRead readOk))

/-- The commands of time (spec/08): each answers the state its effect leads to, whenever its block can act. -/
def Obligations.TimeCommandsComplete : Prop :=
  ∀ (s : State) (dt : Nat),
    (∀ (g : Fin 64), s.ready 0 → SettlesTo s (exec (.frameBoundary dt g) s) ((s.advance dt).boundaryCmd g)) ∧
    (∀ (l : Fin 16) (hdr : PtpHdr) (origin : Nat), s.ready railEthTime → SettlesTo s (exec (.sync dt l hdr origin) s)
      ((s.advance dt).syncRx l hdr origin)) ∧
    (∀ (l : Fin 16) (hdr : PtpHdr) (origin : Nat), s.ready railEthTime → SettlesTo s (exec (.followUp dt l hdr origin) s)
      ((s.advance dt).followUpRx l hdr origin)) ∧
    (∀ (l : Fin 16) (hdr : PtpHdr), s.ready railEthTime → SettlesTo s (exec (.delayReq dt l hdr) s)
      ((s.advance dt).delayReqRx l hdr)) ∧
    (∀ (l : Fin 16) (hdr : PtpHdr) (receive : Nat) (reqId reqPort : Nat), s.ready railEthTime →
      SettlesTo s (exec (.delayResp dt l hdr receive reqId reqPort) s) ((s.advance dt).delayRespRx l hdr receive reqId reqPort)) ∧
    (∀ (l : Fin 16) (hdr : PtpHdr) (body : AnnounceBody), s.ready railEthTime →
      SettlesTo s (exec (.announce dt l hdr body) s) ((s.advance dt).announceRx l hdr body)) ∧
    (∀ (l : Fin 16), s.ready 0 → SettlesTo s (exec (.announceReceiptTimeout dt l) s) ((s.advance dt).announceLost l)) ∧
    (∀ (l : Fin 16), s.ready railEthTime → SettlesTo s (exec (.syncInterval dt l) s) ((s.advance dt).syncSend l)) ∧
    (∀ (l : Fin 16), s.ready railEthTime → SettlesTo s (exec (.announceInterval dt l) s) ((s.advance dt).announceSend l)) ∧
    (∀ (l : Fin 16), s.ready railEthTime → SettlesTo s (exec (.delayReqInterval dt l) s) ((s.advance dt).delayReqSend l)) ∧
    (s.ready railPinTime → SettlesTo s (exec (.ppsEdge dt) s) ((s.advance dt).ppsEdge)) ∧
    (s.ready 0 → SettlesTo s (exec (.ppsTimeout dt) s) ((s.advance dt).ppsTimeout)) ∧
    (∀ (freq : Nat), s.ready railPinTime → SettlesTo s (exec (.timeRefChange dt freq) s) ((s.advance dt).timeRefChange freq)) ∧
    (s.ready 0 → SettlesTo s (exec (.holdoverExpiry dt) s) ((s.advance dt).holdoverExpiry)) ∧
    (s.ready 0 → SettlesTo s (exec (.timSnap dt) s) ((s.advance dt).setField F.TIM_CMD_SNAP 1)) ∧
    (s.ready 0 → SettlesTo s (exec (.timSet dt) s) ((s.advance dt).setField F.TIM_CMD_SET 1)) ∧
    (∀ (i : Fin 8) (val : Word), s.ready 0 → SettlesTo s (exec (.tpoCtlWrite dt i val) s)
      ((s.advance dt).writeReg (R.TIM_TPO_CTL i) 0xFFFFFFFF val.toNat)) ∧
    (∀ (i : Fin 8), s.ready 0 → SettlesTo s (exec (.tpoEnableTakesEffect dt i) s) ((s.advance dt).tpoEffectDue i)) ∧
    (∀ (i : Fin 8), s.ready railPinTime → SettlesTo s (exec (.tpoEdge dt i) s) ((s.advance dt).tpoEdgeCmd i)) ∧
    (∀ (i : Fin 8), s.ready railPinTime → SettlesTo s (exec (.tpoPulseEnd dt i) s) ((s.advance dt).tpoPulseEnd i)) ∧
    (∀ (i : Fin 8) (rising : Bool), s.ready railPinTime → SettlesTo s (exec (.tciEdge dt i rising) s)
      ((s.advance dt).tciEdge i rising)) ∧
    (∀ (i : Fin 8), s.ready 0 → SettlesTo s (exec (.pop dt i) s) ((s.advance dt).setField (F.TIM_TCI_CMD_POP i) 1)) ∧
    (∀ (g : Fin 64), s.ready 0 → SettlesTo s (exec (.segmentIdle dt g) s) ((s.advance dt).segmentIdle g))

/-- The commands of output and of the memory fabric (spec/09 to spec/11): each answers the state its effect leads to, whenever its block can act. -/
def Obligations.OutputAndMemoryCommandsComplete : Prop :=
  ∀ (s : State) (dt : Nat),
    (∀ (t : Fin 4096), s.ready railCore → SettlesTo s (exec (.bufferWaitResume dt t) s) ((s.advance dt).buildFlow t)) ∧
    (∀ (t : Fin 4096), s.ready railCore → SettlesTo s (exec (.acceptWindowOpen dt t) s) ((s.advance dt).windowOpens t)) ∧
    (∀ (slot : Fin 8192), s.ready railCore → SettlesTo s (exec (.calendarWheelRelease dt slot) s)
      ((s.advance dt).wheelRelease slot)) ∧
    (s.ready railCore → SettlesTo s (exec (.overflowListMove dt) s) ((s.advance dt).overflowMove)) ∧
    (∀ (l : Fin 16) (badBuffer : Bool), s.ready railEth → SettlesTo s (exec (.framePassesToPort dt l badBuffer) s)
      ((s.advance dt).passFrame l badBuffer)) ∧
    (∀ (g : Fin 64), s.ready railCore → SettlesTo s (exec (.segmentDeadline dt g) s) ((s.advance dt).segDeadlines g)) ∧
    (∀ (t : Fin 4096), s.ready railCore → SettlesTo s (exec (.tileConfigRepeat dt t) s) ((s.advance dt).configRepeat t)) ∧
    (∀ (t : Fin 4096), s.ready railCore → SettlesTo s (exec (.tileConfigResend dt t) s) ((s.advance dt).configResend t)) ∧
    (∀ (l : Fin 16) (packet : List Byte) (srcMac : Nat) (srcIp : Nat), s.ready railCore →
      SettlesTo s (exec (.tileStatus dt l packet srcMac srcIp) s) ((s.advance dt).statusRx packet srcMac srcIp)) ∧
    (∀ (t : Fin 4096), s.ready railCore → SettlesTo s (exec (.receiverSilent dt t) s) ((s.advance dt).tileSilent t)) ∧
    (∀ (owner : Fin 29) (addr : Nat) (data : Option (List Byte)), s.ready railMem →
      SettlesTo s (exec (.dramRequest dt owner addr data) s) ((s.advance dt).dramRequest owner addr data)) ∧
    (∀ (ch : Fin 8) (ready : BitVec 32), s.ready railMem → SettlesTo s (exec (.dramIssue dt ch ready) s)
      ((s.advance dt).dramIssue ch ready.toNat)) ∧
    (∀ (ch : Fin 8) (error : Fin 3) (link : Bool), s.ready railMem → SettlesTo s (exec (.dramReadReturn dt ch error link) s)
      ((s.advance dt).readReturn ch error link)) ∧
    (∀ (owner : Fin 29) (fill : Fin 65), s.ready railMem → SettlesTo s (exec (.panicChange dt owner fill) s)
      ((s.advance dt).panicChange owner fill)) ∧
    (∀ (ch : Fin 8), s.ready railMem → SettlesTo s (exec (.refreshDue dt ch) s) ((s.advance dt).refreshDue ch)) ∧
    (∀ (ch : Fin 8) (temp : Int), s.ready railMem → SettlesTo s (exec (.retrainDue dt ch temp) s)
      ((s.advance dt).retrainDue ch temp)) ∧
    (s.ready railMem → SettlesTo s (exec (.retrainStepDone dt) s) ((s.advance dt).retrainStepDone)) ∧
    (∀ (ch : Fin 8), s.ready railMem → SettlesTo s (exec (.retrainOverdue dt ch) s) ((s.advance dt).retrainOverdue ch)) ∧
    (∀ (a : Fin 25) (requests : BitVec 32), s.ready railCore → SettlesTo s (exec (.arbGrant dt a requests) s)
      ((s.advance dt).grantCmd a requests.toNat)) ∧
    (∀ (a : Fin 25) (requests : BitVec 32), s.ready railCore → SettlesTo s (exec (.arbHoldCutoff dt a requests) s)
      ((s.advance dt).cutoffCmd a requests.toNat)) ∧
    (∀ (a : Fin 25) (on : Bool), s.ready railCore → SettlesTo s (exec (.freeze dt a on) s)
      ((s.advance dt).setField (F.ARB_CTL_FREEZE a) (if on then 1 else 0)))

/-- The commands of the control plane (spec/12): each answers the state its effect leads to, whenever its block can act. -/
def Obligations.ControlCommandsComplete : Prop :=
  ∀ (s : State) (dt : Nat),
    (∀ (port : Fin 16) (peer : Peer) (nonce eph : List Byte) (cert : Cert), s.ready railCore →
      SettlesTo s (exec (.hello dt port peer nonce eph cert) s) (((s.advance dt).consumeRx (ownSession 0)).hello port peer nonce eph cert)) ∧
    (∀ (slot : Fin 16) (sig : List Byte), s.ready railCore → SettlesTo s (exec (.finish dt slot sig) s)
      ((((s.advance dt).heard slot).consumeRx (ownSession slot)).finish slot sig)) ∧
    (∀ (slot : Fin 16), s.ready railCore → SettlesTo s (exec (.setupTimeout dt slot) s) ((s.advance dt).setupTimeout slot)) ∧
    (∀ (slot : Fin 16) (seq : Nat) (auth : Bool) (malformed : Option Malformed), s.ready railCore →
      SettlesTo s (exec (.close dt slot seq auth malformed) s) ((s.advance dt).sessMsg slot seq auth (.own (closeMsg malformed)))) ∧
    (∀ (slot : Fin 16), s.ready railCore → SettlesTo s (exec (.sessionCloseCmd dt slot) s)
      ((s.advance dt).setField (F.SEC_SESS_CMD_CLOSE slot) 1)) ∧
    (∀ (slot : Fin 16), s.ready railCore → SettlesTo s (exec (.sessionIdleTimeout dt slot) s) ((s.advance dt).sessIdle slot)) ∧
    (∀ (slot : Fin 16) (seq : Nat) (auth : Bool) (addr count : Nat) (app : List (Option Nat)), s.ready railCore →
      SettlesTo s (exec (.read dt slot seq auth addr count app) s) ((s.advance dt).sessMsg slot seq auth (.own (.read addr count app)))) ∧
 
        (∀ (slot : Fin 16) (seq : Nat) (auth : Bool) (addr : Nat) (words : List Word) (app : List (Option Nat)), s.ready railCore → SettlesTo s (exec (.write dt slot seq auth addr words app) s) ((s.advance dt).sessMsg slot seq auth (.own (.write addr (words.map BitVec.toNat) app)))) ∧
    (∀ (off : Nat) (mask val : Word), s.ready railCore → SettlesTo s (exec (.registerWrite dt off mask val) s)
      ((s.advance dt).writeReg off mask.toNat val.toNat)) ∧
    (∀ (slot : Fin 16) (seq : Nat) (auth : Bool) (addr : Nat) (mask val : Word), s.ready railCore →
      SettlesTo s (exec (.maskedWrite dt slot seq auth addr mask val) s) ((s.advance dt).sessMsg slot seq auth (.own (.maskedWrite addr mask.toNat val.toNat)))) ∧
    (∀ (slot : Fin 16) (seq : Nat) (auth : Bool) (ring index : Nat) (entries : List (List Byte)), s.ready railCore →
      SettlesTo s (exec (.ringWrite dt slot seq auth ring index entries) s) ((s.advance dt).sessMsg slot seq auth (.own (.ringWrite ring index entries)))) ∧
    (∀ (slot : Fin 16) (seq : Nat) (auth : Bool) (ring tail : Nat), s.ready railCore →
      SettlesTo s (exec (.doorbell dt slot seq auth ring tail) s) ((s.advance dt).sessMsg slot seq auth (.own (.doorbell ring tail)))) ∧
    (∀ (slot : Fin 16) (seq : Nat) (auth : Bool) (leaseMs : Nat), s.ready railCore →
      SettlesTo s (exec (.lock dt slot seq auth leaseMs) s) ((s.advance dt).sessMsg slot seq auth (.own (.lock leaseMs)))) ∧
    (∀ (slot : Fin 16) (seq : Nat) (auth : Bool) (entries : List RegEntry), s.ready railCore →
      SettlesTo s (exec (.stage dt slot seq auth entries) s) ((s.advance dt).sessMsg slot seq auth (.own (.stage entries)))) ∧
    (∀ (slot : Fin 16) (seq : Nat) (auth : Bool) (lantern : Option (List Byte)), s.ready railCore →
      SettlesTo s (exec (.commit dt slot seq auth lantern) s) ((s.advance dt).sessMsg slot seq auth (.own (.commit lantern)))) ∧
    (∀ (slot : Fin 16) (seq : Nat) (auth : Bool), s.ready railCore → SettlesTo s (exec (.unlock dt slot seq auth) s)
      ((s.advance dt).sessMsg slot seq auth (.own .unlock))) ∧
    (s.ready railCore → SettlesTo s (exec (.leaseExpiry dt) s) ((s.advance dt).leaseExpiry)) ∧
    (∀ (slot : Fin 16), s.ready railCore → SettlesTo s (exec (.seqGapTimer dt slot) s) ((s.advance dt).gapTimer slot)) ∧
    (∀ (slot : Fin 16) (seq : Nat) (auth : Bool) (kind record : Nat) (data : List Byte), s.ready railCore →
      SettlesTo s (exec (.persist dt slot seq auth kind record data) s) ((s.advance dt).sessMsg slot seq auth (.own (.persist kind record data)))) ∧
    (∀ (slot : Fin 16) (seq : Nat) (auth : Bool) (nonce : List Byte), s.ready railCore →
      SettlesTo s (exec (.attest dt slot seq auth nonce) s) ((s.advance dt).sessMsg slot seq auth (.own (.attest nonce)))) ∧
    (∀ (slot : Fin 16) (seq : Nat) (auth : Bool) (device : Nat) (msg : Msg), s.ready railCore →
      SettlesTo s (exec (.gangRelay dt slot seq auth device msg) s) ((s.advance dt).sessMsg slot seq auth (.relay device msg))) ∧
    (∀ (sink : Fin 16), s.ready railCore → SettlesTo s (exec (.eventMessage dt sink) s) ((s.advance dt).eventMessage sink))

/-- The commands of rings, queues and DMA (spec/13, spec/14): each answers the state its effect leads to, whenever its block can act. -/
def Obligations.RingAndDmaCommandsComplete : Prop :=
  ∀ (s : State) (dt : Nat),
    (∀ (r : Fin 1024), s.ready railCore → SettlesTo s (exec (.ringEnable dt r) s)
      ((s.advance dt).setField (F.RNG_RING_CTL_EN r) 1)) ∧
    (∀ (r : Fin 1024), s.ready railCore → SettlesTo s (exec (.ringDisable dt r) s)
      ((s.advance dt).setField (F.RNG_RING_CTL_EN r) 0)) ∧
    (∀ (r : Fin 1024) (val : Word), s.ready railCore → SettlesTo s (exec (.ringHeadWrite dt r val) s)
      ((s.advance dt).writeReg (R.RNG_RING_HEAD r) 0xFFFFFFFF val.toNat)) ∧
    (∀ (r : Fin 1024) (readOk : Bool), s.ready railCore → SettlesTo s (exec (.ringNop dt r readOk) s)
      ((s.advance dt).ringEntry r readOk (fun op => decide (op ≠ 1 ∧ op ≠ 2)))) ∧
    (∀ (r : Fin 1024) (readOk : Bool), s.ready railCore → SettlesTo s (exec (.runInline dt r readOk) s)
      ((s.advance dt).ringEntry r readOk (fun op => decide (op = 1)))) ∧
    (∀ (r : Fin 1024) (readOk : Bool), s.ready railCore → SettlesTo s (exec (.runChain dt r readOk) s)
      ((s.advance dt).ringEntry r readOk (fun op => decide (op = 2)))) ∧
    (∀ (n : Fin 4096), s.ready railCore → SettlesTo s (exec (.dmaEnable dt n) s)
      ((s.advance dt).setField (F.DMA_CH_CTL_EN n) 1)) ∧
    (∀ (n : Fin 4096), s.ready railCore → SettlesTo s (exec (.dmaDisable dt n) s)
      ((s.advance dt).setField (F.DMA_CH_CTL_EN n) 0)) ∧
    (∀ (n : Fin 4096), s.ready railCore → SettlesTo s (exec (.halt dt n) s) ((s.advance dt).setField (F.DMA_CH_CMD_HALT n) 1)) ∧
    (∀ (n : Fin 4096), s.ready railCore → SettlesTo s (exec (.resume dt n) s)
      ((s.advance dt).setField (F.DMA_CH_CMD_RESUME n) 1)) ∧
    (∀ (n : Fin 4096), s.ready railCore → SettlesTo s (exec (.arm dt n) s)
      ((s.advance dt).setField (F.DMA_CH_SHD_CTL_ARM n) 1)) ∧
    (∀ (n : Fin 4096) (readOk : Bool) (bad : Option Nat), s.ready railMem →
      SettlesTo s (exec (.descriptorFetched dt n readOk bad) s) ((s.advance dt).descFetched n readOk bad)) ∧
    (∀ (n : Fin 4096), s.ready railMem → SettlesTo s (exec (.descriptorRetired dt n) s) ((s.advance dt).descDone n)) ∧
    (∀ (line : Fin 272), s.ready railCore → SettlesTo s (exec (.requestLine dt line) s) ((s.advance dt).requestCmd line)) ∧
    (∀ (n : Fin 4096), s.ready railCore → SettlesTo s (exec (.dmaFrameBuilt dt n) s) ((s.advance dt).frameBuilt n)) ∧
    (∀ (n : Fin 4096), s.ready railCore → SettlesTo s (exec (.dmaChannelIdle dt n) s) ((s.advance dt).dmaIdle n)) ∧
    (∀ (n : Fin 4096) (data : List Word), s.ready railPin → SettlesTo s (exec (.appTransaction dt n data) s)
      ((s.advance dt).appTransfer n data)) ∧
    (∀ (n : Fin 4096), s.ready railPin → SettlesTo s (exec (.appTimeout dt n) s) ((s.advance dt).appTimeout n)) ∧
    (∀ (k : Fin 16), s.ready railPin → SettlesTo s (exec (.appDreq dt k) s) ((s.advance dt).dreqRise k)) ∧
    (∀ (k : Fin 16), s.ready railPin → SettlesTo s (exec (.appDreqFall dt k) s) ((s.advance dt).dreqFall k))

/-- The commands of the Almanac and the control stores (spec/15): each answers the state its effect leads to, whenever its block can act. -/
def Obligations.AlmanacCommandsComplete : Prop :=
  ∀ (s : State) (dt : Nat),
    (∀ (q : Fin 4), s.ready railCore → SettlesTo s (exec (.almEnable dt q) s)
      ((s.advance dt).setField (F.ALM_SEQ_CTL_EN q) 1)) ∧
    (∀ (q : Fin 4), s.ready railCore → SettlesTo s (exec (.almDisable dt q) s)
      ((s.advance dt).setField (F.ALM_SEQ_CTL_EN q) 0)) ∧
    (∀ (store : Fin 4) (word : Fin 8192) (i : Fin 4) (val : Word), s.ready railCore →
      SettlesTo s (exec (.almStoreWrite dt store word i val) s) (((s.advance dt).storeWrite store word i 0xFFFFFFFF val.toNat).2)) ∧
    (∀ (q : Fin 4), s.ready railCore → SettlesTo s (exec (.nop dt q) s) ((s.advance dt).almOp q 0)) ∧
    (∀ (q : Fin 4), s.ready railCore → SettlesTo s (exec (.wri dt q) s) ((s.advance dt).almOp q 1)) ∧
    (∀ (q : Fin 4), s.ready railCore → SettlesTo s (exec (.wrg dt q) s) ((s.advance dt).almOp q 2)) ∧
    (∀ (q : Fin 4), s.ready railCore → SettlesTo s (exec (.rdg dt q) s) ((s.advance dt).almOp q 3)) ∧
    (∀ (q : Fin 4), s.ready railCore → SettlesTo s (exec (.ldi dt q) s) ((s.advance dt).almOp q 4)) ∧
    (∀ (q : Fin 4), s.ready railCore → SettlesTo s (exec (.addi dt q) s) ((s.advance dt).almOp q 5)) ∧
    (∀ (q : Fin 4), s.ready railCore → SettlesTo s (exec (.addg dt q) s) ((s.advance dt).almOp q 6)) ∧
    (∀ (q : Fin 4), s.ready railCore → SettlesTo s (exec (.andi dt q) s) ((s.advance dt).almOp q 7)) ∧
    (∀ (q : Fin 4), s.ready railCore → SettlesTo s (exec (.cmp dt q) s) ((s.advance dt).almOp q 8)) ∧
    (∀ (q : Fin 4), s.ready railCore → SettlesTo s (exec (.tnow dt q) s) ((s.advance dt).almOp q 9)) ∧
    (∀ (q : Fin 4), s.ready railCore → SettlesTo s (exec (.tset dt q) s) ((s.advance dt).almOp q 10)) ∧
    (∀ (q : Fin 4), s.ready railCore → SettlesTo s (exec (.tadd dt q) s) ((s.advance dt).almOp q 11)) ∧
    (∀ (q : Fin 4), s.ready railCore → SettlesTo s (exec (.tseg dt q) s) ((s.advance dt).almOp q 12)) ∧
    (∀ (q : Fin 4), s.ready railCore → SettlesTo s (exec (.post dt q) s) ((s.advance dt).almOp q 13)) ∧
    (∀ (q : Fin 4), s.ready railCore → SettlesTo s (exec (.cqpop dt q) s) ((s.advance dt).almOp q 14)) ∧
    (∀ (q : Fin 4), s.ready railCore → SettlesTo s (exec (.raise dt q) s) ((s.advance dt).almOp q 15)) ∧
    (∀ (q : Fin 4), s.ready railCore → SettlesTo s (exec (.dreq dt q) s) ((s.advance dt).almOp q 16)) ∧
    (∀ (q : Fin 4), s.ready railCore → SettlesTo s (exec (.almTimeWaitEnd dt q) s) ((s.advance dt).almTimeWait q)) ∧
    (∀ (mask : Word), s.ready railCore → SettlesTo s (exec (.almHsSet dt mask) s)
      ((s.advance dt).writeReg R.ALM_HS_SET 0xFFFFFFFF mask.toNat)) ∧
    (∀ (mask : Word), s.ready railCore → SettlesTo s (exec (.almHsClr dt mask) s)
      ((s.advance dt).writeReg R.ALM_HS_CLR 0xFFFFFFFF mask.toNat)) ∧
    (∀ (store : Fin 20) (word : Fin 8192) (double : Bool), s.ready railCore →
      SettlesTo s (exec (.storeScrub dt store word double) s) ((s.advance dt).storeScrub store word double))

/-- The commands of events, faults, the supply and the pace monitors (spec/16, spec/17): each answers the state its effect leads to, whenever its block can act. -/
def Obligations.EventAndSupplyCommandsComplete : Prop :=
  ∀ (s : State) (dt : Nat),
    (s.ready railCore → SettlesTo s (exec (.deliveryAttempt dt) s) ((s.advance dt).deliveryAttempt)) ∧
    (∀ (tgt : Fin 8), s.ready railCore → SettlesTo s (exec (.eventRingWrite dt tgt) s) ((s.advance dt).eventRingWrite tgt)) ∧
    (∀ (tgt : Fin 8) (val : Word), s.ready railCore → SettlesTo s (exec (.eventRingHeadWrite dt tgt val) s)
      ((s.advance dt).writeReg (R.EVT_TGT_RING_HEAD tgt) 0xFFFFFFFF val.toNat)) ∧
    (∀ (n : Fin 1024) (val : Word), s.ready railCore → SettlesTo s (exec (.eventRouteWrite dt n val) s)
      ((s.advance dt).writeReg (R.EVT_SRC_ROUTE n) 0xFFFFFFFF val.toNat)) ∧
    (∀ (n : Fin 256), s.ready 0 → SettlesTo s (exec (.faultStatusClear dt n) s)
      ((s.advance dt).setField (F.FLT_SRC_STAT_STATUS n) 1)) ∧
    (∀ (c : Fin 4), s.ready 0 → SettlesTo s (exec (.returnPipe dt c) s)
      ((s.advance dt).writeReg R.FLT_RETIRED_PIPES (2 ^ c.val) (2 ^ c.val))) ∧
    (∀ (l : Fin 16), s.ready 0 → SettlesTo s (exec (.returnPort dt l) s)
      ((s.advance dt).writeReg R.FLT_RETIRED_PORTS (2 ^ l.val) (2 ^ l.val))) ∧
    (∀ (m : Fin 32), s.ready 0 → SettlesTo s (exec (.returnMover dt m) s)
      ((s.advance dt).writeReg R.FLT_RETIRED_MOVERS (2 ^ m.val) (2 ^ m.val))) ∧
    (∀ (double : Bool) (unit : BitVec 16), s.ready 0 → SettlesTo s (exec (.sramError dt double unit) s)
      ((s.advance dt).sramError double unit.toNat)) ∧
    (∀ (periods : List (Option Nat)), s.ready 0 → SettlesTo s (exec (.paceMeasurement dt periods) s)
      ((s.advance dt).paceMeasurement periods)) ∧
    (s.ready 0 → SettlesTo s (exec (.paceMonitorStale dt) s) ((s.advance dt).paceStale)) ∧
    (s.ready 0 → SettlesTo s (exec (.avsDecision dt) s) ((s.advance dt).avsDecision)) ∧
    (∀ (ok : Bool), s.ready 0 → SettlesTo s (exec (.avsFrameDone dt ok) s) ((s.advance dt).avsFrameDone ok)) ∧
    (∀ (volts amps : Nat) (ok : Bool), s.ready 0 → SettlesTo s (exec (.avsReadback dt volts amps ok) s)
      ((s.advance dt).avsReadback volts amps ok)) ∧
    (s.ready 0 → SettlesTo s (exec (.avsCeiling dt) s) ((s.advance dt).avsCeiling)) ∧
    (s.ready 0 → SettlesTo s (exec (.paceBelowRating dt) s) ((s.advance dt).paceBelow)) ∧
    (∀ (temps : List (Option Int)), s.ready 0 → SettlesTo s (exec (.tempUpdate dt temps) s) ((s.advance dt).tempUpdate temps)) ∧
    (s.ready 0 → SettlesTo s (exec (.tempSensorStale dt) s) ((s.advance dt).tempStale))

/-- The commands of resets, start-up and the NVM (spec/18): each answers the state its effect leads to, whenever its block can act. -/
def Obligations.StartupCommandsComplete : Prop :=
  ∀ (s : State) (dt : Nat),
    (s.ready 0 → SettlesTo s (exec (.sysrstNLow dt) s) ((s.advance dt).sysrstFall)) ∧
    (s.ready railCore → SettlesTo s (exec (.warm dt) s) ((s.advance dt).setField F.GLB_RST_CMD_WARM 1)) ∧
    (s.ready 0 → SettlesTo s (exec (.warmResetDelayExpiry dt) s) ((s.advance dt).warmDelay)) ∧
    (∀ (rail : Fin 7), s.ready 0 → SettlesTo s (exec (.railOutOfRange dt rail) s) ((s.advance dt).railOut rail)) ∧
    (∀ (rail : Fin 7), s.ready 0 → SettlesTo s (exec (.railBackInRange dt rail) s) ((s.advance dt).railBack rail)) ∧
    (∀ (p : Fin 4), s.ready 0 → SettlesTo s (exec (.refclkEthLost dt p) s) ((s.advance dt).ethClkLost p)) ∧
    (∀ (p : Fin 4), s.ready 0 → SettlesTo s (exec (.refclkEthReturn dt p) s) ((s.advance dt).ethClkBack p)) ∧
    (s.ready railCore → SettlesTo s (exec (.fusesRead dt) s) ((s.advance dt).fusesRead)) ∧
    (∀ (cs0 cs1 : Option (Nat × Nat)), s.ready railCore → SettlesTo s (exec (.selectDone dt cs0 cs1) s)
      ((s.advance dt).selectDone cs0 cs1)) ∧
    (∀ (readOk fuseOk : Bool), s.ready railCore → SettlesTo s (exec (.verifyDone dt readOk fuseOk) s)
      ((s.advance dt).verifyDone readOk fuseOk)) ∧
    (∀ (readOk : Bool), s.ready railCore → SettlesTo s (exec (.loadDone dt readOk) s) ((s.advance dt).loadDone readOk)) ∧
    (∀ (pass : BitVec 8), s.ready railMem → SettlesTo s (exec (.dramTrainingDone dt pass) s)
      ((s.advance dt).trainingDone pass.toNat)) ∧
    (∀ (readOk : Bool) (badCurves : List Nat), s.ready railMem → SettlesTo s (exec (.blobsDone dt readOk badCurves) s)
      ((s.advance dt).blobsDone readOk badCurves)) ∧
    (s.ready railCore → SettlesTo s (exec (.runEntry dt) s) ((s.advance dt).runEntry)) ∧
    (s.ready railCore → SettlesTo s (exec (.recordWriteStart dt) s) ((s.advance dt).recWriteStart)) ∧
    (∀ (ok : Bool), s.ready railCore → SettlesTo s (exec (.recordWriteDone dt ok) s) ((s.advance dt).recWriteDone ok)) ∧
    (s.ready railCore → SettlesTo s (exec (.logWriteStart dt) s) ((s.advance dt).logWrite)) ∧
    (s.ready railCore → SettlesTo s (exec (.erase dt) s) ((s.advance dt).nvmOpCmd 1)) ∧
    (s.ready railCore → SettlesTo s (exec (.program dt) s) ((s.advance dt).nvmOpCmd 2)) ∧
    (s.ready railCore → SettlesTo s (exec (.nvmRead dt) s) ((s.advance dt).nvmOpCmd 3)) ∧
    (s.ready railCore → SettlesTo s (exec (.nvmCommit dt) s) ((s.advance dt).nvmOpCmd 4)) ∧
    (∀ (ok : Bool), s.ready railCore → SettlesTo s (exec (.nvmOpDone dt ok) s) ((s.advance dt).nvmDone ok)) ∧
    (s.ready railCore → SettlesTo s (exec (.recordRead dt) s) ((s.advance dt).setField F.NVM_REC_CMD_READ 1)) ∧
    (∀ (ok : Bool), s.ready railCore → SettlesTo s (exec (.recordReadDone dt ok) s) ((s.advance dt).recReadDone ok))

/-- The commands of security and of gangs (spec/19, spec/20): each answers the state its effect leads to, whenever its block can act. -/
def Obligations.SecurityAndGangCommandsComplete : Prop :=
  ∀ (s : State) (dt : Nat),
    (s.ready railCore → SettlesTo s (exec (.attestReportReady dt) s) ((s.advance dt).attestReady)) ∧
    (s.ready railCore → SettlesTo s (exec (.keyLoad dt) s) ((s.advance dt).setField F.SEC_KEY_LOAD_LOAD 1)) ∧
    (s.ready railCore → SettlesTo s (exec (.advance dt) s) ((s.advance dt).setField F.SEC_FUSE_CMD_ADVANCE 1)) ∧
    (∀ (ok : Bool), s.ready railCore → SettlesTo s (exec (.fuseStepDone dt ok) s) ((s.advance dt).fuseStep ok)) ∧
    (s.ready railCore → SettlesTo s (exec (.openDebug dt) s) ((s.advance dt).setField F.SEC_DBG_CMD_OPEN 1)) ∧
    (s.ready railCore → SettlesTo s (exec (.debugAccessOpened dt) s) ((s.advance dt).dbgOpened)) ∧
    (∀ (peer : Fin 64) (linkId : Nat) (nonce eph idPub sig : List Byte), s.ready railCore →
      SettlesTo s (exec (.gangAccept dt peer linkId nonce eph idPub sig) s) ((s.advance dt).gangAccept peer linkId nonce eph idPub sig)) ∧
    (∀ (peer : Fin 64), s.ready railCore → SettlesTo s (exec (.gangAcceptSend dt peer) s)
      ((s.advance dt).gangAcceptSend peer)) ∧
    (∀ (peer : Fin 64) (seq reqId : Nat) (auth : Bool) (hostId slot : Nat) (msg : Msg), s.ready railCore →
      SettlesTo s (exec (.relayReq dt peer seq reqId auth hostId slot msg) s) ((s.advance dt).relayReq peer seq reqId auth hostId slot msg)) ∧
    (∀ (peer : Fin 64) (seq reqId : Nat) (auth : Bool) (status done : Nat) (data : List Byte), s.ready railCore →
      SettlesTo s (exec (.relayReply dt peer seq reqId auth status done data) s) ((s.advance dt).relayReply peer seq reqId auth status done data)) ∧
    (∀ (peer : Fin 64), s.ready railCore → SettlesTo s (exec (.relayRetry dt peer) s) ((s.advance dt).relayRetry peer)) ∧
    (∀ (peer : Fin 64) (seq : Nat) (auth : Bool) (slot : Nat), s.ready railCore →
      SettlesTo s (exec (.sessionEnd dt peer seq auth slot) s) ((s.advance dt).sessionEnd peer seq auth slot)) ∧
    (∀ (peer : Fin 64) (seq : Nat) (auth : Bool) (body : KaBody), s.ready railCore →
      SettlesTo s (exec (.keepalive dt peer seq auth body) s) ((s.advance dt).keepaliveRx peer seq auth body)) ∧
    (∀ (peer : Fin 64), s.ready railCore → SettlesTo s (exec (.keepaliveSend dt peer) s) ((s.advance dt).keepaliveSend peer)) ∧
    (∀ (peer : Fin 64), s.ready railCore → SettlesTo s (exec (.peerLost dt peer) s) ((s.advance dt).peerLost peer))

/-- The commands of the pins (spec/21): each answers the state its effect leads to, whenever its block can act. -/
def Obligations.PinCommandsComplete : Prop :=
  ∀ (s : State) (dt : Nat),
    (∀ (shiftIn : List Bool), s.tapReady → exec (.extest dt shiftIn) s = .next (((s.timed dt).extest shiftIn).keepOutside s)) ∧
    (∀ (pins : List Bool) (shiftIn : List Bool), s.tapReady →
      exec (.samplePreload dt pins shiftIn) s = .next (((s.timed dt).samplePreload pins shiftIn).keepOutside s)) ∧
    (s.tapReady → exec (.idcode dt) s = .next (((s.timed dt).idcode).keepOutside s)) ∧
    (s.tapReady → exec (.highz dt) s = .next (((s.timed dt).bypassScan 3 true).keepOutside s)) ∧
    (s.tapReady → exec (.clamp dt) s = .next (((s.timed dt).bypassScan 4 true).keepOutside s)) ∧
    (∀ (shiftIn : BitVec 49), s.tapReady →
      exec (.secreg dt shiftIn) s = .next (((s.timed dt).secregCmd shiftIn).keepOutside s)) ∧
    (∀ (bit : Bool), s.tapReady → exec (.bypass dt bit) s = .next (((s.timed dt).tapBypass bit).keepOutside s)) ∧
    (∀ (g : Fin 16) (high : Bool), s.ready railPin → SettlesTo s (exec (.gpioEdge dt g high) s)
      ((s.advance dt).gpioEdge g high)) ∧
    (s.tapReady → exec (.testLogicReset dt) s = .next (((s.timed dt).tapReset).keepOutside s))

/-- The levels of PORST_N, VAON, SYSRST_N and the memory clock act at once, whatever the rails, and each of these commands
answers a next state in every state: a low PORST_N, a lost VAON and a lost memory clock leave every block at reset with the
fuses, the NVM devices and the pins as they were, a released PORST_N starts the device from there, and a SYSRST_N that returns
high or a memory clock that returns ends its reset, from which start-up time counts (R462, R541, R543). -/
def Obligations.ResetLevelsAct : Prop :=
  ∀ (s : State) (dt : Nat),
    let kept := fun t : State => t.AtReset ∧ t.fuse = s.fuse ∧ t.nvm.cs0 = s.nvm.cs0 ∧ t.nvm.cs1 = s.nvm.cs1 ∧ t.pin = s.pin
    (let t := (s.advance dt).porstLow
     exec (.porstNLow dt) s = .next t ∧ kept t ∧ t.nvm.held = true) ∧
    (let t := (s.advance dt).coldReset.keepOutside s
     exec (.vaonLow dt) s = .next t ∧ kept t ∧ t.nvm.held = s.nvm.held) ∧
    (let t := (s.advance dt).memClkLoss.keepOutside s
     exec (.refclkMemLost dt) s = .next t ∧ kept t ∧ t.nvm.held = s.nvm.held ∧ t.nvm.memClkLost = true) ∧
    (let t := (s.advance dt).porstRelease
     exec (.porstNRelease dt) s = .next t ∧ (s.nvm.held = true → kept t ∧ t.nvm.held = false) ∧
       (s.nvm.held = false → t = s.advance dt)) ∧
    (let t := { s.timed dt with nvm := { s.nvm with sysrstLow := false, bootAt := (s.timed dt).tim.elapsed } }
     exec (.sysrstNHigh dt) s = .next (if s.nvm.sysrstLow then t else s.timed dt)) ∧
    (let t := { s.timed dt with nvm := { s.nvm with memClkLost := false, bootAt := (s.timed dt).tim.elapsed } }
     exec (.refclkMemReturn dt) s = .next (if s.nvm.memClkLost then t else s.timed dt))
end

