-- ==== Sys2Proof/Laws/Word.lean ====
section
/-! SUPPORT. Laws of the sparse map in canonical form, of bit fields, and of byte strings. -/

namespace Sys2Proof

variable {α : Type}

/-! ### Rising keys -/

/-- A rising map stays rising above any smaller bound. -/
theorem SMap.rising_mono : ∀ (m : SMap α) (i j : Nat), i ≤ j → SMap.rising (some j) m = true → SMap.rising (some i) m = true
  | [], _, _, _, _ => rfl
  | (k, w) :: r, i, j, hij, h => by
    simp only [SMap.rising, Bool.and_eq_true, decide_eq_true_eq] at h ⊢
    exact ⟨by omega, h.2⟩

theorem SMap.rising_none : ∀ (m : SMap α) (i : Nat), SMap.rising (some i) m = true → SMap.rising none m = true
  | [], _, _ => rfl
  | (k, w) :: r, i, h => by
    simp only [SMap.rising, Bool.and_eq_true] at h ⊢
    exact h.2

theorem SMap.rising_del : ∀ (m : SMap α) (b k : Nat), SMap.rising (some b) m = true → SMap.rising (some b) (SMap.del k m) = true
  | [], _, _, _ => rfl
  | (j, w) :: r, b, k, h => by
    simp only [SMap.rising, Bool.and_eq_true, decide_eq_true_eq] at h
    unfold SMap.del
    split
    · exact SMap.rising_del r b k (SMap.rising_mono r b j (by omega) h.2)
    · simp only [SMap.rising, Bool.and_eq_true, decide_eq_true_eq]
      exact ⟨h.1, SMap.rising_del r j k h.2⟩

theorem SMap.rising_ins : ∀ (m : SMap α) (b k : Nat) (v : α), SMap.rising (some b) m = true → b < k →
    SMap.rising (some b) (SMap.ins k v m) = true
  | [], b, k, v, _, hb => by simp [SMap.ins, SMap.rising, hb]
  | (j, w) :: r, b, k, v, h, hb => by
    simp only [SMap.rising, Bool.and_eq_true, decide_eq_true_eq] at h
    unfold SMap.ins
    split
    · next e => subst e; simp [SMap.rising, h]
    · split
      · next e => simp [SMap.rising, hb, e, h.2]
      · simp only [SMap.rising, Bool.and_eq_true, decide_eq_true_eq]
        exact ⟨h.1, SMap.rising_ins r j k v h.2 (by omega)⟩

theorem SMap.rising_none_del : ∀ (m : SMap α) (k : Nat), SMap.rising none m = true → SMap.rising none (SMap.del k m) = true
  | [], _, _ => rfl
  | (j, w) :: r, k, h => by
    simp only [SMap.rising] at h
    unfold SMap.del
    split
    · exact SMap.rising_none_del r k (SMap.rising_none r j h)
    · simpa only [SMap.rising] using SMap.rising_del r j k h

theorem SMap.rising_none_ins : ∀ (m : SMap α) (k : Nat) (v : α), SMap.rising none m = true → SMap.rising none (SMap.ins k v m) = true
  | [], _, _, _ => rfl
  | (j, w) :: r, k, v, h => by
    simp only [SMap.rising] at h
    unfold SMap.ins
    split
    · next e => subst e; simpa [SMap.rising] using h
    · split
      · next e => simp [SMap.rising, h, e]
      · simpa only [SMap.rising] using SMap.rising_ins r j k v h (by omega)

/-! ### Reading after writing: for every map, rising or not -/

theorem SMap.get_ins_same (d : Nat → α) : ∀ (m : SMap α) (k : Nat) (v : α), SMap.get d (SMap.ins k v m) k = v
  | [], k, v => by simp [SMap.ins, SMap.get]
  | (j, w) :: r, k, v => by
    unfold SMap.ins
    split
    · simp [SMap.get]
    · split
      · simp [SMap.get]
      · simp_all [SMap.get, SMap.get_ins_same d r k v]

theorem SMap.get_ins_other (d : Nat → α) : ∀ (m : SMap α) (k q : Nat) (v : α), q ≠ k →
    SMap.get d (SMap.ins k v m) q = SMap.get d m q
  | [], k, q, v, h => by simp [SMap.ins, SMap.get, Ne.symm h]
  | (j, w) :: r, k, q, v, h => by
    unfold SMap.ins
    split
    · next e => subst e; simp [SMap.get, Ne.symm h]
    · split
      · simp [SMap.get, Ne.symm h]
      · simp only [SMap.get, SMap.get_ins_other d r k q v h]

theorem SMap.get_del_same (d : Nat → α) : ∀ (m : SMap α) (k : Nat), SMap.get d (SMap.del k m) k = d k
  | [], _ => rfl
  | (j, w) :: r, k => by
    unfold SMap.del
    split
    · exact SMap.get_del_same d r k
    · next e => simp [SMap.get, e, SMap.get_del_same d r k]

theorem SMap.get_del_other (d : Nat → α) : ∀ (m : SMap α) (k q : Nat), q ≠ k → SMap.get d (SMap.del k m) q = SMap.get d m q
  | [], _, _, _ => rfl
  | (j, w) :: r, k, q, hq => by
    unfold SMap.del
    split
    · next e => subst e; simp [SMap.get, Ne.symm hq, SMap.get_del_other d r j q hq]
    · simp only [SMap.get, SMap.get_del_other d r k q hq]

theorem SMap.mem_del : ∀ (m : SMap α) (k : Nat) (p : Nat × α), p ∈ SMap.del k m → p ∈ m
  | [], _, _, h => h
  | (j, w) :: r, k, p, h => by
    unfold SMap.del at h
    split at h
    · exact List.mem_cons_of_mem _ (SMap.mem_del r k p h)
    · rcases List.mem_cons.mp h with e | e
      · exact e ▸ List.mem_cons_self
      · exact List.mem_cons_of_mem _ (SMap.mem_del r k p e)

theorem SMap.mem_ins : ∀ (m : SMap α) (k : Nat) (v : α) (p : Nat × α), p ∈ SMap.ins k v m → p = (k, v) ∨ p ∈ m
  | [], k, v, p, h => by simp only [SMap.ins, List.mem_singleton] at h; exact .inl h
  | (j, w) :: r, k, v, p, h => by
    unfold SMap.ins at h
    split at h
    · rcases List.mem_cons.mp h with e | e
      · exact .inl e
      · exact .inr (List.mem_cons_of_mem _ e)
    · split at h
      · rcases List.mem_cons.mp h with e | e
        · exact .inl e
        · exact .inr e
      · rcases List.mem_cons.mp h with e | e
        · exact .inr (e ▸ List.mem_cons_self)
        · rcases SMap.mem_ins r k v p e with e | e
          · exact .inl e
          · exact .inr (List.mem_cons_of_mem _ e)

variable [DecidableEq α]

/-- What is written is what is read. -/
@[simp] theorem SMap.get_set_same (d : Nat → α) (m : SMap α) (k : Nat) (v : α) : SMap.get d (SMap.set d m k v) k = v := by
  unfold SMap.set
  split
  · next e => rw [SMap.get_del_same d m k, e]
  · exact SMap.get_ins_same d m k v

/-- A write leaves every other key alone. -/
theorem SMap.get_set_other (d : Nat → α) (m : SMap α) (k q : Nat) (v : α) (hq : q ≠ k) :
    SMap.get d (SMap.set d m k v) q = SMap.get d m q := by
  unfold SMap.set
  split
  · exact SMap.get_del_other d m k q hq
  · exact SMap.get_ins_other d m k q v hq

theorem SMap.rising_set (d : Nat → α) (m : SMap α) (k : Nat) (v : α) (h : SMap.rising none m = true) :
    SMap.rising none (SMap.set d m k v) = true := by
  unfold SMap.set
  split
  · exact SMap.rising_none_del m k h
  · exact SMap.rising_none_ins m k v h

/-- A write keeps the canonical form. -/
theorem SMap.wf_set (d : Nat → α) (m : SMap α) (k : Nat) (v : α) (h : SMap.wf d m = true) :
    SMap.wf d (SMap.set d m k v) = true := by
  simp only [SMap.wf, Bool.and_eq_true, List.all_eq_true, decide_eq_true_eq] at h ⊢
  refine ⟨SMap.rising_set d m k v h.1, fun p hp => ?_⟩
  unfold SMap.set at hp
  split at hp
  · exact h.2 p (SMap.mem_del m k p hp)
  · rcases SMap.mem_ins m k v p hp with e | e
    · subst e; assumption
    · exact h.2 p e

theorem SMap.rising_of_wf (d : Nat → α) (m : SMap α) (h : SMap.wf d m = true) : SMap.rising none m = true := by
  simp only [SMap.wf, Bool.and_eq_true] at h; exact h.1

/-! ### Bit fields -/

theorem bitsOf_lt (v lo w : Nat) : bitsOf v lo w < 2 ^ w := Nat.mod_lt _ (Nat.two_pow_pos w)

/-- The masked bits of a value are what is left when the bits around them are dropped. -/
theorem bitsOf_low (v w : Nat) : bitsOf v 0 w = v % 2 ^ w := by simp [bitsOf]

/-! ### Byte strings -/

theorem bytesLE_length : ∀ n v, (bytesLE n v).length = n
  | 0, _ => rfl
  | n + 1, v => by simp [bytesLE, bytesLE_length n]

theorem ofBytesLE_lt : ∀ l : List Byte, ofBytesLE l < 256 ^ l.length
  | [] => by simp [ofBytesLE]
  | b :: r => by
    have h := ofBytesLE_lt r
    have hb : b.toNat < 256 := b.isLt
    simp only [ofBytesLE, List.length_cons, Nat.pow_succ]
    omega

/-- Bytes spell the number they were made from, modulo what `n` bytes hold (R9). -/
theorem ofBytesLE_bytesLE : ∀ n v, ofBytesLE (bytesLE n v) = v % 256 ^ n
  | 0, v => by simp [bytesLE, ofBytesLE, Nat.mod_one]
  | n + 1, v => by
    have h := ofBytesLE_bytesLE n (v / 256)
    simp only [bytesLE, ofBytesLE, h, BitVec.toNat_ofNat]
    rw [show 256 ^ (n + 1) = 256 * 256 ^ n from by rw [Nat.pow_succ, Nat.mul_comm], Nat.mod_mul]

end Sys2Proof
end

