-- ==== Sys2Proof/Laws/State.lean ====
section
/-! SUPPORT. What the basic updates of the state leave alone: one lemma for each field and update, true by unfolding, and the
reading of a register or a byte after it is written. -/

namespace Sys2Proof.Machine

variable (s : State)

/-! ### wr -/

@[simp] theorem State.wr_pending (off v : Nat) : (s.wr off v).pending = s.pending := rfl
@[simp] theorem State.wr_draw (off v : Nat) : (s.wr off v).draw = s.draw := rfl
@[simp] theorem State.wr_mem (off v : Nat) : (s.wr off v).mem = s.mem := rfl
@[simp] theorem State.wr_memEpoch (off v : Nat) : (s.wr off v).memEpoch = s.memEpoch := rfl
@[simp] theorem State.wr_evt (off v : Nat) : (s.wr off v).evt = s.evt := rfl
@[simp] theorem State.wr_flt (off v : Nat) : (s.wr off v).flt = s.flt := rfl
@[simp] theorem State.wr_tim (off v : Nat) : (s.wr off v).tim = s.tim := rfl
@[simp] theorem State.wr_ctl (off v : Nat) : (s.wr off v).ctl = s.ctl := rfl
@[simp] theorem State.wr_rng (off v : Nat) : (s.wr off v).rng = s.rng := rfl
@[simp] theorem State.wr_dma (off v : Nat) : (s.wr off v).dma = s.dma := rfl
@[simp] theorem State.wr_alm (off v : Nat) : (s.wr off v).alm = s.alm := rfl
@[simp] theorem State.wr_fuse (off v : Nat) : (s.wr off v).fuse = s.fuse := rfl
@[simp] theorem State.wr_glb (off v : Nat) : (s.wr off v).glb = s.glb := rfl
@[simp] theorem State.wr_nvm (off v : Nat) : (s.wr off v).nvm = s.nvm := rfl
@[simp] theorem State.wr_sec (off v : Nat) : (s.wr off v).sec = s.sec := rfl
@[simp] theorem State.wr_gng (off v : Nat) : (s.wr off v).gng = s.gng := rfl
@[simp] theorem State.wr_pin (off v : Nat) : (s.wr off v).pin = s.pin := rfl
@[simp] theorem State.wr_net (off v : Nat) : (s.wr off v).net = s.net := rfl
@[simp] theorem State.wr_bpm (off v : Nat) : (s.wr off v).bpm = s.bpm := rfl
@[simp] theorem State.wr_ing (off v : Nat) : (s.wr off v).ing = s.ing := rfl
@[simp] theorem State.wr_dec (off v : Nat) : (s.wr off v).dec = s.dec := rfl
@[simp] theorem State.wr_enc (off v : Nat) : (s.wr off v).enc = s.enc := rfl
@[simp] theorem State.wr_cmp (off v : Nat) : (s.wr off v).cmp = s.cmp := rfl
@[simp] theorem State.wr_cal (off v : Nat) : (s.wr off v).cal = s.cal := rfl
@[simp] theorem State.wr_out (off v : Nat) : (s.wr off v).out = s.out := rfl
@[simp] theorem State.wr_memc (off v : Nat) : (s.wr off v).memc = s.memc := rfl

/-! ### put -/

@[simp] theorem State.put_pending (f : Fld) (v : Nat) : (s.put f v).pending = s.pending := rfl
@[simp] theorem State.put_draw (f : Fld) (v : Nat) : (s.put f v).draw = s.draw := rfl
@[simp] theorem State.put_mem (f : Fld) (v : Nat) : (s.put f v).mem = s.mem := rfl
@[simp] theorem State.put_memEpoch (f : Fld) (v : Nat) : (s.put f v).memEpoch = s.memEpoch := rfl
@[simp] theorem State.put_evt (f : Fld) (v : Nat) : (s.put f v).evt = s.evt := rfl
@[simp] theorem State.put_flt (f : Fld) (v : Nat) : (s.put f v).flt = s.flt := rfl
@[simp] theorem State.put_tim (f : Fld) (v : Nat) : (s.put f v).tim = s.tim := rfl
@[simp] theorem State.put_ctl (f : Fld) (v : Nat) : (s.put f v).ctl = s.ctl := rfl
@[simp] theorem State.put_rng (f : Fld) (v : Nat) : (s.put f v).rng = s.rng := rfl
@[simp] theorem State.put_dma (f : Fld) (v : Nat) : (s.put f v).dma = s.dma := rfl
@[simp] theorem State.put_alm (f : Fld) (v : Nat) : (s.put f v).alm = s.alm := rfl
@[simp] theorem State.put_fuse (f : Fld) (v : Nat) : (s.put f v).fuse = s.fuse := rfl
@[simp] theorem State.put_glb (f : Fld) (v : Nat) : (s.put f v).glb = s.glb := rfl
@[simp] theorem State.put_nvm (f : Fld) (v : Nat) : (s.put f v).nvm = s.nvm := rfl
@[simp] theorem State.put_sec (f : Fld) (v : Nat) : (s.put f v).sec = s.sec := rfl
@[simp] theorem State.put_gng (f : Fld) (v : Nat) : (s.put f v).gng = s.gng := rfl
@[simp] theorem State.put_pin (f : Fld) (v : Nat) : (s.put f v).pin = s.pin := rfl
@[simp] theorem State.put_net (f : Fld) (v : Nat) : (s.put f v).net = s.net := rfl
@[simp] theorem State.put_bpm (f : Fld) (v : Nat) : (s.put f v).bpm = s.bpm := rfl
@[simp] theorem State.put_ing (f : Fld) (v : Nat) : (s.put f v).ing = s.ing := rfl
@[simp] theorem State.put_dec (f : Fld) (v : Nat) : (s.put f v).dec = s.dec := rfl
@[simp] theorem State.put_enc (f : Fld) (v : Nat) : (s.put f v).enc = s.enc := rfl
@[simp] theorem State.put_cmp (f : Fld) (v : Nat) : (s.put f v).cmp = s.cmp := rfl
@[simp] theorem State.put_cal (f : Fld) (v : Nat) : (s.put f v).cal = s.cal := rfl
@[simp] theorem State.put_out (f : Fld) (v : Nat) : (s.put f v).out = s.out := rfl
@[simp] theorem State.put_memc (f : Fld) (v : Nat) : (s.put f v).memc = s.memc := rfl

/-! ### putB -/

@[simp] theorem State.putB_pending (f : Fld) (b : Bool) : (s.putB f b).pending = s.pending := rfl
@[simp] theorem State.putB_draw (f : Fld) (b : Bool) : (s.putB f b).draw = s.draw := rfl
@[simp] theorem State.putB_mem (f : Fld) (b : Bool) : (s.putB f b).mem = s.mem := rfl
@[simp] theorem State.putB_memEpoch (f : Fld) (b : Bool) : (s.putB f b).memEpoch = s.memEpoch := rfl
@[simp] theorem State.putB_evt (f : Fld) (b : Bool) : (s.putB f b).evt = s.evt := rfl
@[simp] theorem State.putB_flt (f : Fld) (b : Bool) : (s.putB f b).flt = s.flt := rfl
@[simp] theorem State.putB_tim (f : Fld) (b : Bool) : (s.putB f b).tim = s.tim := rfl
@[simp] theorem State.putB_ctl (f : Fld) (b : Bool) : (s.putB f b).ctl = s.ctl := rfl
@[simp] theorem State.putB_rng (f : Fld) (b : Bool) : (s.putB f b).rng = s.rng := rfl
@[simp] theorem State.putB_dma (f : Fld) (b : Bool) : (s.putB f b).dma = s.dma := rfl
@[simp] theorem State.putB_alm (f : Fld) (b : Bool) : (s.putB f b).alm = s.alm := rfl
@[simp] theorem State.putB_fuse (f : Fld) (b : Bool) : (s.putB f b).fuse = s.fuse := rfl
@[simp] theorem State.putB_glb (f : Fld) (b : Bool) : (s.putB f b).glb = s.glb := rfl
@[simp] theorem State.putB_nvm (f : Fld) (b : Bool) : (s.putB f b).nvm = s.nvm := rfl
@[simp] theorem State.putB_sec (f : Fld) (b : Bool) : (s.putB f b).sec = s.sec := rfl
@[simp] theorem State.putB_gng (f : Fld) (b : Bool) : (s.putB f b).gng = s.gng := rfl
@[simp] theorem State.putB_pin (f : Fld) (b : Bool) : (s.putB f b).pin = s.pin := rfl
@[simp] theorem State.putB_net (f : Fld) (b : Bool) : (s.putB f b).net = s.net := rfl
@[simp] theorem State.putB_bpm (f : Fld) (b : Bool) : (s.putB f b).bpm = s.bpm := rfl
@[simp] theorem State.putB_ing (f : Fld) (b : Bool) : (s.putB f b).ing = s.ing := rfl
@[simp] theorem State.putB_dec (f : Fld) (b : Bool) : (s.putB f b).dec = s.dec := rfl
@[simp] theorem State.putB_enc (f : Fld) (b : Bool) : (s.putB f b).enc = s.enc := rfl
@[simp] theorem State.putB_cmp (f : Fld) (b : Bool) : (s.putB f b).cmp = s.cmp := rfl
@[simp] theorem State.putB_cal (f : Fld) (b : Bool) : (s.putB f b).cal = s.cal := rfl
@[simp] theorem State.putB_out (f : Fld) (b : Bool) : (s.putB f b).out = s.out := rfl
@[simp] theorem State.putB_memc (f : Fld) (b : Bool) : (s.putB f b).memc = s.memc := rfl

/-! ### add -/

@[simp] theorem State.add_pending (f : Fld) (k : Nat) : (s.add f k).pending = s.pending := rfl
@[simp] theorem State.add_draw (f : Fld) (k : Nat) : (s.add f k).draw = s.draw := rfl
@[simp] theorem State.add_mem (f : Fld) (k : Nat) : (s.add f k).mem = s.mem := rfl
@[simp] theorem State.add_memEpoch (f : Fld) (k : Nat) : (s.add f k).memEpoch = s.memEpoch := rfl
@[simp] theorem State.add_evt (f : Fld) (k : Nat) : (s.add f k).evt = s.evt := rfl
@[simp] theorem State.add_flt (f : Fld) (k : Nat) : (s.add f k).flt = s.flt := rfl
@[simp] theorem State.add_tim (f : Fld) (k : Nat) : (s.add f k).tim = s.tim := rfl
@[simp] theorem State.add_ctl (f : Fld) (k : Nat) : (s.add f k).ctl = s.ctl := rfl
@[simp] theorem State.add_rng (f : Fld) (k : Nat) : (s.add f k).rng = s.rng := rfl
@[simp] theorem State.add_dma (f : Fld) (k : Nat) : (s.add f k).dma = s.dma := rfl
@[simp] theorem State.add_alm (f : Fld) (k : Nat) : (s.add f k).alm = s.alm := rfl
@[simp] theorem State.add_fuse (f : Fld) (k : Nat) : (s.add f k).fuse = s.fuse := rfl
@[simp] theorem State.add_glb (f : Fld) (k : Nat) : (s.add f k).glb = s.glb := rfl
@[simp] theorem State.add_nvm (f : Fld) (k : Nat) : (s.add f k).nvm = s.nvm := rfl
@[simp] theorem State.add_sec (f : Fld) (k : Nat) : (s.add f k).sec = s.sec := rfl
@[simp] theorem State.add_gng (f : Fld) (k : Nat) : (s.add f k).gng = s.gng := rfl
@[simp] theorem State.add_pin (f : Fld) (k : Nat) : (s.add f k).pin = s.pin := rfl
@[simp] theorem State.add_net (f : Fld) (k : Nat) : (s.add f k).net = s.net := rfl
@[simp] theorem State.add_bpm (f : Fld) (k : Nat) : (s.add f k).bpm = s.bpm := rfl
@[simp] theorem State.add_ing (f : Fld) (k : Nat) : (s.add f k).ing = s.ing := rfl
@[simp] theorem State.add_dec (f : Fld) (k : Nat) : (s.add f k).dec = s.dec := rfl
@[simp] theorem State.add_enc (f : Fld) (k : Nat) : (s.add f k).enc = s.enc := rfl
@[simp] theorem State.add_cmp (f : Fld) (k : Nat) : (s.add f k).cmp = s.cmp := rfl
@[simp] theorem State.add_cal (f : Fld) (k : Nat) : (s.add f k).cal = s.cal := rfl
@[simp] theorem State.add_out (f : Fld) (k : Nat) : (s.add f k).out = s.out := rfl
@[simp] theorem State.add_memc (f : Fld) (k : Nat) : (s.add f k).memc = s.memc := rfl

/-! ### inc -/

@[simp] theorem State.inc_pending (f : Fld) : (s.inc f).pending = s.pending := rfl
@[simp] theorem State.inc_draw (f : Fld) : (s.inc f).draw = s.draw := rfl
@[simp] theorem State.inc_mem (f : Fld) : (s.inc f).mem = s.mem := rfl
@[simp] theorem State.inc_memEpoch (f : Fld) : (s.inc f).memEpoch = s.memEpoch := rfl
@[simp] theorem State.inc_evt (f : Fld) : (s.inc f).evt = s.evt := rfl
@[simp] theorem State.inc_flt (f : Fld) : (s.inc f).flt = s.flt := rfl
@[simp] theorem State.inc_tim (f : Fld) : (s.inc f).tim = s.tim := rfl
@[simp] theorem State.inc_ctl (f : Fld) : (s.inc f).ctl = s.ctl := rfl
@[simp] theorem State.inc_rng (f : Fld) : (s.inc f).rng = s.rng := rfl
@[simp] theorem State.inc_dma (f : Fld) : (s.inc f).dma = s.dma := rfl
@[simp] theorem State.inc_alm (f : Fld) : (s.inc f).alm = s.alm := rfl
@[simp] theorem State.inc_fuse (f : Fld) : (s.inc f).fuse = s.fuse := rfl
@[simp] theorem State.inc_glb (f : Fld) : (s.inc f).glb = s.glb := rfl
@[simp] theorem State.inc_nvm (f : Fld) : (s.inc f).nvm = s.nvm := rfl
@[simp] theorem State.inc_sec (f : Fld) : (s.inc f).sec = s.sec := rfl
@[simp] theorem State.inc_gng (f : Fld) : (s.inc f).gng = s.gng := rfl
@[simp] theorem State.inc_pin (f : Fld) : (s.inc f).pin = s.pin := rfl
@[simp] theorem State.inc_net (f : Fld) : (s.inc f).net = s.net := rfl
@[simp] theorem State.inc_bpm (f : Fld) : (s.inc f).bpm = s.bpm := rfl
@[simp] theorem State.inc_ing (f : Fld) : (s.inc f).ing = s.ing := rfl
@[simp] theorem State.inc_dec (f : Fld) : (s.inc f).dec = s.dec := rfl
@[simp] theorem State.inc_enc (f : Fld) : (s.inc f).enc = s.enc := rfl
@[simp] theorem State.inc_cmp (f : Fld) : (s.inc f).cmp = s.cmp := rfl
@[simp] theorem State.inc_cal (f : Fld) : (s.inc f).cal = s.cal := rfl
@[simp] theorem State.inc_out (f : Fld) : (s.inc f).out = s.out := rfl
@[simp] theorem State.inc_memc (f : Fld) : (s.inc f).memc = s.memc := rfl

/-! ### decr -/

@[simp] theorem State.decr_pending (f : Fld) : (s.decr f).pending = s.pending := rfl
@[simp] theorem State.decr_draw (f : Fld) : (s.decr f).draw = s.draw := rfl
@[simp] theorem State.decr_mem (f : Fld) : (s.decr f).mem = s.mem := rfl
@[simp] theorem State.decr_memEpoch (f : Fld) : (s.decr f).memEpoch = s.memEpoch := rfl
@[simp] theorem State.decr_evt (f : Fld) : (s.decr f).evt = s.evt := rfl
@[simp] theorem State.decr_flt (f : Fld) : (s.decr f).flt = s.flt := rfl
@[simp] theorem State.decr_tim (f : Fld) : (s.decr f).tim = s.tim := rfl
@[simp] theorem State.decr_ctl (f : Fld) : (s.decr f).ctl = s.ctl := rfl
@[simp] theorem State.decr_rng (f : Fld) : (s.decr f).rng = s.rng := rfl
@[simp] theorem State.decr_dma (f : Fld) : (s.decr f).dma = s.dma := rfl
@[simp] theorem State.decr_alm (f : Fld) : (s.decr f).alm = s.alm := rfl
@[simp] theorem State.decr_fuse (f : Fld) : (s.decr f).fuse = s.fuse := rfl
@[simp] theorem State.decr_glb (f : Fld) : (s.decr f).glb = s.glb := rfl
@[simp] theorem State.decr_nvm (f : Fld) : (s.decr f).nvm = s.nvm := rfl
@[simp] theorem State.decr_sec (f : Fld) : (s.decr f).sec = s.sec := rfl
@[simp] theorem State.decr_gng (f : Fld) : (s.decr f).gng = s.gng := rfl
@[simp] theorem State.decr_pin (f : Fld) : (s.decr f).pin = s.pin := rfl
@[simp] theorem State.decr_net (f : Fld) : (s.decr f).net = s.net := rfl
@[simp] theorem State.decr_bpm (f : Fld) : (s.decr f).bpm = s.bpm := rfl
@[simp] theorem State.decr_ing (f : Fld) : (s.decr f).ing = s.ing := rfl
@[simp] theorem State.decr_dec (f : Fld) : (s.decr f).dec = s.dec := rfl
@[simp] theorem State.decr_enc (f : Fld) : (s.decr f).enc = s.enc := rfl
@[simp] theorem State.decr_cmp (f : Fld) : (s.decr f).cmp = s.cmp := rfl
@[simp] theorem State.decr_cal (f : Fld) : (s.decr f).cal = s.cal := rfl
@[simp] theorem State.decr_out (f : Fld) : (s.decr f).out = s.out := rfl
@[simp] theorem State.decr_memc (f : Fld) : (s.decr f).memc = s.memc := rfl

/-! ### setCause -/

@[simp] theorem State.setCause_pending (n : Nat) (b : Bool) : (s.setCause n b).pending = s.pending := rfl
@[simp] theorem State.setCause_draw (n : Nat) (b : Bool) : (s.setCause n b).draw = s.draw := rfl
@[simp] theorem State.setCause_mem (n : Nat) (b : Bool) : (s.setCause n b).mem = s.mem := rfl
@[simp] theorem State.setCause_memEpoch (n : Nat) (b : Bool) : (s.setCause n b).memEpoch = s.memEpoch := rfl
@[simp] theorem State.setCause_evt (n : Nat) (b : Bool) : (s.setCause n b).evt = s.evt := rfl
@[simp] theorem State.setCause_flt (n : Nat) (b : Bool) : (s.setCause n b).flt = s.flt := rfl
@[simp] theorem State.setCause_tim (n : Nat) (b : Bool) : (s.setCause n b).tim = s.tim := rfl
@[simp] theorem State.setCause_ctl (n : Nat) (b : Bool) : (s.setCause n b).ctl = s.ctl := rfl
@[simp] theorem State.setCause_rng (n : Nat) (b : Bool) : (s.setCause n b).rng = s.rng := rfl
@[simp] theorem State.setCause_dma (n : Nat) (b : Bool) : (s.setCause n b).dma = s.dma := rfl
@[simp] theorem State.setCause_alm (n : Nat) (b : Bool) : (s.setCause n b).alm = s.alm := rfl
@[simp] theorem State.setCause_fuse (n : Nat) (b : Bool) : (s.setCause n b).fuse = s.fuse := rfl
@[simp] theorem State.setCause_glb (n : Nat) (b : Bool) : (s.setCause n b).glb = s.glb := rfl
@[simp] theorem State.setCause_nvm (n : Nat) (b : Bool) : (s.setCause n b).nvm = s.nvm := rfl
@[simp] theorem State.setCause_sec (n : Nat) (b : Bool) : (s.setCause n b).sec = s.sec := rfl
@[simp] theorem State.setCause_gng (n : Nat) (b : Bool) : (s.setCause n b).gng = s.gng := rfl
@[simp] theorem State.setCause_pin (n : Nat) (b : Bool) : (s.setCause n b).pin = s.pin := rfl
@[simp] theorem State.setCause_net (n : Nat) (b : Bool) : (s.setCause n b).net = s.net := rfl
@[simp] theorem State.setCause_bpm (n : Nat) (b : Bool) : (s.setCause n b).bpm = s.bpm := rfl
@[simp] theorem State.setCause_ing (n : Nat) (b : Bool) : (s.setCause n b).ing = s.ing := rfl
@[simp] theorem State.setCause_dec (n : Nat) (b : Bool) : (s.setCause n b).dec = s.dec := rfl
@[simp] theorem State.setCause_enc (n : Nat) (b : Bool) : (s.setCause n b).enc = s.enc := rfl
@[simp] theorem State.setCause_cmp (n : Nat) (b : Bool) : (s.setCause n b).cmp = s.cmp := rfl
@[simp] theorem State.setCause_cal (n : Nat) (b : Bool) : (s.setCause n b).cal = s.cal := rfl
@[simp] theorem State.setCause_out (n : Nat) (b : Bool) : (s.setCause n b).out = s.out := rfl
@[simp] theorem State.setCause_memc (n : Nat) (b : Bool) : (s.setCause n b).memc = s.memc := rfl

/-! ### used -/

@[simp] theorem State.used_pending  : (s.used).pending = s.pending := rfl
@[simp] theorem State.used_regs  : (s.used).regs = s.regs := rfl
@[simp] theorem State.used_mem  : (s.used).mem = s.mem := rfl
@[simp] theorem State.used_memEpoch  : (s.used).memEpoch = s.memEpoch := rfl
@[simp] theorem State.used_evt  : (s.used).evt = s.evt := rfl
@[simp] theorem State.used_flt  : (s.used).flt = s.flt := rfl
@[simp] theorem State.used_tim  : (s.used).tim = s.tim := rfl
@[simp] theorem State.used_ctl  : (s.used).ctl = s.ctl := rfl
@[simp] theorem State.used_rng  : (s.used).rng = s.rng := rfl
@[simp] theorem State.used_dma  : (s.used).dma = s.dma := rfl
@[simp] theorem State.used_alm  : (s.used).alm = s.alm := rfl
@[simp] theorem State.used_fuse  : (s.used).fuse = s.fuse := rfl
@[simp] theorem State.used_glb  : (s.used).glb = s.glb := rfl
@[simp] theorem State.used_nvm  : (s.used).nvm = s.nvm := rfl
@[simp] theorem State.used_sec  : (s.used).sec = s.sec := rfl
@[simp] theorem State.used_gng  : (s.used).gng = s.gng := rfl
@[simp] theorem State.used_pin  : (s.used).pin = s.pin := rfl
@[simp] theorem State.used_net  : (s.used).net = s.net := rfl
@[simp] theorem State.used_bpm  : (s.used).bpm = s.bpm := rfl
@[simp] theorem State.used_ing  : (s.used).ing = s.ing := rfl
@[simp] theorem State.used_dec  : (s.used).dec = s.dec := rfl
@[simp] theorem State.used_enc  : (s.used).enc = s.enc := rfl
@[simp] theorem State.used_cmp  : (s.used).cmp = s.cmp := rfl
@[simp] theorem State.used_cal  : (s.used).cal = s.cal := rfl
@[simp] theorem State.used_out  : (s.used).out = s.out := rfl
@[simp] theorem State.used_memc  : (s.used).memc = s.memc := rfl

/-! ### advance -/

@[simp] theorem State.advance_pending (dt : Nat) : (s.advance dt).pending = s.pending := rfl
@[simp] theorem State.advance_draw (dt : Nat) : (s.advance dt).draw = s.draw := rfl
@[simp] theorem State.advance_regs (dt : Nat) : (s.advance dt).regs = s.regs := rfl
@[simp] theorem State.advance_mem (dt : Nat) : (s.advance dt).mem = s.mem := rfl
@[simp] theorem State.advance_memEpoch (dt : Nat) : (s.advance dt).memEpoch = s.memEpoch := rfl
@[simp] theorem State.advance_evt (dt : Nat) : (s.advance dt).evt = s.evt := rfl
@[simp] theorem State.advance_flt (dt : Nat) : (s.advance dt).flt = s.flt := rfl
@[simp] theorem State.advance_ctl (dt : Nat) : (s.advance dt).ctl = s.ctl := rfl
@[simp] theorem State.advance_rng (dt : Nat) : (s.advance dt).rng = s.rng := rfl
@[simp] theorem State.advance_dma (dt : Nat) : (s.advance dt).dma = s.dma := rfl
@[simp] theorem State.advance_alm (dt : Nat) : (s.advance dt).alm = s.alm := rfl
@[simp] theorem State.advance_fuse (dt : Nat) : (s.advance dt).fuse = s.fuse := rfl
@[simp] theorem State.advance_glb (dt : Nat) : (s.advance dt).glb = s.glb := rfl
@[simp] theorem State.advance_nvm (dt : Nat) : (s.advance dt).nvm = s.nvm := rfl
@[simp] theorem State.advance_sec (dt : Nat) : (s.advance dt).sec = s.sec := rfl
@[simp] theorem State.advance_gng (dt : Nat) : (s.advance dt).gng = s.gng := rfl
@[simp] theorem State.advance_pin (dt : Nat) : (s.advance dt).pin = s.pin := rfl
@[simp] theorem State.advance_net (dt : Nat) : (s.advance dt).net = s.net := rfl
@[simp] theorem State.advance_bpm (dt : Nat) : (s.advance dt).bpm = s.bpm := rfl
@[simp] theorem State.advance_ing (dt : Nat) : (s.advance dt).ing = s.ing := rfl
@[simp] theorem State.advance_dec (dt : Nat) : (s.advance dt).dec = s.dec := rfl
@[simp] theorem State.advance_enc (dt : Nat) : (s.advance dt).enc = s.enc := rfl
@[simp] theorem State.advance_cmp (dt : Nat) : (s.advance dt).cmp = s.cmp := rfl
@[simp] theorem State.advance_cal (dt : Nat) : (s.advance dt).cal = s.cal := rfl
@[simp] theorem State.advance_out (dt : Nat) : (s.advance dt).out = s.out := rfl
@[simp] theorem State.advance_memc (dt : Nat) : (s.advance dt).memc = s.memc := rfl

/-! ### lanternHit -/

@[simp] theorem State.lanternHit_pending  : (s.lanternHit).pending = s.pending := rfl
@[simp] theorem State.lanternHit_draw  : (s.lanternHit).draw = s.draw := rfl
@[simp] theorem State.lanternHit_regs  : (s.lanternHit).regs = s.regs := rfl
@[simp] theorem State.lanternHit_mem  : (s.lanternHit).mem = s.mem := rfl
@[simp] theorem State.lanternHit_memEpoch  : (s.lanternHit).memEpoch = s.memEpoch := rfl
@[simp] theorem State.lanternHit_evt  : (s.lanternHit).evt = s.evt := rfl
@[simp] theorem State.lanternHit_flt  : (s.lanternHit).flt = s.flt := rfl
@[simp] theorem State.lanternHit_tim  : (s.lanternHit).tim = s.tim := rfl
@[simp] theorem State.lanternHit_ctl  : (s.lanternHit).ctl = s.ctl := rfl
@[simp] theorem State.lanternHit_rng  : (s.lanternHit).rng = s.rng := rfl
@[simp] theorem State.lanternHit_dma  : (s.lanternHit).dma = s.dma := rfl
@[simp] theorem State.lanternHit_alm  : (s.lanternHit).alm = s.alm := rfl
@[simp] theorem State.lanternHit_fuse  : (s.lanternHit).fuse = s.fuse := rfl
@[simp] theorem State.lanternHit_glb  : (s.lanternHit).glb = s.glb := rfl
@[simp] theorem State.lanternHit_nvm  : (s.lanternHit).nvm = s.nvm := rfl
@[simp] theorem State.lanternHit_sec  : (s.lanternHit).sec = s.sec := rfl
@[simp] theorem State.lanternHit_gng  : (s.lanternHit).gng = s.gng := rfl
@[simp] theorem State.lanternHit_pin  : (s.lanternHit).pin = s.pin := rfl
@[simp] theorem State.lanternHit_net  : (s.lanternHit).net = s.net := rfl
@[simp] theorem State.lanternHit_bpm  : (s.lanternHit).bpm = s.bpm := rfl
@[simp] theorem State.lanternHit_ing  : (s.lanternHit).ing = s.ing := rfl
@[simp] theorem State.lanternHit_dec  : (s.lanternHit).dec = s.dec := rfl
@[simp] theorem State.lanternHit_enc  : (s.lanternHit).enc = s.enc := rfl
@[simp] theorem State.lanternHit_cal  : (s.lanternHit).cal = s.cal := rfl
@[simp] theorem State.lanternHit_out  : (s.lanternHit).out = s.out := rfl
@[simp] theorem State.lanternHit_memc  : (s.lanternHit).memc = s.memc := rfl

/-! ### keepOutside -/

@[simp] theorem State.keepOutside_draw (t : State) : (t.keepOutside s).draw = t.draw := rfl
@[simp] theorem State.keepOutside_regs (t : State) : (t.keepOutside s).regs = t.regs := rfl
@[simp] theorem State.keepOutside_mem (t : State) : (t.keepOutside s).mem = t.mem := rfl
@[simp] theorem State.keepOutside_memEpoch (t : State) : (t.keepOutside s).memEpoch = t.memEpoch := rfl
@[simp] theorem State.keepOutside_evt (t : State) : (t.keepOutside s).evt = t.evt := rfl
@[simp] theorem State.keepOutside_flt (t : State) : (t.keepOutside s).flt = t.flt := rfl
@[simp] theorem State.keepOutside_tim (t : State) : (t.keepOutside s).tim = t.tim := rfl
@[simp] theorem State.keepOutside_ctl (t : State) : (t.keepOutside s).ctl = t.ctl := rfl
@[simp] theorem State.keepOutside_rng (t : State) : (t.keepOutside s).rng = t.rng := rfl
@[simp] theorem State.keepOutside_dma (t : State) : (t.keepOutside s).dma = t.dma := rfl
@[simp] theorem State.keepOutside_alm (t : State) : (t.keepOutside s).alm = t.alm := rfl
@[simp] theorem State.keepOutside_fuse (t : State) : (t.keepOutside s).fuse = t.fuse := rfl
@[simp] theorem State.keepOutside_glb (t : State) : (t.keepOutside s).glb = t.glb := rfl
@[simp] theorem State.keepOutside_sec (t : State) : (t.keepOutside s).sec = t.sec := rfl
@[simp] theorem State.keepOutside_gng (t : State) : (t.keepOutside s).gng = t.gng := rfl
@[simp] theorem State.keepOutside_pin (t : State) : (t.keepOutside s).pin = t.pin := rfl
@[simp] theorem State.keepOutside_net (t : State) : (t.keepOutside s).net = t.net := rfl
@[simp] theorem State.keepOutside_bpm (t : State) : (t.keepOutside s).bpm = t.bpm := rfl
@[simp] theorem State.keepOutside_ing (t : State) : (t.keepOutside s).ing = t.ing := rfl
@[simp] theorem State.keepOutside_dec (t : State) : (t.keepOutside s).dec = t.dec := rfl
@[simp] theorem State.keepOutside_enc (t : State) : (t.keepOutside s).enc = t.enc := rfl
@[simp] theorem State.keepOutside_cmp (t : State) : (t.keepOutside s).cmp = t.cmp := rfl
@[simp] theorem State.keepOutside_cal (t : State) : (t.keepOutside s).cal = t.cal := rfl
@[simp] theorem State.keepOutside_out (t : State) : (t.keepOutside s).out = t.out := rfl
@[simp] theorem State.keepOutside_memc (t : State) : (t.keepOutside s).memc = t.memc := rfl
@[simp] theorem State.keepOutside_pending (t : State) : (t.keepOutside s).pending = s.pending := rfl
@[simp] theorem State.keepOutside_held (t : State) : (t.keepOutside s).nvm.held = s.nvm.held := rfl
@[simp] theorem State.used_draw : s.used.draw = s.draw + 1 := rfl
@[simp] theorem State.advance_now (dt : Nat) : (s.advance dt).tim.now = s.tim.now + dt := rfl
@[simp] theorem State.advance_elapsed (dt : Nat) : (s.advance dt).tim.elapsed = s.tim.elapsed + dt := rfl

/-! ### Registers -/

theorem State.rd_of_regs {s t : State} (h : s.regs = t.regs) (off : Nat) : s.rd off = t.rd off := by simp only [State.rd, h]
theorem State.get_of_regs {s t : State} (h : s.regs = t.regs) (f : Fld) : s.get f = t.get f := by
  simp only [State.get, State.rd_of_regs h]
theorem State.flag_of_regs {s t : State} (h : s.regs = t.regs) (f : Fld) : s.flag f = t.flag f := by
  simp only [State.flag, State.get_of_regs h]

@[simp] theorem State.rd_wr_same (off v : Nat) : (s.wr off v).rd off = v % 2 ^ 32 := by simp [State.rd, State.wr]
theorem State.rd_wr_other (off v o : Nat) (h : o ≠ off) : (s.wr off v).rd o = s.rd o := by
  simp [State.rd, State.wr, SMap.get_set_other resetWord s.regs off o _ h]
theorem State.rd_wr (off v o : Nat) : (s.wr off v).rd o = if o = off then v % 2 ^ 32 else s.rd o := by
  split
  · next h => rw [h, State.rd_wr_same]
  · next h => exact State.rd_wr_other s off v o h
theorem State.rd_lt (off : Nat) : s.rd off < 2 ^ 32 := (SMap.get resetWord s.regs off).isLt

@[simp] theorem State.rd_used (o : Nat) : s.used.rd o = s.rd o := rfl
@[simp] theorem State.get_used (f : Fld) : s.used.get f = s.get f := rfl
@[simp] theorem State.flag_used (f : Fld) : s.used.flag f = s.flag f := rfl
@[simp] theorem State.rd_advance (dt o : Nat) : (s.advance dt).rd o = s.rd o := rfl
@[simp] theorem State.get_advance (dt : Nat) (f : Fld) : (s.advance dt).get f = s.get f := rfl
@[simp] theorem State.flag_advance (dt : Nat) (f : Fld) : (s.advance dt).flag f = s.flag f := rfl

theorem State.rd_put_other (f : Fld) (v o : Nat) (h : o ≠ f.off) : (s.put f v).rd o = s.rd o := State.rd_wr_other s f.off _ o h
theorem State.rd_putB_other (f : Fld) (b : Bool) (o : Nat) (h : o ≠ f.off) : (s.putB f b).rd o = s.rd o :=
  State.rd_put_other s f _ o h
theorem State.rd_add_other (f : Fld) (k o : Nat) (h : o ≠ f.off) : (s.add f k).rd o = s.rd o := State.rd_put_other s f _ o h
theorem State.rd_inc_other (f : Fld) (o : Nat) (h : o ≠ f.off) : (s.inc f).rd o = s.rd o := State.rd_put_other s f _ o h
theorem State.rd_decr_other (f : Fld) (o : Nat) (h : o ≠ f.off) : (s.decr f).rd o = s.rd o := State.rd_put_other s f _ o h

/-! ### Fields of a word -/

theorem bitsOf_eq (v lo w : Nat) : bitsOf v lo w = v / 2 ^ lo % 2 ^ w := rfl

/-- A word cut at a field: what lies below it, the field, and what lies above. -/
theorem bits_split (v lo w : Nat) :
    v = v / 2 ^ (lo + w) * 2 ^ (lo + w) + bitsOf v lo w * 2 ^ lo + v % 2 ^ lo := by
  have h1 := Nat.div_add_mod v (2 ^ lo)
  have h2 := Nat.div_add_mod (v / 2 ^ lo) (2 ^ w)
  rw [Nat.div_div_eq_div_mul, ← Nat.pow_add] at h2
  have h3 : 2 ^ (lo + w) = 2 ^ lo * 2 ^ w := Nat.pow_add 2 lo w
  unfold bitsOf
  calc v = 2 ^ lo * (v / 2 ^ lo) + v % 2 ^ lo := h1.symm
    _ = 2 ^ lo * (2 ^ w * (v / 2 ^ (lo + w)) + v / 2 ^ lo % 2 ^ w) + v % 2 ^ lo := by rw [h2]
    _ = _ := by rw [h3]; grind

/-- A word with a field replaced: the parts around the field stay. -/
theorem setBits_split (v lo w x : Nat) :
    setBits v lo w x = v / 2 ^ (lo + w) * 2 ^ (lo + w) + x % 2 ^ w * 2 ^ lo + v % 2 ^ lo := by
  have h := bits_split v lo w
  unfold setBits
  omega

theorem bitsOf_setBits_same (v lo w x : Nat) : bitsOf (setBits v lo w x) lo w = x % 2 ^ w := by
  have hx : x % 2 ^ w < 2 ^ w := Nat.mod_lt _ (Nat.two_pow_pos w)
  have hv : v % 2 ^ lo < 2 ^ lo := Nat.mod_lt _ (Nat.two_pow_pos lo)
  have h3 : 2 ^ (lo + w) = 2 ^ lo * 2 ^ w := Nat.pow_add 2 lo w
  have e : setBits v lo w x = v % 2 ^ lo + 2 ^ lo * (x % 2 ^ w + 2 ^ w * (v / 2 ^ (lo + w))) := by
    rw [setBits_split, h3]; grind
  rw [bitsOf_eq, e, Nat.add_mul_div_left _ _ (Nat.two_pow_pos lo), Nat.div_eq_of_lt hv, Nat.zero_add,
    Nat.add_mul_mod_self_left, Nat.mod_eq_of_lt hx]

/-- A field below another stays when the other is replaced. -/
theorem bitsOf_setBits_below (v lo w x l k : Nat) (h : l + k ≤ lo) : bitsOf (setBits v lo w x) l k = bitsOf v l k := by
  obtain ⟨d, rfl⟩ := Nat.exists_eq_add_of_le h
  have e : setBits v (l + k + d) w x % 2 ^ (l + k) = v % 2 ^ (l + k) := by
    rw [setBits_split]
    have a : ∀ p q r : Nat, (p * 2 ^ (l + k + d + w) + q * 2 ^ (l + k + d) + r) % 2 ^ (l + k) = r % 2 ^ (l + k) := by
      intro p q r
      rw [show l + k + d + w = (l + k) + (d + w) from by omega, Nat.pow_add 2 (l + k) (d + w), Nat.pow_add 2 (l + k) d,
        show p * (2 ^ (l + k) * 2 ^ (d + w)) + q * (2 ^ (l + k) * 2 ^ d) + r =
          r + 2 ^ (l + k) * (p * 2 ^ (d + w) + q * 2 ^ d) from by grind, Nat.add_mul_mod_self_left]
    rw [a]
    exact Nat.mod_mod_of_dvd v (Nat.pow_dvd_pow 2 (by omega))
  have f : ∀ y : Nat, bitsOf y l k = y % 2 ^ (l + k) / 2 ^ l := by
    intro y
    rw [bitsOf_eq, Nat.pow_add, Nat.mod_mul_right_div_self]
  rw [f, f, e]

/-- A field above another stays when the other is replaced. -/
theorem bitsOf_setBits_above (v lo w x l k : Nat) (h : lo + w ≤ l) : bitsOf (setBits v lo w x) l k = bitsOf v l k := by
  obtain ⟨d, rfl⟩ := Nat.exists_eq_add_of_le h
  have hx : x % 2 ^ w < 2 ^ w := Nat.mod_lt _ (Nat.two_pow_pos w)
  have hv : v % 2 ^ lo < 2 ^ lo := Nat.mod_lt _ (Nat.two_pow_pos lo)
  have e : setBits v lo w x / 2 ^ (lo + w) = v / 2 ^ (lo + w) := by
    have hb : x % 2 ^ w * 2 ^ lo + v % 2 ^ lo < 2 ^ (lo + w) := by
      rw [Nat.pow_add]
      calc x % 2 ^ w * 2 ^ lo + v % 2 ^ lo < x % 2 ^ w * 2 ^ lo + 2 ^ lo := by omega
        _ = (x % 2 ^ w + 1) * 2 ^ lo := by grind
        _ ≤ 2 ^ w * 2 ^ lo := Nat.mul_le_mul_right _ hx
        _ = 2 ^ lo * 2 ^ w := Nat.mul_comm _ _
    rw [setBits_split, Nat.add_assoc, Nat.mul_comm, Nat.mul_add_div (Nat.two_pow_pos _), Nat.div_eq_of_lt hb, Nat.add_zero]
  have f : ∀ y : Nat, bitsOf y (lo + w + d) k = y / 2 ^ (lo + w) / 2 ^ d % 2 ^ k := by
    intro y; rw [bitsOf_eq, Nat.div_div_eq_div_mul, ← Nat.pow_add]
  rw [f, f, e]

theorem setBits_lt (v lo w x n : Nat) (hv : v < 2 ^ n) (h : lo + w ≤ n) : setBits v lo w x < 2 ^ n := by
  obtain ⟨d, rfl⟩ := Nat.exists_eq_add_of_le h
  have hx : x % 2 ^ w < 2 ^ w := Nat.mod_lt _ (Nat.two_pow_pos w)
  have hl : v % 2 ^ lo < 2 ^ lo := Nat.mod_lt _ (Nat.two_pow_pos lo)
  have hq : v / 2 ^ (lo + w) < 2 ^ d := by
    rw [Nat.div_lt_iff_lt_mul (Nat.two_pow_pos _), ← Nat.pow_add, Nat.add_comm]; exact hv
  rw [setBits_split]
  calc _ < v / 2 ^ (lo + w) * 2 ^ (lo + w) + x % 2 ^ w * 2 ^ lo + 2 ^ lo := by omega
    _ = v / 2 ^ (lo + w) * 2 ^ (lo + w) + (x % 2 ^ w + 1) * 2 ^ lo := by grind
    _ ≤ v / 2 ^ (lo + w) * 2 ^ (lo + w) + 2 ^ w * 2 ^ lo := by
        have := Nat.mul_le_mul_right (2 ^ lo) (show x % 2 ^ w + 1 ≤ 2 ^ w from hx); omega
    _ = (v / 2 ^ (lo + w) + 1) * 2 ^ (lo + w) := by rw [Nat.pow_add]; grind
    _ ≤ 2 ^ d * 2 ^ (lo + w) := Nat.mul_le_mul_right _ hq
    _ = 2 ^ (lo + w + d) := by rw [← Nat.pow_add, Nat.add_comm]

/-- A field that fits its word reads as it was set, modulo its width. -/
theorem State.get_put_same (f : Fld) (v : Nat) (h : f.lo + f.width ≤ 32) : (s.put f v).get f = v % 2 ^ f.width := by
  have hl := setBits_lt (s.rd f.off) f.lo f.width v 32 (s.rd_lt f.off) h
  simp only [State.put, State.get, State.rd_wr_same, Nat.mod_eq_of_lt hl, bitsOf_setBits_same]

/-- Setting a field leaves every other register, and every field of the same register beside it, as it was. -/
theorem State.get_put_other (f g : Fld) (v : Nat) (h : f.lo + f.width ≤ 32)
    (hd : g.off ≠ f.off ∨ g.lo + g.width ≤ f.lo ∨ f.lo + f.width ≤ g.lo) : (s.put f v).get g = s.get g := by
  by_cases e : g.off = f.off
  · have hl := setBits_lt (s.rd f.off) f.lo f.width v 32 (s.rd_lt f.off) h
    rcases hd with hd | hd | hd
    · exact absurd e hd
    · simp only [State.put, State.get, e, State.rd_wr_same, Nat.mod_eq_of_lt hl, bitsOf_setBits_below _ _ _ _ _ _ hd]
    · simp only [State.put, State.get, e, State.rd_wr_same, Nat.mod_eq_of_lt hl, bitsOf_setBits_above _ _ _ _ _ _ hd]
  · simp only [State.get, State.rd_put_other s f v g.off e]

theorem State.get_lt (f : Fld) : s.get f < 2 ^ f.width := bitsOf_lt _ _ _

theorem State.flag_putB_same (f : Fld) (b : Bool) (h : f.lo + 1 ≤ 32) (hw : f.width = 1) : (s.putB f b).flag f = b := by
  unfold State.flag State.putB
  rw [State.get_put_same s f _ (by omega), hw]
  cases b <;> rfl

theorem State.rd_stick_other (f : Fld) (off : Nat) (h : off ≠ f.off) : (s.stick f).rd off = s.rd off :=
  s.rd_putB_other f true off h

theorem State.get_inc_same (f : Fld) (h : f.lo + f.width ≤ 32) : (s.inc f).get f = (s.get f + 1) % 2 ^ f.width := by
  unfold State.inc State.add
  rw [State.get_put_same s f _ h, Nat.mod_mod]

/-! ### Memory by bytes -/

/-- Registers are in canonical form. -/
abbrev Registers.wf (s : State) : Bool := SMap.wf resetWord s.regs

theorem State.wf_wr (off v : Nat) (h : Registers.wf s = true) : Registers.wf (s.wr off v) = true := SMap.wf_set _ _ _ _ h

/-- Noting a write changes no more than the watched ranges (R187). -/
theorem State.noteWrite_eq (a : Nat) : ∃ w, s.noteWrite a = { s with cmp := { s.cmp with watch := w } } := by
  unfold State.noteWrite
  split
  · exact ⟨_, rfl⟩
  · exact ⟨s.cmp.watch, rfl⟩

@[simp] theorem State.noteWrite_memEpoch (a : Nat) : (s.noteWrite a).memEpoch = s.memEpoch := by
  obtain ⟨w, h⟩ := s.noteWrite_eq a
  rw [h]

theorem State.byte_setByte_same (a : Nat) (b : Byte) (h : s.protectedAt a = false) : (s.setByte a b).byte a = b := by
  simp [State.setByte, State.byte, h]

theorem State.byte_setByte_other (a q : Nat) (b : Byte) (h : q ≠ a) : (s.setByte a b).byte q = s.byte q := by
  unfold State.setByte
  split
  · rfl
  · simp [State.byte, SMap.get_set_other (memDefault s.memEpoch) s.mem a q b h]

/-- A byte of a protected Lantern range is not written (R191). -/
theorem State.setByte_protected (a : Nat) (b : Byte) (h : s.protectedAt a = true) : s.setByte a b = s.lanternHit := by
  simp [State.setByte, h]

/-- A byte write changes no more than the memory, the watched ranges, and the note that a protected range was met. -/
theorem State.setByte_eq (a : Nat) (b : Byte) : ∃ m p w, s.setByte a b = { s with mem := m, cmp := { s.cmp with protHit := p, watch := w } } := by
  unfold State.setByte
  split
  · exact ⟨s.mem, true, s.cmp.watch, rfl⟩
  · obtain ⟨w, h⟩ := s.noteWrite_eq a
    exact ⟨_, s.cmp.protHit, w, by rw [h]⟩

@[simp] theorem State.protectedAt_setByte (a q : Nat) (b : Byte) : (s.setByte a b).protectedAt q = s.protectedAt q := by
  obtain ⟨m, p, w, h⟩ := s.setByte_eq a b
  rw [h]; rfl

theorem State.wf_setByte (a : Nat) (b : Byte) (h : Memory.wf s = true) : Memory.wf (s.setByte a b) = true := by
  unfold State.setByte
  split
  · exact h
  · simp only [Memory.wf, State.noteWrite_memEpoch]
    exact SMap.wf_set _ _ _ _ h

theorem State.setBytes_eq (l : List Byte) : ∀ (s : State) (a : Nat),
    ∃ m p w, s.setBytes a l = { s with mem := m, cmp := { s.cmp with protHit := p, watch := w } } := by
  induction l with
  | nil => exact fun s a => ⟨s.mem, s.cmp.protHit, s.cmp.watch, rfl⟩
  | cons b r ih =>
    intro s a
    obtain ⟨m, p, w, h⟩ := s.setByte_eq a b
    obtain ⟨m', p', w', h'⟩ := ih (s.setByte a b) (a + 1)
    exact ⟨m', p', w', by simp only [State.setBytes]; rw [h', h]⟩

theorem State.wf_setBytes (l : List Byte) : ∀ (s : State) (a : Nat), Memory.wf s = true → Memory.wf (s.setBytes a l) = true := by
  induction l with
  | nil => exact fun s a h => h
  | cons b r ih => exact fun s a h => ih _ _ (s.wf_setByte a b h)

theorem State.wf_freeBytes (n : Nat) : ∀ (s : State) (a : Nat), Memory.wf s = true → Memory.wf (s.freeBytes a n) = true := by
  induction n with
  | zero => exact fun s a h => h
  | succ n ih => exact fun s a h => ih _ _ (s.wf_setByte a _ h)

/-- Bytes outside the range written stay as they were. -/
theorem State.byte_setBytes_other (l : List Byte) : ∀ (s : State) (a q : Nat), (q < a ∨ a + l.length ≤ q) →
    (s.setBytes a l).byte q = s.byte q := by
  induction l with
  | nil => exact fun s a q h => rfl
  | cons b r ih =>
    intro s a q h
    simp only [List.length_cons] at h
    simp only [State.setBytes]
    rw [ih (s.setByte a b) (a + 1) q (by omega), s.byte_setByte_other a q b (by omega)]

theorem State.bytes_length (n : Nat) : ∀ (a : Nat), (s.bytes a n).length = n := by
  induction n with
  | zero => exact fun a => rfl
  | succ n ih => exact fun a => by simp [State.bytes, ih]

/-- Bytes written outside every protected range are read back. -/
theorem State.bytes_setBytes (l : List Byte) : ∀ (s : State) (a : Nat),
    (∀ q, a ≤ q → q < a + l.length → s.protectedAt q = false) → (s.setBytes a l).bytes a l.length = l := by
  induction l with
  | nil => exact fun s a h => rfl
  | cons b r ih =>
    intro s a h
    simp only [List.length_cons] at h
    simp only [List.length_cons, State.bytes, State.setBytes]
    rw [ih (s.setByte a b) (a + 1) (fun q h1 h2 => by rw [State.protectedAt_setByte]; exact h q (by omega) (by omega)),
      State.byte_setBytes_other r (s.setByte a b) (a + 1) a (by omega), s.byte_setByte_same a b (h a (by omega) (by omega))]

/-! ### Carrying a command out -/

/-- While a cold reset is held a command does nothing (R462). -/
theorem State.act_held (dt rails : Nat) (f : State → State) (h : s.nvm.held = true) : s.act dt rails f = .next s := by
  simp [State.act, h]

/-- A command whose block is supplied and within its temperature answers the state it makes. -/
theorem State.act_ready (dt rails : Nat) (f : State → State) (h : s.nvm.held = false) (hr : s.railsOk rails = true)
    (ht : s.tempOk rails = true) : s.act dt rails f = .next ((f (s.advance dt)).keepOutside s) := by
  simp [State.act, h, hr, ht]

/-- All that a command can answer. -/
theorem State.act_cases (dt rails : Nat) (f : State → State) {s' : State} (h : s.act dt rails f = .next s') :
    (s.nvm.held = true ∧ s' = s) ∨
    (s.nvm.held = false ∧ s.railsOk rails = true ∧ s.tempOk rails = true ∧ s' = (f (s.advance dt)).keepOutside s) := by
  unfold State.act at h
  split at h
  · next e => exact .inl ⟨e, (Host.Outcome.next.inj h).symm⟩
  · split at h
    · exact nomatch h
    · split at h
      · exact nomatch h
      · next e1 e2 e3 =>
        refine .inr ⟨by simpa using e1, by simpa using e2, by simpa using e3, (Host.Outcome.next.inj h).symm⟩

theorem State.run_held (dt rails : Nat) (f : State → State) (h : s.nvm.held = true) : s.run dt rails f = .next s :=
  s.act_held dt rails _ h

theorem State.run_ready (dt rails : Nat) (f : State → State) (h : s.nvm.held = false) (hr : s.railsOk rails = true)
    (ht : s.tempOk rails = true) : s.run dt rails f = .next ((f (s.advance dt)).settle.keepOutside s) :=
  s.act_ready dt rails _ h hr ht

theorem State.runPin_ready (dt rails : Nat) (f : State → State) (h : s.nvm.held = false) (hr : s.railsOk rails = true)
    (ht : s.tempOk rails = true) : s.runPin dt rails f = .next ((f (s.advance dt)).settle.keepOutside s) := by
  simp only [State.runPin, h]
  exact s.run_ready dt rails f h hr ht

theorem State.tap_ready (dt : Nat) (f : State → State) (hr : s.railsOk railPin = true) (ht : s.tempOk railPin = true) :
    s.tap dt f = .next ((f (s.timed dt)).keepOutside s) := by
  simp [State.tap, hr, ht]

end Sys2Proof.Machine
end

