-- ==== Sys2Proof/Laws/Events.lean ====
section
/-! SUPPORT. All that raising an event or a fault can change, said once for each operation of Machine/Ops.lean. -/

namespace Sys2Proof.Machine

variable (s : State)

/-! ### What an operation changes, as one equation -/

theorem State.setPend_eq (n d : Nat) (r : Option EvRec) : ∃ e g, s.setPend n d r = { s with evt := e, regs := g } := by
  unfold State.setPend
  dsimp only
  split
  · exact ⟨_, _, rfl⟩
  · split
    · exact ⟨_, _, rfl⟩
    · exact ⟨_, _, rfl⟩

theorem State.addPend_eq (n data d : Nat) : ∃ e g, s.addPend n data d = { s with evt := e, regs := g } := by
  unfold State.addPend
  split
  · exact s.setPend_eq n d _
  · dsimp only
    split
    · obtain ⟨e, g, h⟩ := State.setPend_eq
        ({ s with evt := { s.evt with bypass := SMap.set (fun _ => false) s.evt.bypass (d - 8) true } }) n d
        (some ⟨n, 1, data, s.tim.now, false, 0⟩)
      exact ⟨e, g, h⟩
    · exact s.setPend_eq n d _

theorem State.addPends_eq (n data : Nat) (l : List Nat) : ∀ s : State,
    ∃ e g, l.foldl (fun s d => State.addPend s n data d) s = { s with evt := e, regs := g } := by
  induction l with
  | nil => exact fun s => ⟨s.evt, s.regs, rfl⟩
  | cons d r ih =>
    intro s
    obtain ⟨e, g, h⟩ := s.addPend_eq n data d
    obtain ⟨e', g', h'⟩ := ih (s.addPend n data d)
    exact ⟨e', g', by rw [List.foldl_cons, h', h]⟩

/-- An occurrence changes no more than the event controller and its registers (R421). -/
theorem State.occur_eq (n data : Nat) : ∃ e g, s.occur n data = { s with evt := e, regs := g } := by
  unfold State.occur
  dsimp only
  obtain ⟨e, g, h⟩ := State.addPends_eq n (data % 2 ^ 32)
    (if n = 256 then
      (if (s.inc (F.EVT_SRC_COUNT n)).flag (F.EVT_SRC_CFG_EN n) = true
        then (routeDests ((s.inc (F.EVT_SRC_COUNT n)).route n)).filter (· < 8) else []) ++ (List.range 16).map (· + 8)
      else if (s.inc (F.EVT_SRC_COUNT n)).flag (F.EVT_SRC_CFG_EN n) = true
        then routeDests ((s.inc (F.EVT_SRC_COUNT n)).route n) else []) (s.inc (F.EVT_SRC_COUNT n))
  exact ⟨e, g, h⟩

theorem State.raise_eq (n data : Nat) : ∃ e g, s.raise n data = { s with evt := e, regs := g } := by
  unfold State.raise
  split
  · exact ⟨s.evt, s.regs, rfl⟩
  · exact s.occur_eq n data

theorem State.raiseU_eq (n : Nat) : ∃ e g, s.raiseU n = { s with evt := e, regs := g, draw := s.draw + 1 } := by
  obtain ⟨e, g, h⟩ := s.raise_eq n s.unstated
  exact ⟨e, g, by simp only [State.raiseU, h, State.used]⟩

theorem State.setCond_eq (n data : Nat) (b : Bool) : ∃ e g, s.setCond n data b = { s with evt := e, regs := g } := by
  unfold State.setCond
  dsimp only
  split
  · obtain ⟨e, g, h⟩ := (s.putB (F.EVT_SRC_STAT_ASSERTED n) b).occur_eq n data
    exact ⟨e, g, h⟩
  · exact ⟨s.evt, _, rfl⟩

theorem State.raiseLimited_eq (k gap n data : Nat) : ∃ e g, s.raiseLimited k gap n data = { s with evt := e, regs := g } := by
  have key : ∀ ok : Bool, ∃ e g, (if ok then State.raise
      ({ s with evt := { s.evt with limited := SMap.set (fun _ => none) s.evt.limited k (some s.tim.elapsed) } }) n data
      else s) = { s with evt := e, regs := g } := by
    intro ok
    cases ok
    · exact ⟨s.evt, s.regs, rfl⟩
    · obtain ⟨e, g, h⟩ := State.raise_eq
        ({ s with evt := { s.evt with limited := SMap.set (fun _ => none) s.evt.limited k (some s.tim.elapsed) } }) n data
      exact ⟨e, g, h⟩
  exact key _

/-! ### Faults: a relation that says what they may change, with its composition -/

/-- `t` differs from `s` in no more than the event controller, the registers, the count of free values drawn, the waiting
records of the persistent log and the reactions to carry out. -/
def FaultOnly (s t : State) : Prop :=
  t = { s with evt := t.evt, regs := t.regs, draw := t.draw, nvm := { s.nvm with log := t.nvm.log },
               flt := { s.flt with todo := t.flt.todo, setAt := t.flt.setAt, setNow := t.flt.setNow } }

theorem FaultOnly.refl : FaultOnly s s := rfl

theorem FaultOnly.trans {s t u : State} (h : FaultOnly s t) (k : FaultOnly t u) : FaultOnly s u := by
  rw [FaultOnly] at k ⊢
  rw [FaultOnly] at h
  rw [k, h]

theorem FaultOnly.wr (off v : Nat) : FaultOnly s (s.wr off v) := rfl
theorem FaultOnly.put (f : Fld) (v : Nat) : FaultOnly s (s.put f v) := rfl
theorem FaultOnly.putB (f : Fld) (b : Bool) : FaultOnly s (s.putB f b) := rfl
theorem FaultOnly.stick (f : Fld) : FaultOnly s (s.stick f) := rfl
theorem FaultOnly.inc (f : Fld) : FaultOnly s (s.inc f) := rfl
theorem FaultOnly.used : FaultOnly s s.used := rfl
theorem FaultOnly.todo (l : List Reaction) : FaultOnly s { s with flt := { s.flt with todo := l } } := rfl
theorem FaultOnly.raise (n data : Nat) : FaultOnly s (s.raise n data) := by
  obtain ⟨e, g, h⟩ := s.raise_eq n data
  rw [h]; rfl
theorem FaultOnly.raiseU (n : Nat) : FaultOnly s (s.raiseU n) := by
  obtain ⟨e, g, h⟩ := s.raiseU_eq n
  rw [h]; rfl
theorem FaultOnly.ite {s t u : State} (c : Prop) [Decidable c] (h : FaultOnly s t) (k : FaultOnly s u) :
    FaultOnly s (if c then t else u) := by split <;> assumption

theorem FaultOnly.faultState : FaultOnly s s.faultState := by
  unfold State.faultState
  exact FaultOnly.ite _ (((FaultOnly.put s _ _).trans (FaultOnly.put _ _ _)).trans (FaultOnly.raiseU _ _))
    ((FaultOnly.put s _ _).trans (FaultOnly.put _ _ _))

theorem FaultOnly.logPersist (data : List Byte) : FaultOnly s (s.logPersist data) := by
  unfold State.logPersist
  exact FaultOnly.ite _ ((FaultOnly.inc s _).trans (FaultOnly.raiseU _ _)) rfl

theorem FaultOnly.faultLog (n sev unit data : Nat) (a b : Bool) : FaultOnly s (s.faultLog n sev unit data a b) := rfl

/-- A fault changes no more than the fault collector with the reactions it leaves, the event controller, the waiting records of
the persistent log, and the count of free values drawn (R431 to R436, R484). -/
theorem FaultOnly.fault (n unit data : Nat) : FaultOnly s (s.fault n unit data) := by
  unfold State.fault
  dsimp only
  refine FaultOnly.ite _ (((FaultOnly.inc s _).trans (FaultOnly.faultLog _ _ _ _ _ _ _)).trans (FaultOnly.put _ _ _)) ?_
  refine FaultOnly.trans ?_ (FaultOnly.faultState _)
  refine FaultOnly.trans ?_ (FaultOnly.ite _ (FaultOnly.todo _ _) (FaultOnly.refl _))
  refine FaultOnly.trans ?_ (FaultOnly.ite _ (FaultOnly.raiseU _ _) (FaultOnly.refl _))
  refine FaultOnly.trans ?_ (FaultOnly.raise _ _ _)
  refine FaultOnly.trans ?_ (FaultOnly.put _ _ _)
  refine FaultOnly.trans ?_ (FaultOnly.put _ _ _)
  refine FaultOnly.trans ?_ (FaultOnly.stick _ _)
  refine FaultOnly.trans ?_ (FaultOnly.ite _ (FaultOnly.logPersist _ _) (FaultOnly.refl _))
  exact (FaultOnly.inc s _).trans (FaultOnly.faultLog _ _ _ _ _ _ _)

theorem FaultOnly.faultUnit (n unit : Nat) : FaultOnly s (s.faultUnit n unit) :=
  (FaultOnly.fault s n unit _).trans (FaultOnly.used _)

theorem FaultOnly.faultData (n data : Nat) : FaultOnly s (s.faultData n data) :=
  ((FaultOnly.fault s n _ data).trans (FaultOnly.used _)).trans (FaultOnly.todo _ _)

theorem FaultOnly.faultU (n : Nat) : FaultOnly s (s.faultU n) :=
  (FaultOnly.used s).trans (FaultOnly.faultData _ _ _)

theorem State.puts_eq (f g : Fld) (a b : Nat) (c : Prop) [Decidable c] (n : Nat) :
    ∃ e r k, (if c then ((s.put f a).put g b).raiseU n else (s.put f a).put g b) = { s with evt := e, regs := r, draw := k } := by
  split
  · obtain ⟨e, r, h⟩ := ((s.put f a).put g b).raiseU_eq n
    exact ⟨e, r, _, h⟩
  · exact ⟨_, _, _, rfl⟩

theorem State.faultState_eq : ∃ e g k, s.faultState = { s with evt := e, regs := g, draw := k } := s.puts_eq _ _ _ _ _ _

/-! ### The same, field by field -/

@[simp] theorem State.raise_pending (n d : Nat) : (s.raise n d).pending = s.pending := by obtain ⟨e, g, h⟩ := s.raise_eq n d; rw [h]
@[simp] theorem State.raise_draw (n d : Nat) : (s.raise n d).draw = s.draw := by obtain ⟨e, g, h⟩ := s.raise_eq n d; rw [h]
@[simp] theorem State.raise_mem (n d : Nat) : (s.raise n d).mem = s.mem := by obtain ⟨e, g, h⟩ := s.raise_eq n d; rw [h]
@[simp] theorem State.raise_memEpoch (n d : Nat) : (s.raise n d).memEpoch = s.memEpoch := by obtain ⟨e, g, h⟩ := s.raise_eq n d; rw [h]
@[simp] theorem State.raise_flt (n d : Nat) : (s.raise n d).flt = s.flt := by obtain ⟨e, g, h⟩ := s.raise_eq n d; rw [h]
@[simp] theorem State.raise_tim (n d : Nat) : (s.raise n d).tim = s.tim := by obtain ⟨e, g, h⟩ := s.raise_eq n d; rw [h]
@[simp] theorem State.raise_ctl (n d : Nat) : (s.raise n d).ctl = s.ctl := by obtain ⟨e, g, h⟩ := s.raise_eq n d; rw [h]
@[simp] theorem State.raise_rng (n d : Nat) : (s.raise n d).rng = s.rng := by obtain ⟨e, g, h⟩ := s.raise_eq n d; rw [h]
@[simp] theorem State.raise_dma (n d : Nat) : (s.raise n d).dma = s.dma := by obtain ⟨e, g, h⟩ := s.raise_eq n d; rw [h]
@[simp] theorem State.raise_alm (n d : Nat) : (s.raise n d).alm = s.alm := by obtain ⟨e, g, h⟩ := s.raise_eq n d; rw [h]
@[simp] theorem State.raise_fuse (n d : Nat) : (s.raise n d).fuse = s.fuse := by obtain ⟨e, g, h⟩ := s.raise_eq n d; rw [h]
@[simp] theorem State.raise_glb (n d : Nat) : (s.raise n d).glb = s.glb := by obtain ⟨e, g, h⟩ := s.raise_eq n d; rw [h]
@[simp] theorem State.raise_nvm (n d : Nat) : (s.raise n d).nvm = s.nvm := by obtain ⟨e, g, h⟩ := s.raise_eq n d; rw [h]
@[simp] theorem State.raise_sec (n d : Nat) : (s.raise n d).sec = s.sec := by obtain ⟨e, g, h⟩ := s.raise_eq n d; rw [h]
@[simp] theorem State.raise_gng (n d : Nat) : (s.raise n d).gng = s.gng := by obtain ⟨e, g, h⟩ := s.raise_eq n d; rw [h]
@[simp] theorem State.raise_pin (n d : Nat) : (s.raise n d).pin = s.pin := by obtain ⟨e, g, h⟩ := s.raise_eq n d; rw [h]
@[simp] theorem State.raise_net (n d : Nat) : (s.raise n d).net = s.net := by obtain ⟨e, g, h⟩ := s.raise_eq n d; rw [h]
@[simp] theorem State.raise_bpm (n d : Nat) : (s.raise n d).bpm = s.bpm := by obtain ⟨e, g, h⟩ := s.raise_eq n d; rw [h]
@[simp] theorem State.raise_ing (n d : Nat) : (s.raise n d).ing = s.ing := by obtain ⟨e, g, h⟩ := s.raise_eq n d; rw [h]
@[simp] theorem State.raise_dec (n d : Nat) : (s.raise n d).dec = s.dec := by obtain ⟨e, g, h⟩ := s.raise_eq n d; rw [h]
@[simp] theorem State.raise_enc (n d : Nat) : (s.raise n d).enc = s.enc := by obtain ⟨e, g, h⟩ := s.raise_eq n d; rw [h]
@[simp] theorem State.raise_cmp (n d : Nat) : (s.raise n d).cmp = s.cmp := by obtain ⟨e, g, h⟩ := s.raise_eq n d; rw [h]
@[simp] theorem State.raise_cal (n d : Nat) : (s.raise n d).cal = s.cal := by obtain ⟨e, g, h⟩ := s.raise_eq n d; rw [h]
@[simp] theorem State.raise_out (n d : Nat) : (s.raise n d).out = s.out := by obtain ⟨e, g, h⟩ := s.raise_eq n d; rw [h]
@[simp] theorem State.raise_memc (n d : Nat) : (s.raise n d).memc = s.memc := by obtain ⟨e, g, h⟩ := s.raise_eq n d; rw [h]

@[simp] theorem State.raiseU_pending (n : Nat) : (s.raiseU n).pending = s.pending := by obtain ⟨e, g, h⟩ := s.raiseU_eq n; rw [h]
@[simp] theorem State.raiseU_mem (n : Nat) : (s.raiseU n).mem = s.mem := by obtain ⟨e, g, h⟩ := s.raiseU_eq n; rw [h]
@[simp] theorem State.raiseU_memEpoch (n : Nat) : (s.raiseU n).memEpoch = s.memEpoch := by obtain ⟨e, g, h⟩ := s.raiseU_eq n; rw [h]
@[simp] theorem State.raiseU_flt (n : Nat) : (s.raiseU n).flt = s.flt := by obtain ⟨e, g, h⟩ := s.raiseU_eq n; rw [h]
@[simp] theorem State.raiseU_tim (n : Nat) : (s.raiseU n).tim = s.tim := by obtain ⟨e, g, h⟩ := s.raiseU_eq n; rw [h]
@[simp] theorem State.raiseU_ctl (n : Nat) : (s.raiseU n).ctl = s.ctl := by obtain ⟨e, g, h⟩ := s.raiseU_eq n; rw [h]
@[simp] theorem State.raiseU_rng (n : Nat) : (s.raiseU n).rng = s.rng := by obtain ⟨e, g, h⟩ := s.raiseU_eq n; rw [h]
@[simp] theorem State.raiseU_dma (n : Nat) : (s.raiseU n).dma = s.dma := by obtain ⟨e, g, h⟩ := s.raiseU_eq n; rw [h]
@[simp] theorem State.raiseU_alm (n : Nat) : (s.raiseU n).alm = s.alm := by obtain ⟨e, g, h⟩ := s.raiseU_eq n; rw [h]
@[simp] theorem State.raiseU_fuse (n : Nat) : (s.raiseU n).fuse = s.fuse := by obtain ⟨e, g, h⟩ := s.raiseU_eq n; rw [h]
@[simp] theorem State.raiseU_glb (n : Nat) : (s.raiseU n).glb = s.glb := by obtain ⟨e, g, h⟩ := s.raiseU_eq n; rw [h]
@[simp] theorem State.raiseU_nvm (n : Nat) : (s.raiseU n).nvm = s.nvm := by obtain ⟨e, g, h⟩ := s.raiseU_eq n; rw [h]
@[simp] theorem State.raiseU_sec (n : Nat) : (s.raiseU n).sec = s.sec := by obtain ⟨e, g, h⟩ := s.raiseU_eq n; rw [h]
@[simp] theorem State.raiseU_gng (n : Nat) : (s.raiseU n).gng = s.gng := by obtain ⟨e, g, h⟩ := s.raiseU_eq n; rw [h]
@[simp] theorem State.raiseU_pin (n : Nat) : (s.raiseU n).pin = s.pin := by obtain ⟨e, g, h⟩ := s.raiseU_eq n; rw [h]
@[simp] theorem State.raiseU_net (n : Nat) : (s.raiseU n).net = s.net := by obtain ⟨e, g, h⟩ := s.raiseU_eq n; rw [h]
@[simp] theorem State.raiseU_bpm (n : Nat) : (s.raiseU n).bpm = s.bpm := by obtain ⟨e, g, h⟩ := s.raiseU_eq n; rw [h]
@[simp] theorem State.raiseU_ing (n : Nat) : (s.raiseU n).ing = s.ing := by obtain ⟨e, g, h⟩ := s.raiseU_eq n; rw [h]
@[simp] theorem State.raiseU_dec (n : Nat) : (s.raiseU n).dec = s.dec := by obtain ⟨e, g, h⟩ := s.raiseU_eq n; rw [h]
@[simp] theorem State.raiseU_enc (n : Nat) : (s.raiseU n).enc = s.enc := by obtain ⟨e, g, h⟩ := s.raiseU_eq n; rw [h]
@[simp] theorem State.raiseU_cmp (n : Nat) : (s.raiseU n).cmp = s.cmp := by obtain ⟨e, g, h⟩ := s.raiseU_eq n; rw [h]
@[simp] theorem State.raiseU_cal (n : Nat) : (s.raiseU n).cal = s.cal := by obtain ⟨e, g, h⟩ := s.raiseU_eq n; rw [h]
@[simp] theorem State.raiseU_out (n : Nat) : (s.raiseU n).out = s.out := by obtain ⟨e, g, h⟩ := s.raiseU_eq n; rw [h]
@[simp] theorem State.raiseU_memc (n : Nat) : (s.raiseU n).memc = s.memc := by obtain ⟨e, g, h⟩ := s.raiseU_eq n; rw [h]

@[simp] theorem State.setCond_pending (n d : Nat) (b : Bool) : (s.setCond n d b).pending = s.pending := by obtain ⟨e, g, h⟩ := s.setCond_eq n d b; rw [h]
@[simp] theorem State.setCond_draw (n d : Nat) (b : Bool) : (s.setCond n d b).draw = s.draw := by obtain ⟨e, g, h⟩ := s.setCond_eq n d b; rw [h]
@[simp] theorem State.setCond_mem (n d : Nat) (b : Bool) : (s.setCond n d b).mem = s.mem := by obtain ⟨e, g, h⟩ := s.setCond_eq n d b; rw [h]
@[simp] theorem State.setCond_memEpoch (n d : Nat) (b : Bool) : (s.setCond n d b).memEpoch = s.memEpoch := by obtain ⟨e, g, h⟩ := s.setCond_eq n d b; rw [h]
@[simp] theorem State.setCond_flt (n d : Nat) (b : Bool) : (s.setCond n d b).flt = s.flt := by obtain ⟨e, g, h⟩ := s.setCond_eq n d b; rw [h]
@[simp] theorem State.setCond_tim (n d : Nat) (b : Bool) : (s.setCond n d b).tim = s.tim := by obtain ⟨e, g, h⟩ := s.setCond_eq n d b; rw [h]
@[simp] theorem State.setCond_ctl (n d : Nat) (b : Bool) : (s.setCond n d b).ctl = s.ctl := by obtain ⟨e, g, h⟩ := s.setCond_eq n d b; rw [h]
@[simp] theorem State.setCond_rng (n d : Nat) (b : Bool) : (s.setCond n d b).rng = s.rng := by obtain ⟨e, g, h⟩ := s.setCond_eq n d b; rw [h]
@[simp] theorem State.setCond_dma (n d : Nat) (b : Bool) : (s.setCond n d b).dma = s.dma := by obtain ⟨e, g, h⟩ := s.setCond_eq n d b; rw [h]
@[simp] theorem State.setCond_alm (n d : Nat) (b : Bool) : (s.setCond n d b).alm = s.alm := by obtain ⟨e, g, h⟩ := s.setCond_eq n d b; rw [h]
@[simp] theorem State.setCond_fuse (n d : Nat) (b : Bool) : (s.setCond n d b).fuse = s.fuse := by obtain ⟨e, g, h⟩ := s.setCond_eq n d b; rw [h]
@[simp] theorem State.setCond_glb (n d : Nat) (b : Bool) : (s.setCond n d b).glb = s.glb := by obtain ⟨e, g, h⟩ := s.setCond_eq n d b; rw [h]
@[simp] theorem State.setCond_nvm (n d : Nat) (b : Bool) : (s.setCond n d b).nvm = s.nvm := by obtain ⟨e, g, h⟩ := s.setCond_eq n d b; rw [h]
@[simp] theorem State.setCond_sec (n d : Nat) (b : Bool) : (s.setCond n d b).sec = s.sec := by obtain ⟨e, g, h⟩ := s.setCond_eq n d b; rw [h]
@[simp] theorem State.setCond_gng (n d : Nat) (b : Bool) : (s.setCond n d b).gng = s.gng := by obtain ⟨e, g, h⟩ := s.setCond_eq n d b; rw [h]
@[simp] theorem State.setCond_pin (n d : Nat) (b : Bool) : (s.setCond n d b).pin = s.pin := by obtain ⟨e, g, h⟩ := s.setCond_eq n d b; rw [h]
@[simp] theorem State.setCond_net (n d : Nat) (b : Bool) : (s.setCond n d b).net = s.net := by obtain ⟨e, g, h⟩ := s.setCond_eq n d b; rw [h]
@[simp] theorem State.setCond_bpm (n d : Nat) (b : Bool) : (s.setCond n d b).bpm = s.bpm := by obtain ⟨e, g, h⟩ := s.setCond_eq n d b; rw [h]
@[simp] theorem State.setCond_ing (n d : Nat) (b : Bool) : (s.setCond n d b).ing = s.ing := by obtain ⟨e, g, h⟩ := s.setCond_eq n d b; rw [h]
@[simp] theorem State.setCond_dec (n d : Nat) (b : Bool) : (s.setCond n d b).dec = s.dec := by obtain ⟨e, g, h⟩ := s.setCond_eq n d b; rw [h]
@[simp] theorem State.setCond_enc (n d : Nat) (b : Bool) : (s.setCond n d b).enc = s.enc := by obtain ⟨e, g, h⟩ := s.setCond_eq n d b; rw [h]
@[simp] theorem State.setCond_cmp (n d : Nat) (b : Bool) : (s.setCond n d b).cmp = s.cmp := by obtain ⟨e, g, h⟩ := s.setCond_eq n d b; rw [h]
@[simp] theorem State.setCond_cal (n d : Nat) (b : Bool) : (s.setCond n d b).cal = s.cal := by obtain ⟨e, g, h⟩ := s.setCond_eq n d b; rw [h]
@[simp] theorem State.setCond_out (n d : Nat) (b : Bool) : (s.setCond n d b).out = s.out := by obtain ⟨e, g, h⟩ := s.setCond_eq n d b; rw [h]
@[simp] theorem State.setCond_memc (n d : Nat) (b : Bool) : (s.setCond n d b).memc = s.memc := by obtain ⟨e, g, h⟩ := s.setCond_eq n d b; rw [h]

@[simp] theorem State.raiseLimited_pending (k gap n d : Nat) : (s.raiseLimited k gap n d).pending = s.pending := by obtain ⟨e, g, h⟩ := s.raiseLimited_eq k gap n d; rw [h]
@[simp] theorem State.raiseLimited_draw (k gap n d : Nat) : (s.raiseLimited k gap n d).draw = s.draw := by obtain ⟨e, g, h⟩ := s.raiseLimited_eq k gap n d; rw [h]
@[simp] theorem State.raiseLimited_mem (k gap n d : Nat) : (s.raiseLimited k gap n d).mem = s.mem := by obtain ⟨e, g, h⟩ := s.raiseLimited_eq k gap n d; rw [h]
@[simp] theorem State.raiseLimited_memEpoch (k gap n d : Nat) : (s.raiseLimited k gap n d).memEpoch = s.memEpoch := by obtain ⟨e, g, h⟩ := s.raiseLimited_eq k gap n d; rw [h]
@[simp] theorem State.raiseLimited_flt (k gap n d : Nat) : (s.raiseLimited k gap n d).flt = s.flt := by obtain ⟨e, g, h⟩ := s.raiseLimited_eq k gap n d; rw [h]
@[simp] theorem State.raiseLimited_tim (k gap n d : Nat) : (s.raiseLimited k gap n d).tim = s.tim := by obtain ⟨e, g, h⟩ := s.raiseLimited_eq k gap n d; rw [h]
@[simp] theorem State.raiseLimited_ctl (k gap n d : Nat) : (s.raiseLimited k gap n d).ctl = s.ctl := by obtain ⟨e, g, h⟩ := s.raiseLimited_eq k gap n d; rw [h]
@[simp] theorem State.raiseLimited_rng (k gap n d : Nat) : (s.raiseLimited k gap n d).rng = s.rng := by obtain ⟨e, g, h⟩ := s.raiseLimited_eq k gap n d; rw [h]
@[simp] theorem State.raiseLimited_dma (k gap n d : Nat) : (s.raiseLimited k gap n d).dma = s.dma := by obtain ⟨e, g, h⟩ := s.raiseLimited_eq k gap n d; rw [h]
@[simp] theorem State.raiseLimited_alm (k gap n d : Nat) : (s.raiseLimited k gap n d).alm = s.alm := by obtain ⟨e, g, h⟩ := s.raiseLimited_eq k gap n d; rw [h]
@[simp] theorem State.raiseLimited_fuse (k gap n d : Nat) : (s.raiseLimited k gap n d).fuse = s.fuse := by obtain ⟨e, g, h⟩ := s.raiseLimited_eq k gap n d; rw [h]
@[simp] theorem State.raiseLimited_glb (k gap n d : Nat) : (s.raiseLimited k gap n d).glb = s.glb := by obtain ⟨e, g, h⟩ := s.raiseLimited_eq k gap n d; rw [h]
@[simp] theorem State.raiseLimited_nvm (k gap n d : Nat) : (s.raiseLimited k gap n d).nvm = s.nvm := by obtain ⟨e, g, h⟩ := s.raiseLimited_eq k gap n d; rw [h]
@[simp] theorem State.raiseLimited_sec (k gap n d : Nat) : (s.raiseLimited k gap n d).sec = s.sec := by obtain ⟨e, g, h⟩ := s.raiseLimited_eq k gap n d; rw [h]
@[simp] theorem State.raiseLimited_gng (k gap n d : Nat) : (s.raiseLimited k gap n d).gng = s.gng := by obtain ⟨e, g, h⟩ := s.raiseLimited_eq k gap n d; rw [h]
@[simp] theorem State.raiseLimited_pin (k gap n d : Nat) : (s.raiseLimited k gap n d).pin = s.pin := by obtain ⟨e, g, h⟩ := s.raiseLimited_eq k gap n d; rw [h]
@[simp] theorem State.raiseLimited_net (k gap n d : Nat) : (s.raiseLimited k gap n d).net = s.net := by obtain ⟨e, g, h⟩ := s.raiseLimited_eq k gap n d; rw [h]
@[simp] theorem State.raiseLimited_bpm (k gap n d : Nat) : (s.raiseLimited k gap n d).bpm = s.bpm := by obtain ⟨e, g, h⟩ := s.raiseLimited_eq k gap n d; rw [h]
@[simp] theorem State.raiseLimited_ing (k gap n d : Nat) : (s.raiseLimited k gap n d).ing = s.ing := by obtain ⟨e, g, h⟩ := s.raiseLimited_eq k gap n d; rw [h]
@[simp] theorem State.raiseLimited_dec (k gap n d : Nat) : (s.raiseLimited k gap n d).dec = s.dec := by obtain ⟨e, g, h⟩ := s.raiseLimited_eq k gap n d; rw [h]
@[simp] theorem State.raiseLimited_enc (k gap n d : Nat) : (s.raiseLimited k gap n d).enc = s.enc := by obtain ⟨e, g, h⟩ := s.raiseLimited_eq k gap n d; rw [h]
@[simp] theorem State.raiseLimited_cmp (k gap n d : Nat) : (s.raiseLimited k gap n d).cmp = s.cmp := by obtain ⟨e, g, h⟩ := s.raiseLimited_eq k gap n d; rw [h]
@[simp] theorem State.raiseLimited_cal (k gap n d : Nat) : (s.raiseLimited k gap n d).cal = s.cal := by obtain ⟨e, g, h⟩ := s.raiseLimited_eq k gap n d; rw [h]
@[simp] theorem State.raiseLimited_out (k gap n d : Nat) : (s.raiseLimited k gap n d).out = s.out := by obtain ⟨e, g, h⟩ := s.raiseLimited_eq k gap n d; rw [h]
@[simp] theorem State.raiseLimited_memc (k gap n d : Nat) : (s.raiseLimited k gap n d).memc = s.memc := by obtain ⟨e, g, h⟩ := s.raiseLimited_eq k gap n d; rw [h]

@[simp] theorem State.fault_pending (n u d : Nat) : (s.fault n u d).pending = s.pending := by rw [FaultOnly.fault s n u d]
@[simp] theorem State.fault_mem (n u d : Nat) : (s.fault n u d).mem = s.mem := by rw [FaultOnly.fault s n u d]
@[simp] theorem State.fault_memEpoch (n u d : Nat) : (s.fault n u d).memEpoch = s.memEpoch := by rw [FaultOnly.fault s n u d]
@[simp] theorem State.fault_tim (n u d : Nat) : (s.fault n u d).tim = s.tim := by rw [FaultOnly.fault s n u d]
@[simp] theorem State.fault_ctl (n u d : Nat) : (s.fault n u d).ctl = s.ctl := by rw [FaultOnly.fault s n u d]
@[simp] theorem State.fault_rng (n u d : Nat) : (s.fault n u d).rng = s.rng := by rw [FaultOnly.fault s n u d]
@[simp] theorem State.fault_dma (n u d : Nat) : (s.fault n u d).dma = s.dma := by rw [FaultOnly.fault s n u d]
@[simp] theorem State.fault_alm (n u d : Nat) : (s.fault n u d).alm = s.alm := by rw [FaultOnly.fault s n u d]
@[simp] theorem State.fault_fuse (n u d : Nat) : (s.fault n u d).fuse = s.fuse := by rw [FaultOnly.fault s n u d]
@[simp] theorem State.fault_glb (n u d : Nat) : (s.fault n u d).glb = s.glb := by rw [FaultOnly.fault s n u d]
@[simp] theorem State.fault_sec (n u d : Nat) : (s.fault n u d).sec = s.sec := by rw [FaultOnly.fault s n u d]
@[simp] theorem State.fault_gng (n u d : Nat) : (s.fault n u d).gng = s.gng := by rw [FaultOnly.fault s n u d]
@[simp] theorem State.fault_pin (n u d : Nat) : (s.fault n u d).pin = s.pin := by rw [FaultOnly.fault s n u d]
@[simp] theorem State.fault_net (n u d : Nat) : (s.fault n u d).net = s.net := by rw [FaultOnly.fault s n u d]
@[simp] theorem State.fault_bpm (n u d : Nat) : (s.fault n u d).bpm = s.bpm := by rw [FaultOnly.fault s n u d]
@[simp] theorem State.fault_ing (n u d : Nat) : (s.fault n u d).ing = s.ing := by rw [FaultOnly.fault s n u d]
@[simp] theorem State.fault_dec (n u d : Nat) : (s.fault n u d).dec = s.dec := by rw [FaultOnly.fault s n u d]
@[simp] theorem State.fault_enc (n u d : Nat) : (s.fault n u d).enc = s.enc := by rw [FaultOnly.fault s n u d]
@[simp] theorem State.fault_cmp (n u d : Nat) : (s.fault n u d).cmp = s.cmp := by rw [FaultOnly.fault s n u d]
@[simp] theorem State.fault_cal (n u d : Nat) : (s.fault n u d).cal = s.cal := by rw [FaultOnly.fault s n u d]
@[simp] theorem State.fault_out (n u d : Nat) : (s.fault n u d).out = s.out := by rw [FaultOnly.fault s n u d]
@[simp] theorem State.fault_memc (n u d : Nat) : (s.fault n u d).memc = s.memc := by rw [FaultOnly.fault s n u d]

@[simp] theorem State.faultUnit_pending (n u : Nat) : (s.faultUnit n u).pending = s.pending := by rw [FaultOnly.faultUnit s n u]
@[simp] theorem State.faultUnit_mem (n u : Nat) : (s.faultUnit n u).mem = s.mem := by rw [FaultOnly.faultUnit s n u]
@[simp] theorem State.faultUnit_memEpoch (n u : Nat) : (s.faultUnit n u).memEpoch = s.memEpoch := by rw [FaultOnly.faultUnit s n u]
@[simp] theorem State.faultUnit_tim (n u : Nat) : (s.faultUnit n u).tim = s.tim := by rw [FaultOnly.faultUnit s n u]
@[simp] theorem State.faultUnit_ctl (n u : Nat) : (s.faultUnit n u).ctl = s.ctl := by rw [FaultOnly.faultUnit s n u]
@[simp] theorem State.faultUnit_rng (n u : Nat) : (s.faultUnit n u).rng = s.rng := by rw [FaultOnly.faultUnit s n u]
@[simp] theorem State.faultUnit_dma (n u : Nat) : (s.faultUnit n u).dma = s.dma := by rw [FaultOnly.faultUnit s n u]
@[simp] theorem State.faultUnit_alm (n u : Nat) : (s.faultUnit n u).alm = s.alm := by rw [FaultOnly.faultUnit s n u]
@[simp] theorem State.faultUnit_fuse (n u : Nat) : (s.faultUnit n u).fuse = s.fuse := by rw [FaultOnly.faultUnit s n u]
@[simp] theorem State.faultUnit_glb (n u : Nat) : (s.faultUnit n u).glb = s.glb := by rw [FaultOnly.faultUnit s n u]
@[simp] theorem State.faultUnit_sec (n u : Nat) : (s.faultUnit n u).sec = s.sec := by rw [FaultOnly.faultUnit s n u]
@[simp] theorem State.faultUnit_gng (n u : Nat) : (s.faultUnit n u).gng = s.gng := by rw [FaultOnly.faultUnit s n u]
@[simp] theorem State.faultUnit_pin (n u : Nat) : (s.faultUnit n u).pin = s.pin := by rw [FaultOnly.faultUnit s n u]
@[simp] theorem State.faultUnit_net (n u : Nat) : (s.faultUnit n u).net = s.net := by rw [FaultOnly.faultUnit s n u]
@[simp] theorem State.faultUnit_bpm (n u : Nat) : (s.faultUnit n u).bpm = s.bpm := by rw [FaultOnly.faultUnit s n u]
@[simp] theorem State.faultUnit_ing (n u : Nat) : (s.faultUnit n u).ing = s.ing := by rw [FaultOnly.faultUnit s n u]
@[simp] theorem State.faultUnit_dec (n u : Nat) : (s.faultUnit n u).dec = s.dec := by rw [FaultOnly.faultUnit s n u]
@[simp] theorem State.faultUnit_enc (n u : Nat) : (s.faultUnit n u).enc = s.enc := by rw [FaultOnly.faultUnit s n u]
@[simp] theorem State.faultUnit_cmp (n u : Nat) : (s.faultUnit n u).cmp = s.cmp := by rw [FaultOnly.faultUnit s n u]
@[simp] theorem State.faultUnit_cal (n u : Nat) : (s.faultUnit n u).cal = s.cal := by rw [FaultOnly.faultUnit s n u]
@[simp] theorem State.faultUnit_out (n u : Nat) : (s.faultUnit n u).out = s.out := by rw [FaultOnly.faultUnit s n u]
@[simp] theorem State.faultUnit_memc (n u : Nat) : (s.faultUnit n u).memc = s.memc := by rw [FaultOnly.faultUnit s n u]

@[simp] theorem State.faultData_pending (n d : Nat) : (s.faultData n d).pending = s.pending := by rw [FaultOnly.faultData s n d]
@[simp] theorem State.faultData_mem (n d : Nat) : (s.faultData n d).mem = s.mem := by rw [FaultOnly.faultData s n d]
@[simp] theorem State.faultData_memEpoch (n d : Nat) : (s.faultData n d).memEpoch = s.memEpoch := by rw [FaultOnly.faultData s n d]
@[simp] theorem State.faultData_tim (n d : Nat) : (s.faultData n d).tim = s.tim := by rw [FaultOnly.faultData s n d]
@[simp] theorem State.faultData_ctl (n d : Nat) : (s.faultData n d).ctl = s.ctl := by rw [FaultOnly.faultData s n d]
@[simp] theorem State.faultData_rng (n d : Nat) : (s.faultData n d).rng = s.rng := by rw [FaultOnly.faultData s n d]
@[simp] theorem State.faultData_dma (n d : Nat) : (s.faultData n d).dma = s.dma := by rw [FaultOnly.faultData s n d]
@[simp] theorem State.faultData_alm (n d : Nat) : (s.faultData n d).alm = s.alm := by rw [FaultOnly.faultData s n d]
@[simp] theorem State.faultData_fuse (n d : Nat) : (s.faultData n d).fuse = s.fuse := by rw [FaultOnly.faultData s n d]
@[simp] theorem State.faultData_glb (n d : Nat) : (s.faultData n d).glb = s.glb := by rw [FaultOnly.faultData s n d]
@[simp] theorem State.faultData_sec (n d : Nat) : (s.faultData n d).sec = s.sec := by rw [FaultOnly.faultData s n d]
@[simp] theorem State.faultData_gng (n d : Nat) : (s.faultData n d).gng = s.gng := by rw [FaultOnly.faultData s n d]
@[simp] theorem State.faultData_pin (n d : Nat) : (s.faultData n d).pin = s.pin := by rw [FaultOnly.faultData s n d]
@[simp] theorem State.faultData_net (n d : Nat) : (s.faultData n d).net = s.net := by rw [FaultOnly.faultData s n d]
@[simp] theorem State.faultData_bpm (n d : Nat) : (s.faultData n d).bpm = s.bpm := by rw [FaultOnly.faultData s n d]
@[simp] theorem State.faultData_ing (n d : Nat) : (s.faultData n d).ing = s.ing := by rw [FaultOnly.faultData s n d]
@[simp] theorem State.faultData_dec (n d : Nat) : (s.faultData n d).dec = s.dec := by rw [FaultOnly.faultData s n d]
@[simp] theorem State.faultData_enc (n d : Nat) : (s.faultData n d).enc = s.enc := by rw [FaultOnly.faultData s n d]
@[simp] theorem State.faultData_cmp (n d : Nat) : (s.faultData n d).cmp = s.cmp := by rw [FaultOnly.faultData s n d]
@[simp] theorem State.faultData_cal (n d : Nat) : (s.faultData n d).cal = s.cal := by rw [FaultOnly.faultData s n d]
@[simp] theorem State.faultData_out (n d : Nat) : (s.faultData n d).out = s.out := by rw [FaultOnly.faultData s n d]
@[simp] theorem State.faultData_memc (n d : Nat) : (s.faultData n d).memc = s.memc := by rw [FaultOnly.faultData s n d]

@[simp] theorem State.faultU_pending (n : Nat) : (s.faultU n).pending = s.pending := by rw [FaultOnly.faultU s n]
@[simp] theorem State.faultU_mem (n : Nat) : (s.faultU n).mem = s.mem := by rw [FaultOnly.faultU s n]
@[simp] theorem State.faultU_memEpoch (n : Nat) : (s.faultU n).memEpoch = s.memEpoch := by rw [FaultOnly.faultU s n]
@[simp] theorem State.faultU_tim (n : Nat) : (s.faultU n).tim = s.tim := by rw [FaultOnly.faultU s n]
@[simp] theorem State.faultU_ctl (n : Nat) : (s.faultU n).ctl = s.ctl := by rw [FaultOnly.faultU s n]
@[simp] theorem State.faultU_rng (n : Nat) : (s.faultU n).rng = s.rng := by rw [FaultOnly.faultU s n]
@[simp] theorem State.faultU_dma (n : Nat) : (s.faultU n).dma = s.dma := by rw [FaultOnly.faultU s n]
@[simp] theorem State.faultU_alm (n : Nat) : (s.faultU n).alm = s.alm := by rw [FaultOnly.faultU s n]
@[simp] theorem State.faultU_fuse (n : Nat) : (s.faultU n).fuse = s.fuse := by rw [FaultOnly.faultU s n]
@[simp] theorem State.faultU_glb (n : Nat) : (s.faultU n).glb = s.glb := by rw [FaultOnly.faultU s n]
@[simp] theorem State.faultU_sec (n : Nat) : (s.faultU n).sec = s.sec := by rw [FaultOnly.faultU s n]
@[simp] theorem State.faultU_gng (n : Nat) : (s.faultU n).gng = s.gng := by rw [FaultOnly.faultU s n]
@[simp] theorem State.faultU_pin (n : Nat) : (s.faultU n).pin = s.pin := by rw [FaultOnly.faultU s n]
@[simp] theorem State.faultU_net (n : Nat) : (s.faultU n).net = s.net := by rw [FaultOnly.faultU s n]
@[simp] theorem State.faultU_bpm (n : Nat) : (s.faultU n).bpm = s.bpm := by rw [FaultOnly.faultU s n]
@[simp] theorem State.faultU_ing (n : Nat) : (s.faultU n).ing = s.ing := by rw [FaultOnly.faultU s n]
@[simp] theorem State.faultU_dec (n : Nat) : (s.faultU n).dec = s.dec := by rw [FaultOnly.faultU s n]
@[simp] theorem State.faultU_enc (n : Nat) : (s.faultU n).enc = s.enc := by rw [FaultOnly.faultU s n]
@[simp] theorem State.faultU_cmp (n : Nat) : (s.faultU n).cmp = s.cmp := by rw [FaultOnly.faultU s n]
@[simp] theorem State.faultU_cal (n : Nat) : (s.faultU n).cal = s.cal := by rw [FaultOnly.faultU s n]
@[simp] theorem State.faultU_out (n : Nat) : (s.faultU n).out = s.out := by rw [FaultOnly.faultU s n]
@[simp] theorem State.faultU_memc (n : Nat) : (s.faultU n).memc = s.memc := by rw [FaultOnly.faultU s n]

@[simp] theorem State.faultState_pending : s.faultState.pending = s.pending := by obtain ⟨e, g, k, h⟩ := s.faultState_eq; rw [h]
@[simp] theorem State.faultState_mem : s.faultState.mem = s.mem := by obtain ⟨e, g, k, h⟩ := s.faultState_eq; rw [h]
@[simp] theorem State.faultState_memEpoch : s.faultState.memEpoch = s.memEpoch := by obtain ⟨e, g, k, h⟩ := s.faultState_eq; rw [h]
@[simp] theorem State.faultState_flt : s.faultState.flt = s.flt := by obtain ⟨e, g, k, h⟩ := s.faultState_eq; rw [h]
@[simp] theorem State.faultState_tim : s.faultState.tim = s.tim := by obtain ⟨e, g, k, h⟩ := s.faultState_eq; rw [h]
@[simp] theorem State.faultState_ctl : s.faultState.ctl = s.ctl := by obtain ⟨e, g, k, h⟩ := s.faultState_eq; rw [h]
@[simp] theorem State.faultState_rng : s.faultState.rng = s.rng := by obtain ⟨e, g, k, h⟩ := s.faultState_eq; rw [h]
@[simp] theorem State.faultState_dma : s.faultState.dma = s.dma := by obtain ⟨e, g, k, h⟩ := s.faultState_eq; rw [h]
@[simp] theorem State.faultState_alm : s.faultState.alm = s.alm := by obtain ⟨e, g, k, h⟩ := s.faultState_eq; rw [h]
@[simp] theorem State.faultState_fuse : s.faultState.fuse = s.fuse := by obtain ⟨e, g, k, h⟩ := s.faultState_eq; rw [h]
@[simp] theorem State.faultState_glb : s.faultState.glb = s.glb := by obtain ⟨e, g, k, h⟩ := s.faultState_eq; rw [h]
@[simp] theorem State.faultState_nvm : s.faultState.nvm = s.nvm := by obtain ⟨e, g, k, h⟩ := s.faultState_eq; rw [h]
@[simp] theorem State.faultState_sec : s.faultState.sec = s.sec := by obtain ⟨e, g, k, h⟩ := s.faultState_eq; rw [h]
@[simp] theorem State.faultState_gng : s.faultState.gng = s.gng := by obtain ⟨e, g, k, h⟩ := s.faultState_eq; rw [h]
@[simp] theorem State.faultState_pin : s.faultState.pin = s.pin := by obtain ⟨e, g, k, h⟩ := s.faultState_eq; rw [h]
@[simp] theorem State.faultState_net : s.faultState.net = s.net := by obtain ⟨e, g, k, h⟩ := s.faultState_eq; rw [h]
@[simp] theorem State.faultState_bpm : s.faultState.bpm = s.bpm := by obtain ⟨e, g, k, h⟩ := s.faultState_eq; rw [h]
@[simp] theorem State.faultState_ing : s.faultState.ing = s.ing := by obtain ⟨e, g, k, h⟩ := s.faultState_eq; rw [h]
@[simp] theorem State.faultState_dec : s.faultState.dec = s.dec := by obtain ⟨e, g, k, h⟩ := s.faultState_eq; rw [h]
@[simp] theorem State.faultState_enc : s.faultState.enc = s.enc := by obtain ⟨e, g, k, h⟩ := s.faultState_eq; rw [h]
@[simp] theorem State.faultState_cmp : s.faultState.cmp = s.cmp := by obtain ⟨e, g, k, h⟩ := s.faultState_eq; rw [h]
@[simp] theorem State.faultState_cal : s.faultState.cal = s.cal := by obtain ⟨e, g, k, h⟩ := s.faultState_eq; rw [h]
@[simp] theorem State.faultState_out : s.faultState.out = s.out := by obtain ⟨e, g, k, h⟩ := s.faultState_eq; rw [h]
@[simp] theorem State.faultState_memc : s.faultState.memc = s.memc := by obtain ⟨e, g, k, h⟩ := s.faultState_eq; rw [h]

/-! ### Registers outside the event controller and the fault collector -/

theorem NotFlt.notEvt {off : Nat} (h : NotFlt off) : NotEvt off := by
  have := h.1; unfold NotEvt; omega

theorem State.rd_setPend (n d : Nat) (r : Option EvRec) (off : Nat) (hn : n < 1024) (h : NotEvt off) :
    (s.setPend n d r).rd off = s.rd off := by
  have h1 : off ≠ (F.EVT_SRC_STAT_PENDING n).off := by
    simp only [F.EVT_SRC_STAT_PENDING, R.EVT_SRC_STAT]; unfold NotEvt at h; omega
  have h2 : off ≠ F.EVT_GLB_STAT_PENDING_SOURCES.off := by
    simp only [F.EVT_GLB_STAT_PENDING_SOURCES, R.EVT_GLB_STAT]; unfold NotEvt at h; omega
  unfold State.setPend
  dsimp only
  split
  · rw [State.rd_decr_other _ _ _ h2, State.rd_putB_other _ _ _ _ h1]; rfl
  · split
    · rw [State.rd_inc_other _ _ _ h2, State.rd_putB_other _ _ _ _ h1]; rfl
    · rw [State.rd_putB_other _ _ _ _ h1]; rfl

theorem State.rd_addPend (n data d off : Nat) (hn : n < 1024) (h : NotEvt off) : (s.addPend n data d).rd off = s.rd off := by
  unfold State.addPend
  split
  · exact s.rd_setPend n d _ off hn h
  · dsimp only
    split
    · rw [State.rd_setPend _ n d _ off hn h]; rfl
    · exact s.rd_setPend n d _ off hn h

theorem State.rd_addPends (n data off : Nat) (hn : n < 1024) (h : NotEvt off) (l : List Nat) : ∀ s : State,
    (l.foldl (fun s d => State.addPend s n data d) s).rd off = s.rd off := by
  induction l with
  | nil => exact fun s => rfl
  | cons d r ih => exact fun s => by rw [List.foldl_cons, ih, s.rd_addPend n data d off hn h]

theorem State.rd_occur (n data off : Nat) (hn : n < 1024) (h : NotEvt off) : (s.occur n data).rd off = s.rd off := by
  have h1 : off ≠ (F.EVT_SRC_COUNT n).off := by
    simp only [F.EVT_SRC_COUNT, R.EVT_SRC_COUNT]; unfold NotEvt at h; omega
  unfold State.occur
  dsimp only
  rw [State.rd_addPends n _ off hn h, State.rd_inc_other _ _ _ h1]

/-- Raising an event leaves every register outside block EVT alone. -/
theorem State.rd_raise (n data off : Nat) (hn : n < 1024) (h : NotEvt off) : (s.raise n data).rd off = s.rd off := by
  unfold State.raise
  split
  · rfl
  · exact s.rd_occur n data off hn h

theorem State.rd_raiseU (n off : Nat) (hn : n < 1024) (h : NotEvt off) : (s.raiseU n).rd off = s.rd off := by
  unfold State.raiseU
  rw [State.rd_used, s.rd_raise n _ off hn h]

theorem State.rd_setCond (n data : Nat) (b : Bool) (off : Nat) (hn : n < 1024) (h : NotEvt off) :
    (s.setCond n data b).rd off = s.rd off := by
  have h1 : off ≠ (F.EVT_SRC_STAT_ASSERTED n).off := by
    simp only [F.EVT_SRC_STAT_ASSERTED, R.EVT_SRC_STAT]; unfold NotEvt at h; omega
  unfold State.setCond
  dsimp only
  split
  · rw [State.rd_occur _ n data off hn h, State.rd_putB_other _ _ _ _ h1]
  · rw [State.rd_putB_other _ _ _ _ h1]

theorem State.rd_faultState (off : Nat) (h : NotFlt off) : s.faultState.rd off = s.rd off := by
  have h1 : off ≠ F.FLT_GLB_STAT_STATE.off := by
    simp only [F.FLT_GLB_STAT_STATE, R.FLT_GLB_STAT]; have := h.1; omega
  have h2 : off ≠ F.FLT_GLB_STAT_SET.off := by
    simp only [F.FLT_GLB_STAT_SET, R.FLT_GLB_STAT]; have := h.1; omega
  unfold State.faultState
  dsimp only
  split
  · rw [State.rd_raiseU _ 6 off (by omega) h.notEvt, State.rd_put_other _ _ _ _ h2, State.rd_put_other _ _ _ _ h1]
  · rw [State.rd_put_other _ _ _ _ h2, State.rd_put_other _ _ _ _ h1]

theorem State.rd_logPersist (data : List Byte) (off : Nat) (h : NotFlt off) : (s.logPersist data).rd off = s.rd off := by
  unfold State.logPersist
  split
  · rw [State.rd_raiseU _ 340 off (by omega) h.notEvt, State.rd_inc_other _ _ _ h.2]
  · rfl

theorem State.rd_faultLog (n sev unit data : Nat) (a b : Bool) (off : Nat) (h : NotFlt off) :
    (s.faultLog n sev unit data a b).rd off = s.rd off := by
  have hk : s.get F.FLT_LOG_NEXT < 32 := s.get_lt _
  have := h.1
  unfold State.faultLog
  dsimp only
  rw [State.rd_put_other _ _ _ _ (by simp only [F.FLT_LOG_NEXT, R.FLT_LOG_NEXT]; omega),
    State.rd_wr_other _ _ _ _ (by simp only [R.FLT_LOG_NS]; omega),
    State.rd_wr_other _ _ _ _ (by simp only [R.FLT_LOG_S]; omega),
    State.rd_wr_other _ _ _ _ (by simp only [R.FLT_LOG_DATA]; omega),
    State.rd_wr_other _ _ _ _ (by simp only [R.FLT_LOG_SRC]; omega)]

/-- The register at `off` reads in `t` as in `s`. -/
def SameAt (off : Nat) (s t : State) : Prop := t.rd off = s.rd off

theorem SameAt.trans {off : Nat} {s t u : State} (h : SameAt off s t) (k : SameAt off t u) : SameAt off s u := Eq.trans k h
theorem SameAt.ite {off : Nat} {s t u : State} (c : Prop) [Decidable c] (h : SameAt off s t) (k : SameAt off s u) :
    SameAt off s (if c then t else u) := by split <;> assumption

/-- A fault leaves every register outside blocks FLT and EVT alone, but for the count of dropped log records. -/
theorem State.rd_fault (n unit data off : Nat) (hn : n < 256) (h : NotFlt off) : (s.fault n unit data).rd off = s.rd off := by
  have hb := h.1
  have c1 : off ≠ (F.FLT_SRC_COUNT n).off := by simp only [F.FLT_SRC_COUNT, R.FLT_SRC_COUNT]; omega
  have c2 : off ≠ (F.FLT_SRC_STAT_STATUS n).off := by simp only [F.FLT_SRC_STAT_STATUS, R.FLT_SRC_STAT]; omega
  have c3 : off ≠ (F.FLT_SRC_STAT_LEVEL n).off := by simp only [F.FLT_SRC_STAT_LEVEL, R.FLT_SRC_STAT]; omega
  have c4 : off ≠ (F.FLT_SRC_STAT_UNIT n).off := by simp only [F.FLT_SRC_STAT_UNIT, R.FLT_SRC_STAT]; omega
  show SameAt off s _
  unfold State.fault
  dsimp only
  refine SameAt.ite _ (SameAt.trans (t := (s.inc (F.FLT_SRC_COUNT n)).faultLog n 0 unit data false false)
    (SameAt.trans (t := s.inc (F.FLT_SRC_COUNT n)) (State.rd_inc_other _ _ _ c1) (State.rd_faultLog _ _ _ _ _ _ _ off h))
    (State.rd_put_other _ _ _ _ c4)) ?_
  refine SameAt.trans ?_ (State.rd_faultState _ off h)
  refine SameAt.trans ?_ (SameAt.ite _ rfl rfl)
  refine SameAt.trans ?_ (SameAt.ite _ (State.rd_raiseU _ 2 off (by omega) h.notEvt) rfl)
  refine SameAt.trans ?_ (State.rd_raise _ 1 _ off (by omega) h.notEvt)
  refine SameAt.trans ?_ (State.rd_put_other _ _ _ _ c4)
  refine SameAt.trans ?_ (State.rd_put_other _ _ _ _ c3)
  refine SameAt.trans ?_ (State.rd_stick_other _ _ _ c2)
  refine SameAt.trans ?_ (SameAt.ite _ (State.rd_logPersist _ _ off h) rfl)
  exact SameAt.trans (t := s.inc (F.FLT_SRC_COUNT n)) (State.rd_inc_other _ _ _ c1) (State.rd_faultLog _ _ _ _ _ _ _ off h)

theorem State.rd_faultUnit (n unit off : Nat) (hn : n < 256) (h : NotFlt off) : (s.faultUnit n unit).rd off = s.rd off :=
  s.rd_fault n unit _ off hn h
theorem State.rd_faultData (n data off : Nat) (hn : n < 256) (h : NotFlt off) : (s.faultData n data).rd off = s.rd off :=
  s.rd_fault n _ data off hn h
theorem State.rd_faultU (n off : Nat) (hn : n < 256) (h : NotFlt off) : (s.faultU n).rd off = s.rd off :=
  s.used.rd_faultData n _ off hn h

/-! ### What a raised event does -/

theorem State.get_setPend_count (n d m : Nat) (r : Option EvRec) (_hn : n < 1024) (hm : m < 1024) :
    (s.setPend n d r).rd (R.EVT_SRC_COUNT m) = s.rd (R.EVT_SRC_COUNT m) := by
  have h1 : R.EVT_SRC_COUNT m ≠ (F.EVT_SRC_STAT_PENDING n).off := by
    simp only [F.EVT_SRC_STAT_PENDING, R.EVT_SRC_STAT, R.EVT_SRC_COUNT]; omega
  have h2 : R.EVT_SRC_COUNT m ≠ F.EVT_GLB_STAT_PENDING_SOURCES.off := by
    simp only [F.EVT_GLB_STAT_PENDING_SOURCES, R.EVT_GLB_STAT, R.EVT_SRC_COUNT]; omega
  unfold State.setPend
  dsimp only
  split
  · rw [State.rd_decr_other _ _ _ h2, State.rd_putB_other _ _ _ _ h1]; rfl
  · split
    · rw [State.rd_inc_other _ _ _ h2, State.rd_putB_other _ _ _ _ h1]; rfl
    · rw [State.rd_putB_other _ _ _ _ h1]; rfl

theorem State.rd_addPend_count (n data d m : Nat) (hn : n < 1024) (hm : m < 1024) :
    (s.addPend n data d).rd (R.EVT_SRC_COUNT m) = s.rd (R.EVT_SRC_COUNT m) := by
  unfold State.addPend
  split
  · exact s.get_setPend_count n d m _ hn hm
  · dsimp only
    split
    · rw [State.get_setPend_count _ n d m _ hn hm]; rfl
    · exact s.get_setPend_count n d m _ hn hm

theorem State.rd_addPends_count (n data m : Nat) (hn : n < 1024) (hm : m < 1024) (l : List Nat) : ∀ s : State,
    (l.foldl (fun s d => State.addPend s n data d) s).rd (R.EVT_SRC_COUNT m) = s.rd (R.EVT_SRC_COUNT m) := by
  induction l with
  | nil => exact fun s => rfl
  | cons d r ih => exact fun s => by rw [List.foldl_cons, ih, s.rd_addPend_count n data d m hn hm]

/-- Each occurrence counts once in EVT_SRC_COUNT of its source, whether or not the source is enabled (R421). -/
theorem State.count_occur (n data : Nat) (hn : n < 1024) :
    (s.occur n data).get (F.EVT_SRC_COUNT n) = (s.get (F.EVT_SRC_COUNT n) + 1) % 2 ^ 32 := by
  unfold State.occur
  dsimp only
  have e : ∀ (l : List Nat) (t : State), (l.foldl (fun s d => State.addPend s n (data % 2 ^ 32) d) t).get (F.EVT_SRC_COUNT n) =
      t.get (F.EVT_SRC_COUNT n) := by
    intro l t
    simp only [State.get, F.EVT_SRC_COUNT]
    rw [State.rd_addPends_count n _ n hn hn l t]
  rw [e, State.get_inc_same _ _ (by simp [F.EVT_SRC_COUNT])]
  rfl

/-! ### What a fault does to the registers of the fault collector -/

/-- The offset lies in block FLT, outside its state and its log (R437). -/
def InFlt (off : Nat) : Prop :=
  0x10000 ≤ off ∧ off < 0x20000 ∧ off ≠ R.FLT_GLB_STAT ∧ off ≠ R.FLT_LOG_NEXT ∧ (off < 0x19000 ∨ 0x19200 ≤ off)

theorem InFlt.notEvt {off : Nat} (h : InFlt off) : NotEvt off := .inl h.2.1

theorem State.rd_faultState_flt (off : Nat) (h : InFlt off) : s.faultState.rd off = s.rd off := by
  unfold State.faultState
  dsimp only
  split
  · rw [State.rd_raiseU _ 6 off (by omega) h.notEvt, State.rd_put_other _ _ _ _ h.2.2.1, State.rd_put_other _ _ _ _ h.2.2.1]
  · rw [State.rd_put_other _ _ _ _ h.2.2.1, State.rd_put_other _ _ _ _ h.2.2.1]

theorem State.rd_logPersist_flt (data : List Byte) (off : Nat) (h : InFlt off) : (s.logPersist data).rd off = s.rd off := by
  have hd : off ≠ F.NVM_LOG_DROPPED.off := by have := h.1; have := h.2.1; simp only [F.NVM_LOG_DROPPED, R.NVM_LOG_DROPPED]; omega
  unfold State.logPersist
  split
  · rw [State.rd_raiseU _ 340 off (by omega) h.notEvt, State.rd_inc_other _ _ _ hd]
  · rfl

theorem State.rd_faultLog_flt (n sev unit data : Nat) (a b : Bool) (off : Nat) (h : InFlt off) :
    (s.faultLog n sev unit data a b).rd off = s.rd off := by
  have hk : s.get F.FLT_LOG_NEXT < 32 := s.get_lt _
  have := h.2.2.2.2
  unfold State.faultLog
  dsimp only
  rw [State.rd_put_other _ _ _ _ h.2.2.2.1,
    State.rd_wr_other _ _ _ _ (by simp only [R.FLT_LOG_NS]; omega),
    State.rd_wr_other _ _ _ _ (by simp only [R.FLT_LOG_S]; omega),
    State.rd_wr_other _ _ _ _ (by simp only [R.FLT_LOG_DATA]; omega),
    State.rd_wr_other _ _ _ _ (by simp only [R.FLT_LOG_SRC]; omega)]

/-- A fault writes no register of block FLT but its own count and status, the state and the log. -/
theorem State.rd_fault_flt (n unit data off : Nat) (h : InFlt off) (h1 : off ≠ R.FLT_SRC_COUNT n) (h2 : off ≠ R.FLT_SRC_STAT n) :
    (s.fault n unit data).rd off = s.rd off := by
  show SameAt off s _
  unfold State.fault
  dsimp only
  refine SameAt.ite _ (SameAt.trans (t := (s.inc (F.FLT_SRC_COUNT n)).faultLog n 0 unit data false false)
    (SameAt.trans (t := s.inc (F.FLT_SRC_COUNT n)) (State.rd_inc_other _ _ _ h1) (State.rd_faultLog_flt _ _ _ _ _ _ _ off h))
    (State.rd_put_other _ _ _ _ h2)) ?_
  refine SameAt.trans ?_ (State.rd_faultState_flt _ off h)
  refine SameAt.trans ?_ (SameAt.ite _ rfl rfl)
  refine SameAt.trans ?_ (SameAt.ite _ (State.rd_raiseU _ 2 off (by omega) h.notEvt) rfl)
  refine SameAt.trans ?_ (State.rd_raise _ 1 _ off (by omega) h.notEvt)
  refine SameAt.trans ?_ (State.rd_put_other _ _ _ _ h2)
  refine SameAt.trans ?_ (State.rd_put_other _ _ _ _ h2)
  refine SameAt.trans ?_ (State.rd_stick_other _ _ _ h2)
  refine SameAt.trans ?_ (SameAt.ite _ (State.rd_logPersist_flt _ _ off h) rfl)
  exact SameAt.trans (t := s.inc (F.FLT_SRC_COUNT n)) (State.rd_inc_other _ _ _ h1) (State.rd_faultLog_flt _ _ _ _ _ _ _ off h)

/-- A fault occurrence is counted once (R431). -/
theorem State.rd_fault_count (n unit data : Nat) (hn : n < 256) :
    (s.fault n unit data).rd (R.FLT_SRC_COUNT n) = (s.inc (F.FLT_SRC_COUNT n)).rd (R.FLT_SRC_COUNT n) := by
  have h : InFlt (R.FLT_SRC_COUNT n) := by
    simp only [InFlt, R.FLT_SRC_COUNT, R.FLT_GLB_STAT, R.FLT_LOG_NEXT]; omega
  have h2 : R.FLT_SRC_COUNT n ≠ R.FLT_SRC_STAT n := by simp only [R.FLT_SRC_COUNT, R.FLT_SRC_STAT]; omega
  show SameAt (R.FLT_SRC_COUNT n) (s.inc (F.FLT_SRC_COUNT n)) _
  unfold State.fault
  dsimp only
  refine SameAt.ite _ (SameAt.trans (t := (s.inc (F.FLT_SRC_COUNT n)).faultLog n 0 unit data false false)
    (State.rd_faultLog_flt _ _ _ _ _ _ _ _ h) (State.rd_put_other _ _ _ _ h2)) ?_
  refine SameAt.trans ?_ (State.rd_faultState_flt _ _ h)
  refine SameAt.trans ?_ (SameAt.ite _ rfl rfl)
  refine SameAt.trans ?_ (SameAt.ite _ (State.rd_raiseU _ 2 _ (by omega) h.notEvt) rfl)
  refine SameAt.trans ?_ (State.rd_raise _ 1 _ _ (by omega) h.notEvt)
  refine SameAt.trans ?_ (State.rd_put_other _ _ _ _ h2)
  refine SameAt.trans ?_ (State.rd_put_other _ _ _ _ h2)
  refine SameAt.trans ?_ (State.rd_stick_other _ _ _ h2)
  refine SameAt.trans ?_ (SameAt.ite _ (State.rd_logPersist_flt _ _ _ h) rfl)
  exact State.rd_faultLog_flt _ _ _ _ _ _ _ _ h

theorem State.count_fault (n unit data : Nat) (hn : n < 256) :
    (s.fault n unit data).get (F.FLT_SRC_COUNT n) = (s.get (F.FLT_SRC_COUNT n) + 1) % 2 ^ 32 := by
  refine Eq.trans ?_ (State.get_inc_same s (F.FLT_SRC_COUNT n) (by simp [F.FLT_SRC_COUNT]))
  unfold State.get
  rw [show (F.FLT_SRC_COUNT n).off = R.FLT_SRC_COUNT n from rfl, s.rd_fault_count n unit data hn]

theorem State.count_faultUnit (n unit : Nat) (hn : n < 256) :
    (s.faultUnit n unit).get (F.FLT_SRC_COUNT n) = (s.get (F.FLT_SRC_COUNT n) + 1) % 2 ^ 32 := s.count_fault n unit _ hn
theorem State.count_faultData (n data : Nat) (hn : n < 256) :
    (s.faultData n data).get (F.FLT_SRC_COUNT n) = (s.get (F.FLT_SRC_COUNT n) + 1) % 2 ^ 32 := s.count_fault n _ data hn
theorem State.count_faultU (n : Nat) (hn : n < 256) :
    (s.faultU n).get (F.FLT_SRC_COUNT n) = (s.get (F.FLT_SRC_COUNT n) + 1) % 2 ^ 32 := s.used.count_faultData n _ hn

/-! ### The pending records of a source at a destination (R421) -/

theorem State.pendOf_setPend_same (n d : Nat) (r) : (s.setPend n d r).pendOf n d = r := by
  unfold State.setPend State.pendOf
  dsimp only
  split
  · simp [State.putB, State.put, State.wr, State.decr]
  · split <;> simp [State.putB, State.put, State.wr, State.inc, State.add]

theorem State.pendOf_setPend_other (n d m e : Nat) (r) (hd : d < 24) (he : e < 24) (h : m ≠ n ∨ e ≠ d) :
    (s.setPend n d r).pendOf m e = s.pendOf m e := by
  have k : pendKey m e ≠ pendKey n d := by unfold pendKey; omega
  unfold State.setPend State.pendOf
  dsimp only
  split
  · simp [State.putB, State.put, State.wr, State.decr, SMap.get_set_other _ _ _ _ _ k]
  · split <;> simp [State.putB, State.put, State.wr, State.inc, State.add, SMap.get_set_other _ _ _ _ _ k]

theorem State.pendOf_addPend_other (n data d m e : Nat) (hd : d < 24) (he : e < 24) (h : m ≠ n ∨ e ≠ d) :
    (s.addPend n data d).pendOf m e = s.pendOf m e := by
  unfold State.addPend
  split
  · exact State.pendOf_setPend_other s n d m e _ hd he h
  · dsimp only
    split
    · rw [State.pendOf_setPend_other _ n d m e _ hd he h]; rfl
    · exact State.pendOf_setPend_other s n d m e _ hd he h

/-- A pending record once one more occurrence has come (R421). -/
def pendBump (o : Option EvRec) (n data now : Nat) : Option EvRec :=
  match o with
  | some r => some { r with count := (r.count + 1) % 2 ^ 32 }
  | none => some ⟨n, 1, data, now, false, 0⟩

theorem State.pendOf_addPend_same (n data d : Nat) :
    (s.addPend n data d).pendOf n d = pendBump (s.pendOf n d) n data s.tim.now := by
  unfold State.addPend pendBump
  cases h : s.pendOf n d
  · dsimp only
    split
    · rw [State.pendOf_setPend_same]
    · rw [State.pendOf_setPend_same]
  · dsimp only; rw [State.pendOf_setPend_same]

theorem State.addPend_keeps_tim (n data d : Nat) : (s.addPend n data d).tim = s.tim := by
  obtain ⟨e, g, h⟩ := s.addPend_eq n data d; rw [h]

theorem pendOf_addPends_other (n data m e : Nat) (he : e < 24) (l : List Nat) (hl : ∀ d ∈ l, d < 24) (h : m ≠ n ∨ e ∉ l) : ∀ s : State,
    (l.foldl (fun s d => State.addPend s n data d) s).pendOf m e = s.pendOf m e := by
  induction l with
  | nil => exact fun s => rfl
  | cons d r ih =>
    intro s
    rw [List.foldl_cons, ih (fun x hx => hl x (List.mem_cons_of_mem _ hx)) (by
      rcases h with h | h
      · exact .inl h
      · exact .inr (fun k => h (List.mem_cons_of_mem _ k))),
      State.pendOf_addPend_other s n data d m e (hl d List.mem_cons_self) he (by
      rcases h with h | h
      · exact .inl h
      · exact .inr (fun k => h (k ▸ List.mem_cons_self)))]

theorem pendOf_addPends_same (n data e : Nat) (he : e < 24) (l : List Nat) (hl : ∀ d ∈ l, d < 24) (hn : l.Nodup) (h : e ∈ l) : ∀ s : State,
    (l.foldl (fun s d => State.addPend s n data d) s).pendOf n e = pendBump (s.pendOf n e) n data s.tim.now := by
  induction l with
  | nil => exact absurd h (by simp)
  | cons d r ih =>
    intro s
    rw [List.foldl_cons]
    rw [List.nodup_cons] at hn
    by_cases k : e = d
    · subst k
      rw [pendOf_addPends_other n data n e he r (fun x hx => hl x (List.mem_cons_of_mem _ hx)) (.inr hn.1), State.pendOf_addPend_same]
    · have m : e ∈ r := by rcases List.mem_cons.mp h with a | a; exact absurd a k; exact a
      rw [ih (fun x hx => hl x (List.mem_cons_of_mem _ hx)) hn.2 m, State.addPend_keeps_tim,
        State.pendOf_addPend_other s n data d n e (hl d List.mem_cons_self) he (.inr k)]

end Sys2Proof.Machine
end

