-- ==== Sys2Proof/Laws/Reset.lean ====
section
/-! SUPPORT. What a cold reset leaves (R462). -/

namespace Sys2Proof.Machine

variable (s : State)

theorem State.wrs_eq (l : List Nat) (off v : Nat → Nat) : ∀ s : State,
    ∃ g, l.foldl (fun (t : State) i => t.wr (off i) (v i)) s = { s with regs := g } := by
  induction l with
  | nil => exact fun s => ⟨s.regs, rfl⟩
  | cons k r ih =>
    intro s
    obtain ⟨g, h⟩ := ih (s.wr (off k) (v k))
    exact ⟨g, by rw [List.foldl_cons, h]; rfl⟩

theorem State.rd_wrs_other (l : List Nat) (off v : Nat → Nat) (o : Nat) (h : ∀ i ∈ l, o ≠ off i) : ∀ s : State,
    (l.foldl (fun (t : State) i => t.wr (off i) (v i)) s).rd o = s.rd o := by
  induction l with
  | nil => exact fun s => rfl
  | cons k r ih =>
    intro s
    rw [List.foldl_cons, ih (fun i hi => h i (List.mem_cons_of_mem _ hi)), State.rd_wr_other _ _ _ _ (h k List.mem_cons_self)]

theorem State.carry_eq (t : State) (l : List Nat) : ∃ g, s.carry t l = { t with regs := g } :=
  State.wrs_eq l (fun o => o) (fun o => s.rd o) t

theorem State.rd_carry_other (t : State) (l : List Nat) (o : Nat) (h : o ∉ l) : (s.carry t l).rd o = t.rd o :=
  State.rd_wrs_other l (fun o => o) (fun o => s.rd o) o (fun _ hi e => h (e ▸ hi)) t

theorem State.putWords_eq (off n : Nat) (l : List Byte) : ∃ g, s.putWords off l n = { s with regs := g } :=
  State.wrs_eq (List.range n) (fun i => off + 4 * i) (fun i => wordBE l (4 * i)) s

theorem State.rd_putWords_other (off n : Nat) (l : List Byte) (o : Nat) (h : o < off ∨ off + 4 * n ≤ o) :
    (s.putWords off l n).rd o = s.rd o :=
  State.rd_wrs_other (List.range n) (fun i => off + 4 * i) (fun i => wordBE l (4 * i)) o
    (fun i hi => by have := List.mem_range.mp hi; omega) s

/-- Every block but the pins is at reset after `clean`. -/
theorem State.clean_eq : ∃ g, s.clean = { State.reset with
    pending := s.pending, draw := s.draw, fuse := s.fuse, pin := s.pin, regs := g,
    nvm := { State.reset.nvm with cs0 := s.nvm.cs0, cs1 := s.nvm.cs1, sysrstLow := s.nvm.sysrstLow,
                                  memClkLost := s.nvm.memClkLost, held := s.nvm.held },
    cmp := { State.reset.cmp with ltLow := s.cmp.ltLow } } := by
  unfold State.clean
  dsimp only
  obtain ⟨g, h⟩ := s.carry_eq ({ State.reset with
    regs := (resetWith s.fuse).regs, pending := s.pending, draw := s.draw, fuse := s.fuse, pin := s.pin,
    nvm := { State.reset.nvm with cs0 := s.nvm.cs0, cs1 := s.nvm.cs1, sysrstLow := s.nvm.sysrstLow,
                                  memClkLost := s.nvm.memClkLost, held := s.nvm.held },
    cmp := { State.reset.cmp with ltLow := s.cmp.ltLow } }) liveRegs
  have k : ∀ (t : State) (b : Bool), ∃ g, t.putB F.CMP_GLB_LT_PIN_RAW b = { t with regs := g } := fun t b => ⟨_, rfl⟩
  obtain ⟨g2, h2⟩ := k (s.carry _ liveRegs) s.cmp.ltLow
  exact ⟨g2, by rw [h2, h]⟩

theorem State.rd_clean (o : Nat) (h : heldLive o = false) : s.clean.rd o = (resetWith s.fuse).rd o := by
  simp only [heldLive, Bool.or_eq_false_iff, decide_eq_false_iff_not, List.mem_cons, List.not_mem_nil, not_or] at h
  unfold State.clean
  dsimp only
  rw [State.rd_putB_other _ _ _ _ (by simpa [F.CMP_GLB_LT_PIN_RAW] using h.1.1.2.2.2.1),
    State.rd_carry_other _ _ _ _ (by simp only [liveRegs, List.mem_cons, List.not_mem_nil]; grind)]
  rfl

theorem State.putBs_eq (l : List Nat) (f : Nat → Fld) (p : State → Nat → Bool) : ∀ s : State,
    ∃ g, l.foldl (fun (t : State) i => t.putB (f i) (p t i)) s = { s with regs := g } := by
  induction l with
  | nil => exact fun s => ⟨s.regs, rfl⟩
  | cons k r ih =>
    intro s
    obtain ⟨g, h⟩ := ih (s.putB (f k) (p s k))
    exact ⟨g, by rw [List.foldl_cons, h]; rfl⟩

theorem State.rd_putBs_other (l : List Nat) (f : Nat → Fld) (p : State → Nat → Bool) (o : Nat) (h : ∀ i ∈ l, o ≠ (f i).off) :
    ∀ s : State, (l.foldl (fun (t : State) i => t.putB (f i) (p t i)) s).rd o = s.rd o := by
  induction l with
  | nil => exact fun s => rfl
  | cons k r ih =>
    intro s
    rw [List.foldl_cons, ih (fun i hi => h i (List.mem_cons_of_mem _ hi)), State.rd_putB_other _ _ _ _ (h k List.mem_cons_self)]

theorem State.ballsAsserted_eq : ∃ g, s.ballsAsserted = { s with regs := g } :=
  State.putBs_eq (List.range 16) (fun g => F.EVT_SRC_STAT_ASSERTED (384 + g)) (fun s g => s.pin.gpio.getLsbD g) s

theorem State.rd_ballsAsserted (o : Nat) (h : heldLive o = false) : s.ballsAsserted.rd o = s.rd o := by
  simp only [heldLive, Bool.or_eq_false_iff, List.any_eq_false, decide_eq_true_eq] at h
  exact State.rd_putBs_other (List.range 16) (fun g => F.EVT_SRC_STAT_ASSERTED (384 + g)) (fun s g => s.pin.gpio.getLsbD g) o
    (fun g hg => h.1.2 g hg) s

theorem State.liveCauses_eq : ∃ g, s.liveCauses = { s with regs := g } := by
  unfold State.liveCauses
  dsimp only
  obtain ⟨g, h⟩ := State.ballsAsserted_eq (State.setCause _ _ _)
  exact ⟨g, by rw [h]; rfl⟩

theorem State.rd_liveCauses (o : Nat) (h : heldLive o = false) : s.liveCauses.rd o = s.rd o := by
  have hb := h
  simp only [heldLive, Bool.or_eq_false_iff, decide_eq_false_iff_not, List.mem_cons, List.not_mem_nil, not_or] at h
  unfold State.liveCauses State.setCause
  dsimp only
  rw [State.rd_ballsAsserted _ o hb, State.rd_putB_other _ _ _ _ (by simp only [F.FLT_SRC_STAT_CAUSE]; grind),
    State.rd_putB_other _ _ _ _ (by simp only [F.FLT_SRC_STAT_CAUSE]; grind),
    State.rd_putB_other _ _ _ _ (by simp only [F.FLT_SRC_STAT_CAUSE]; grind),
    State.rd_putB_other _ _ _ _ (by simp only [F.FLT_SRC_STAT_CAUSE]; grind)]

theorem State.newChallenge_eq : ∃ g, s.newChallenge = { s with regs := g, draw := s.draw + 1 } := by
  obtain ⟨g, h⟩ := State.putWords_eq ({ s with draw := s.draw + 1 }) (R.SEC_DBG_CHAL 0) 8
    ((Config.random s.draw 32 ++ List.replicate 32 0).take 32)
  exact ⟨g, h⟩

theorem State.rd_newChallenge (o : Nat) (h : heldLive o = false) : s.newChallenge.rd o = s.rd o := by
  have hc : ¬(R.SEC_DBG_CHAL 0 ≤ o ∧ o < R.SEC_DBG_CHAL 8) := by
    simp only [heldLive, Bool.or_eq_false_iff, decide_eq_false_iff_not] at h
    exact h.2
  simp only [R.SEC_DBG_CHAL] at hc
  have := State.rd_putWords_other ({ s with draw := s.draw + 1 }) (R.SEC_DBG_CHAL 0) 8
    ((Config.random s.draw 32 ++ List.replicate 32 0).take 32) o (by simp only [R.SEC_DBG_CHAL]; omega)
  exact this

/-- All that a cold reset leaves, as one equation: the fuses, the NVM devices, the pins, the waiting commands and the registers
keep something of what they held, and nothing else does (R462). -/
theorem State.coldReset_eq : ∃ g k, s.coldReset = { State.reset with
    pending := s.pending, draw := k, fuse := s.fuse, pin := s.pin, regs := g,
    nvm := { State.reset.nvm with cs0 := s.nvm.cs0, cs1 := s.nvm.cs1, sysrstLow := s.nvm.sysrstLow,
                                  memClkLost := s.nvm.memClkLost, held := s.nvm.held },
    cmp := { State.reset.cmp with ltLow := s.cmp.ltLow } } := by
  obtain ⟨g1, h1⟩ := s.clean_eq
  obtain ⟨g2, h2⟩ := s.clean.liveCauses_eq
  obtain ⟨g3, h3⟩ := s.clean.liveCauses.newChallenge_eq
  exact ⟨g3, _, by unfold State.coldReset; rw [h3, h2, h1]⟩

/-- After a cold reset every register reads its reset value, a fused one that of the fuses, but for those that show pins and lasting conditions. -/
theorem State.rd_coldReset (o : Nat) (h : heldLive o = false) : s.coldReset.rd o = (resetWith s.fuse).rd o := by
  unfold State.coldReset
  rw [State.rd_newChallenge _ o h, State.rd_liveCauses _ o h, s.rd_clean o h]

theorem State.coldReset_atReset : s.coldReset.AtReset := by
  have hr := s.rd_coldReset
  obtain ⟨g, k, h⟩ := s.coldReset_eq
  have hf : s.coldReset.fuse = s.fuse := by rw [h]
  constructor <;> first | (rw [hf]; exact hr) | rw [h]; rfl | rw [h]

end Sys2Proof.Machine
end

