-- ==== Sys2Proof/Laws/Exec.lean ====
section
/-! SUPPORT. What exec does with each command, as one equation, and the few shapes that a command's meaning takes. -/

namespace Sys2Proof.Machine
open Sys2Proof

variable (s : State)

/-! ### One equation for each command -/

theorem exec_porstNRelease (dt : Nat) : exec (.porstNRelease dt) s =
    .next (s.advance dt).porstRelease := rfl
theorem exec_sysrstNLow (dt : Nat) : exec (.sysrstNLow dt) s =
    s.run dt 0 (fun s => s.sysrstFall) := rfl
theorem exec_warm (dt : Nat) : exec (.warm dt) s =
    s.run dt railCore (fun s => s.setField F.GLB_RST_CMD_WARM 1) := rfl
theorem exec_warmResetDelayExpiry (dt : Nat) : exec (.warmResetDelayExpiry dt) s =
    s.run dt 0 (fun s => s.warmDelay) := rfl
theorem exec_vaonLow (dt : Nat) : exec (.vaonLow dt) s =
    .next ((s.advance dt).coldReset.keepOutside s) := rfl
theorem exec_railOutOfRange (dt : Nat) (rail : Fin 7) : exec (.railOutOfRange dt rail) s =
    s.runPin dt 0 (fun s => s.railOut rail) := rfl
theorem exec_railBackInRange (dt : Nat) (rail : Fin 7) : exec (.railBackInRange dt rail) s =
    s.runPin dt 0 (fun s => s.railBack rail) := rfl
theorem exec_refclkEthLost (dt : Nat) (p : Fin 4) : exec (.refclkEthLost dt p) s =
    s.runPin dt 0 (fun s => s.ethClkLost p) := rfl
theorem exec_refclkEthReturn (dt : Nat) (p : Fin 4) : exec (.refclkEthReturn dt p) s =
    s.runPin dt 0 (fun s => s.ethClkBack p) := rfl
theorem exec_refclkMemLost (dt : Nat) : exec (.refclkMemLost dt) s =
    .next ((s.advance dt).memClkLoss.keepOutside s) := rfl
theorem exec_fusesRead (dt : Nat) : exec (.fusesRead dt) s =
    s.run dt railCore (fun s => s.fusesRead) := rfl
theorem exec_selectDone (dt : Nat) (cs0 cs1 : Option (Nat × Nat)) : exec (.selectDone dt cs0 cs1) s =
    s.run dt railCore (fun s => s.selectDone cs0 cs1) := rfl
theorem exec_verifyDone (dt : Nat) (readOk fuseOk : Bool) : exec (.verifyDone dt readOk fuseOk) s =
    s.run dt railCore (fun s => s.verifyDone readOk fuseOk) := rfl
theorem exec_loadDone (dt : Nat) (readOk : Bool) : exec (.loadDone dt readOk) s =
    s.run dt railCore (fun s => s.loadDone readOk) := rfl
theorem exec_dramTrainingDone (dt : Nat) (pass : BitVec 8) : exec (.dramTrainingDone dt pass) s =
    s.run dt railMem (fun s => s.trainingDone pass.toNat) := rfl
theorem exec_blobsDone (dt : Nat) (readOk : Bool) (badCurves : List Nat) : exec (.blobsDone dt readOk badCurves) s =
    s.run dt railMem (fun s => s.blobsDone readOk badCurves) := rfl
theorem exec_runEntry (dt : Nat) : exec (.runEntry dt) s =
    s.run dt railCore (fun s => s.runEntry) := rfl
theorem exec_rxFrame (dt : Nat) (l : Fin 16) (frame : List Byte) (fcsOk both : Bool) : exec (.rxFrame dt l frame fcsOk both) s =
    s.run dt railEth (fun s => s.rxFrame l frame fcsOk both) := rfl
theorem exec_pause (dt : Nat) (l : Fin 16) (quanta : BitVec 16) : exec (.pause dt l quanta) s =
    s.run dt railEth (fun s => (s.consumeRx (ownPort l)).pauseRx l quanta.toNat) := rfl
theorem exec_pauseExpiry (dt : Nat) (l : Fin 16) : exec (.pauseExpiry dt l) s =
    s.run dt railEth (fun s => s.pauseExpiry l) := rfl
theorem exec_arpRequest (dt : Nat) (l : Fin 16) (src : List Byte) (senderIp targetIp : Nat) : exec (.arpRequest dt l src senderIp targetIp) s =
    s.run dt railEth (fun s => (s.consumeRx (ownPort l)).arpAnswer l src senderIp targetIp) := rfl
theorem exec_neighbourSolicitation (dt : Nat) (l : Fin 16) (src : List Byte) (senderIp targetIp : Nat) (conflict : Bool) : exec (.neighbourSolicitation dt l src senderIp targetIp conflict) s =
    s.run dt railEth (fun s => (s.consumeRx (ownPort l)).nsAnswer l src senderIp targetIp conflict) := rfl
theorem exec_echoRequest (dt : Nat) (l : Fin 16) (src : List Byte) (ipv6 : Bool) (senderIp targetIp : Nat) (body : List Byte) : exec (.echoRequest dt l src ipv6 senderIp targetIp body) s =
    s.run dt railEth (fun s => (s.consumeRx (ownPort l)).echoAnswer l src ipv6 senderIp targetIp body) := rfl
theorem exec_membershipQuery (dt : Nat) (l : Fin 16) (ipv6 : Bool) (group : Option Nat) (sources : List Nat) (version : Nat) : exec (.membershipQuery dt l ipv6 group sources version) s =
    s.run dt railEth (fun s => (s.consumeRx (ownPort l)).queryAnswer l ipv6 group sources version) := rfl
theorem exec_unsolicitedReport (dt : Nat) : exec (.unsolicitedReport dt) s =
    s.run dt railEth (fun s => s.unsolicited) := rfl
theorem exec_linkChange (dt : Nat) (l : Fin 16) (up : Bool) : exec (.linkChange dt l up) s =
    s.run dt railEth (fun s => s.linkChange l up) := rfl
theorem exec_fecUncorrectable (dt : Nat) (p : Fin 4) (lane : Fin 4) : exec (.fecUncorrectable dt p lane) s =
    s.run dt railEth (fun s => s.fecUncorrectable p lane) := rfl
theorem exec_portEnable (dt : Nat) (l : Fin 16) : exec (.portEnable dt l) s =
    s.run dt railEth (fun s => s.setField (F.NET_LP_CTL_EN l) 1) := rfl
theorem exec_portDisable (dt : Nat) (l : Fin 16) : exec (.portDisable dt l) s =
    s.run dt railEth (fun s => s.setField (F.NET_LP_CTL_EN l) 0) := rfl
theorem exec_portIdle (dt : Nat) (l : Fin 16) : exec (.portIdle dt l) s =
    s.run dt railEth (fun s => s.portIdle l) := rfl
theorem exec_ingestItem (dt : Nat) (n : Fin 256) (stray : Bool) (ptr : BitVec 64) (before after : Bool) : exec (.ingestItem dt n stray ptr before after) s =
    s.run dt railCore (fun s => s.ingestItem n (if stray then some ptr.toNat else none) before after) := rfl
theorem exec_bankDrainStart (dt : Nat) (n : Fin 256) : exec (.bankDrainStart dt n) s =
    s.run dt railMem (fun s => s.drainStart n) := rfl
theorem exec_drainResume (dt : Nat) (n : Fin 256) : exec (.drainResume dt n) s =
    s.run dt railMem (fun s => s.drainResume n) := rfl
theorem exec_bankDrained (dt : Nat) (n : Fin 256) : exec (.bankDrained dt n) s =
    s.run dt railMem (fun s => s.bankDrained n) := rfl
theorem exec_bufferWaitResume (dt : Nat) (t : Fin 4096) : exec (.bufferWaitResume dt t) s =
    s.run dt railCore (fun s => s.buildFlow t) := rfl
theorem exec_pictureDispatch (dt : Nat) (n : Fin 256) (pic : Pic) : exec (.pictureDispatch dt n pic) s =
    s.run dt railMem (fun s => s.decDispatch n pic) := rfl
theorem exec_picturePartDone (dt : Nat) (n : Fin 256) (e : Fin 16) (epoch : BitVec 8) : exec (.picturePartDone dt n e epoch) s =
    s.run dt railMem (fun s => s.decPartDone n e epoch.toNat) := rfl
theorem exec_engineFailure (dt : Nat) (n : Fin 256) (e : Fin 16) : exec (.engineFailure dt n e) s =
    s.run dt railMem (fun s => s.decFail n e) := rfl
theorem exec_engineCompletionTimeout (dt : Nat) (n : Fin 256) (e : Fin 16) : exec (.engineCompletionTimeout dt n e) s =
    s.run dt railMem (fun s => s.decTimeout n e) := rfl
theorem exec_decEngineReturn (dt : Nat) (e : Fin 16) : exec (.decEngineReturn dt e) s =
    s.run dt railCore (fun s => s.setField (F.DEC_ENG_STAT_RETIRED_FAULT e) 1) := rfl
theorem exec_storeCheckDone (dt : Nat) (store : Fin 20) (ok : Bool) : exec (.storeCheckDone dt store ok) s =
    s.run dt railCore (fun s => s.storeCheckDone store ok) := rfl
theorem exec_forecastRefresh (dt : Nat) : exec (.forecastRefresh dt) s =
    s.run dt railCore (fun s => s.decForecast) := rfl
theorem exec_decRateWindow (dt : Nat) : exec (.decRateWindow dt) s =
    s.run dt railCore (fun s => s.decWindow) := rfl
theorem exec_rewindTrigger (dt : Nat) (n : Fin 256) (slot : Option Nat) : exec (.rewindTrigger dt n slot) s =
    s.run dt railMem (fun s => s.decRewind n slot) := rfl
theorem exec_replayPictureDone (dt : Nat) (r : Replayed) : exec (.replayPictureDone dt r) s =
    s.run dt railMem (fun s => s.decReplayDone r.ctx r.epoch.toNat) := rfl
theorem exec_encSourcePicture (dt : Nat) (n : Fin 64) : exec (.encSourcePicture dt n) s =
    s.run dt railMem (fun s => s.encSourceCmd n) := rfl
theorem exec_encSourceCopyDone (dt : Nat) (n : Fin 64) : exec (.encSourceCopyDone dt n) s =
    s.run dt railMem (fun s => s.encCopyDone n) := rfl
theorem exec_encPictureDispatch (dt : Nat) (n : Fin 64) (leading : Bool) : exec (.encPictureDispatch dt n leading) s =
    s.run dt railMem (fun s => s.encDispatch n leading) := rfl
theorem exec_encTileDone (dt : Nat) (n : Fin 64) (e : Fin 4) (epoch : BitVec 8) (tile : Nat) (code : TileCode) : exec (.encTileDone dt n e epoch tile code) s =
    s.run dt railMem (fun s => s.encTileDone n e epoch.toNat tile code) := rfl
theorem exec_encEngineFailure (dt : Nat) (n : Fin 64) (e : Fin 4) : exec (.encEngineFailure dt n e) s =
    s.run dt railMem (fun s => s.encFail n e) := rfl
theorem exec_encEngineTimeout (dt : Nat) (n : Fin 64) (e : Fin 4) : exec (.encEngineTimeout dt n e) s =
    s.run dt railMem (fun s => s.encTimeout n e) := rfl
theorem exec_encRtpPacket (dt : Nat) (n : Fin 64) : exec (.encRtpPacket dt n) s =
    s.run dt railMem (fun s => s.encPacket n) := rfl
theorem exec_forceIdr (dt : Nat) (n : Fin 64) : exec (.forceIdr dt n) s =
    s.run dt railCore (fun s => s.setField (F.ENC_CTX_CMD_FORCE_IDR n) 1) := rfl
theorem exec_encBsbRdWrite (dt : Nat) (n : Fin 64) (val : Word) : exec (.encBsbRdWrite dt n val) s =
    s.run dt railCore (fun s => s.writeReg (R.ENC_CTX_BSB_RD n) 0xFFFFFFFF val.toNat) := rfl
theorem exec_encEngineReturn (dt : Nat) (e : Fin 4) : exec (.encEngineReturn dt e) s =
    s.run dt railCore (fun s => s.setField (F.ENC_ENG_STAT_RETIRED_FAULT e) 1) := rfl
theorem exec_canvasLatch (dt : Nat) (c : Fin 4) : exec (.canvasLatch dt c) s =
    s.run dt railMem (fun s => s.canvasLatch c) := rfl
theorem exec_canvasFrameStart (dt : Nat) (c : Fin 4) : exec (.canvasFrameStart dt c) s =
    s.run dt railMem (fun s => s.cvFrameStart c) := rfl
theorem exec_tilePieceComposed (dt : Nat) (c : Fin 4) (badBrick : Bool) : exec (.tilePieceComposed dt c badBrick) s =
    s.run dt railMem (fun s => s.pieceCmd c badBrick) := rfl
theorem exec_dirty (dt : Nat) (g : Fin 48) : exec (.dirty dt g) s =
    s.run dt railCore (fun s => s.setField (F.CMP_GL_CMD_DIRTY g) 1) := rfl
theorem exec_lanternNChange (dt : Nat) (low : Bool) : exec (.lanternNChange dt low) s =
    s.runPin dt railPin (fun s => s.lanternPin low) := rfl
theorem exec_lanternAlarmFilter (dt : Nat) : exec (.lanternAlarmFilter dt) s =
    s.run dt railPin (fun s => s.lanternFilter) := rfl
theorem exec_lanternHashCheckDone (dt : Nat) : exec (.lanternHashCheckDone dt) s =
    s.run dt railMem (fun s => s.lanternChecked) := rfl
theorem exec_pieceCalibrated (dt : Nat) (badUnits : List Nat) : exec (.pieceCalibrated dt badUnits) s =
    s.run dt railMem (fun s => s.calibrate badUnits) := rfl
theorem exec_curveReadsDone (dt : Nat) (readOk : Bool) : exec (.curveReadsDone dt readOk) s =
    s.run dt railMem (fun s => s.curvesRead readOk) := rfl
theorem exec_frameBoundary (dt : Nat) (g : Fin 64) : exec (.frameBoundary dt g) s =
    s.run dt 0 (fun s => s.boundaryCmd g) := rfl
theorem exec_sync (dt : Nat) (l : Fin 16) (hdr : PtpHdr) (origin : Nat) : exec (.sync dt l hdr origin) s =
    s.run dt railEthTime (fun s => s.syncRx l hdr origin) := rfl
theorem exec_followUp (dt : Nat) (l : Fin 16) (hdr : PtpHdr) (origin : Nat) : exec (.followUp dt l hdr origin) s =
    s.run dt railEthTime (fun s => s.followUpRx l hdr origin) := rfl
theorem exec_delayReq (dt : Nat) (l : Fin 16) (hdr : PtpHdr) : exec (.delayReq dt l hdr) s =
    s.run dt railEthTime (fun s => s.delayReqRx l hdr) := rfl
theorem exec_delayResp (dt : Nat) (l : Fin 16) (hdr : PtpHdr) (receive : Nat) (reqId reqPort : Nat) : exec (.delayResp dt l hdr receive reqId reqPort) s =
    s.run dt railEthTime (fun s => s.delayRespRx l hdr receive reqId reqPort) := rfl
theorem exec_announce (dt : Nat) (l : Fin 16) (hdr : PtpHdr) (body : AnnounceBody) : exec (.announce dt l hdr body) s =
    s.run dt railEthTime (fun s => s.announceRx l hdr body) := rfl
theorem exec_announceReceiptTimeout (dt : Nat) (l : Fin 16) : exec (.announceReceiptTimeout dt l) s =
    s.run dt 0 (fun s => s.announceLost l) := rfl
theorem exec_syncInterval (dt : Nat) (l : Fin 16) : exec (.syncInterval dt l) s =
    s.run dt railEthTime (fun s => s.syncSend l) := rfl
theorem exec_announceInterval (dt : Nat) (l : Fin 16) : exec (.announceInterval dt l) s =
    s.run dt railEthTime (fun s => s.announceSend l) := rfl
theorem exec_delayReqInterval (dt : Nat) (l : Fin 16) : exec (.delayReqInterval dt l) s =
    s.run dt railEthTime (fun s => s.delayReqSend l) := rfl
theorem exec_ppsEdge (dt : Nat) : exec (.ppsEdge dt) s =
    s.run dt railPinTime (fun s => s.ppsEdge) := rfl
theorem exec_ppsTimeout (dt : Nat) : exec (.ppsTimeout dt) s =
    s.run dt 0 (fun s => s.ppsTimeout) := rfl
theorem exec_timeRefChange (dt : Nat) (freq : Nat) : exec (.timeRefChange dt freq) s =
    s.run dt railPinTime (fun s => s.timeRefChange freq) := rfl
theorem exec_holdoverExpiry (dt : Nat) : exec (.holdoverExpiry dt) s =
    s.run dt 0 (fun s => s.holdoverExpiry) := rfl
theorem exec_timSnap (dt : Nat) : exec (.timSnap dt) s =
    s.run dt 0 (fun s => s.setField F.TIM_CMD_SNAP 1) := rfl
theorem exec_timSet (dt : Nat) : exec (.timSet dt) s =
    s.run dt 0 (fun s => s.setField F.TIM_CMD_SET 1) := rfl
theorem exec_tpoCtlWrite (dt : Nat) (i : Fin 8) (val : Word) : exec (.tpoCtlWrite dt i val) s =
    s.run dt 0 (fun s => s.writeReg (R.TIM_TPO_CTL i) 0xFFFFFFFF val.toNat) := rfl
theorem exec_tpoEnableTakesEffect (dt : Nat) (i : Fin 8) : exec (.tpoEnableTakesEffect dt i) s =
    s.run dt 0 (fun s => s.tpoEffectDue i) := rfl
theorem exec_tpoEdge (dt : Nat) (i : Fin 8) : exec (.tpoEdge dt i) s =
    s.run dt railPinTime (fun s => s.tpoEdgeCmd i) := rfl
theorem exec_tpoPulseEnd (dt : Nat) (i : Fin 8) : exec (.tpoPulseEnd dt i) s =
    s.run dt railPinTime (fun s => s.tpoPulseEnd i) := rfl
theorem exec_tciEdge (dt : Nat) (i : Fin 8) (rising : Bool) : exec (.tciEdge dt i rising) s =
    s.run dt railPinTime (fun s => s.tciEdge i rising) := rfl
theorem exec_pop (dt : Nat) (i : Fin 8) : exec (.pop dt i) s =
    s.run dt 0 (fun s => s.setField (F.TIM_TCI_CMD_POP i) 1) := rfl
theorem exec_segmentIdle (dt : Nat) (g : Fin 64) : exec (.segmentIdle dt g) s =
    s.run dt 0 (fun s => s.segmentIdle g) := rfl
theorem exec_acceptWindowOpen (dt : Nat) (t : Fin 4096) : exec (.acceptWindowOpen dt t) s =
    s.run dt railCore (fun s => s.windowOpens t) := rfl
theorem exec_calendarWheelRelease (dt : Nat) (slot : Fin 8192) : exec (.calendarWheelRelease dt slot) s =
    s.run dt railCore (fun s => s.wheelRelease slot) := rfl
theorem exec_overflowListMove (dt : Nat) : exec (.overflowListMove dt) s =
    s.run dt railCore (fun s => s.overflowMove) := rfl
theorem exec_framePassesToPort (dt : Nat) (l : Fin 16) (badBuffer : Bool) : exec (.framePassesToPort dt l badBuffer) s =
    s.run dt railEth (fun s => s.passFrame l badBuffer) := rfl
theorem exec_segmentDeadline (dt : Nat) (g : Fin 64) : exec (.segmentDeadline dt g) s =
    s.run dt railCore (fun s => s.segDeadlines g) := rfl
theorem exec_tileConfigRepeat (dt : Nat) (t : Fin 4096) : exec (.tileConfigRepeat dt t) s =
    s.run dt railCore (fun s => s.configRepeat t) := rfl
theorem exec_tileConfigResend (dt : Nat) (t : Fin 4096) : exec (.tileConfigResend dt t) s =
    s.run dt railCore (fun s => s.configResend t) := rfl
theorem exec_tileStatus (dt : Nat) (l : Fin 16) (packet : List Byte) (srcMac : Nat) (srcIp : Nat) : exec (.tileStatus dt l packet srcMac srcIp) s =
    s.run dt railCore (fun s => s.statusRx packet srcMac srcIp) := rfl
theorem exec_receiverSilent (dt : Nat) (t : Fin 4096) : exec (.receiverSilent dt t) s =
    s.run dt railCore (fun s => s.tileSilent t) := rfl
theorem exec_dramRequest (dt : Nat) (owner : Fin 29) (addr : Nat) (data : Option (List Byte)) : exec (.dramRequest dt owner addr data) s =
    s.run dt railMem (fun s => s.dramRequest owner addr data) := rfl
theorem exec_dramIssue (dt : Nat) (ch : Fin 8) (ready : BitVec 32) : exec (.dramIssue dt ch ready) s =
    s.run dt railMem (fun s => s.dramIssue ch ready.toNat) := rfl
theorem exec_dramReadReturn (dt : Nat) (ch : Fin 8) (error : Fin 3) (link : Bool) : exec (.dramReadReturn dt ch error link) s =
    s.run dt railMem (fun s => s.readReturn ch error link) := rfl
theorem exec_panicChange (dt : Nat) (owner : Fin 29) (fill : Fin 65) : exec (.panicChange dt owner fill) s =
    s.run dt railMem (fun s => s.panicChange owner fill) := rfl
theorem exec_refreshDue (dt : Nat) (ch : Fin 8) : exec (.refreshDue dt ch) s =
    s.run dt railMem (fun s => s.refreshDue ch) := rfl
theorem exec_retrainDue (dt : Nat) (ch : Fin 8) (temp : Int) : exec (.retrainDue dt ch temp) s =
    s.run dt railMem (fun s => s.retrainDue ch temp) := rfl
theorem exec_retrainStepDone (dt : Nat) : exec (.retrainStepDone dt) s =
    s.run dt railMem (fun s => s.retrainStepDone) := rfl
theorem exec_retrainOverdue (dt : Nat) (ch : Fin 8) : exec (.retrainOverdue dt ch) s =
    s.run dt railMem (fun s => s.retrainOverdue ch) := rfl
theorem exec_arbGrant (dt : Nat) (a : Fin 25) (requests : BitVec 32) : exec (.arbGrant dt a requests) s =
    s.run dt railCore (fun s => s.grantCmd a requests.toNat) := rfl
theorem exec_arbHoldCutoff (dt : Nat) (a : Fin 25) (requests : BitVec 32) : exec (.arbHoldCutoff dt a requests) s =
    s.run dt railCore (fun s => s.cutoffCmd a requests.toNat) := rfl
theorem exec_freeze (dt : Nat) (a : Fin 25) (on : Bool) : exec (.freeze dt a on) s =
    s.run dt railCore (fun s => s.setField (F.ARB_CTL_FREEZE a) (if on then 1 else 0)) := rfl
theorem exec_hello (dt : Nat) (port : Fin 16) (peer : Peer) (nonce eph : List Byte) (cert : Cert) : exec (.hello dt port peer nonce eph cert) s =
    s.run dt railCore (fun s => (s.consumeRx (ownSession 0)).hello port peer nonce eph cert) := rfl
theorem exec_finish (dt : Nat) (slot : Fin 16) (sig : List Byte) : exec (.finish dt slot sig) s =
    s.run dt railCore (fun s => ((s.heard slot).consumeRx (ownSession slot)).finish slot sig) := rfl
theorem exec_setupTimeout (dt : Nat) (slot : Fin 16) : exec (.setupTimeout dt slot) s =
    s.run dt railCore (fun s => s.setupTimeout slot) := rfl
theorem exec_close (dt : Nat) (slot : Fin 16) (seq : Nat) (auth : Bool) (malformed : Option Malformed) : exec (.close dt slot seq auth malformed) s =
    s.run dt railCore (fun s => s.sessMsg slot seq auth (.own (closeMsg malformed))) := rfl
theorem exec_sessionCloseCmd (dt : Nat) (slot : Fin 16) : exec (.sessionCloseCmd dt slot) s =
    s.run dt railCore (fun s => s.setField (F.SEC_SESS_CMD_CLOSE slot) 1) := rfl
theorem exec_sessionIdleTimeout (dt : Nat) (slot : Fin 16) : exec (.sessionIdleTimeout dt slot) s =
    s.run dt railCore (fun s => s.sessIdle slot) := rfl
theorem exec_read (dt : Nat) (slot : Fin 16) (seq : Nat) (auth : Bool) (addr count : Nat) (app : List (Option Nat)) : exec (.read dt slot seq auth addr count app) s =
    s.run dt railCore (fun s => s.sessMsg slot seq auth (.own (.read addr count app))) := rfl
theorem exec_write (dt : Nat) (slot : Fin 16) (seq : Nat) (auth : Bool) (addr : Nat) (words : List Word) (app : List (Option Nat)) : exec (.write dt slot seq auth addr words app) s =
    s.run dt railCore (fun s => s.sessMsg slot seq auth (.own (.write addr (words.map BitVec.toNat) app))) := rfl
theorem exec_registerWrite (dt : Nat) (off : Nat) (mask val : Word) : exec (.registerWrite dt off mask val) s =
    s.run dt railCore (fun s => s.writeReg off mask.toNat val.toNat) := rfl
theorem exec_maskedWrite (dt : Nat) (slot : Fin 16) (seq : Nat) (auth : Bool) (addr : Nat) (mask val : Word) : exec (.maskedWrite dt slot seq auth addr mask val) s =
    s.run dt railCore (fun s => s.sessMsg slot seq auth (.own (.maskedWrite addr mask.toNat val.toNat))) := rfl
theorem exec_ringWrite (dt : Nat) (slot : Fin 16) (seq : Nat) (auth : Bool) (ring index : Nat) (entries : List (List Byte)) : exec (.ringWrite dt slot seq auth ring index entries) s =
    s.run dt railCore (fun s => s.sessMsg slot seq auth (.own (.ringWrite ring index entries))) := rfl
theorem exec_doorbell (dt : Nat) (slot : Fin 16) (seq : Nat) (auth : Bool) (ring tail : Nat) : exec (.doorbell dt slot seq auth ring tail) s =
    s.run dt railCore (fun s => s.sessMsg slot seq auth (.own (.doorbell ring tail))) := rfl
theorem exec_lock (dt : Nat) (slot : Fin 16) (seq : Nat) (auth : Bool) (leaseMs : Nat) : exec (.lock dt slot seq auth leaseMs) s =
    s.run dt railCore (fun s => s.sessMsg slot seq auth (.own (.lock leaseMs))) := rfl
theorem exec_stage (dt : Nat) (slot : Fin 16) (seq : Nat) (auth : Bool) (entries : List RegEntry) : exec (.stage dt slot seq auth entries) s =
    s.run dt railCore (fun s => s.sessMsg slot seq auth (.own (.stage entries))) := rfl
theorem exec_commit (dt : Nat) (slot : Fin 16) (seq : Nat) (auth : Bool) (lantern : Option (List Byte)) : exec (.commit dt slot seq auth lantern) s =
    s.run dt railCore (fun s => s.sessMsg slot seq auth (.own (.commit lantern))) := rfl
theorem exec_unlock (dt : Nat) (slot : Fin 16) (seq : Nat) (auth : Bool) : exec (.unlock dt slot seq auth) s =
    s.run dt railCore (fun s => s.sessMsg slot seq auth (.own .unlock)) := rfl
theorem exec_leaseExpiry (dt : Nat) : exec (.leaseExpiry dt) s =
    s.run dt railCore (fun s => s.leaseExpiry) := rfl
theorem exec_seqGapTimer (dt : Nat) (slot : Fin 16) : exec (.seqGapTimer dt slot) s =
    s.run dt railCore (fun s => s.gapTimer slot) := rfl
theorem exec_persist (dt : Nat) (slot : Fin 16) (seq : Nat) (auth : Bool) (kind record : Nat) (data : List Byte) : exec (.persist dt slot seq auth kind record data) s =
    s.run dt railCore (fun s => s.sessMsg slot seq auth (.own (.persist kind record data))) := rfl
theorem exec_recordWriteStart (dt : Nat) : exec (.recordWriteStart dt) s =
    s.run dt railCore (fun s => s.recWriteStart) := rfl
theorem exec_recordWriteDone (dt : Nat) (ok : Bool) : exec (.recordWriteDone dt ok) s =
    s.run dt railCore (fun s => s.recWriteDone ok) := rfl
theorem exec_logWriteStart (dt : Nat) : exec (.logWriteStart dt) s =
    s.run dt railCore (fun s => s.logWrite) := rfl
theorem exec_attest (dt : Nat) (slot : Fin 16) (seq : Nat) (auth : Bool) (nonce : List Byte) : exec (.attest dt slot seq auth nonce) s =
    s.run dt railCore (fun s => s.sessMsg slot seq auth (.own (.attest nonce))) := rfl
theorem exec_attestReportReady (dt : Nat) : exec (.attestReportReady dt) s =
    s.run dt railCore (fun s => s.attestReady) := rfl
theorem exec_gangRelay (dt : Nat) (slot : Fin 16) (seq : Nat) (auth : Bool) (device : Nat) (msg : Msg) : exec (.gangRelay dt slot seq auth device msg) s =
    s.run dt railCore (fun s => s.sessMsg slot seq auth (.relay device msg)) := rfl
theorem exec_eventMessage (dt : Nat) (sink : Fin 16) : exec (.eventMessage dt sink) s =
    s.run dt railCore (fun s => s.eventMessage sink) := rfl
theorem exec_ringEnable (dt : Nat) (r : Fin 1024) : exec (.ringEnable dt r) s =
    s.run dt railCore (fun s => s.setField (F.RNG_RING_CTL_EN r) 1) := rfl
theorem exec_ringDisable (dt : Nat) (r : Fin 1024) : exec (.ringDisable dt r) s =
    s.run dt railCore (fun s => s.setField (F.RNG_RING_CTL_EN r) 0) := rfl
theorem exec_ringHeadWrite (dt : Nat) (r : Fin 1024) (val : Word) : exec (.ringHeadWrite dt r val) s =
    s.run dt railCore (fun s => s.writeReg (R.RNG_RING_HEAD r) 0xFFFFFFFF val.toNat) := rfl
theorem exec_ringNop (dt : Nat) (r : Fin 1024) (readOk : Bool) : exec (.ringNop dt r readOk) s =
    s.run dt railCore (fun s => s.ringEntry r readOk (fun op => decide (op ≠ 1 ∧ op ≠ 2))) := rfl
theorem exec_runInline (dt : Nat) (r : Fin 1024) (readOk : Bool) : exec (.runInline dt r readOk) s =
    s.run dt railCore (fun s => s.ringEntry r readOk (fun op => decide (op = 1))) := rfl
theorem exec_runChain (dt : Nat) (r : Fin 1024) (readOk : Bool) : exec (.runChain dt r readOk) s =
    s.run dt railCore (fun s => s.ringEntry r readOk (fun op => decide (op = 2))) := rfl
theorem exec_dmaEnable (dt : Nat) (n : Fin 4096) : exec (.dmaEnable dt n) s =
    s.run dt railCore (fun s => s.setField (F.DMA_CH_CTL_EN n) 1) := rfl
theorem exec_dmaDisable (dt : Nat) (n : Fin 4096) : exec (.dmaDisable dt n) s =
    s.run dt railCore (fun s => s.setField (F.DMA_CH_CTL_EN n) 0) := rfl
theorem exec_halt (dt : Nat) (n : Fin 4096) : exec (.halt dt n) s =
    s.run dt railCore (fun s => s.setField (F.DMA_CH_CMD_HALT n) 1) := rfl
theorem exec_resume (dt : Nat) (n : Fin 4096) : exec (.resume dt n) s =
    s.run dt railCore (fun s => s.setField (F.DMA_CH_CMD_RESUME n) 1) := rfl
theorem exec_arm (dt : Nat) (n : Fin 4096) : exec (.arm dt n) s =
    s.run dt railCore (fun s => s.setField (F.DMA_CH_SHD_CTL_ARM n) 1) := rfl
theorem exec_descriptorFetched (dt : Nat) (n : Fin 4096) (readOk : Bool) (bad : Option Nat) : exec (.descriptorFetched dt n readOk bad) s =
    s.run dt railMem (fun s => s.descFetched n readOk bad) := rfl
theorem exec_descriptorRetired (dt : Nat) (n : Fin 4096) : exec (.descriptorRetired dt n) s =
    s.run dt railMem (fun s => s.descDone n) := rfl
theorem exec_requestLine (dt : Nat) (line : Fin 272) : exec (.requestLine dt line) s =
    s.run dt railCore (fun s => s.requestCmd line) := rfl
theorem exec_dmaFrameBuilt (dt : Nat) (n : Fin 4096) : exec (.dmaFrameBuilt dt n) s =
    s.run dt railCore (fun s => s.frameBuilt n) := rfl
theorem exec_dmaChannelIdle (dt : Nat) (n : Fin 4096) : exec (.dmaChannelIdle dt n) s =
    s.run dt railCore (fun s => s.dmaIdle n) := rfl
theorem exec_appTransaction (dt : Nat) (n : Fin 4096) (data : List Word) : exec (.appTransaction dt n data) s =
    s.run dt railPin (fun s => s.appTransfer n data) := rfl
theorem exec_appTimeout (dt : Nat) (n : Fin 4096) : exec (.appTimeout dt n) s =
    s.run dt railPin (fun s => s.appTimeout n) := rfl
theorem exec_appDreq (dt : Nat) (k : Fin 16) : exec (.appDreq dt k) s =
    s.run dt railPin (fun s => s.dreqRise k) := rfl
theorem exec_appDreqFall (dt : Nat) (k : Fin 16) : exec (.appDreqFall dt k) s =
    s.run dt railPin (fun s => s.dreqFall k) := rfl
theorem exec_almEnable (dt : Nat) (q : Fin 4) : exec (.almEnable dt q) s =
    s.run dt railCore (fun s => s.setField (F.ALM_SEQ_CTL_EN q) 1) := rfl
theorem exec_almDisable (dt : Nat) (q : Fin 4) : exec (.almDisable dt q) s =
    s.run dt railCore (fun s => s.setField (F.ALM_SEQ_CTL_EN q) 0) := rfl
theorem exec_almStoreWrite (dt : Nat) (store : Fin 4) (word : Fin 8192) (i : Fin 4) (val : Word) : exec (.almStoreWrite dt store word i val) s =
    s.run dt railCore (fun s => (s.storeWrite store word i 0xFFFFFFFF val.toNat).2) := rfl
theorem exec_nop (dt : Nat) (q : Fin 4) : exec (.nop dt q) s =
    s.run dt railCore (fun s => s.almOp q 0) := rfl
theorem exec_wri (dt : Nat) (q : Fin 4) : exec (.wri dt q) s =
    s.run dt railCore (fun s => s.almOp q 1) := rfl
theorem exec_wrg (dt : Nat) (q : Fin 4) : exec (.wrg dt q) s =
    s.run dt railCore (fun s => s.almOp q 2) := rfl
theorem exec_rdg (dt : Nat) (q : Fin 4) : exec (.rdg dt q) s =
    s.run dt railCore (fun s => s.almOp q 3) := rfl
theorem exec_ldi (dt : Nat) (q : Fin 4) : exec (.ldi dt q) s =
    s.run dt railCore (fun s => s.almOp q 4) := rfl
theorem exec_addi (dt : Nat) (q : Fin 4) : exec (.addi dt q) s =
    s.run dt railCore (fun s => s.almOp q 5) := rfl
theorem exec_addg (dt : Nat) (q : Fin 4) : exec (.addg dt q) s =
    s.run dt railCore (fun s => s.almOp q 6) := rfl
theorem exec_andi (dt : Nat) (q : Fin 4) : exec (.andi dt q) s =
    s.run dt railCore (fun s => s.almOp q 7) := rfl
theorem exec_cmp (dt : Nat) (q : Fin 4) : exec (.cmp dt q) s =
    s.run dt railCore (fun s => s.almOp q 8) := rfl
theorem exec_tnow (dt : Nat) (q : Fin 4) : exec (.tnow dt q) s =
    s.run dt railCore (fun s => s.almOp q 9) := rfl
theorem exec_tset (dt : Nat) (q : Fin 4) : exec (.tset dt q) s =
    s.run dt railCore (fun s => s.almOp q 10) := rfl
theorem exec_tadd (dt : Nat) (q : Fin 4) : exec (.tadd dt q) s =
    s.run dt railCore (fun s => s.almOp q 11) := rfl
theorem exec_tseg (dt : Nat) (q : Fin 4) : exec (.tseg dt q) s =
    s.run dt railCore (fun s => s.almOp q 12) := rfl
theorem exec_post (dt : Nat) (q : Fin 4) : exec (.post dt q) s =
    s.run dt railCore (fun s => s.almOp q 13) := rfl
theorem exec_cqpop (dt : Nat) (q : Fin 4) : exec (.cqpop dt q) s =
    s.run dt railCore (fun s => s.almOp q 14) := rfl
theorem exec_raise (dt : Nat) (q : Fin 4) : exec (.raise dt q) s =
    s.run dt railCore (fun s => s.almOp q 15) := rfl
theorem exec_dreq (dt : Nat) (q : Fin 4) : exec (.dreq dt q) s =
    s.run dt railCore (fun s => s.almOp q 16) := rfl
theorem exec_almTimeWaitEnd (dt : Nat) (q : Fin 4) : exec (.almTimeWaitEnd dt q) s =
    s.run dt railCore (fun s => s.almTimeWait q) := rfl
theorem exec_almHsSet (dt : Nat) (mask : Word) : exec (.almHsSet dt mask) s =
    s.run dt railCore (fun s => s.writeReg R.ALM_HS_SET 0xFFFFFFFF mask.toNat) := rfl
theorem exec_almHsClr (dt : Nat) (mask : Word) : exec (.almHsClr dt mask) s =
    s.run dt railCore (fun s => s.writeReg R.ALM_HS_CLR 0xFFFFFFFF mask.toNat) := rfl
theorem exec_storeScrub (dt : Nat) (store : Fin 20) (word : Fin 8192) (double : Bool) : exec (.storeScrub dt store word double) s =
    s.run dt railCore (fun s => s.storeScrub store word double) := rfl
theorem exec_deliveryAttempt (dt : Nat) : exec (.deliveryAttempt dt) s =
    s.run dt railCore (fun s => s.deliveryAttempt) := rfl
theorem exec_eventRingWrite (dt : Nat) (tgt : Fin 8) : exec (.eventRingWrite dt tgt) s =
    s.run dt railCore (fun s => s.eventRingWrite tgt) := rfl
theorem exec_eventRingHeadWrite (dt : Nat) (tgt : Fin 8) (val : Word) : exec (.eventRingHeadWrite dt tgt val) s =
    s.run dt railCore (fun s => s.writeReg (R.EVT_TGT_RING_HEAD tgt) 0xFFFFFFFF val.toNat) := rfl
theorem exec_eventRouteWrite (dt : Nat) (n : Fin 1024) (val : Word) : exec (.eventRouteWrite dt n val) s =
    s.run dt railCore (fun s => s.writeReg (R.EVT_SRC_ROUTE n) 0xFFFFFFFF val.toNat) := rfl
theorem exec_faultStatusClear (dt : Nat) (n : Fin 256) : exec (.faultStatusClear dt n) s =
    s.run dt 0 (fun s => s.setField (F.FLT_SRC_STAT_STATUS n) 1) := rfl
theorem exec_returnPipe (dt : Nat) (c : Fin 4) : exec (.returnPipe dt c) s =
    s.run dt 0 (fun s => s.writeReg R.FLT_RETIRED_PIPES (2 ^ c.val) (2 ^ c.val)) := rfl
theorem exec_returnPort (dt : Nat) (l : Fin 16) : exec (.returnPort dt l) s =
    s.run dt 0 (fun s => s.writeReg R.FLT_RETIRED_PORTS (2 ^ l.val) (2 ^ l.val)) := rfl
theorem exec_returnMover (dt : Nat) (m : Fin 32) : exec (.returnMover dt m) s =
    s.run dt 0 (fun s => s.writeReg R.FLT_RETIRED_MOVERS (2 ^ m.val) (2 ^ m.val)) := rfl
theorem exec_sramError (dt : Nat) (double : Bool) (unit : BitVec 16) : exec (.sramError dt double unit) s =
    s.run dt 0 (fun s => s.sramError double unit.toNat) := rfl
theorem exec_paceMeasurement (dt : Nat) (periods : List (Option Nat)) : exec (.paceMeasurement dt periods) s =
    s.run dt 0 (fun s => s.paceMeasurement periods) := rfl
theorem exec_paceMonitorStale (dt : Nat) : exec (.paceMonitorStale dt) s =
    s.run dt 0 (fun s => s.paceStale) := rfl
theorem exec_avsDecision (dt : Nat) : exec (.avsDecision dt) s =
    s.run dt 0 (fun s => s.avsDecision) := rfl
theorem exec_avsFrameDone (dt : Nat) (ok : Bool) : exec (.avsFrameDone dt ok) s =
    s.run dt 0 (fun s => s.avsFrameDone ok) := rfl
theorem exec_avsReadback (dt : Nat) (volts amps : Nat) (ok : Bool) : exec (.avsReadback dt volts amps ok) s =
    s.run dt 0 (fun s => s.avsReadback volts amps ok) := rfl
theorem exec_avsCeiling (dt : Nat) : exec (.avsCeiling dt) s =
    s.run dt 0 (fun s => s.avsCeiling) := rfl
theorem exec_paceBelowRating (dt : Nat) : exec (.paceBelowRating dt) s =
    s.run dt 0 (fun s => s.paceBelow) := rfl
theorem exec_tempUpdate (dt : Nat) (temps : List (Option Int)) : exec (.tempUpdate dt temps) s =
    s.run dt 0 (fun s => s.tempUpdate temps) := rfl
theorem exec_tempSensorStale (dt : Nat) : exec (.tempSensorStale dt) s =
    s.run dt 0 (fun s => s.tempStale) := rfl
theorem exec_erase (dt : Nat) : exec (.erase dt) s =
    s.run dt railCore (fun s => s.nvmOpCmd 1) := rfl
theorem exec_program (dt : Nat) : exec (.program dt) s =
    s.run dt railCore (fun s => s.nvmOpCmd 2) := rfl
theorem exec_nvmRead (dt : Nat) : exec (.nvmRead dt) s =
    s.run dt railCore (fun s => s.nvmOpCmd 3) := rfl
theorem exec_nvmCommit (dt : Nat) : exec (.nvmCommit dt) s =
    s.run dt railCore (fun s => s.nvmOpCmd 4) := rfl
theorem exec_nvmOpDone (dt : Nat) (ok : Bool) : exec (.nvmOpDone dt ok) s =
    s.run dt railCore (fun s => s.nvmDone ok) := rfl
theorem exec_recordRead (dt : Nat) : exec (.recordRead dt) s =
    s.run dt railCore (fun s => s.setField F.NVM_REC_CMD_READ 1) := rfl
theorem exec_recordReadDone (dt : Nat) (ok : Bool) : exec (.recordReadDone dt ok) s =
    s.run dt railCore (fun s => s.recReadDone ok) := rfl
theorem exec_keyLoad (dt : Nat) : exec (.keyLoad dt) s =
    s.run dt railCore (fun s => s.setField F.SEC_KEY_LOAD_LOAD 1) := rfl
theorem exec_advance (dt : Nat) : exec (.advance dt) s =
    s.run dt railCore (fun s => s.setField F.SEC_FUSE_CMD_ADVANCE 1) := rfl
theorem exec_fuseStepDone (dt : Nat) (ok : Bool) : exec (.fuseStepDone dt ok) s =
    s.run dt railCore (fun s => s.fuseStep ok) := rfl
theorem exec_openDebug (dt : Nat) : exec (.openDebug dt) s =
    s.run dt railCore (fun s => s.setField F.SEC_DBG_CMD_OPEN 1) := rfl
theorem exec_debugAccessOpened (dt : Nat) : exec (.debugAccessOpened dt) s =
    s.run dt railCore (fun s => s.dbgOpened) := rfl
theorem exec_extest (dt : Nat) (shiftIn : List Bool) : exec (.extest dt shiftIn) s =
    s.tap dt (fun s => s.extest shiftIn) := rfl
theorem exec_samplePreload (dt : Nat) (pins : List Bool) (shiftIn : List Bool) : exec (.samplePreload dt pins shiftIn) s =
    s.tap dt (fun s => s.samplePreload pins shiftIn) := rfl
theorem exec_idcode (dt : Nat) : exec (.idcode dt) s =
    s.tap dt (fun s => s.idcode) := rfl
theorem exec_highz (dt : Nat) : exec (.highz dt) s =
    s.tap dt (fun s => s.bypassScan 3 true) := rfl
theorem exec_clamp (dt : Nat) : exec (.clamp dt) s =
    s.tap dt (fun s => s.bypassScan 4 true) := rfl
theorem exec_secreg (dt : Nat) (shiftIn : BitVec 49) : exec (.secreg dt shiftIn) s =
    s.tap dt (fun s => s.secregCmd shiftIn) := rfl
theorem exec_bypass (dt : Nat) (bit : Bool) : exec (.bypass dt bit) s =
    s.tap dt (fun s => s.tapBypass bit) := rfl
theorem exec_gangAccept (dt : Nat) (peer : Fin 64) (linkId : Nat) (nonce eph idPub sig : List Byte) : exec (.gangAccept dt peer linkId nonce eph idPub sig) s =
    s.run dt railCore (fun s => s.gangAccept peer linkId nonce eph idPub sig) := rfl
theorem exec_gangAcceptSend (dt : Nat) (peer : Fin 64) : exec (.gangAcceptSend dt peer) s =
    s.run dt railCore (fun s => s.gangAcceptSend peer) := rfl
theorem exec_relayReq (dt : Nat) (peer : Fin 64) (seq reqId : Nat) (auth : Bool) (hostId slot : Nat) (msg : Msg) : exec (.relayReq dt peer seq reqId auth hostId slot msg) s =
    s.run dt railCore (fun s => s.relayReq peer seq reqId auth hostId slot msg) := rfl
theorem exec_relayReply (dt : Nat) (peer : Fin 64) (seq reqId : Nat) (auth : Bool) (status done : Nat) (data : List Byte) : exec (.relayReply dt peer seq reqId auth status done data) s =
    s.run dt railCore (fun s => s.relayReply peer seq reqId auth status done data) := rfl
theorem exec_relayRetry (dt : Nat) (peer : Fin 64) : exec (.relayRetry dt peer) s =
    s.run dt railCore (fun s => s.relayRetry peer) := rfl
theorem exec_sessionEnd (dt : Nat) (peer : Fin 64) (seq : Nat) (auth : Bool) (slot : Nat) : exec (.sessionEnd dt peer seq auth slot) s =
    s.run dt railCore (fun s => s.sessionEnd peer seq auth slot) := rfl
theorem exec_keepalive (dt : Nat) (peer : Fin 64) (seq : Nat) (auth : Bool) (body : KaBody) : exec (.keepalive dt peer seq auth body) s =
    s.run dt railCore (fun s => s.keepaliveRx peer seq auth body) := rfl
theorem exec_keepaliveSend (dt : Nat) (peer : Fin 64) : exec (.keepaliveSend dt peer) s =
    s.run dt railCore (fun s => s.keepaliveSend peer) := rfl
theorem exec_peerLost (dt : Nat) (peer : Fin 64) : exec (.peerLost dt peer) s =
    s.run dt railCore (fun s => s.peerLost peer) := rfl
theorem exec_gpioEdge (dt : Nat) (g : Fin 16) (high : Bool) : exec (.gpioEdge dt g high) s =
    s.runPin dt railPin (fun s => s.gpioEdge g high) := rfl
theorem exec_porstNLow (dt : Nat) : exec (.porstNLow dt) s =
    .next (s.advance dt).porstLow := rfl
theorem exec_sysrstNHigh (dt : Nat) : exec (.sysrstNHigh dt) s =
    .next (s.timed dt).sysrstRise := rfl
theorem exec_refclkMemReturn (dt : Nat) : exec (.refclkMemReturn dt) s =
    .next (s.timed dt).memClkBack := rfl
theorem exec_testLogicReset (dt : Nat) : exec (.testLogicReset dt) s =
    s.tap dt (fun s => s.tapReset) := rfl

/-! ### The shapes -/

/-- A scan of the TAP changes no more than the TAP, the pins and the count of free values drawn. -/
def PinOnly (f : State → State) : Prop := ∀ s : State, s.nvm.held = true → ∃ p d, f s = { s with pin := p, draw := d }

/-- The commands that PORST_N, VAON and REFCLK_MEM bring, and the release of SYSRST_N. -/
def isRaw : Instr → Bool
  | .porstNRelease _ => true
  | .vaonLow _ => true
  | .refclkMemLost _ => true
  | .porstNLow _ => true
  | .sysrstNHigh _ => true
  | .refclkMemReturn _ => true
  | _ => false

/-- What a command does: it runs, or it changes a pin, or it scans the TAP, or it is one of the six of `isRaw`. -/
theorem exec_shape (c : Instr) :
    (∃ dt f, ∃ r : State → Nat, ∀ s, exec c s = s.run dt (r s) f) ∨ (∃ dt r f, ∀ s, exec c s = s.runPin dt r f) ∨
    (∃ dt f, PinOnly f ∧ ∀ s, exec c s = s.tap dt f) ∨ isRaw c = true := by
  cases c with
  | porstNRelease dt => exact .inr (.inr (.inr rfl))
  | sysrstNLow dt => exact .inl ⟨_, _, fun _ => _, fun s => exec_sysrstNLow s _⟩
  | warm dt => exact .inl ⟨_, _, fun _ => _, fun s => exec_warm s _⟩
  | warmResetDelayExpiry dt => exact .inl ⟨_, _, fun _ => _, fun s => exec_warmResetDelayExpiry s _⟩
  | vaonLow dt => exact .inr (.inr (.inr rfl))
  | railOutOfRange dt rail => exact .inr (.inl ⟨_, _, _, fun s => exec_railOutOfRange s _ _⟩)
  | railBackInRange dt rail => exact .inr (.inl ⟨_, _, _, fun s => exec_railBackInRange s _ _⟩)
  | refclkEthLost dt p => exact .inr (.inl ⟨_, _, _, fun s => exec_refclkEthLost s _ _⟩)
  | refclkEthReturn dt p => exact .inr (.inl ⟨_, _, _, fun s => exec_refclkEthReturn s _ _⟩)
  | refclkMemLost dt => exact .inr (.inr (.inr rfl))
  | fusesRead dt => exact .inl ⟨_, _, fun _ => _, fun s => exec_fusesRead s _⟩
  | selectDone dt cs0 cs1 => exact .inl ⟨_, _, fun _ => _, fun s => exec_selectDone s _ _ _⟩
  | verifyDone dt readOk fuseOk => exact .inl ⟨_, _, fun _ => _, fun s => exec_verifyDone s _ _ _⟩
  | loadDone dt readOk => exact .inl ⟨_, _, fun _ => _, fun s => exec_loadDone s _ _⟩
  | dramTrainingDone dt pass => exact .inl ⟨_, _, fun _ => _, fun s => exec_dramTrainingDone s _ _⟩
  | blobsDone dt readOk badCurves => exact .inl ⟨_, _, fun _ => _, fun s => exec_blobsDone s _ _ _⟩
  | runEntry dt => exact .inl ⟨_, _, fun _ => _, fun s => exec_runEntry s _⟩
  | rxFrame dt l frame fcsOk both => exact .inl ⟨_, _, fun _ => _, fun s => exec_rxFrame s _ _ _ _ _⟩
  | pause dt l quanta => exact .inl ⟨_, _, fun _ => _, fun s => exec_pause s _ _ _⟩
  | pauseExpiry dt l => exact .inl ⟨_, _, fun _ => _, fun s => exec_pauseExpiry s _ _⟩
  | arpRequest dt l src senderIp targetIp => exact .inl ⟨_, _, fun _ => _, fun s => exec_arpRequest s _ _ _ _ _⟩
  | neighbourSolicitation dt l src senderIp targetIp conflict => exact .inl ⟨_, _, fun _ => _, fun s => exec_neighbourSolicitation s _ _ _ _ _ _⟩
  | echoRequest dt l src ipv6 senderIp targetIp body => exact .inl ⟨_, _, fun _ => _, fun s => exec_echoRequest s _ _ _ _ _ _ _⟩
  | membershipQuery dt l ipv6 group sources version => exact .inl ⟨_, _, fun _ => _, fun s => exec_membershipQuery s _ _ _ _ _ _⟩
  | unsolicitedReport dt => exact .inl ⟨_, _, fun _ => _, fun s => exec_unsolicitedReport s _⟩
  | linkChange dt l up => exact .inl ⟨_, _, fun _ => _, fun s => exec_linkChange s _ _ _⟩
  | fecUncorrectable dt p lane => exact .inl ⟨_, _, fun _ => _, fun s => exec_fecUncorrectable s _ _ _⟩
  | portEnable dt l => exact .inl ⟨_, _, fun _ => _, fun s => exec_portEnable s _ _⟩
  | portDisable dt l => exact .inl ⟨_, _, fun _ => _, fun s => exec_portDisable s _ _⟩
  | portIdle dt l => exact .inl ⟨_, _, fun _ => _, fun s => exec_portIdle s _ _⟩
  | ingestItem dt n stray ptr before after => exact .inl ⟨_, _, fun _ => _, fun s => exec_ingestItem s _ _ _ _ _ _⟩
  | bankDrainStart dt n => exact .inl ⟨_, _, fun _ => _, fun s => exec_bankDrainStart s _ _⟩
  | drainResume dt n => exact .inl ⟨_, _, fun _ => _, fun s => exec_drainResume s _ _⟩
  | bankDrained dt n => exact .inl ⟨_, _, fun _ => _, fun s => exec_bankDrained s _ _⟩
  | bufferWaitResume dt t => exact .inl ⟨_, _, fun _ => _, fun s => exec_bufferWaitResume s _ _⟩
  | pictureDispatch dt n pic => exact .inl ⟨_, _, fun _ => _, fun s => exec_pictureDispatch s _ _ _⟩
  | picturePartDone dt n e epoch => exact .inl ⟨_, _, fun _ => _, fun s => exec_picturePartDone s _ _ _ _⟩
  | engineFailure dt n e => exact .inl ⟨_, _, fun _ => _, fun s => exec_engineFailure s _ _ _⟩
  | engineCompletionTimeout dt n e => exact .inl ⟨_, _, fun _ => _, fun s => exec_engineCompletionTimeout s _ _ _⟩
  | decEngineReturn dt e => exact .inl ⟨_, _, fun _ => _, fun s => exec_decEngineReturn s _ _⟩
  | storeCheckDone dt store ok => exact .inl ⟨_, _, fun _ => _, fun s => exec_storeCheckDone s _ _ _⟩
  | forecastRefresh dt => exact .inl ⟨_, _, fun _ => _, fun s => exec_forecastRefresh s _⟩
  | decRateWindow dt => exact .inl ⟨_, _, fun _ => _, fun s => exec_decRateWindow s _⟩
  | rewindTrigger dt n slot => exact .inl ⟨_, _, fun _ => _, fun s => exec_rewindTrigger s _ _ _⟩
  | replayPictureDone dt r => exact .inl ⟨_, _, fun _ => _, fun s => exec_replayPictureDone s _ _⟩
  | encSourcePicture dt n => exact .inl ⟨_, _, fun _ => _, fun s => exec_encSourcePicture s _ _⟩
  | encSourceCopyDone dt n => exact .inl ⟨_, _, fun _ => _, fun s => exec_encSourceCopyDone s _ _⟩
  | encPictureDispatch dt n leading => exact .inl ⟨_, _, fun _ => _, fun s => exec_encPictureDispatch s _ _ _⟩
  | encTileDone dt n e epoch tile code => exact .inl ⟨_, _, fun _ => _, fun s => exec_encTileDone s _ _ _ _ _ _⟩
  | encEngineFailure dt n e => exact .inl ⟨_, _, fun _ => _, fun s => exec_encEngineFailure s _ _ _⟩
  | encEngineTimeout dt n e => exact .inl ⟨_, _, fun _ => _, fun s => exec_encEngineTimeout s _ _ _⟩
  | encRtpPacket dt n => exact .inl ⟨_, _, fun _ => _, fun s => exec_encRtpPacket s _ _⟩
  | forceIdr dt n => exact .inl ⟨_, _, fun _ => _, fun s => exec_forceIdr s _ _⟩
  | encBsbRdWrite dt n val => exact .inl ⟨_, _, fun _ => _, fun s => exec_encBsbRdWrite s _ _ _⟩
  | encEngineReturn dt e => exact .inl ⟨_, _, fun _ => _, fun s => exec_encEngineReturn s _ _⟩
  | canvasLatch dt c => exact .inl ⟨_, _, fun _ => _, fun s => exec_canvasLatch s _ _⟩
  | canvasFrameStart dt c => exact .inl ⟨_, _, fun _ => _, fun s => exec_canvasFrameStart s _ _⟩
  | tilePieceComposed dt c badBrick => exact .inl ⟨_, _, fun _ => _, fun s => exec_tilePieceComposed s _ _ _⟩
  | dirty dt g => exact .inl ⟨_, _, fun _ => _, fun s => exec_dirty s _ _⟩
  | lanternNChange dt low => exact .inr (.inl ⟨_, _, _, fun s => exec_lanternNChange s _ _⟩)
  | lanternAlarmFilter dt => exact .inl ⟨_, _, fun _ => _, fun s => exec_lanternAlarmFilter s _⟩
  | lanternHashCheckDone dt => exact .inl ⟨_, _, fun _ => _, fun s => exec_lanternHashCheckDone s _⟩
  | pieceCalibrated dt badUnits => exact .inl ⟨_, _, fun _ => _, fun s => exec_pieceCalibrated s _ _⟩
  | curveReadsDone dt readOk => exact .inl ⟨_, _, fun _ => _, fun s => exec_curveReadsDone s _ _⟩
  | frameBoundary dt g => exact .inl ⟨_, _, fun _ => _, fun s => exec_frameBoundary s _ _⟩
  | sync dt l hdr origin => exact .inl ⟨_, _, fun _ => _, fun s => exec_sync s _ _ _ _⟩
  | followUp dt l hdr origin => exact .inl ⟨_, _, fun _ => _, fun s => exec_followUp s _ _ _ _⟩
  | delayReq dt l hdr => exact .inl ⟨_, _, fun _ => _, fun s => exec_delayReq s _ _ _⟩
  | delayResp dt l hdr receive reqId reqPort => exact .inl ⟨_, _, fun _ => _, fun s => exec_delayResp s _ _ _ _ _ _⟩
  | announce dt l hdr body => exact .inl ⟨_, _, fun _ => _, fun s => exec_announce s _ _ _ _⟩
  | announceReceiptTimeout dt l => exact .inl ⟨_, _, fun _ => _, fun s => exec_announceReceiptTimeout s _ _⟩
  | syncInterval dt l => exact .inl ⟨_, _, fun _ => _, fun s => exec_syncInterval s _ _⟩
  | announceInterval dt l => exact .inl ⟨_, _, fun _ => _, fun s => exec_announceInterval s _ _⟩
  | delayReqInterval dt l => exact .inl ⟨_, _, fun _ => _, fun s => exec_delayReqInterval s _ _⟩
  | ppsEdge dt => exact .inl ⟨_, _, fun _ => _, fun s => exec_ppsEdge s _⟩
  | ppsTimeout dt => exact .inl ⟨_, _, fun _ => _, fun s => exec_ppsTimeout s _⟩
  | timeRefChange dt freq => exact .inl ⟨_, _, fun _ => _, fun s => exec_timeRefChange s _ _⟩
  | holdoverExpiry dt => exact .inl ⟨_, _, fun _ => _, fun s => exec_holdoverExpiry s _⟩
  | timSnap dt => exact .inl ⟨_, _, fun _ => _, fun s => exec_timSnap s _⟩
  | timSet dt => exact .inl ⟨_, _, fun _ => _, fun s => exec_timSet s _⟩
  | tpoCtlWrite dt i val => exact .inl ⟨_, _, fun _ => _, fun s => exec_tpoCtlWrite s _ _ _⟩
  | tpoEnableTakesEffect dt i => exact .inl ⟨_, _, fun _ => _, fun s => exec_tpoEnableTakesEffect s _ _⟩
  | tpoEdge dt i => exact .inl ⟨_, _, fun _ => _, fun s => exec_tpoEdge s _ _⟩
  | tpoPulseEnd dt i => exact .inl ⟨_, _, fun _ => _, fun s => exec_tpoPulseEnd s _ _⟩
  | tciEdge dt i rising => exact .inl ⟨_, _, fun _ => _, fun s => exec_tciEdge s _ _ _⟩
  | pop dt i => exact .inl ⟨_, _, fun _ => _, fun s => exec_pop s _ _⟩
  | segmentIdle dt g => exact .inl ⟨_, _, fun _ => _, fun s => exec_segmentIdle s _ _⟩
  | acceptWindowOpen dt t => exact .inl ⟨_, _, fun _ => _, fun s => exec_acceptWindowOpen s _ _⟩
  | calendarWheelRelease dt slot => exact .inl ⟨_, _, fun _ => _, fun s => exec_calendarWheelRelease s _ _⟩
  | overflowListMove dt => exact .inl ⟨_, _, fun _ => _, fun s => exec_overflowListMove s _⟩
  | framePassesToPort dt l badBuffer => exact .inl ⟨_, _, fun _ => _, fun s => exec_framePassesToPort s _ _ _⟩
  | segmentDeadline dt g => exact .inl ⟨_, _, fun _ => _, fun s => exec_segmentDeadline s _ _⟩
  | tileConfigRepeat dt t => exact .inl ⟨_, _, fun _ => _, fun s => exec_tileConfigRepeat s _ _⟩
  | tileConfigResend dt t => exact .inl ⟨_, _, fun _ => _, fun s => exec_tileConfigResend s _ _⟩
  | tileStatus dt l packet srcMac srcIp => exact .inl ⟨_, _, fun _ => _, fun s => exec_tileStatus s _ _ _ _ _⟩
  | receiverSilent dt t => exact .inl ⟨_, _, fun _ => _, fun s => exec_receiverSilent s _ _⟩
  | dramRequest dt owner addr data => exact .inl ⟨_, _, fun _ => _, fun s => exec_dramRequest s _ _ _ _⟩
  | dramIssue dt ch ready => exact .inl ⟨_, _, fun _ => _, fun s => exec_dramIssue s _ _ _⟩
  | dramReadReturn dt ch error link => exact .inl ⟨_, _, fun _ => _, fun s => exec_dramReadReturn s _ _ _ _⟩
  | panicChange dt owner fill => exact .inl ⟨_, _, fun _ => _, fun s => exec_panicChange s _ _ _⟩
  | refreshDue dt ch => exact .inl ⟨_, _, fun _ => _, fun s => exec_refreshDue s _ _⟩
  | retrainDue dt ch temp => exact .inl ⟨_, _, fun _ => _, fun s => exec_retrainDue s _ _ _⟩
  | retrainStepDone dt => exact .inl ⟨_, _, fun _ => _, fun s => exec_retrainStepDone s _⟩
  | retrainOverdue dt ch => exact .inl ⟨_, _, fun _ => _, fun s => exec_retrainOverdue s _ _⟩
  | arbGrant dt a requests => exact .inl ⟨_, _, fun _ => _, fun s => exec_arbGrant s _ _ _⟩
  | arbHoldCutoff dt a requests => exact .inl ⟨_, _, fun _ => _, fun s => exec_arbHoldCutoff s _ _ _⟩
  | freeze dt a on => exact .inl ⟨_, _, fun _ => _, fun s => exec_freeze s _ _ _⟩
  | hello dt port peer nonce eph cert => exact .inl ⟨_, _, fun _ => _, fun s => exec_hello s _ _ _ _ _ _⟩
  | finish dt slot sig => exact .inl ⟨_, _, fun _ => _, fun s => exec_finish s _ _ _⟩
  | setupTimeout dt slot => exact .inl ⟨_, _, fun _ => _, fun s => exec_setupTimeout s _ _⟩
  | close dt slot seq auth malformed => exact .inl ⟨_, _, fun _ => _, fun s => exec_close s _ _ _ _ _⟩
  | sessionCloseCmd dt slot => exact .inl ⟨_, _, fun _ => _, fun s => exec_sessionCloseCmd s _ _⟩
  | sessionIdleTimeout dt slot => exact .inl ⟨_, _, fun _ => _, fun s => exec_sessionIdleTimeout s _ _⟩
  | read dt slot seq auth addr count app => exact .inl ⟨_, _, fun _ => _, fun s => exec_read s _ _ _ _ _ _ _⟩
  | write dt slot seq auth addr words app => exact .inl ⟨_, _, fun _ => _, fun s => exec_write s _ _ _ _ _ _ _⟩
  | registerWrite dt off mask val => exact .inl ⟨_, _, fun _ => _, fun s => exec_registerWrite s _ _ _ _⟩
  | maskedWrite dt slot seq auth addr mask val => exact .inl ⟨_, _, fun _ => _, fun s => exec_maskedWrite s _ _ _ _ _ _ _⟩
  | ringWrite dt slot seq auth ring index entries => exact .inl ⟨_, _, fun _ => _, fun s => exec_ringWrite s _ _ _ _ _ _ _⟩
  | doorbell dt slot seq auth ring tail => exact .inl ⟨_, _, fun _ => _, fun s => exec_doorbell s _ _ _ _ _ _⟩
  | lock dt slot seq auth leaseMs => exact .inl ⟨_, _, fun _ => _, fun s => exec_lock s _ _ _ _ _⟩
  | stage dt slot seq auth entries => exact .inl ⟨_, _, fun _ => _, fun s => exec_stage s _ _ _ _ _⟩
  | commit dt slot seq auth lantern => exact .inl ⟨_, _, fun _ => _, fun s => exec_commit s _ _ _ _ _⟩
  | unlock dt slot seq auth => exact .inl ⟨_, _, fun _ => _, fun s => exec_unlock s _ _ _ _⟩
  | leaseExpiry dt => exact .inl ⟨_, _, fun _ => _, fun s => exec_leaseExpiry s _⟩
  | seqGapTimer dt slot => exact .inl ⟨_, _, fun _ => _, fun s => exec_seqGapTimer s _ _⟩
  | persist dt slot seq auth kind record data => exact .inl ⟨_, _, fun _ => _, fun s => exec_persist s _ _ _ _ _ _ _⟩
  | recordWriteStart dt => exact .inl ⟨_, _, fun _ => _, fun s => exec_recordWriteStart s _⟩
  | recordWriteDone dt ok => exact .inl ⟨_, _, fun _ => _, fun s => exec_recordWriteDone s _ _⟩
  | logWriteStart dt => exact .inl ⟨_, _, fun _ => _, fun s => exec_logWriteStart s _⟩
  | attest dt slot seq auth nonce => exact .inl ⟨_, _, fun _ => _, fun s => exec_attest s _ _ _ _ _⟩
  | attestReportReady dt => exact .inl ⟨_, _, fun _ => _, fun s => exec_attestReportReady s _⟩
  | gangRelay dt slot seq auth device msg => exact .inl ⟨_, _, fun _ => _, fun s => exec_gangRelay s _ _ _ _ _ _⟩
  | eventMessage dt sink => exact .inl ⟨_, _, fun _ => _, fun s => exec_eventMessage s _ _⟩
  | ringEnable dt r => exact .inl ⟨_, _, fun _ => _, fun s => exec_ringEnable s _ _⟩
  | ringDisable dt r => exact .inl ⟨_, _, fun _ => _, fun s => exec_ringDisable s _ _⟩
  | ringHeadWrite dt r val => exact .inl ⟨_, _, fun _ => _, fun s => exec_ringHeadWrite s _ _ _⟩
  | ringNop dt r readOk => exact .inl ⟨_, _, fun _ => _, fun s => exec_ringNop s _ _ _⟩
  | runInline dt r readOk => exact .inl ⟨_, _, fun _ => _, fun s => exec_runInline s _ _ _⟩
  | runChain dt r readOk => exact .inl ⟨_, _, fun _ => _, fun s => exec_runChain s _ _ _⟩
  | dmaEnable dt n => exact .inl ⟨_, _, fun _ => _, fun s => exec_dmaEnable s _ _⟩
  | dmaDisable dt n => exact .inl ⟨_, _, fun _ => _, fun s => exec_dmaDisable s _ _⟩
  | halt dt n => exact .inl ⟨_, _, fun _ => _, fun s => exec_halt s _ _⟩
  | resume dt n => exact .inl ⟨_, _, fun _ => _, fun s => exec_resume s _ _⟩
  | arm dt n => exact .inl ⟨_, _, fun _ => _, fun s => exec_arm s _ _⟩
  | descriptorFetched dt n readOk bad => exact .inl ⟨_, _, fun _ => _, fun s => exec_descriptorFetched s _ _ _ _⟩
  | descriptorRetired dt n => exact .inl ⟨_, _, fun _ => _, fun s => exec_descriptorRetired s _ _⟩
  | requestLine dt line => exact .inl ⟨_, _, fun _ => _, fun s => exec_requestLine s _ _⟩
  | dmaFrameBuilt dt n => exact .inl ⟨_, _, fun _ => _, fun s => exec_dmaFrameBuilt s _ _⟩
  | dmaChannelIdle dt n => exact .inl ⟨_, _, fun _ => _, fun s => exec_dmaChannelIdle s _ _⟩
  | appTransaction dt n data => exact .inl ⟨_, _, fun _ => _, fun s => exec_appTransaction s _ _ _⟩
  | appTimeout dt n => exact .inl ⟨_, _, fun _ => _, fun s => exec_appTimeout s _ _⟩
  | appDreq dt k => exact .inl ⟨_, _, fun _ => _, fun s => exec_appDreq s _ _⟩
  | appDreqFall dt k => exact .inl ⟨_, _, fun _ => _, fun s => exec_appDreqFall s _ _⟩
  | almEnable dt q => exact .inl ⟨_, _, fun _ => _, fun s => exec_almEnable s _ _⟩
  | almDisable dt q => exact .inl ⟨_, _, fun _ => _, fun s => exec_almDisable s _ _⟩
  | almStoreWrite dt store word i val => exact .inl ⟨_, _, fun _ => _, fun s => exec_almStoreWrite s _ _ _ _ _⟩
  | nop dt q => exact .inl ⟨_, _, fun _ => _, fun s => exec_nop s _ _⟩
  | wri dt q => exact .inl ⟨_, _, fun _ => _, fun s => exec_wri s _ _⟩
  | wrg dt q => exact .inl ⟨_, _, fun _ => _, fun s => exec_wrg s _ _⟩
  | rdg dt q => exact .inl ⟨_, _, fun _ => _, fun s => exec_rdg s _ _⟩
  | ldi dt q => exact .inl ⟨_, _, fun _ => _, fun s => exec_ldi s _ _⟩
  | addi dt q => exact .inl ⟨_, _, fun _ => _, fun s => exec_addi s _ _⟩
  | addg dt q => exact .inl ⟨_, _, fun _ => _, fun s => exec_addg s _ _⟩
  | andi dt q => exact .inl ⟨_, _, fun _ => _, fun s => exec_andi s _ _⟩
  | cmp dt q => exact .inl ⟨_, _, fun _ => _, fun s => exec_cmp s _ _⟩
  | tnow dt q => exact .inl ⟨_, _, fun _ => _, fun s => exec_tnow s _ _⟩
  | tset dt q => exact .inl ⟨_, _, fun _ => _, fun s => exec_tset s _ _⟩
  | tadd dt q => exact .inl ⟨_, _, fun _ => _, fun s => exec_tadd s _ _⟩
  | tseg dt q => exact .inl ⟨_, _, fun _ => _, fun s => exec_tseg s _ _⟩
  | post dt q => exact .inl ⟨_, _, fun _ => _, fun s => exec_post s _ _⟩
  | cqpop dt q => exact .inl ⟨_, _, fun _ => _, fun s => exec_cqpop s _ _⟩
  | raise dt q => exact .inl ⟨_, _, fun _ => _, fun s => exec_raise s _ _⟩
  | dreq dt q => exact .inl ⟨_, _, fun _ => _, fun s => exec_dreq s _ _⟩
  | almTimeWaitEnd dt q => exact .inl ⟨_, _, fun _ => _, fun s => exec_almTimeWaitEnd s _ _⟩
  | almHsSet dt mask => exact .inl ⟨_, _, fun _ => _, fun s => exec_almHsSet s _ _⟩
  | almHsClr dt mask => exact .inl ⟨_, _, fun _ => _, fun s => exec_almHsClr s _ _⟩
  | storeScrub dt store word double => exact .inl ⟨_, _, fun _ => _, fun s => exec_storeScrub s _ _ _ _⟩
  | deliveryAttempt dt => exact .inl ⟨_, _, fun _ => _, fun s => exec_deliveryAttempt s _⟩
  | eventRingWrite dt tgt => exact .inl ⟨_, _, fun _ => _, fun s => exec_eventRingWrite s _ _⟩
  | eventRingHeadWrite dt tgt val => exact .inl ⟨_, _, fun _ => _, fun s => exec_eventRingHeadWrite s _ _ _⟩
  | eventRouteWrite dt n val => exact .inl ⟨_, _, fun _ => _, fun s => exec_eventRouteWrite s _ _ _⟩
  | faultStatusClear dt n => exact .inl ⟨_, _, fun _ => _, fun s => exec_faultStatusClear s _ _⟩
  | returnPipe dt c => exact .inl ⟨_, _, fun _ => _, fun s => exec_returnPipe s _ _⟩
  | returnPort dt l => exact .inl ⟨_, _, fun _ => _, fun s => exec_returnPort s _ _⟩
  | returnMover dt m => exact .inl ⟨_, _, fun _ => _, fun s => exec_returnMover s _ _⟩
  | sramError dt double unit => exact .inl ⟨_, _, fun _ => _, fun s => exec_sramError s _ _ _⟩
  | paceMeasurement dt periods => exact .inl ⟨_, _, fun _ => _, fun s => exec_paceMeasurement s _ _⟩
  | paceMonitorStale dt => exact .inl ⟨_, _, fun _ => _, fun s => exec_paceMonitorStale s _⟩
  | avsDecision dt => exact .inl ⟨_, _, fun _ => _, fun s => exec_avsDecision s _⟩
  | avsFrameDone dt ok => exact .inl ⟨_, _, fun _ => _, fun s => exec_avsFrameDone s _ _⟩
  | avsReadback dt volts amps ok => exact .inl ⟨_, _, fun _ => _, fun s => exec_avsReadback s _ _ _ _⟩
  | avsCeiling dt => exact .inl ⟨_, _, fun _ => _, fun s => exec_avsCeiling s _⟩
  | paceBelowRating dt => exact .inl ⟨_, _, fun _ => _, fun s => exec_paceBelowRating s _⟩
  | tempUpdate dt temps => exact .inl ⟨_, _, fun _ => _, fun s => exec_tempUpdate s _ _⟩
  | tempSensorStale dt => exact .inl ⟨_, _, fun _ => _, fun s => exec_tempSensorStale s _⟩
  | erase dt => exact .inl ⟨_, _, fun _ => _, fun s => exec_erase s _⟩
  | program dt => exact .inl ⟨_, _, fun _ => _, fun s => exec_program s _⟩
  | nvmRead dt => exact .inl ⟨_, _, fun _ => _, fun s => exec_nvmRead s _⟩
  | nvmCommit dt => exact .inl ⟨_, _, fun _ => _, fun s => exec_nvmCommit s _⟩
  | nvmOpDone dt ok => exact .inl ⟨_, _, fun _ => _, fun s => exec_nvmOpDone s _ _⟩
  | recordRead dt => exact .inl ⟨_, _, fun _ => _, fun s => exec_recordRead s _⟩
  | recordReadDone dt ok => exact .inl ⟨_, _, fun _ => _, fun s => exec_recordReadDone s _ _⟩
  | keyLoad dt => exact .inl ⟨_, _, fun _ => _, fun s => exec_keyLoad s _⟩
  | advance dt => exact .inl ⟨_, _, fun _ => _, fun s => exec_advance s _⟩
  | fuseStepDone dt ok => exact .inl ⟨_, _, fun _ => _, fun s => exec_fuseStepDone s _ _⟩
  | openDebug dt => exact .inl ⟨_, _, fun _ => _, fun s => exec_openDebug s _⟩
  | debugAccessOpened dt => exact .inl ⟨_, _, fun _ => _, fun s => exec_debugAccessOpened s _⟩
  | extest dt shiftIn => exact .inr (.inr (.inl ⟨_, _, fun s _ => ⟨_, s.draw + 1, rfl⟩, fun s => exec_extest s _ _⟩))
  | samplePreload dt pins shiftIn => exact .inr (.inr (.inl ⟨_, _, fun s _ => ⟨_, s.draw, rfl⟩, fun s => exec_samplePreload s _ _ _⟩))
  | idcode dt => exact .inr (.inr (.inl ⟨_, _, fun s _ => ⟨_, s.draw, rfl⟩, fun s => exec_idcode s _⟩))
  | highz dt => exact .inr (.inr (.inl ⟨_, _, fun s _ => ⟨_, s.draw, rfl⟩, fun s => exec_highz s _⟩))
  | clamp dt => exact .inr (.inr (.inl ⟨_, _, fun s _ => ⟨_, s.draw, rfl⟩, fun s => exec_clamp s _⟩))
  | secreg dt shiftIn => 
    refine .inr (.inr (.inl ⟨_, _, fun s h => ?_, fun s => exec_secreg s _ _⟩))
    simp only [State.secregCmd, h, if_true, State.secregScan, State.secregAccess, Bool.true_or]
    split
    · exact ⟨_, s.draw, rfl⟩
    · exact ⟨_, s.draw, rfl⟩
  | bypass dt bit => exact .inr (.inr (.inl ⟨_, _, fun s _ => ⟨_, s.draw, rfl⟩, fun s => exec_bypass s _ _⟩))
  | gangAccept dt peer linkId nonce eph idPub sig => exact .inl ⟨_, _, fun _ => _, fun s => exec_gangAccept s _ _ _ _ _ _ _⟩
  | gangAcceptSend dt peer => exact .inl ⟨_, _, fun _ => _, fun s => exec_gangAcceptSend s _ _⟩
  | relayReq dt peer seq reqId auth hostId slot msg => exact .inl ⟨_, _, fun _ => _, fun s => exec_relayReq s _ _ _ _ _ _ _ _⟩
  | relayReply dt peer seq reqId auth status done data => exact .inl ⟨_, _, fun _ => _, fun s => exec_relayReply s _ _ _ _ _ _ _ _⟩
  | relayRetry dt peer => exact .inl ⟨_, _, fun _ => _, fun s => exec_relayRetry s _ _⟩
  | sessionEnd dt peer seq auth slot => exact .inl ⟨_, _, fun _ => _, fun s => exec_sessionEnd s _ _ _ _ _⟩
  | keepalive dt peer seq auth body => exact .inl ⟨_, _, fun _ => _, fun s => exec_keepalive s _ _ _ _ _⟩
  | keepaliveSend dt peer => exact .inl ⟨_, _, fun _ => _, fun s => exec_keepaliveSend s _ _⟩
  | peerLost dt peer => exact .inl ⟨_, _, fun _ => _, fun s => exec_peerLost s _ _⟩
  | gpioEdge dt g high => exact .inr (.inl ⟨_, _, _, fun s => exec_gpioEdge s _ _ _⟩)
  | porstNLow dt => exact .inr (.inr (.inr rfl))
  | sysrstNHigh dt => exact .inr (.inr (.inr rfl))
  | refclkMemReturn dt => exact .inr (.inr (.inr rfl))
  | testLogicReset dt => exact .inr (.inr (.inl ⟨_, _, fun s _ => ⟨_, s.draw, rfl⟩, fun s => exec_testLogicReset s _⟩))

end Sys2Proof.Machine
end

