-- ==== Sys2Proof/Laws/Settle.lean ====
section
/-! SUPPORT. What the answer of a command is once its own effect is known. -/

namespace Sys2Proof.Machine
open Sys2Proof

variable (s : State)

/-- A quiet state brings nothing about. -/
theorem State.settle_quiet (u : State) (h : u.quiet) : u.settle = u := by
  obtain ⟨h1, h2, h3, h4, h5, h6, h7, h8⟩ := h
  have l : u.lanternTell = u := by simp [State.lanternTell, h1]
  have r : u.reactions reactionFuel = u := by simp [reactionFuel, State.reactions, h2]
  simp only [State.settle, h3, h4, h5, h6, h7, h8, l, r]

theorem SettlesTo.of_next {o : Answer} {u : State} (h : o = .next (u.settle.keepOutside s)) : SettlesTo s o u :=
  ⟨h, fun q => by rw [h, State.settle_quiet u q]⟩

/-- A command of a block whose rails are in range leads to its own effect. -/
theorem State.settlesTo_run (dt r : Nat) (f : State → State) (h : s.ready r) : SettlesTo s (s.run dt r f) (f (s.advance dt)) :=
  .of_next s (s.run_ready dt r f h.1 h.2.1 h.2.2)

/-- The same for a command that a held cold reset does not stop. -/
theorem State.settlesTo_runPin (dt r : Nat) (f : State → State) (h : s.ready r) :
    SettlesTo s (s.runPin dt r f) (f (s.advance dt)) := by
  unfold State.runPin
  rw [if_neg (by rw [h.1]; decide)]
  exact s.settlesTo_run dt r f h

end Sys2Proof.Machine
end

