-- ==== Sys2Proof/Machine/Balls.lean ====
section
/-! DEFINITION. The ball map (R528 to R532), the state of the balls from reset until a stage activates them (R533), and the cells
of the boundary register (R550). -/

namespace Sys2Proof.Machine

/-! ### Signals and supplies -/

/-- A ball of one subchannel of a memory channel (R530); `neg` marks the complement of a pair. -/
inductive MemBall where
  | dq (n : Nat)
  | dmi (n : Nat)
  | rdqs (n : Nat) (neg : Bool)
  | wck (n : Nat) (neg : Bool)
  | ck (neg : Bool)
  | cs (n : Nat)
  | ca (n : Nat)
  deriving DecidableEq, Repr

/-- A signal of R529 to R531; `neg` marks the second ball of a pair. -/
inductive Signal where
  | sdTx (k : Nat) (neg : Bool)
  | sdRx (k : Nat) (neg : Bool)
  | refclkEth (p : Nat) (neg : Bool)
  | mem (c : Nat) (subB : Bool) (b : MemBall)
  | memResetN (c : Nat)
  | memZq (c : Nat)
  | refclkMem (neg : Bool)
  | tpo (i : Nat)
  | tci (i : Nat)
  | ppsIn
  | timeRef
  | xspiClk
  | xspiDqs
  | xspiDq (i : Nat)
  | xspiCsN (i : Nat)
  | xspiResetN
  | avsClk
  | avsMdata
  | avsSdata
  | tck
  | tms
  | tdi
  | tdo
  | trstN
  | porstN
  | sysrstN
  | lanternN
  | testEn
  | vcoreSense (neg : Bool)
  | gpio (g : Nat)
  | appDreq (i : Nat)
  | appDack (i : Nat)
  | appAd (i : Nat)
  | appBe (i : Nat)
  | appWr
  | appAdv
  | appLast
  | appReq
  | appAck
  deriving DecidableEq, Repr

/-- The supplies of R532. -/
inductive Supply where
  | vcore
  | vmem
  | vphy
  | vddq
  | vserdes0V9
  | vserdes1V2
  | vio
  | vaon
  | vss
  deriving DecidableEq, Repr

/-- The one function of a ball (R528). -/
inductive Ball where
  | signal (x : Signal)
  | power (x : Supply)
  deriving DecidableEq, Repr

/-! ### The map -/

/-- The signal of column `c` in a row of SerDes pairs (R529): pair `k` lies at columns 4 + 3k and 5 + 3k. -/
def serdesBall (c : Nat) (f : Nat → Bool → Signal) : Option Signal :=
  let k := (c - 4) / 3
  if c < 4 ∨ 16 ≤ k then none
  else if (c - 4) % 3 = 0 then some (f k false)
  else if (c - 4) % 3 = 1 then some (f k true)
  else none

/-- Row `d` (0 to 3) and offset `k` of a subchannel (R530). -/
def subBall (d k : Nat) : Sum MemBall Supply :=
  if d ≤ 1 then
    if k < 8 then .inl (.dq (8 * d + k))
    else if k = 8 then .inl (.dmi d)
    else if k = 9 then .inl (.rdqs d false)
    else if k = 10 then .inl (.rdqs d true)
    else .inr .vss
  else if d = 2 then
    if k < 4 then .inl (.wck (k / 2) (decide (k % 2 = 1)))
    else if k < 6 then .inl (.ck (decide (k = 5)))
    else if k < 8 then .inl (.cs (k - 6))
    else .inr .vddq
  else if k < 7 then .inl (.ca k)
  else if k < 9 then .inr .vddq
  else .inr .vss

/-- The ball at row `d` (0 to 8) and offset `k` of the block of memory channel `c` (R530). -/
def memBall (c d k : Nat) : Ball :=
  if d = 4 then
    if k = 0 then .signal (.memResetN c) else if k = 1 then .signal (.memZq c) else .power .vss
  else
    match subBall (if d < 4 then d else d - 5) k with
    | .inl b => .signal (.mem c (decide (4 < d)) b)
    | .inr p => .power p

/-- Row 46 and the rows below it (R531). -/
def lowBall (r c : Nat) : Option Signal :=
  let inRun := fun (lo n : Nat) => decide (lo ≤ c) && decide (c < lo + n)
  if r = 46 then
    if c = 26 then some (.refclkMem false)
    else if c = 27 then some (.refclkMem true)
    else if inRun 30 8 then some (.tpo (c - 30))
    else if inRun 40 8 then some (.tci (c - 40))
    else if c = 49 then some .ppsIn
    else if c = 50 then some .timeRef
    else none
  else if r = 48 then
    if inRun 8 8 then some (.xspiDq (c - 8))
    else if inRun 40 8 then some (.gpio (8 + (c - 40)))
    else ([(6, Signal.xspiClk), (7, .xspiDqs), (16, .xspiCsN 0), (17, .xspiCsN 1), (18, .xspiResetN), (20, .avsClk), (21, .avsMdata),
      (22, .avsSdata), (24, .tck), (25, .tms), (26, .tdi), (27, .tdo), (28, .trstN), (30, .porstN), (31, .sysrstN), (32, .lanternN),
      (33, .testEn), (35, .vcoreSense false), (36, .vcoreSense true)] : List (Nat × Signal)).lookup c
  else if r = 50 then
    if inRun 40 8 then some (.gpio (c - 40))
    else if inRun 6 32 then some (if c % 2 = 0 then .appDreq ((c - 6) / 2) else .appDack ((c - 6) / 2))
    else none
  else if r = 52 then
    if inRun 6 32 then some (.appAd (c - 6))
    else if inRun 38 4 then some (.appBe (c - 38))
    else ([(42, Signal.appWr), (43, .appAdv), (44, .appLast), (45, .appReq), (46, .appAck)] : List (Nat × Signal)).lookup c
  else none

/-- The signal balls outside the memory blocks (R529, R531). -/
def signalBall (r c : Nat) : Option Signal :=
  if r = 2 then serdesBall c .sdTx
  else if r = 4 then serdesBall c .sdRx
  else if r = 6 then
    let p := (c - 10) / 12
    if c < 10 ∨ 4 ≤ p then none
    else if (c - 10) % 12 = 0 then some (.refclkEth p false)
    else if (c - 10) % 12 = 1 then some (.refclkEth p true)
    else none
  else lowBall r c

/-- The supply of a ball that no other table names (R532). -/
def supplyBall (r c : Nat) : Supply :=
  let core := decide (7 ≤ r) && decide (r ≤ 45)
  let even := fun (lo hi : Nat) => decide (lo ≤ c) && decide (c ≤ hi) && decide (c % 2 = 0)
  if core && decide (15 ≤ c) && decide (c ≤ 39) && decide ((r + c) % 2 = 0) then .vcore
  else if core && (decide (c = 14) || decide (c = 40)) then .vmem
  else if core && (decide (c = 13) || decide (c = 41)) then .vphy
  else if decide (r = 5) && even 4 50 then .vserdes0V9
  else if decide (r = 1) && even 4 50 then .vserdes1V2
  else if (decide (r = 49) || decide (r = 51)) && even 6 46 then .vio
  else if decide (r = 47) && decide (20 ≤ c) && decide (c ≤ 27) then .vaon
  else .vss

/-- The block of a memory channel that a ball lies in: channel, row and offset (R530). -/
def memBlock (r c : Nat) : Option (Nat × Nat × Nat) :=
  if r < 7 ∨ 45 < r ∨ (r - 7) % 10 = 9 then none
  else if 1 ≤ c ∧ c ≤ 12 then some ((r - 7) / 10, (r - 7) % 10, c - 1)
  else if 42 ≤ c ∧ c ≤ 53 then some (4 + (r - 7) / 10, (r - 7) % 10, 53 - c)
  else none

/-- The function of ball r-c, rows and columns from 1 to 53 (R528 to R532). -/
def ballAt (r c : Nat) : Ball :=
  match memBlock r c with
  | some (ch, d, k) => memBall ch d k
  | none =>
    match signalBall r c with
    | some x => .signal x
    | none => .power (supplyBall r c)

/-- Every ball, by row and then by column. -/
def ballList : List (Nat × Nat) :=
  (List.range 53).flatMap (fun r => (List.range 53).map (fun c => (r + 1, c + 1)))

/-! ### States of the balls (R533, R554) -/

/-- What the PW8 does at a ball. -/
inductive PinLevel where
  | low
  | high
  | highZ
  | idle
  /-- An input of the PW8. -/
  | input
  /-- Driven from the boundary register. -/
  | cells
  /-- In use by the block it belongs to. -/
  | active
  deriving DecidableEq, Repr

/-- A GPIO ball by its register (R554). -/
def State.gpioLevel (s : State) (g : Nat) : PinLevel :=
  let m := s.get (F.GLB_GPIO_CTL_MODE g)
  let out := s.flag (F.GLB_GPIO_CTL_OUT g)
  if m = 1 then (if out then .high else .low)
  else if m = 2 then (if out then .highZ else .low)
  else .input

/-- Has the LINKS stage begun (R464, R470)? -/
def State.linksBegun (s : State) : Bool := [6, 7, 9].contains (s.get F.NVM_BOOT_STAT_STAGE)

/-- Has the DRAM stage begun? -/
def State.dramBegun (s : State) : Bool := [4, 5, 6, 7, 9].contains (s.get F.NVM_BOOT_STAT_STAGE)

/-- Has the SELECT stage begun (R541)? -/
def State.selectBegun (s : State) : Bool :=
  decide (2 ≤ s.get F.NVM_BOOT_STAT_STAGE) || (decide (s.get F.NVM_BOOT_STAT_STAGE = 1) && !s.nvm.sysrstLow)

/-- The state of a signal ball (R533): its state at reset until the stage or the write that activates it; none for a
signal that the rule does not name. -/
def State.pinLevel (s : State) (x : Signal) : Option PinLevel :=
  match x with
  | .sdTx _ _ => some (if s.linksBegun then .active else .idle)
  | .memResetN _ => some (if s.dramBegun then .active else .low)
  | .mem _ _ (.dq _) => some (if s.dramBegun then .active else .highZ)
  | .mem _ _ (.dmi _) => some (if s.dramBegun then .active else .highZ)
  | .mem _ _ (.rdqs _ _) => some (if s.dramBegun then .active else .highZ)
  | .mem _ _ (.wck _ _) => some (if s.dramBegun then .active else .low)
  | .mem _ _ (.ck _) => some (if s.dramBegun then .active else .low)
  | .mem _ _ (.cs _) => some (if s.dramBegun then .active else .low)
  | .mem _ _ (.ca _) => some (if s.dramBegun then .active else .low)
  | .xspiResetN => some (if s.selectBegun || decide (s.rd R.GLB_WARM_RESETS ≠ 0) then .high else .low)
  | .xspiCsN _ => some (if s.selectBegun then .active else .high)
  | .xspiClk => some (if s.selectBegun then .active else .low)
  | .xspiDq _ => some (if s.selectBegun then .active else .highZ)
  | .xspiDqs => some (if s.selectBegun then .active else .highZ)
  | .avsClk => some (if s.flag F.GLB_AVS_STAT_ACTIVE then .active else .low)
  | .avsMdata => some (if s.flag F.GLB_AVS_STAT_ACTIVE then .active else .high)
  | .appAd _ => some (if s.flag F.APP_CTL_EN then .active else .highZ)
  | .appBe _ => some (if s.flag F.APP_CTL_EN then .active else .highZ)
  | .appWr => some (if s.flag F.APP_CTL_EN then .active else .highZ)
  | .appAdv => some (if s.flag F.APP_CTL_EN then .active else .highZ)
  | .appLast => some (if s.flag F.APP_CTL_EN then .active else .highZ)
  | .appReq => some (if s.flag F.APP_CTL_EN then .active else .low)
  | .appDack _ => some (if s.flag F.APP_CTL_EN then .active else .low)
  | .tpo i => some (if s.tpoPin i then .high else .low)
  | .gpio g => some (s.gpioLevel g)
  | .tdo => some .highZ
  | _ => none

/-! ### The boundary register (R550) -/

/-- Is a signal in the boundary register? JTAG, TEST_EN, the SerDes, reference clock and sense balls are not. -/
def inBoundary : Signal → Bool
  | .sdTx _ _ => false
  | .sdRx _ _ => false
  | .refclkEth _ _ => false
  | .refclkMem _ => false
  | .vcoreSense _ => false
  | .tck => false
  | .tms => false
  | .tdi => false
  | .tdo => false
  | .trstN => false
  | .testEn => false
  | _ => true

/-- The state of a ball with the TAP: EXTEST and CLAMP drive it from the boundary register, and HIGHZ releases it (R550). -/
def State.ballLevel (s : State) (x : Signal) : Option PinLevel :=
  if s.pin.drive && inBoundary x then some (if s.pin.ir = 3 then .highZ else .cells) else s.pinLevel x

/-- The balls of the boundary register, from TDI to TDO. -/
def boundaryBalls : List Signal :=
  ballList.filterMap (fun p => match ballAt p.1 p.2 with
    | .signal x => if inBoundary x then some x else none
    | .power _ => none)

/-- The control, output and input cells of ball number `j` of the boundary register. -/
def State.boundaryCells (s : State) (j : Nat) : Bool × Bool × Bool :=
  let bit := fun (i : Nat) => s.pin.boundary.getLsbD (2201 - (3 * j + i))
  (bit 0, bit 1, bit 2)

end Sys2Proof.Machine
end

