-- ==== Sys2Proof/WellFormed.lean ====
section
/-! DEFINITION. Well-formed commands: the lengths of byte strings and the ranges of numbers that the wire formats and the
pins of the spec give a command's operands. A command outside them cannot reach the block. -/

namespace Sys2Proof

/-- Does a number fit a field of `w` bits? -/
def fits (w v : Nat) : Bool := decide (v < 2 ^ w)

/-- Has a byte string the length `n`? -/
def lengthIs (n : Nat) (bs : List Byte) : Bool := decide (bs.length = n)

/-- The output window of a picture lies inside it (R98). -/
def Pic.wf (p : Pic) : Bool := decide (p.cropX + p.outW ≤ p.width) && decide (p.cropY + p.outH ≤ p.height)

/-- Fields of a PTP header (R227). -/
def PtpHdr.wf (h : PtpHdr) : Bool :=
  fits 4 h.version && fits 8 h.domain && decide (h.transport < 3) && fits 16 h.seq && fits 64 h.srcId && fits 16 h.srcPort &&
    decide (h.corr.natAbs < 2 ^ 63) && decide (-128 ≤ h.log ∧ h.log < 128)

/-- Fields of an Announce (R229). -/
def AnnounceBody.wf (b : AnnounceBody) : Bool :=
  fits 8 b.prio1 && fits 8 b.cls && fits 8 b.acc && fits 16 b.var && fits 8 b.prio2 && fits 64 b.gmId && fits 16 b.steps &&
    fits 19 b.utc

/-- The address of a control peer (R324). -/
def Peer.wf (p : Peer) : Bool := fits (if p.ipv6 then 128 else 32) p.ip && fits 16 p.udp && fits 48 p.mac &&
  fits (if p.ipv6 then 128 else 32) p.dst

/-- A host certificate (R319). -/
def Cert.wf (c : Cert) : Bool := lengthIs 120 c.body && lengthIs 96 c.sig

/-- One staged entry (R336). -/
def RegEntry.wf (e : RegEntry) : Bool := fits 32 e.off && fits 32 e.mask && fits 32 e.val

/-- The body of a control request whose length agrees with its type (R325, R330 to R341, R353, R354). -/
def Msg.wf : Msg → Bool
  | .close => true
  | .read addr count _ => fits 64 addr && fits 16 count
  | .write addr words _ => fits 64 addr && words.all (fits 32)
  | .maskedWrite addr mask val => fits 64 addr && fits 32 mask && fits 32 val
  | .ringWrite ring index entries => fits 16 ring && fits 16 index && entries.all (lengthIs 64)
  | .doorbell ring tail => fits 16 ring && fits 32 tail
  | .lock leaseMs => fits 32 leaseMs
  | .stage entries => entries.all RegEntry.wf
  | .commit lantern => (match lantern with | some sig => lengthIs 96 sig | none => true)
  | .unlock => true
  | .persist kind record data => fits 8 kind && fits 16 record && decide (data.length ≤ 240)
  | .attest nonce => lengthIs 32 nonce
  | .badType type => fits 8 type
  | .badLength type => fits 8 type

/-- Is a command well-formed? -/
def Instr.wf : Instr → Bool
  | .porstNRelease _ => true
  | .sysrstNLow _ => true
  | .warm _ => true
  | .warmResetDelayExpiry _ => true
  | .vaonLow _ => true
  | .railOutOfRange _ _ => true
  | .railBackInRange _ _ => true
  | .refclkEthLost _ _ => true
  | .refclkEthReturn _ _ => true
  | .refclkMemLost _ => true
  | .fusesRead _ => true
  | .selectDone _ _ _ => true
  | .verifyDone _ _ _ => true
  | .loadDone _ _ => true
  | .dramTrainingDone _ _ => true
  | .blobsDone _ _ _ => true
  | .runEntry _ => true
  | .rxFrame _ _ frame _ _ => decide (14 ≤ frame.length)
  | .pause _ _ _ => true
  | .pauseExpiry _ _ => true
  | .arpRequest _ _ src senderIp targetIp => lengthIs 6 src && fits 32 senderIp && fits 32 targetIp
  | .neighbourSolicitation _ _ src senderIp targetIp _ => lengthIs 6 src && fits 128 senderIp && fits 128 targetIp
  | .echoRequest _ _ src ipv6 senderIp targetIp _ =>
    lengthIs 6 src && fits (if ipv6 then 128 else 32) senderIp && fits (if ipv6 then 128 else 32) targetIp
  | .membershipQuery _ _ _ _ _ _ => true
  | .unsolicitedReport _ => true
  | .linkChange _ _ _ => true
  | .fecUncorrectable _ _ _ => true
  | .portEnable _ _ => true
  | .portDisable _ _ => true
  | .portIdle _ _ => true
  | .ingestItem _ _ _ _ _ _ => true
  | .bankDrainStart _ _ => true
  | .drainResume _ _ => true
  | .bankDrained _ _ => true
  | .bufferWaitResume _ _ => true
  | .pictureDispatch _ _ pic => pic.wf
  | .picturePartDone _ _ _ _ => true
  | .engineFailure _ _ _ => true
  | .engineCompletionTimeout _ _ _ => true
  | .decEngineReturn _ _ => true
  | .storeCheckDone _ _ _ => true
  | .forecastRefresh _ => true
  | .decRateWindow _ => true
  | .rewindTrigger _ _ _ => true
  | .replayPictureDone _ _ => true
  | .encSourcePicture _ _ => true
  | .encSourceCopyDone _ _ => true
  | .encPictureDispatch _ _ _ => true
  | .encTileDone _ _ _ _ _ _ => true
  | .encEngineFailure _ _ _ => true
  | .encEngineTimeout _ _ _ => true
  | .encRtpPacket _ _ => true
  | .forceIdr _ _ => true
  | .encBsbRdWrite _ _ _ => true
  | .encEngineReturn _ _ => true
  | .canvasLatch _ _ => true
  | .canvasFrameStart _ _ => true
  | .tilePieceComposed _ _ _ => true
  | .dirty _ _ => true
  | .lanternNChange _ _ => true
  | .lanternAlarmFilter _ => true
  | .lanternHashCheckDone _ => true
  | .pieceCalibrated _ _ => true
  | .curveReadsDone _ _ => true
  | .frameBoundary _ _ => true
  | .sync _ _ hdr _ => hdr.wf
  | .followUp _ _ hdr _ => hdr.wf
  | .delayReq _ _ hdr => hdr.wf
  | .delayResp _ _ hdr _ reqId reqPort => hdr.wf && fits 64 reqId && fits 16 reqPort
  | .announce _ _ hdr body => hdr.wf && body.wf
  | .announceReceiptTimeout _ _ => true
  | .syncInterval _ _ => true
  | .announceInterval _ _ => true
  | .delayReqInterval _ _ => true
  | .ppsEdge _ => true
  | .ppsTimeout _ => true
  | .timeRefChange _ _ => true
  | .holdoverExpiry _ => true
  | .timSnap _ => true
  | .timSet _ => true
  | .tpoCtlWrite _ _ _ => true
  | .tpoEnableTakesEffect _ _ => true
  | .tpoEdge _ _ => true
  | .tpoPulseEnd _ _ => true
  | .tciEdge _ _ _ => true
  | .pop _ _ => true
  | .segmentIdle _ _ => true
  | .acceptWindowOpen _ _ => true
  | .calendarWheelRelease _ _ => true
  | .overflowListMove _ => true
  | .framePassesToPort _ _ _ => true
  | .segmentDeadline _ _ => true
  | .tileConfigRepeat _ _ => true
  | .tileConfigResend _ _ => true
  | .tileStatus _ _ _ srcMac srcIp => fits 48 srcMac && fits 128 srcIp
  | .receiverSilent _ _ => true
  | .dramRequest _ _ addr _ => decide (addr % 64 = 0)
  | .dramIssue _ _ _ => true
  | .dramReadReturn _ _ _ _ => true
  | .panicChange _ _ _ => true
  | .refreshDue _ _ => true
  | .retrainDue _ _ _ => true
  | .retrainStepDone _ => true
  | .retrainOverdue _ _ => true
  | .arbGrant _ _ _ => true
  | .arbHoldCutoff _ _ _ => true
  | .freeze _ _ _ => true
  | .hello _ _ peer nonce eph cert => peer.wf && lengthIs 32 nonce && lengthIs 97 eph && cert.wf
  | .finish _ _ sig => lengthIs 96 sig
  | .setupTimeout _ _ => true
  | .close _ _ seq _ _ => fits 64 seq
  | .sessionCloseCmd _ _ => true
  | .sessionIdleTimeout _ _ => true
  | .read _ _ seq _ addr count app => fits 64 seq && (Msg.read addr count app).wf
  | .write _ _ seq _ addr _ _ => fits 64 seq && fits 64 addr
  | .registerWrite _ off _ _ => fits 24 off && decide (off % 4 = 0)
  | .maskedWrite _ _ seq _ addr _ _ => fits 64 seq && fits 64 addr
  | .ringWrite _ _ seq _ ring index entries => fits 64 seq && (Msg.ringWrite ring index entries).wf
  | .doorbell _ _ seq _ ring tail => fits 64 seq && (Msg.doorbell ring tail).wf
  | .lock _ _ seq _ leaseMs => fits 64 seq && (Msg.lock leaseMs).wf
  | .stage _ _ seq _ entries => fits 64 seq && (Msg.stage entries).wf
  | .commit _ _ seq _ lantern => fits 64 seq && (Msg.commit lantern).wf
  | .unlock _ _ seq _ => fits 64 seq
  | .leaseExpiry _ => true
  | .seqGapTimer _ _ => true
  | .persist _ _ seq _ kind record data => fits 64 seq && (Msg.persist kind record data).wf
  | .recordWriteStart _ => true
  | .recordWriteDone _ _ => true
  | .logWriteStart _ => true
  | .attest _ _ seq _ nonce => fits 64 seq && (Msg.attest nonce).wf
  | .attestReportReady _ => true
  | .gangRelay _ _ seq _ device msg => fits 64 seq && fits 8 device && msg.wf
  | .eventMessage _ _ => true
  | .ringEnable _ _ => true
  | .ringDisable _ _ => true
  | .ringHeadWrite _ _ _ => true
  | .ringNop _ _ _ => true
  | .runInline _ _ _ => true
  | .runChain _ _ _ => true
  | .dmaEnable _ _ => true
  | .dmaDisable _ _ => true
  | .halt _ _ => true
  | .resume _ _ => true
  | .arm _ _ => true
  | .descriptorFetched _ _ _ _ => true
  | .descriptorRetired _ _ => true
  | .requestLine _ _ => true
  | .dmaFrameBuilt _ _ => true
  | .dmaChannelIdle _ _ => true
  | .appTransaction _ _ _ => true
  | .appTimeout _ _ => true
  | .appDreq _ _ => true
  | .appDreqFall _ _ => true
  | .almEnable _ _ => true
  | .almDisable _ _ => true
  | .almStoreWrite _ _ _ _ _ => true
  | .nop _ _ => true
  | .wri _ _ => true
  | .wrg _ _ => true
  | .rdg _ _ => true
  | .ldi _ _ => true
  | .addi _ _ => true
  | .addg _ _ => true
  | .andi _ _ => true
  | .cmp _ _ => true
  | .tnow _ _ => true
  | .tset _ _ => true
  | .tadd _ _ => true
  | .tseg _ _ => true
  | .post _ _ => true
  | .cqpop _ _ => true
  | .raise _ _ => true
  | .dreq _ _ => true
  | .almTimeWaitEnd _ _ => true
  | .almHsSet _ _ => true
  | .almHsClr _ _ => true
  | .storeScrub _ _ _ _ => true
  | .deliveryAttempt _ => true
  | .eventRingWrite _ _ => true
  | .eventRingHeadWrite _ _ _ => true
  | .eventRouteWrite _ _ _ => true
  | .faultStatusClear _ _ => true
  | .returnPipe _ _ => true
  | .returnPort _ _ => true
  | .returnMover _ _ => true
  | .sramError _ _ _ => true
  | .paceMeasurement _ periods => decide (periods.length = 32)
  | .paceMonitorStale _ => true
  | .avsDecision _ => true
  | .avsFrameDone _ _ => true
  | .avsReadback _ _ _ _ => true
  | .avsCeiling _ => true
  | .paceBelowRating _ => true
  | .tempUpdate _ temps => decide (temps.length = 16)
  | .tempSensorStale _ => true
  | .erase _ => true
  | .program _ => true
  | .nvmRead _ => true
  | .nvmCommit _ => true
  | .nvmOpDone _ _ => true
  | .recordRead _ => true
  | .recordReadDone _ _ => true
  | .keyLoad _ => true
  | .advance _ => true
  | .fuseStepDone _ _ => true
  | .openDebug _ => true
  | .debugAccessOpened _ => true
  | .extest _ _ => true
  | .samplePreload _ pins _ => decide (pins.length = 2202)
  | .idcode _ => true
  | .highz _ => true
  | .clamp _ => true
  | .secreg _ _ => true
  | .bypass _ _ => true
  | .gangAccept _ _ linkId nonce eph idPub sig =>
    fits 32 linkId && lengthIs 32 nonce && lengthIs 97 eph && lengthIs 97 idPub && lengthIs 96 sig
  | .gangAcceptSend _ _ => true
  | .relayReq _ _ seq reqId _ hostId slot msg =>
    fits 64 seq && fits 32 reqId && fits 32 hostId && fits 8 slot && msg.wf
  | .relayReply _ _ seq reqId _ status done _ => fits 64 seq && fits 32 reqId && fits 16 status && fits 32 done
  | .relayRetry _ _ => true
  | .sessionEnd _ _ seq _ slot => fits 64 seq && fits 8 slot
  | .keepalive _ _ seq _ _ => fits 64 seq
  | .keepaliveSend _ _ => true
  | .peerLost _ _ => true
  | .gpioEdge _ _ _ => true
  | .porstNLow _ => true
  | .sysrstNHigh _ => true
  | .refclkMemReturn _ => true
  | .testLogicReset _ => true

end Sys2Proof
end

