-- ==== Sys2Proof/Tests/Slice0.lean ====
section
/-! SUPPORT. Tests of the model: ill-formed commands, states that meet the hypotheses of the statements, and small steps of each
family. Expected values come from the rules that the docstrings name. -/

namespace Sys2Proof.Tests
open Sys2Proof Sys2Proof.Machine

set_option maxRecDepth 100000
set_option Elab.async false

/-! ### Well-formed commands: one ill-formed term for each check -/

def okHdr : PtpHdr := ⟨2, 0, 2, true, 65535, 0, 1, 1, false, -128⟩
def okAnnounce : AnnounceBody := ⟨128, 6, 0x21, 0x4E5D, 128, 1, 0, 37⟩
def okPeer : Peer := ⟨false, 0xC0A80001, 4000, 0x020000000001, 0xC0A80002⟩
def okCert : Cert := ⟨List.replicate 120 0, List.replicate 96 0⟩
def okPic : Pic :=
  ⟨none, false, true, false, false, true, none, 0, [], [], [], none, true, 0, 0, 0, false, 1920, 1920, 1088, 1920, 1080, 0, 8, 9, 16, 9,
    false, false, false, .tiles [510], [], [], false, false⟩
def zeros (n : Nat) : List Byte := List.replicate n 0

theorem test_wf_picture : okPic.wf = true ∧ ({ okPic with cropX := 1 }).wf = false ∧ ({ okPic with cropY := 9 }).wf = false ∧
    (Instr.pictureDispatch 0 0 { okPic with cropX := 1 }).wf = false := by decide +kernel

theorem test_wf_ptp_header : okHdr.wf = true ∧ ({ okHdr with version := 16 }).wf = false ∧ ({ okHdr with domain := 256 }).wf = false ∧
    ({ okHdr with transport := 3 }).wf = false ∧ ({ okHdr with seq := 65536 }).wf = false ∧ ({ okHdr with srcId := 2 ^ 64 }).wf = false ∧
    ({ okHdr with srcPort := 65536 }).wf = false ∧ ({ okHdr with corr := 2 ^ 63 }).wf = false := by decide +kernel

theorem test_wf_announce : okAnnounce.wf = true ∧ ({ okAnnounce with prio1 := 256 }).wf = false ∧ ({ okAnnounce with cls := 256 }).wf = false ∧
    ({ okAnnounce with acc := 256 }).wf = false ∧ ({ okAnnounce with var := 65536 }).wf = false ∧ ({ okAnnounce with prio2 := 256 }).wf = false ∧
    ({ okAnnounce with gmId := 2 ^ 64 }).wf = false ∧ ({ okAnnounce with steps := 65536 }).wf = false ∧
    ({ okAnnounce with utc := 2 ^ 19 }).wf = false := by decide +kernel

theorem test_wf_ptp_messages : (Instr.sync 0 0 { okHdr with version := 16 } 0).wf = false ∧
    (Instr.followUp 0 0 { okHdr with version := 16 } 0).wf = false ∧ (Instr.delayReq 0 0 { okHdr with version := 16 }).wf = false ∧
    (Instr.delayResp 0 0 { okHdr with version := 16 } 0 0 0).wf = false ∧ (Instr.delayResp 0 0 okHdr 0 (2 ^ 64) 0).wf = false ∧
    (Instr.delayResp 0 0 okHdr 0 0 65536).wf = false ∧ (Instr.announce 0 0 { okHdr with version := 16 } okAnnounce).wf = false ∧
    (Instr.announce 0 0 okHdr { okAnnounce with utc := 2 ^ 19 }).wf = false := by decide +kernel

theorem test_wf_frames : (Instr.rxFrame 0 0 (zeros 14) true false).wf = true ∧ (Instr.rxFrame 0 0 (zeros 13) true false).wf = false ∧
    (Instr.arpRequest 0 0 (zeros 5) 0 0).wf = false ∧ (Instr.arpRequest 0 0 (zeros 6) (2 ^ 32) 0).wf = false ∧
    (Instr.arpRequest 0 0 (zeros 6) 0 (2 ^ 32)).wf = false ∧ (Instr.neighbourSolicitation 0 0 (zeros 7) 0 0 false).wf = false ∧
    (Instr.neighbourSolicitation 0 0 (zeros 6) (2 ^ 128) 0 false).wf = false ∧
    (Instr.neighbourSolicitation 0 0 (zeros 6) 0 (2 ^ 128) false).wf = false ∧ (Instr.echoRequest 0 0 (zeros 5) true 0 0 []).wf = false ∧
    (Instr.echoRequest 0 0 (zeros 6) false (2 ^ 32) 0 []).wf = false ∧ (Instr.echoRequest 0 0 (zeros 6) true (2 ^ 32) 0 []).wf = true ∧
    (Instr.echoRequest 0 0 (zeros 6) true 0 (2 ^ 128) []).wf = false ∧ (Instr.tileStatus 0 0 [] (2 ^ 48) 0).wf = false ∧
    (Instr.tileStatus 0 0 [] 0 (2 ^ 128)).wf = false := by decide +kernel

theorem test_wf_set_up : okPeer.wf = true ∧ ({ okPeer with ip := 2 ^ 32 }).wf = false ∧ ({ okPeer with ipv6 := true, ip := 2 ^ 32 }).wf = true ∧
    ({ okPeer with udp := 65536 }).wf = false ∧ ({ okPeer with mac := 2 ^ 48 }).wf = false ∧
    ({ okPeer with dst := 2 ^ 32 }).wf = false ∧ okCert.wf = true ∧
    ({ okCert with body := zeros 119 }).wf = false ∧ ({ okCert with sig := zeros 95 }).wf = false ∧
    (Instr.hello 0 0 okPeer (zeros 31) (zeros 97) okCert).wf = false ∧ (Instr.hello 0 0 okPeer (zeros 32) (zeros 96) okCert).wf = false ∧
    (Instr.hello 0 0 { okPeer with udp := 65536 } (zeros 32) (zeros 97) okCert).wf = false ∧
    (Instr.hello 0 0 okPeer (zeros 32) (zeros 97) { okCert with sig := zeros 95 }).wf = false ∧
    (Instr.finish 0 0 (zeros 97)).wf = false := by decide +kernel

theorem test_wf_requests : (Msg.read (2 ^ 64) 1 []).wf = false ∧ (Msg.read 0 65536 []).wf = false ∧ (Msg.write (2 ^ 64) [] []).wf = false ∧
    (Msg.write 0 [2 ^ 32] []).wf = false ∧ (Msg.maskedWrite (2 ^ 64) 0 0).wf = false ∧ (Msg.maskedWrite 0 (2 ^ 32) 0).wf = false ∧
    (Msg.maskedWrite 0 0 (2 ^ 32)).wf = false ∧ (Msg.ringWrite 65536 0 []).wf = false ∧ (Msg.ringWrite 0 65536 []).wf = false ∧
    (Msg.ringWrite 0 0 [zeros 63]).wf = false ∧ (Msg.doorbell 65536 0).wf = false ∧ (Msg.doorbell 0 (2 ^ 32)).wf = false ∧
    (Msg.lock (2 ^ 32)).wf = false ∧ (Msg.stage [⟨2 ^ 32, 0, 0⟩]).wf = false ∧ (Msg.stage [⟨0, 2 ^ 32, 0⟩]).wf = false ∧
    (Msg.stage [⟨0, 0, 2 ^ 32⟩]).wf = false ∧ (Msg.commit (some (zeros 95))).wf = false ∧ (Msg.persist 256 0 []).wf = false ∧
    (Msg.persist 0 65536 []).wf = false ∧ (Msg.persist 0 0 (zeros 241)).wf = false ∧ (Msg.attest (zeros 31)).wf = false ∧
    (Msg.badType 256).wf = false ∧ (Msg.badLength 256).wf = false ∧ Msg.close.wf = true ∧ Msg.unlock.wf = true := by decide +kernel

theorem test_wf_sequence_numbers : (Instr.close 0 0 (2 ^ 64) true none).wf = false ∧ (Instr.read 0 0 (2 ^ 64) true 0 1 []).wf = false ∧
    (Instr.write 0 0 (2 ^ 64) true 0 [] []).wf = false ∧ (Instr.maskedWrite 0 0 (2 ^ 64) true 0 0 0).wf = false ∧
    (Instr.ringWrite 0 0 (2 ^ 64) true 0 0 []).wf = false ∧ (Instr.doorbell 0 0 (2 ^ 64) true 0 0).wf = false ∧
    (Instr.lock 0 0 (2 ^ 64) true 0).wf = false ∧ (Instr.stage 0 0 (2 ^ 64) true []).wf = false ∧
    (Instr.commit 0 0 (2 ^ 64) true none).wf = false ∧ (Instr.unlock 0 0 (2 ^ 64) true).wf = false ∧
    (Instr.persist 0 0 (2 ^ 64) true 0 0 []).wf = false ∧ (Instr.attest 0 0 (2 ^ 64) true (zeros 32)).wf = false ∧
    (Instr.gangRelay 0 0 (2 ^ 64) true 1 .close).wf = false ∧ (Instr.relayReq 0 1 (2 ^ 64) 0 true 0 0 .close).wf = false ∧
    (Instr.relayReply 0 1 (2 ^ 64) 0 true 0 0 []).wf = false ∧ (Instr.sessionEnd 0 1 (2 ^ 64) true 0).wf = false ∧
    (Instr.keepalive 0 1 (2 ^ 64) true ⟨0, 0, true, 0, 0, 0⟩).wf = false ∧ (Instr.keepalive 0 1 0 true ⟨0, 0, true, 0, 0, 0⟩).wf = true := by decide +kernel

theorem test_wf_bodies : (Instr.read 0 0 1 true 0 65536 []).wf = false ∧ (Instr.write 0 0 1 true (2 ^ 64) [] []).wf = false ∧
    (Instr.maskedWrite 0 0 1 true (2 ^ 64) 0 0).wf = false ∧ (Instr.ringWrite 0 0 1 true 0 0 [zeros 65]).wf = false ∧
    (Instr.doorbell 0 0 1 true 65536 0).wf = false ∧ (Instr.lock 0 0 1 true (2 ^ 32)).wf = false ∧
    (Instr.stage 0 0 1 true [⟨2 ^ 32, 0, 0⟩]).wf = false ∧ (Instr.commit 0 0 1 true (some [])).wf = false ∧
    (Instr.persist 0 0 1 true 0 0 (zeros 241)).wf = false ∧ (Instr.attest 0 0 1 true []).wf = false ∧
    (Instr.gangRelay 0 0 1 true 256 .close).wf = false ∧ (Instr.gangRelay 0 0 1 true 1 (.attest [])).wf = false ∧
    (Instr.registerWrite 0 (2 ^ 24) 0 0).wf = false ∧ (Instr.registerWrite 0 2 0 0).wf = false ∧ (Instr.registerWrite 0 4 0 0).wf = true := by decide +kernel

theorem test_wf_gang : (Instr.gangAccept 0 1 (2 ^ 32) (zeros 32) (zeros 97) (zeros 97) (zeros 96)).wf = false ∧
    (Instr.gangAccept 0 1 0 (zeros 31) (zeros 97) (zeros 97) (zeros 96)).wf = false ∧
    (Instr.gangAccept 0 1 0 (zeros 32) (zeros 96) (zeros 97) (zeros 96)).wf = false ∧
    (Instr.gangAccept 0 1 0 (zeros 32) (zeros 97) (zeros 96) (zeros 96)).wf = false ∧
    (Instr.gangAccept 0 1 0 (zeros 32) (zeros 97) (zeros 97) (zeros 97)).wf = false ∧
    (Instr.relayReq 0 1 1 (2 ^ 32) true 0 0 .close).wf = false ∧ (Instr.relayReq 0 1 1 0 true (2 ^ 32) 0 .close).wf = false ∧
    (Instr.relayReq 0 1 1 0 true 0 256 .close).wf = false ∧ (Instr.relayReq 0 1 1 0 true 0 0 (.attest [])).wf = false ∧
    (Instr.relayReply 0 1 1 (2 ^ 32) true 0 0 []).wf = false ∧ (Instr.relayReply 0 1 1 0 true 65536 0 []).wf = false ∧
    (Instr.relayReply 0 1 1 0 true 0 (2 ^ 32) []).wf = false ∧ (Instr.sessionEnd 0 1 1 true 256).wf = false := by decide +kernel

theorem test_wf_units : (Instr.dramRequest 0 0 32 none).wf = false ∧ (Instr.dramRequest 0 0 64 none).wf = true ∧
    (Instr.paceMeasurement 0 (List.replicate 31 (some 0))).wf = false ∧ (Instr.tempUpdate 0 (List.replicate 15 none)).wf = false ∧
    (Instr.samplePreload 0 [true] []).wf = false := by decide +kernel

/-! ### States that meet the hypotheses of the statements

Each theorem shows a concrete state for one statement of Certificates/Slice0/Obligations.lean, clause by clause at the boundary of
its range. -/

/-- The state after reset with fields of registers set. -/
def with_ (l : List (Fld × Nat)) : State := l.foldl (fun s p => s.put p.1 p.2) State.reset

/-- The state after reset with PORST_N low. -/
def heldState : State := { State.reset with nvm := { State.reset.nvm with held := true } }

def isNext (o : Answer) : Bool := match o with | .next _ => true | _ => false

theorem witness_StepRunsFrontCommand : ({ State.reset with pending := [.nop 1 0, .idcode 0] } : State).pending = .nop 1 0 :: [.idcode 0] := rfl

theorem witness_EmptyQueueIdles : State.reset.pending = [] := rfl

theorem witness_ready : State.reset.ready 0 ∧ State.reset.ready railCore ∧ State.reset.ready railEth ∧ State.reset.ready railMem ∧
    State.reset.ready railPin ∧ State.reset.tapReady := by
  unfold State.ready State.tapReady; decide +kernel

theorem witness_quiet : State.reset.quiet ∧ State.reset.settle = State.reset := by
  unfold State.quiet; decide +kernel

theorem witness_StepKeepsHeldReset : heldState.HeldReset ∧ isNext (step { heldState with pending := [.gpioEdge 0 0 true] }) = true ∧
    State.reset.HeldReset ∧ isNext (step { State.reset with pending := [.porstNLow 0] }) = true := by
  refine ⟨fun _ => ?_, by decide +kernel, fun h => absurd h (by decide +kernel), by decide +kernel⟩
  constructor <;> intros <;> rfl

theorem witness_HeldResetStopsCommands : heldState.nvm.held = true ∧ reachesHeld (.nop 0 0) = false ∧ reachesHeld (.timSnap 0) = false := by
  decide

theorem witness_OnlyPorstHolds : isNext (exec (.nop 0 0) State.reset) = true ∧ isPorst (.nop 0 0) = false := by decide +kernel

theorem witness_EveryCommandCompletes : State.reset.get F.GLB_RAIL_STAT_OK = 127 ∧ State.reset.outOfTemp = false := by decide +kernel

theorem witness_StopsOnlyOutOfRange :
    exec (.nop 0 0) (with_ [(F.GLB_RAIL_STAT_OK, 126)]) = .fault .undefinedRail ∧
    exec (.nop 0 0) (with_ [(F.GLB_TEMP_STAT_SENS_IN, 4), (F.GLB_TEMP_STAT_TJ, 100 * 16 + 1)]) = .fault .undefinedTemperature := by
  have h : (with_ [(F.GLB_RAIL_STAT_OK, 126)]).nvm.held = false ∧ (with_ [(F.GLB_RAIL_STAT_OK, 126)]).railsOk railCore = false := by
    decide +kernel
  have k : (with_ [(F.GLB_TEMP_STAT_SENS_IN, 4), (F.GLB_TEMP_STAT_TJ, 100 * 16 + 1)]).nvm.held = false ∧
      (with_ [(F.GLB_TEMP_STAT_SENS_IN, 4), (F.GLB_TEMP_STAT_TJ, 100 * 16 + 1)]).railsOk railCore = true ∧
      (with_ [(F.GLB_TEMP_STAT_SENS_IN, 4), (F.GLB_TEMP_STAT_TJ, 100 * 16 + 1)]).tempOk railCore = false := by decide +kernel
  constructor
  · rw [exec_nop]; simp [State.run, State.act, h.1, h.2]
  · rw [exec_nop]; simp [State.run, State.act, k.1, k.2.1, k.2.2]

theorem witness_CoreRailStopsBlocks : (with_ [(F.GLB_RAIL_STAT_OK, 126)]).nvm.held = false ∧
    ((with_ [(F.GLB_RAIL_STAT_OK, 126)]).get F.GLB_RAIL_STAT_OK).testBit 0 = false := by decide +kernel

theorem witness_FrameBoundaryFormula :
    (with_ [(F.TIM_SEG_RATE_NUM 0, 60000), (F.TIM_SEG_RATE_DEN 0, 1001)]).get (F.TIM_SEG_RATE_NUM 0) = 60000 ∧
    (with_ [(F.TIM_SEG_RATE_NUM 0, 60000), (F.TIM_SEG_RATE_DEN 0, 1001)]).get (F.TIM_SEG_RATE_DEN 0) = 1001 := by decide +kernel

theorem witness_TimeValueFields : 2 ^ 48 * Config.sec - 1 < 2 ^ 48 * Config.sec ∧ timeNs (2 ^ 48 * Config.sec - 1) = 999999999 := by
  decide +kernel

/-- A capture input for both edges with its FIFO at `n` stamps, an edge at `last`, and a window from 1 s to 2 s if `win`. -/
def capture (en : Nat) (win : Bool) (n : Nat) (last : Option Nat) : State :=
  (with_ [(F.TIM_TCI_CTL_EN 0, en), (F.TIM_TCI_CTL_EDGE 0, 3), (F.TIM_TCI_CTL_WIN_EN 0, if win then 1 else 0),
    (F.TIM_TCI_OPEN_S_LO 0, 1), (F.TIM_TCI_CLOSE_S_LO 0, 2)]).setTci 0 ⟨List.replicate n ⟨0, true⟩, last⟩

theorem witness_CaptureEdgeStampsOrLoses :
    (capture 1 true 15 (some 0)).ready railPinTime ∧ (capture 1 true 15 (some 0)).flag (F.TIM_TCI_CTL_EN 0) = true ∧
    (capture 1 true 15 (some 0)).get (F.TIM_TCI_CTL_EDGE 0) = 3 ∧ (capture 1 true 15 (some 0)).flag (F.TIM_TCI_CTL_WIN_EN 0) = true ∧
    (capture 1 false 15 (some 0)).flag (F.TIM_TCI_CTL_WIN_EN 0) = false ∧
    (capture 0 true 15 (some 0)).flag (F.TIM_TCI_CTL_EN 0) = false ∧
    (capture 1 true 15 (some 0)).tciOpen 0 = Config.sec ∧ (capture 1 true 15 (some 0)).tciClose 0 = 2 * Config.sec ∧
    ((capture 1 true 15 (some 0)).tci 0).fifo.length = 15 ∧ ((capture 1 true 15 (some 0)).tci 0).last = some 0 ∧
    ((capture 1 true 16 none).tci 0).fifo.length = 16 ∧
    ¬ (0 + 20 * Config.ns < 0 + 20 * Config.ns) ∧ 20 * Config.ns - 1 < 0 + 20 * Config.ns := by
  unfold State.ready; decide +kernel

/-- A time base in HOLDOVER with a limit of one second. -/
def holdover : State := with_ [(F.TIM_STAT_STATE, 3), (F.TIM_LIMITS_HOLDOVER_S, 1)]

theorem witness_HoldoverRaisesFault : holdover.ready 0 ∧ holdover.get F.TIM_STAT_STATE = 3 ∧ holdover.tim.holdoverRaised = false ∧
    holdover.tim.holdoverAt + holdover.get F.TIM_LIMITS_HOLDOVER_S * Config.sec ≤ holdover.tim.elapsed + Config.sec ∧
    ¬ holdover.tim.holdoverAt + holdover.get F.TIM_LIMITS_HOLDOVER_S * Config.sec ≤ holdover.tim.elapsed + (Config.sec - 1) := by
  unfold State.ready; decide +kernel

/-- An enabled event source whose route names destinations 0 and 23. -/
def routed : State := with_ [(F.EVT_SRC_CFG_EN 2, 1), (⟨R.EVT_SRC_ROUTE 2, 0, 32⟩, 0x800001)]

theorem witness_EventOccurrence : SMap.get (fun _ => none) routed.evt.oldRoute 2 = none ∧ routed.flag (F.EVT_SRC_CFG_EN 2) = true ∧
    (routed.rd (R.EVT_SRC_ROUTE 2)).testBit 0 = true ∧ (routed.rd (R.EVT_SRC_ROUTE 2)).testBit 23 = true ∧
    (routed.rd (R.EVT_SRC_ROUTE 2)).testBit 22 = false ∧ routed.pendOf 2 0 = none ∧
    ((routed.occur 2 7).pendOf 2 0).isSome = true ∧ State.reset.flag (F.EVT_SRC_CFG_EN 1023) = false ∧ State.reset.pendOf 1023 0 = none ∧
    State.reset.pendOf 256 8 = none := by decide +kernel

theorem witness_EventAndFaultFrame : (0x1FFFF < 0x20000 ∨ 0x30000 ≤ 0x1FFFF) ∧ NotFlt 0x30000 ∧ NotFlt 0xFFFC ∧ NotEvt 0x30000 := by
  unfold NotFlt NotEvt; decide +kernel

theorem witness_FaultSetsStatusAndLevel : State.reset.get (F.FLT_SRC_CFG_SEV 15) = 0 ∧ State.reset.get (F.FLT_SRC_CFG_SEV 0) = 1 ∧
    State.reset.get (F.FLT_SRC_CFG_SEV 32) = 2 := by decide +kernel

theorem witness_StatusClearsOnlyWithoutCause :
    (with_ [(F.FLT_SRC_STAT_STATUS 255, 1)]).flag (F.FLT_SRC_STAT_STATUS 255) = true ∧
    (with_ [(F.FLT_SRC_STAT_STATUS 255, 1)]).flag (F.FLT_SRC_STAT_CAUSE 255) = false ∧
    (with_ [(F.FLT_SRC_STAT_STATUS 0, 1), (F.FLT_SRC_STAT_CAUSE 0, 1)]).flag (F.FLT_SRC_STAT_STATUS 0) = true ∧
    (with_ [(F.FLT_SRC_STAT_STATUS 0, 1), (F.FLT_SRC_STAT_CAUSE 0, 1)]).flag (F.FLT_SRC_STAT_CAUSE 0) = true := by decide +kernel

/-- Hardware has set the status of fault 3 in this instant. -/
def justSet : State := State.reset.stick (F.FLT_SRC_STAT_STATUS 3)

theorem witness_StatusSetNow : justSet.flag (F.FLT_SRC_STAT_STATUS 3) = true ∧ justSet.flag (F.FLT_SRC_STAT_CAUSE 3) = false ∧
    (justSet.stuckBits (R.FLT_SRC_STAT 3)).testBit 0 = true ∧
    ((justSet.advance 1).stuckBits (R.FLT_SRC_STAT 3)).testBit 0 = false := by decide +kernel

theorem witness_MemoryWritesReadBack : Memory.wf State.reset = true ∧ State.reset.protectedAt 0 = false ∧
    (State.reset.setBytes 5 [1, 2]).byte 6 = 2 ∧ (State.reset.setBytes 5 [1, 2]).byte 4 = 0 ∧ (State.reset.setBytes 5 [1, 2]).byte 7 = 0 := by
  decide +kernel

/-- 8 GiB of DRAM. -/
def dram : State := with_ [(F.MEM_CFG_CAPACITY, 0)]

/-- Channel 0 of `dram` is frozen. -/
def frozen : State := with_ [(F.MEM_CFG_CAPACITY, 0), (F.ARB_CTL_FREEZE 0, 1)]

theorem witness_DramRequestEntersQueue : dram.ready railMem ∧ (dram.memQueue (dramChannel 64)).length < 1024 ∧ dram.inDram 64 1 = true ∧
    dram.inDram (dram.dramEnd - 1) 1 = true ∧ dram.grantOf (dramChannel 64) = none ∧
    dram.flag (F.ARB_CTL_FREEZE (dramChannel 64)) = false ∧ dram.memWaiting (dramChannel 64) = [] ∧
    SMap.get (fun _ => 0) dram.memc.asking (dramChannel 64) = 0 ∧
    frozen.ready railMem ∧ frozen.inDram 0 1 = true ∧ dramChannel 0 = 0 ∧ frozen.grantOf 0 = none ∧
    frozen.flag (F.ARB_CTL_FREEZE 0) = true := by
  unfold State.ready; decide +kernel

theorem witness_ArbiterPicksHighestPriority : arbWinner 3 1 (fun _ => 4) (fun o => o = 0 ∨ o = 1) = some 0 ∧
    arbWinner 3 1 (fun o => o) (fun _ => true) = some 2 ∧ arbWinner 1 0 (fun _ => 0) (fun _ => false) = none := by decide +kernel

/-- A channel with a real-time request queued. -/
def rtWaits (debt : Nat) : State := (with_ [(F.MEM_CH_STAT_DEBT 7, debt)]).setMemQueue 7 [⟨20, false, false, 0, 0, [], false⟩]

/-- A Leap window that is open from now to a close, or with no latch to close it. -/
def leaping (close : Option Nat) : State := { State.reset with memc := { State.reset.memc with leap := some (0, close) } }

theorem witness_RefreshDueCases_leap : (leaping none).ready railMem ∧ (leaping (some 1)).ready railMem ∧
    (leaping none).memc.leap = some (0, none) ∧ (leaping (some 1)).memc.leap = some (0, some 1) ∧ State.reset.memc.leap = none := by
  unfold State.ready; decide +kernel

theorem witness_RefreshDueCases : State.reset.ready railMem ∧ 0 < (with_ [(F.MEM_CH_STAT_CREDIT 0, 1)]).get (F.MEM_CH_STAT_CREDIT 0) ∧
    8 ≤ (with_ [(F.MEM_CH_STAT_DEBT 0, 8)]).get (F.MEM_CH_STAT_DEBT 0) ∧ (rtWaits 7).get (F.MEM_CH_STAT_DEBT 7) = 7 ∧
    (rtWaits 7).rtQueued 7 = true ∧ (with_ [(F.MEM_CH_STAT_DEBT 0, 7)]).get (F.MEM_CH_STAT_DEBT 0) < 8 ∧
    (with_ [(F.MEM_CH_STAT_DEBT 0, 7)]).rtQueued 0 = false ∧ State.reset.get (F.MEM_CH_STAT_CREDIT 0) = 0 := by
  unfold State.ready; decide +kernel

/-- A DRAM arbiter with a grant since reset and a HOLD of 16 ns. -/
def granted : State := (with_ [(F.ARB_CTL_HOLD 7, 1)]).setGrant 7 (some (0, 0))

theorem witness_HoldCutoffEndsGrant : granted.ready railCore ∧ granted.grantOf 7 = some (0, 0) ∧ granted.get (F.ARB_CTL_HOLD 7) ≠ 0 ∧
    0 + granted.get (F.ARB_CTL_HOLD 7) * 16 * Config.ns ≤ granted.tim.elapsed + 16 * Config.ns ∧ State.reset.grantOf 23 = none ∧
    granted.flag (F.ARB_CTL_FREEZE 7) = false ∧ granted.memWaiting 7 = [] ∧ (granted.memQueue 7).length < 1024 ∧
    arbWinner 29 0 (fun o => granted.ownPrio 7 o) (fun o => (0x1000000 : Nat).testBit o) = some 24 := by
  unfold State.ready; decide +kernel

theorem witness_RingPositionArithmetic : posAdvance 4 (3, 1) 1 = (0, 0) ∧ posUsed 4 (3, 1) (0, 0) = 1 ∧ posUsed 4 (3, 0) (2, 1) = 3 ∧
    posUsed 4 (3, 0) (3, 1) = 4 := by decide

theorem witness_DmaLineCountsRequests : State.reset.ready railCore ∧ State.reset.linePend 255 < 255 ∧
    255 ≤ ({ State.reset with dma := { State.reset.dma with lines := [(0, 255)] } } : State).linePend 0 := by
  unfold State.ready; decide +kernel

theorem witness_AlmanacParametersLocked :
    (with_ [(F.ALM_SEQ_STAT_STATE 3, 1)]).get (F.ALM_SEQ_STAT_STATE 3) ≠ 0 ∧
    (with_ [(F.ALM_SEQ_STAT_IDLE 0, 0)]).flag (F.ALM_SEQ_STAT_IDLE 0) = false ∧
    bitsOf (overlay ⟨R.ALM_SEQ_CTL 0, 0x10000, 0x10000⟩ (State.reset.rd (R.ALM_SEQ_CTL 0))) 16 13 ≠ State.reset.get (F.ALM_SEQ_CTL_START 0) ∧
    (State.regWrite (with_ [(F.ALM_SEQ_STAT_STATE 3, 1)]) (R.ALM_SEQ_T_NS 3 3) 1 1).1 = 0xF0 := by decide +kernel

/-- A lock with a lease to time 1000. -/
def leased : State := { State.reset with ctl := { State.reset.ctl with lock := { State.reset.ctl.lock with holder := some 3, expiry := 1000 } } }

theorem witness_LeaseExpiryBreaksLock : leased.ready railCore ∧ State.reset.ctl.lock.holder = none ∧ leased.tim.now + 999 < leased.ctl.lock.expiry ∧
    leased.ctl.lock.holder = some 3 ∧ leased.ctl.lock.expiry ≤ leased.tim.now + 1000 ∧ leased.cmp.checks = [] := by
  unfold State.ready; decide +kernel

/-- Session slot 15 is OPEN, and awaits SEQ `n`. -/
def openSlot (n : Nat) : State := with_ [(F.SEC_SESS_STAT_STATE 15, 2), (⟨R.SEC_SESS_NEXT_SEQ_LO 15, 0, 32⟩, n)]

theorem witness_MessageOutsideWindowDropped : (openSlot 1).sessOpen 15 = true ∧ ((openSlot 1).sess 15).relayed = false ∧ (openSlot 1).net.rx = [] ∧
    (openSlot 1).nextSeq 15 + 32 ≤ 33 ∧ 1 + 1024 < (openSlot 1026).nextSeq 15 := by decide +kernel

/-- A fuse advance to `goal` under way. -/
def blowing (goal : Nat) : State := { State.reset with sec := { State.reset.sec with advance := some goal } }

theorem witness_FuseStepBlowsOrFails : (blowing 1).ready railCore ∧ (blowing 1).sec.advance = some 1 ∧ (blowing 1).fuse.steps = 0 ∧
    (blowing 2).fuse.steps + 1 < 2 := by
  unfold State.ready; decide +kernel

def job : PersistJob := ⟨0, 1, 1, 0, [], none⟩

/-- A record write waits, and the last one started at 0. -/
def waiting : State := { State.reset with nvm := { State.reset.nvm with persist := [job], lastWrite := some 0 } }

theorem witness_RecordWritesAreSpaced : waiting.ready railCore ∧ waiting.nvm.writing = none ∧ (∀ j ∈ waiting.nvm.persist, j.kind ≠ 4) ∧
    waiting.nvm.lastWrite = some 0 ∧ waiting.tim.elapsed + (20 * Config.ms - 1) < 0 + 20 * Config.ms ∧ waiting.nvm.persist = job :: [] ∧
    0 + 20 * Config.ms ≤ waiting.tim.elapsed + 20 * Config.ms ∧ State.reset.nvm.lastWrite = none := by
  unfold State.ready; decide +kernel

/-- An AVSBus frame is under way. -/
def avsBusy (retry : Bool) : State := { State.reset with glb := { State.reset.glb with busy := true, retry := retry } }

theorem witness_AvsFrameFailsTwice : (avsBusy false).ready 0 ∧ (avsBusy false).glb.busy = true ∧ (avsBusy false).glb.retry = false ∧
    (avsBusy true).glb.retry = true := by
  unfold State.ready; decide +kernel

theorem witness_TapInstructions : heldState.tapReady ∧ (List.replicate 2202 true).length = 2202 := by
  unfold State.tapReady; decide +kernel

theorem witness_GpioEdgeShowsLevel : State.reset.pin.gpio.getLsbD 15 = false ∧ State.reset.pin.gpio.getLsbD 0 ≠ true := by decide +kernel

theorem witness_FecErrorCounted : State.reset.ready railEth ∧ 2 ≤ State.reset.get (F.NET_PHY_CTL_MODE 0) ∧
    (with_ [(F.NET_PHY_CTL_FEC_EN 3, 1), (F.NET_PHY_CTL_MODE 3, 1)]).flag (F.NET_PHY_CTL_FEC_EN 3) = true ∧
    (with_ [(F.NET_PHY_CTL_FEC_EN 3, 1), (F.NET_PHY_CTL_MODE 3, 1)]).get (F.NET_PHY_CTL_MODE 3) ≤ 1 ∧
    (with_ [(F.NET_PHY_CTL_MODE 0, 0)]).flag (F.NET_PHY_CTL_FEC_EN 0) = false := by
  unfold State.ready; decide +kernel

/-- Port 15 is paused until `t`. -/
def paused (t : Nat) : State := { State.reset with net := { State.reset.net with pause := [(15, some t)] } }

theorem witness_PauseEnds : (paused 5).ready railEth ∧ SMap.get (fun _ => none) (paused 5).net.pause 15 = some 5 ∧
    (paused 5).tim.elapsed + 4 < 5 ∧ 5 ≤ (paused 5).tim.elapsed + 5 := by
  unfold State.ready; decide +kernel

/-- Pool 0 has four buffers. -/
def pooled : State := with_ [(F.BPM_POOL_COUNT 0, 4), (F.BPM_POOL_FREE 0, 4)]

theorem witness_PoolGivesSmallestFit : poolFor 256 = some 0 ∧ poolFor 257 = some 1 ∧ poolFor 1048576 = some 7 ∧ poolFor 1048577 = none ∧
    (pooled.takeBuf 0 256).1 = some (0, 0) ∧ (State.reset.takeBuf 0 256).1 = none := by decide +kernel

/-- A packet with sequence number 65535. -/
def lastPacket : Rtp := ⟨false, 65535, 0, 12, false⟩

/-- Context 0 has taken packet 65535 + 127. -/
def taken127 : State := State.reset.setIng 0 { State.reset.ingCtx 0 with srtpTop := some (65535 + 127), srtpSeen := [65535 + 127] }

theorem witness_ReplayedPacketRefused : lastPacket.seq < 65536 ∧ (State.reset.ingCtx 0).srtpTop = none ∧ (State.reset.ingCtx 0).srtpSeen = [] ∧
    srtpIndex (taken127.ingCtx 0).srtpTop 65535 = 65535 ∧ 65535 ∉ (taken127.ingCtx 0).srtpSeen ∧ 65535 + 127 < 65535 + 128 ∧
    srtpIndex (taken127.ingCtx 0).srtpTop 65534 = 65534 ∧ 65534 + 128 ≤ 65535 + 127 ∧
    srtpIndex (taken127.ingCtx 0).srtpTop 126 ∈ (taken127.ingCtx 0).srtpSeen := by
  decide +kernel

theorem witness_RateWindowRestarts : State.reset.ready railCore ∧
    (State.reset.decCtx 0).winSec = (State.reset.advance (Config.sec - 1)).tim.now / Config.sec ∧
    (State.reset.decCtx 0).winSec ≠ (State.reset.advance Config.sec).tim.now / Config.sec :=
  ⟨witness_ready.2.1, by decide +kernel, by decide +kernel⟩

/-- An encode context with 100 bytes of its bitstream buffer of 4 KiB unread. -/
def unread : State :=
  (with_ [(F.ENC_CTX_CTL_OUT 0, 1), (F.ENC_CTX_BSB_SIZE 0, 1)]).setEnc 0 { State.reset.encCtx 0 with rdLin := 4000, wrLin := 4100 }

theorem witness_BitstreamReleaseIsBounded : unread.get (F.ENC_CTX_CTL_OUT 0) = 1 ∧ (unread.encCtx 0).rdLin ≤ (unread.encCtx 0).wrLin ∧
    ((unread.encBsbRd 0 4).encCtx 0).rdLin = 4100 ∧ ((unread.encBsbRd 0 5).encCtx 0).rdLin = 4000 ∧ max 1 (unread.encBsbSize 0) ≤ 4096 := by
  decide +kernel

/-- LANTERN_N has been low since reset. -/
def lanternLow : State := { State.reset with cmp := { State.reset.cmp with ltLow := true } }

theorem witness_LanternAlarmFollowsPin : lanternLow.ready railPin ∧ lanternLow.cmp.ltLow ≠ lanternLow.flag F.CMP_GLB_LT_PIN_ALARM ∧
    lanternLow.tim.elapsed + (Config.ms - 1) < lanternLow.cmp.ltEdge + Config.ms ∧
    lanternLow.cmp.ltEdge + Config.ms ≤ lanternLow.tim.elapsed + Config.ms ∧ State.reset.cmp.ltLow = State.reset.flag F.CMP_GLB_LT_PIN_ALARM := by
  unfold State.ready; decide +kernel

theorem witness_CalibrationStaysInRange : calBright 65535 2048 = 65535 ∧ calBright 65535 65535 = 1048560 ∧ calClip (-1) = 0 ∧ calClip 65537 = 65536 := by
  decide +kernel

/-- Entries 2 and 3 of port 0 have heads with equal finish tags. -/
def twoHeads : State :=
  { State.reset with out := { State.reset.out with headed := [(2, true), (3, true)], finish := [(2, some ⟨5, 2⟩), (3, some ⟨10, 4⟩)] } }

theorem witness_WfqTakesLeastFinish : (∀ i q, i < 16 → twoHeads.finishOf 0 i = some q → 0 < q.den) ∧ twoHeads.wfqNext 0 = some (2, ⟨5, 2⟩) ∧
    State.reset.wfqNext 0 = none := by
  refine ⟨fun i q hi h => ?_, by decide +kernel, by decide +kernel⟩
  have : ∀ i : Fin 16, ((twoHeads.finishOf 0 i).all (fun q => decide (0 < q.den))) = true := by decide +kernel
  have k := this ⟨i, hi⟩
  simp only [h, Option.all_some, decide_eq_true_eq] at k
  exact k

/-- An UP peer with a keepalive interval of 10 ms. -/
def upPeer : State := with_ [(F.GNG_PEER_STAT_STATE 63, 2), (F.GNG_CTL_KA_MS, 10)]

theorem witness_KeepaliveIsPaced : upPeer.ready railCore ∧ upPeer.peerState 63 = 2 ∧
    upPeer.tim.elapsed + (10 * Config.ms - 1) < (upPeer.link 63).keepAt + upPeer.get F.GNG_CTL_KA_MS * Config.ms ∧
    (upPeer.link 63).keepAt + upPeer.get F.GNG_CTL_KA_MS * Config.ms ≤ upPeer.tim.elapsed + 10 * Config.ms ∧ State.reset.peerState 0 ≠ 2 := by
  unfold State.ready; decide +kernel

theorem witness_ResetLevelsAct : heldState.nvm.held = true ∧ State.reset.nvm.held = false := by decide

/-! ### Small steps

One step on a small state each; the rule named gives the expected value. -/

/-- The next state of a command, or `s` where there is none. -/
def after (c : Instr) (s : State) : State := match exec c s with | .next t => t | _ => s

/-- R550: IDCODE shifts out 0x10F0_855D, part 0x0F08 in bits 27 to 12 and 1 in bit 0. -/
theorem test_idcode : (after (.idcode 0) State.reset).pin.tdo = 0x10F0855D ∧ bitsOf 0x10F0855D 12 16 = 0x0F08 := by decide +kernel

/-- R554: ball GPIO3 goes high. -/
theorem test_gpio_edge : (after (.gpioEdge 0 3 true) State.reset).get F.GLB_GPIO_IN = 8 := by decide +kernel

/-- R224: the snapshot of 1 s + 2 ns + 3 units of 2^-16 ns. -/
theorem test_snap : (after (.timSnap (Config.sec + 2 * Config.ns + 3)) State.reset).rd R.TIM_SNAP_S_LO = 1 ∧
    (after (.timSnap (Config.sec + 2 * Config.ns + 3)) State.reset).rd R.TIM_SNAP_NS = 2 ∧
    (after (.timSnap (Config.sec + 2 * Config.ns + 3)) State.reset).rd R.TIM_SNAP_SUBNS = 3 := by decide +kernel

/-- R239: a stamp is rounded to 1/16 ns, 4096 units. -/
theorem test_capture : ((after (.tciEdge 6144 0 true) (capture 1 false 0 none)).tci 0).fifo = [⟨8192, true⟩] := by decide +kernel

/-- R233: 60000/1001 frames per second: frame 60000 begins at 1001 s. -/
theorem test_boundary : boundaryAt 60000 1001 60000 = 1001 * Config.sec ∧ frameAt 60000 1001 (1001 * Config.sec) = 60000 ∧
    frameAt 60000 1001 (1001 * Config.sec - 1) = 59999 := by decide +kernel

/-- R35: the pause of port 15 ends. -/
theorem test_pause : (after (.pauseExpiry 5 15) (paused 5)).portPaused 15 = false ∧ (after (.pauseExpiry 4 15) (paused 5)).portPaused 15 = true := by
  decide +kernel

/-- The example after R306: 65 µs before the close, channel 0 issues 8 postponed and 8 pulled-in refreshes; three retraining
steps fit after them, and a fourth does not. -/
theorem test_leap_window :
    let s := { with_ [(F.MEM_CH_STAT_DEBT 0, 8)] with memc := { State.reset.memc with leap := some (0, some (65 * Config.us)), due := [(0, some 0)] } }
    let u := s.leapRun
    u.get (F.MEM_CH_STAT_DEBT 0) = 0 ∧ u.get (F.MEM_CH_STAT_CREDIT 0) = 8 ∧ u.get (F.MEM_CH_REF_LEAP 0) = 16 ∧
      u.flag (F.MEM_CH_STAT_TRAINING 0) = true ∧ u.leapHas 0 (60 * Config.us) = true ∧ u.leapHas 0 (80 * Config.us) = false := by decide +kernel

/-- R301: with DEBT at 8 a refresh is forced. -/
theorem test_refresh : (after (.refreshDue 0 2) (with_ [(F.MEM_CH_STAT_DEBT 2, 8)])).get (F.MEM_CH_REF_FORCED 2) = 1 := by decide +kernel

/-- R315: a frozen arbiter with nothing under way is drained. -/
theorem test_freeze : (after (.freeze 0 3 true) State.reset).flag (F.ARB_STAT_DRAINED 3) = true ∧
    (after (.freeze 0 3 false) State.reset).flag (F.ARB_STAT_DRAINED 3) = false := by decide +kernel

/-- R379: a request on internal line 9 is pending. -/
theorem test_line : (after (.requestLine 0 9) State.reset).linePend 9 = 1 ∧ (after (.requestLine 0 9) State.reset).linePend 8 = 0 := by decide +kernel

/-- R409: the handshake flags of a mask are set, and cleared. -/
theorem test_handshake : (after (.almHsSet 0 0x10005) State.reset).alm.flags = 5 ∧
    (after (.almHsClr 0 4) (after (.almHsSet 0 5) State.reset)).alm.flags = 1 := by decide +kernel

/-- R403: ADDI wraps modulo 2^32 and sets Z; TSET loads seconds. -/
theorem test_microwords :
    (State.almEffect (with_ [(F.ALM_SEQ_G 1 2, 0xFFFFFFFF)]) 1 ⟨0, 0, 0, 0, 5, 2, 0, 0, 1, 0⟩).almG 1 2 = 0 ∧
    (State.almEffect (with_ [(F.ALM_SEQ_G 1 2, 0xFFFFFFFF)]) 1 ⟨0, 0, 0, 0, 5, 2, 0, 0, 1, 0⟩).flag (F.ALM_SEQ_STAT_Z 1) = true ∧
    (State.almEffect State.reset 0 ⟨0, 0, 0, 0, 10, 3, 0, 0, 7, 2⟩).rd (R.ALM_SEQ_T_S_HI 0 3) = 2 ∧
    (State.almEffect State.reset 0 ⟨0, 0, 0, 0, 10, 3, 0, 0, 7, 2⟩).rd (R.ALM_SEQ_T_S_LO 0 3) = 7 := by decide +kernel

/-- R441: a corrected error is counted. -/
theorem test_sram_error : (after (.sramError 0 false 0) State.reset).get F.FLT_SRAM_CE = 1 := by decide +kernel

/-- R497: a fuse step. -/
theorem test_fuse_step : (after (.fuseStepDone 0 true) (blowing 2)).fuse.steps = 1 ∧ (after (.fuseStepDone 0 true) (blowing 2)).sec.advance = some 2 ∧
    (after (.fuseStepDone 0 true) (blowing 1)).sec.advance = none := by decide +kernel

/-- R323: a message for a slot that is not OPEN is dropped and counted. -/
theorem test_no_session : (after (.unlock 0 4 1 true) State.reset).get F.SEC_CP_DROPPED = 1 := by decide +kernel

/-- R330, R326: a session's message is answered in order, and its SEQ is next no more. -/
theorem test_session_read : (after (.read 0 15 1 true 0x200000000000 1 []) (openSlot 1)).nextSeq 15 = 2 ∧
    (after (.read 0 15 2 true 0x200000000000 1 []) (openSlot 1)).nextSeq 15 = 1 := by decide +kernel

/-- R435: a status is cleared only without its cause. -/
theorem test_fault_clear :
    (after (.faultStatusClear 0 255) (with_ [(F.FLT_SRC_STAT_STATUS 255, 1)])).flag (F.FLT_SRC_STAT_STATUS 255) = false ∧
    (after (.faultStatusClear 0 255) (with_ [(F.FLT_SRC_STAT_STATUS 255, 1), (F.FLT_SRC_STAT_CAUSE 255, 1)])).flag (F.FLT_SRC_STAT_STATUS 255) = true := by
  decide +kernel

/-- R192: the alarm follows LANTERN_N after 1 ms. -/
theorem test_lantern : (after (.lanternAlarmFilter Config.ms) lanternLow).flag F.CMP_GLB_LT_PIN_ALARM = true ∧
    (after (.lanternAlarmFilter (Config.ms - 1)) lanternLow).flag F.CMP_GLB_LT_PIN_ALARM = false := by decide +kernel

/-- R209: quantisation to 12 bits adds the threshold and drops 8 bits; the largest code clips. -/
theorem test_quantise : calQuant 1 (4095 * 256) 255 = 4095 ∧ calQuant 1 (7 * 256 + 1) 255 = 8 ∧ calQuant 0 1048560 15 = 65535 := by decide +kernel

/-- R462: PORST_N low holds the device. -/
theorem test_porst_low : (after (.porstNLow 0) State.reset).nvm.held = true := by decide +kernel

/-- R44, RFC 7798: a single NAL unit, an aggregation packet of two, the first fragment of a unit of type 19, a later one, and a
PACI packet. -/
theorem test_hevc_payloads : hevcBytes [0x02, 0x01, 0xAB] = some [0, 0, 0, 1, 0x02, 0x01, 0xAB] ∧
    hevcBytes [0x60, 0x01, 0, 3, 0x40, 0x01, 7, 0, 2, 0x44, 0x01] = some [0, 0, 0, 1, 0x40, 0x01, 7, 0, 0, 0, 1, 0x44, 0x01] ∧
    hevcBytes [0x62, 0x01, 0x93, 5] = some [0, 0, 0, 1, 0x26, 0x01, 5] ∧ hevcBytes [0x62, 0x01, 0x13, 6] = some [6] ∧
    hevcBytes [0x64, 0x01, 0, 0] = none := by decide +kernel

/-- R45: two OBU elements, the second a fragment; the packet that ends it; and the size field that each whole OBU gets. -/
theorem test_av1_payloads : av1Bytes none [0x60, 0x02, 0x30, 9, 0x18, 1] = ([0x32, 1, 9], some [0x18, 1]) ∧
    av1Bytes (some [0x18, 1]) [0x90, 2] = ([0x1A, 2, 1, 2], none) ∧ av1Bytes none [0x90, 2] = ([], none) := by decide +kernel

/-- R46: PID 0x1FF, unit start, counter 7, a payload after an adaptation field of 2 bytes; and a PTS with all its bits. -/
theorem test_ts_packet : tsOf [0x47, 0x41, 0xFF, 0x37, 2, 0, 0, 0xAA] = ⟨0x1FF, true, false, 7, some [0xAA]⟩ ∧
    pesPts [0, 0, 1, 0xE0, 0, 0, 0x80, 0x80, 5, 0x2F, 0xFF, 0xFF, 0xFF, 0xFF] = 2 ^ 33 - 1 := by decide +kernel

/-- R48, RFC 3711: the index goes on over the wrap of the sequence number, and goes back for a late packet. -/
theorem test_srtp_index : srtpIndex none 65535 = 65535 ∧ srtpIndex (some 65535) 0 = 65536 ∧ srtpIndex (some 65536) 65535 = 65535 := by
  decide +kernel


/-- R530: ball 25-47 is MEM5B_CA6, the rule's own example; R529, R531: SD_TX15_N, GPIO8 and APP_ACK. -/
theorem test_ball_map : ballAt 25 47 = .signal (.mem 5 true (.ca 6)) ∧ ballAt 2 50 = .signal (.sdTx 15 true) ∧
    ballAt 48 40 = .signal (.gpio 8) ∧ ballAt 52 46 = .signal .appAck := by decide +kernel

/-- R532, R550: the balls of each rail, and the 126 + 608 balls of the boundary register. -/
theorem test_ball_counts : ([Supply.vcore, .vmem, .vphy, .vddq, .vserdes0V9, .vserdes1V2, .vio, .vaon, .vss].map (fun x =>
      (ballList.filter (fun p => ballAt p.1 p.2 = .power x)).length)) = [488, 78, 78, 96, 24, 24, 42, 8, 1155] ∧
    boundaryBalls.length = 734 := by decide +kernel
end Sys2Proof.Tests
end

section
/-! PROOF. Frame boundaries of a segment (R233): T_n ≤ t exactly for the frame numbers up to the current one at t, and what
follows for a segment's boundary, present time and current frame number. -/

namespace Sys2Proof.Machine
open Sys2Proof

/-! ### The boundary and the current frame number of a rate -/

theorem lt_ceilDiv_iff {k : Nat} (hk : 0 < k) (n a : Nat) : n < ceilDiv a k ↔ k * n < a := by
  rw [ceilDiv, ← Nat.succ_le_iff, Nat.le_div_iff_mul_le hk, Nat.succ_mul, Nat.mul_comm n k]
  omega

theorem unitsPerSec_pos : 0 < unitsPerSec := by decide

/-- T_n is rounded down, so it has come at `t` when the exact quotient lies before `t + 1`. -/
theorem boundaryAt_le_iff_mul_lt {num : Nat} (hnum : 0 < num) (den n t : Nat) :
    boundaryAt num den n ≤ t ↔ den * unitsPerSec * n < (t + 1) * num := by
  rw [boundaryAt, ← Nat.lt_succ_iff, Nat.div_lt_iff_lt_mul hnum, Nat.mul_assoc, Nat.mul_comm n]

/-- `boundaryAt` and `frameAt` form a Galois connection: the frames whose boundary has come at `t` are those up to the
current one. -/
theorem boundaryAt_le_iff_le_frameAt {num den : Nat} (hnum : 0 < num) (hden : 0 < den) (n t : Nat) :
    boundaryAt num den n ≤ t ↔ n ≤ frameAt num den t := by
  have hk : 0 < den * unitsPerSec := Nat.mul_pos hden unitsPerSec_pos
  have hpos : 0 < ceilDiv ((t + 1) * num) (den * unitsPerSec) :=
    (lt_ceilDiv_iff hk _ _).2 (by simpa using hnum)
  rw [boundaryAt_le_iff_mul_lt hnum, ← lt_ceilDiv_iff hk, frameAt, Nat.le_sub_one_iff_lt hpos]

/-! ### The times of a segment -/

theorem State.segT_eq (s : State) (g n : Nat) : s.segT g n =
    n * s.get (F.TIM_SEG_RATE_DEN g) * 1000000000 * 65536 / s.get (F.TIM_SEG_RATE_NUM g) := by
  rw [State.segT, boundaryAt, unitsPerSec, Nat.mul_assoc _ 1000000000 65536]

theorem State.segP_eq (s : State) (g n : Nat) :
    s.segP g n = s.segT g n + s.get (F.TIM_SEG_DELAY g) * 65536 := rfl

theorem State.segT_le_now_iff {s : State} {g : Nat} (hnum : 0 < s.get (F.TIM_SEG_RATE_NUM g))
    (hden : 0 < s.get (F.TIM_SEG_RATE_DEN g)) (n : Nat) : s.segT g n ≤ s.tim.now ↔ n ≤ s.segN g :=
  boundaryAt_le_iff_le_frameAt hnum hden n s.tim.now

/-! What the times of a segment depend on: T_n on NUM and DEN, P_n on D as well, and the current frame number on the device
time. -/

theorem State.segT_congr {s s' : State} {g g' : Nat} (hnum : s'.get (F.TIM_SEG_RATE_NUM g') = s.get (F.TIM_SEG_RATE_NUM g))
    (hden : s'.get (F.TIM_SEG_RATE_DEN g') = s.get (F.TIM_SEG_RATE_DEN g)) (n : Nat) : s'.segT g' n = s.segT g n := by
  rw [State.segT, State.segT, hnum, hden]

theorem State.segP_congr {s s' : State} {g g' : Nat} (hnum : s'.get (F.TIM_SEG_RATE_NUM g') = s.get (F.TIM_SEG_RATE_NUM g))
    (hden : s'.get (F.TIM_SEG_RATE_DEN g') = s.get (F.TIM_SEG_RATE_DEN g))
    (hdelay : s'.get (F.TIM_SEG_DELAY g') = s.get (F.TIM_SEG_DELAY g)) (n : Nat) : s'.segP g' n = s.segP g n := by
  rw [State.segP, State.segP, State.segT_congr hnum hden, hdelay]

theorem State.segN_congr {s s' : State} {g g' : Nat} (hnum : s'.get (F.TIM_SEG_RATE_NUM g') = s.get (F.TIM_SEG_RATE_NUM g))
    (hden : s'.get (F.TIM_SEG_RATE_DEN g') = s.get (F.TIM_SEG_RATE_DEN g)) (hnow : s'.tim.now = s.tim.now) :
    s'.segN g' = s.segN g := by
  rw [State.segN, State.segN, hnum, hden, hnow]

/-- Settles O10: the formulas of R233 by their definitions, the current frame number by the Galois connection between
boundaries and frame numbers, and the agreement of devices by congruence. -/
theorem frameBoundaryFormula : Obligations.FrameBoundaryFormula := by
  unfold Obligations.FrameBoundaryFormula
  rintro s g _ _ rfl rfl hnum hden
  have hle := State.segT_le_now_iff hnum hden
  refine ⟨s.segT_eq g, s.segP_eq g, (hle _).2 (Nat.le_refl _), ?_, fun n => (hle n).1, ?_⟩
  · have hnext : ¬ s.segT g (s.segN g + 1) ≤ s.tim.now := fun h => Nat.not_succ_le_self _ ((hle _).1 h)
    exact Nat.lt_of_not_le hnext
  · intro s' g' hnum' hden' hdelay hnow
    exact ⟨State.segN_congr hnum' hden' hnow,
      fun n => ⟨State.segT_congr hnum' hden' n, State.segP_congr hnum' hden' hdelay n⟩⟩

end Sys2Proof.Machine
end

section
/-! PROOF. Writes to a sequencer that is not stopped (R411): the bits that a register write takes, what the Almanac's
registers refuse, and the field START through a write of its own word. -/

namespace Sys2Proof.Machine
open Sys2Proof

/-! ### Bits of a written word -/

theorem bitsOf_eq_iff (v w lo n : Nat) :
    bitsOf v lo n = bitsOf w lo n ↔ ∀ i < n, v.testBit (lo + i) = w.testBit (lo + i) := by
  have htest : ∀ x i, (bitsOf x lo n).testBit i = (decide (i < n) && x.testBit (lo + i)) := fun x i => by
    rw [bitsOf, Nat.testBit_mod_two_pow, Nat.testBit_div_two_pow, Nat.add_comm i lo]
  constructor
  · intro h i hi
    simpa [htest, hi] using congrArg (Nat.testBit · i) h
  · intro h
    refine Nat.eq_of_testBit_eq fun i => ?_
    rw [htest, htest]
    by_cases hi : i < n
    · rw [h i hi]
    · simp [hi]

theorem testBit_overlay (off mask val v i : Nat) :
    (overlay ⟨off, mask, val⟩ v).testBit i = if mask.testBit i then val.testBit i else v.testBit i := by
  simp only [overlay, Nat.testBit_xor, Nat.testBit_and]
  cases mask.testBit i <;> simp

theorem testBit_clearBits (a b i : Nat) : (clearBits a b).testBit i = (a.testBit i && !b.testBit i) := by
  unfold clearBits
  induction i generalizing a b with
  | zero =>
    have hle : a &&& b ≤ a := Nat.and_le_left
    have hone : (a &&& b) % 2 = 1 ↔ a % 2 = 1 ∧ b % 2 = 1 := Nat.and_mod_two_eq_one
    rw [Bool.eq_iff_iff]
    simp only [Nat.testBit_zero, Bool.and_eq_true, Bool.not_eq_true', decide_eq_true_eq, decide_eq_false_iff_not]
    omega
  | succ i ih =>
    have hle : a &&& b ≤ a := Nat.and_le_left
    have hdiv : (a &&& b) / 2 = a / 2 &&& b / 2 := Nat.and_div_two
    have hone : (a &&& b) % 2 = 1 ↔ a % 2 = 1 ∧ b % 2 = 1 := Nat.and_mod_two_eq_one
    have hhalf : (a - (a &&& b)) / 2 = a / 2 - (a / 2 &&& b / 2) := by omega
    rw [Nat.testBit_succ, hhalf, ih, ← Nat.testBit_succ, ← Nat.testBit_succ]

theorem clearBits_zero (a : Nat) : clearBits a 0 = a := by simp [clearBits]

theorem zero_clearBits (b : Nat) : clearBits 0 b = 0 := by simp [clearBits]

theorem clearBits_word {a : Nat} (ha : a < 2 ^ 32) : clearBits a 0xFFFFFFFF = 0 := by
  have hall : a &&& 0xFFFFFFFF = a := Nat.and_two_pow_sub_one_of_lt_two_pow ha
  rw [clearBits, hall, Nat.sub_self]

/-! ### Offsets of block ALM -/

theorem regIdx_eq_none {off base stride n : Nat} (hs : 0 < stride) (h : off < base ∨ base + n * stride ≤ off) :
    regIdx off base stride n = none := by
  refine if_neg fun ⟨hle, _, hlt⟩ => ?_
  rw [Nat.div_lt_iff_lt_mul hs] at hlt
  omega

theorem windowAt_almSeq {off : Nat} (hhi : off < 0xC0400) : windowAt off = none := by
  rw [windowAt, if_neg (by omega), if_neg (by omega)]

theorem State.portAbsentReg_almSeq (s : State) {off : Nat} (hhi : off < 0xC0400) : s.portAbsentReg off = false := by
  have : ¬ 0x101000 ≤ off := by omega
  simp [State.portAbsentReg, this]

/-- The parameters of sequencer `q` that R411 locks as whole words: its general and its time registers. -/
def AlmParam (q off : Nat) : Prop :=
  (∃ i, i < 16 ∧ off = R.ALM_SEQ_G q i) ∨
    (∃ i, i < 4 ∧ (off = R.ALM_SEQ_T_S_HI q i ∨ off = R.ALM_SEQ_T_S_LO q i ∨ off = R.ALM_SEQ_T_NS q i))

theorem AlmParam.bounds {q off : Nat} (h : AlmParam q off) : 0xC0040 + q * 0x100 ≤ off ∧ off < 0xC00C0 + q * 0x100 := by
  rcases h with ⟨i, hi, rfl⟩ | ⟨i, hi, rfl | rfl | rfl⟩
  · unfold R.ALM_SEQ_G; omega
  · unfold R.ALM_SEQ_T_S_HI; omega
  · unfold R.ALM_SEQ_T_S_LO; omega
  · unfold R.ALM_SEQ_T_NS; omega

/-- Every field of the register is RW. -/
def RegDef.plain (d : RegDef) : Bool := d.fields.all (fun f => decide (f.acc = .rw))

theorem regFind_almParam {q : Fin 4} {off : Nat} (h : AlmParam q off) : ∃ d, regFind off = some d ∧ d.plain = true := by
  have hG : ∀ (q : Fin 4) (i : Fin 16), (regFind (R.ALM_SEQ_G q i)).any RegDef.plain = true := by decide +kernel
  have hT : ∀ (q i : Fin 4), (regFind (R.ALM_SEQ_T_S_HI q i)).any RegDef.plain = true ∧
      (regFind (R.ALM_SEQ_T_S_LO q i)).any RegDef.plain = true ∧
      (regFind (R.ALM_SEQ_T_NS q i)).any RegDef.plain = true := by decide +kernel
  refine (Option.any_eq_true _ _).1 ?_
  rcases h with ⟨i, hi, rfl⟩ | ⟨i, hi, h⟩
  · exact hG q ⟨i, hi⟩
  · obtain ⟨hHi, hLo, hNs⟩ := hT q ⟨i, hi⟩
    rcases h with rfl | rfl | rfl
    · exact hHi
    · exact hLo
    · exact hNs

theorem regFind_almSeqCtl (q : Fin 4) : ∃ d, regFind (R.ALM_SEQ_CTL q) = some d ∧ d.plain = true := by
  have h : ∀ q : Fin 4, (regFind (R.ALM_SEQ_CTL q)).any RegDef.plain = true := by decide +kernel
  exact (Option.any_eq_true _ _).1 (h q)

theorem RegDef.acc_of_plain {d : RegDef} (hd : d.plain = true) {f : FieldDef} (hf : f ∈ d.fields) : f.acc = .rw :=
  of_decide_eq_true (List.all_eq_true.1 hd f hf)

theorem RegDef.bitsOf_eq_zero_of_plain {d : RegDef} (hd : d.plain = true) {a : Acc} (ha : a ≠ .rw) : d.bitsOf [a] = 0 := by
  have hnil : d.fields.filter (fun f => decide (f.acc ∈ [a])) = [] := by
    refine List.filter_eq_nil_iff.2 fun f hf => ?_
    simpa [RegDef.acc_of_plain hd hf] using ha.symm
  rw [RegDef.bitsOf, hnil, List.foldl_nil]

/-! ### What the registers of a running sequencer refuse (R411) -/

theorem State.dropDue_regs (s : State) (off mask : Nat) : (s.dropDue off mask).regs = s.regs := by
  unfold State.dropDue
  split <;> rfl

theorem State.almStopped_of_rd {s t : State} {q : Nat} (h : t.rd (R.ALM_SEQ_STAT q) = s.rd (R.ALM_SEQ_STAT q)) :
    t.almStopped q = s.almStopped q :=
  congrArg (fun v => decide (bitsOf v 1 3 = 0) && decide (bitsOf v 0 1 = 1)) h

theorem State.almStopped_eq_false_iff {s : State} {q : Nat} :
    s.almStopped q = false ↔ s.get (F.ALM_SEQ_STAT_STATE q) ≠ 0 ∨ s.flag (F.ALM_SEQ_STAT_IDLE q) = false := by
  rw [State.almStopped, State.almState, Bool.and_eq_false_iff, decide_eq_false_iff_not]

theorem State.rangeRefused_almSeq (s : State) {off : Nat} (hlo : 0xC0000 ≤ off) (hhi : off < 0xC0400) (v : Nat) :
    s.rangeRefused off v =
      if s.almStopped ((off - 0xC0000) / 0x100) then []
      else if off % 0x100 = 0 ∧ v / 65536 % 8192 ≠ s.get (F.ALM_SEQ_CTL_START ((off - 0xC0000) / 0x100)) then [(16, 0x1FFF0000, 0xF0)]
      else if 0x40 ≤ off % 0x100 ∧ off % 0x100 < 0xC0 then [(0, 0xFFFFFFFF, 0xF0)]
      else [] := by
  unfold State.rangeRefused
  rw [if_neg (by unfold R.MEM_WM; omega), regIdx_eq_none (by decide) (by omega), if_neg (by decide),
    if_neg (by unfold R.FLT_GLB_CTL; omega), if_neg (by omega), regIdx_eq_none (by decide) (by unfold R.EVT_TGT_RING_HI; omega),
    if_neg (by decide), if_neg (by unfold R.GLB_AVS_CTL; omega),
    if_neg (by unfold R.GLB_AVS_STEP; omega), if_neg (by unfold R.GLB_AVS_TIMING; omega),
    if_neg (by unfold R.GLB_TEMP_LIMITS; omega), regIdx_eq_none (by decide) (by unfold R.GLB_GPIO_CTL; omega), if_neg (by decide),
    if_neg (by unfold R.GNG_CTL; omega), if_pos ⟨hlo, hhi⟩]

theorem State.rangeRefused_almParam {s : State} {q : Fin 4} {off : Nat} (hrun : s.almStopped q = false) (h : AlmParam q off) (v : Nat) :
    s.rangeRefused off v = [(0, 0xFFFFFFFF, 0xF0)] := by
  have hb := h.bounds
  have hq : (off - 0xC0000) / 0x100 = q := by omega
  rw [s.rangeRefused_almSeq (by omega) (by omega), hq, hrun, if_neg Bool.false_ne_true, if_neg (by omega), if_pos (by omega)]

theorem State.rangeRefused_almSeqCtl {s : State} {q : Fin 4} (hrun : s.almStopped q = false) (v : Nat) :
    s.rangeRefused (R.ALM_SEQ_CTL q) v = if bitsOf v 16 13 = s.get (F.ALM_SEQ_CTL_START q) then [] else [(16, 0x1FFF0000, 0xF0)] := by
  have hq : (R.ALM_SEQ_CTL q - 0xC0000) / 0x100 = q := by unfold R.ALM_SEQ_CTL; omega
  have hmod : R.ALM_SEQ_CTL q % 0x100 = 0 := by unfold R.ALM_SEQ_CTL; omega
  rw [s.rangeRefused_almSeq (by unfold R.ALM_SEQ_CTL; omega) (by unfold R.ALM_SEQ_CTL; omega), hq, hrun, hmod]
  by_cases hv : bitsOf v 16 13 = s.get (F.ALM_SEQ_CTL_START q)
  · rw [if_neg Bool.false_ne_true, if_neg (fun h => h.2 hv), if_neg (by decide), if_pos hv]
  · rw [if_neg Bool.false_ne_true, if_pos ⟨rfl, hv⟩, if_neg hv]

/-! ### A write of a register whose fields are all RW (R331) -/

/-- The fields that a write reaches and the register's rules refuse. -/
def State.refusedFields (s : State) (off mask val : Nat) : List (Nat × Nat × Nat) :=
  let eff := s.regNow off
  let v := overlay ⟨off, mask, val⟩ eff
  (s.rangeRefused off v).filter (fun x => decide (v &&& x.2.1 ≠ eff &&& x.2.1) || decide (mask &&& x.2.1 ≠ 0))

/-- The bits of refused fields. -/
def refusedBits (l : List (Nat × Nat × Nat)) : Nat := l.foldl (fun a x => a ||| x.2.1) 0

/-- The status of the refused field whose least significant bit is lowest. -/
def refusedStatus (l : List (Nat × Nat × Nat)) : Nat :=
  (l.foldl (fun (b : Option (Nat × Nat)) x =>
    if x.2.2 = 0 then b
    else match b with
      | some (lo, _) => if x.1 < lo then some (x.1, x.2.2) else b
      | none => some (x.1, x.2.2)) none).elim 0 (·.2)

/-- The bits of a write that the register takes. -/
def State.takenMask (s : State) (d : RegDef) (off mask val : Nat) : Nat :=
  clearBits (mask &&& d.bitsOf [.rw, .wo]) (refusedBits (s.refusedFields off mask val))

theorem refusedStatus_singleton (lo bits : Nat) {c : Nat} (hc : c ≠ 0) : refusedStatus [(lo, bits, c)] = c := by
  simp [refusedStatus, hc]

theorem refusedBits_singleton (lo bits c : Nat) : refusedBits [(lo, bits, c)] = bits := by simp [refusedBits]

theorem RegDef.filterMap_of_plain {β : Type} {d : RegDef} (hd : d.plain = true) {g : FieldDef → Option β}
    (hg : ∀ f : FieldDef, f.acc = .rw → g f = none) : d.fields.filterMap g = [] :=
  List.filterMap_eq_nil_iff.2 fun f hf => hg f (RegDef.acc_of_plain hd hf)

/-- What a register without W1C and W1S fields does with the bits `wm` of a written word, `st` being the status so far. -/
def State.takeBits (s : State) (off wm val st : Nat) : Nat × State :=
  let new := takenAs off (overlay ⟨off, wm, val⟩ (s.rd off))
  match s.sysRegWrite off new 0 with
  | some (st', s') => (if st = 0 then st' else st, s')
  | none =>
    if 0x200000 ≤ off ∧ off < 0x240000 then (st, s.dmaRegWrite ((off - 0x200000) / 0x40) (off % 0x40) new wm 0)
    else (st, (((s.timRegWrite off new 0).orElse (fun _ => s.queueRegWrite off new wm 0)).orElse
      (fun _ => s.unitRegWrite off new wm 0)).getD (s.wr off new))

/-- A write of a register whose fields are all RW: nothing changes where no bit is taken. -/
theorem State.fieldWrite_plain (s : State) {d : RegDef} (hd : d.plain = true) (off mask val : Nat) :
    s.fieldWrite d off mask val =
      if s.takenMask d off mask val = 0 then (refusedStatus (s.refusedFields off mask val), s)
      else s.takeBits off (s.takenMask d off mask val) val (refusedStatus (s.refusedFields off mask val)) := by
  unfold State.fieldWrite
  dsimp only
  rw [RegDef.filterMap_of_plain hd (fun f hf => by simp [hf]), RegDef.bitsOf_eq_zero_of_plain hd (by decide),
    RegDef.bitsOf_eq_zero_of_plain hd (by decide)]
  simp only [Nat.and_zero, zero_clearBits, Nat.or_zero, List.append_nil, clearBits_zero, and_true]
  rfl

/-- What ALM_SEQ_CTL of sequencer `q` does with the bits `wm` of a written word. -/
def State.almCtlWrite (s : State) (q wm val : Nat) : State :=
  let v := overlay ⟨R.ALM_SEQ_CTL q, wm, val⟩ (s.rd (R.ALM_SEQ_CTL q))
  let t := s.wr (R.ALM_SEQ_CTL q) (overlay ⟨0, 0x1FFF0002, v⟩ (s.rd (R.ALM_SEQ_CTL q)))
  if !wm.testBit 0 then t else if v.testBit 0 then t.almEnable q else t.almDisable q

theorem takenAs_almSeqCtl (q : Fin 4) (v : Nat) : takenAs (R.ALM_SEQ_CTL q) v = v := by
  refine if_neg ?_
  rw [R.ALM_SEQ_CTL]
  omega

theorem State.sysRegWrite_almSeqCtl (s : State) (q : Fin 4) (v w1 : Nat) : s.sysRegWrite (R.ALM_SEQ_CTL q) v w1 = none := by
  rw [R.ALM_SEQ_CTL]
  unfold State.sysRegWrite
  rw [if_neg (by unfold R.GLB_AVS_CTL; omega), if_neg (by unfold R.GLB_TEMP_LIMITS; omega),
    if_neg (by unfold R.GLB_RST_CMD; omega), if_neg (by unfold R.NVM_OP_CMD; omega),
    if_neg (by unfold R.NVM_REC_CMD; omega), if_neg (by unfold R.SEC_FUSE_CMD; omega),
    if_neg (by unfold R.SEC_KEY_LOAD; omega), if_neg (by unfold R.SEC_DBG_CMD; omega),
    regIdx_eq_none (by decide) (by unfold R.SEC_SESS_CMD; omega)]

theorem State.timRegWrite_almSeqCtl (s : State) (q : Fin 4) (v w1 : Nat) : s.timRegWrite (R.ALM_SEQ_CTL q) v w1 = none := by
  rw [R.ALM_SEQ_CTL]
  unfold State.timRegWrite
  rw [if_neg (by unfold R.TIM_CMD; omega), regIdx_eq_none (by decide) (by omega)]
  dsimp only
  rw [if_neg (by omega), regIdx_eq_none (by decide) (by unfold R.TIM_TCI_CMD; omega)]

theorem regIdx_almSeqCtl (q : Fin 4) : regIdx (R.ALM_SEQ_CTL q) 0xC0000 0x100 4 = some q.val := by
  rw [R.ALM_SEQ_CTL, regIdx, if_pos (by omega)]
  exact congrArg some (by omega)

theorem State.queueRegWrite_almSeqCtl (s : State) (q : Fin 4) (wm val w1 : Nat) :
    s.queueRegWrite (R.ALM_SEQ_CTL q) (overlay ⟨R.ALM_SEQ_CTL q, wm, val⟩ (s.rd (R.ALM_SEQ_CTL q))) wm w1 =
      some (s.almCtlWrite q wm val) := by
  have hq : (R.ALM_SEQ_CTL q - 0xC0000) / 0x100 = q := by rw [R.ALM_SEQ_CTL]; omega
  unfold State.queueRegWrite
  rw [if_neg (by rw [R.ALM_SEQ_CTL]; unfold R.ALM_HS_SET; omega), if_neg (by rw [R.ALM_SEQ_CTL]; unfold R.ALM_HS_CLR; omega),
    regIdx_almSeqCtl, if_pos Option.isSome_some, hq]
  rfl

theorem State.takeBits_almSeqCtl (s : State) (q : Fin 4) (wm val st : Nat) :
    s.takeBits (R.ALM_SEQ_CTL q) wm val st = (st, s.almCtlWrite q wm val) := by
  unfold State.takeBits
  rw [takenAs_almSeqCtl]
  dsimp only
  rw [s.sysRegWrite_almSeqCtl, s.timRegWrite_almSeqCtl, s.queueRegWrite_almSeqCtl]
  dsimp only
  rw [if_neg (by rw [R.ALM_SEQ_CTL]; omega)]
  rfl

/-! ### Events leave the first word of every 16 bytes alone

An event writes EVT_SRC_STAT, EVT_SRC_COUNT, EVT_GLB_STAT and the fill of a queue, none of which lies at a multiple of 16. So
ALM_SEQ_CTL stays whatever sources the records of a queue name. -/

section
variable {s : State} {off : Nat} (hoff : off % 16 = 0)
include hoff

theorem State.rd_setPend_of_row (n d : Nat) (r : Option EvRec) : (s.setPend n d r).rd off = s.rd off := by
  have hstat : off ≠ (F.EVT_SRC_STAT_PENDING n).off := by simp only [F.EVT_SRC_STAT_PENDING, R.EVT_SRC_STAT]; omega
  have hglb : off ≠ F.EVT_GLB_STAT_PENDING_SOURCES.off := by simp only [F.EVT_GLB_STAT_PENDING_SOURCES, R.EVT_GLB_STAT]; omega
  unfold State.setPend
  dsimp only
  split
  · rw [State.rd_decr_other _ _ _ hglb, State.rd_putB_other _ _ _ _ hstat]; rfl
  · split
    · rw [State.rd_inc_other _ _ _ hglb, State.rd_putB_other _ _ _ _ hstat]; rfl
    · rw [State.rd_putB_other _ _ _ _ hstat]; rfl

theorem State.rd_addPend_of_row (n data d : Nat) : (s.addPend n data d).rd off = s.rd off := by
  unfold State.addPend
  split
  · exact State.rd_setPend_of_row hoff _ _ _
  · dsimp only
    rw [State.rd_setPend_of_row hoff]
    split <;> rfl

theorem State.rd_addPends_of_row (n data : Nat) (l : List Nat) (s : State) :
    (l.foldl (fun s d => State.addPend s n data d) s).rd off = s.rd off := by
  induction l generalizing s with
  | nil => rfl
  | cons d r ih => rw [List.foldl_cons, ih, State.rd_addPend_of_row hoff]

theorem State.rd_occur_of_row (n data : Nat) : (s.occur n data).rd off = s.rd off := by
  have hcount : off ≠ (F.EVT_SRC_COUNT n).off := by simp only [F.EVT_SRC_COUNT, R.EVT_SRC_COUNT]; omega
  unfold State.occur
  dsimp only
  rw [State.rd_addPends_of_row hoff, State.rd_inc_other _ _ _ hcount]

theorem State.rd_evtComplete_of_row (n b : Nat) : (s.evtComplete n b).rd off = s.rd off := by
  unfold State.evtComplete
  split
  · rw [State.rd_used, State.rd_occur_of_row hoff]
  · rfl

theorem State.rd_evtsComplete_of_row (rs : List EvRec) (s : State) : (s.evtsComplete rs).rd off = s.rd off := by
  unfold State.evtsComplete
  generalize ((rs.filter (fun r => !r.overflow)).map (fun r => (r.src, r.batch))).eraseDups = l
  induction l generalizing s with
  | nil => rfl
  | cons p r ih => rw [List.foldl_cons, ih, State.rd_evtComplete_of_row hoff]

theorem State.rd_putQueue_target_of_row {d : Nat} (hd : d < 8) (l : List EvRec) : (s.putQueue d l).rd off = s.rd off := by
  have hstat : off ≠ (F.EVT_TGT_STAT_QUEUED d).off := by simp only [F.EVT_TGT_STAT_QUEUED, R.EVT_TGT_STAT]; omega
  unfold State.putQueue State.setQueue
  dsimp only
  rw [if_pos hd, if_pos hd, State.rd_put_other _ _ _ _ hstat]
  rfl

theorem State.rd_almNoWait_of_row (q : Nat) : (s.almNoWait q).rd off = s.rd off := by
  have hevt : off ≠ (F.EVT_TGT_STAT_WAITING q).off := by simp only [F.EVT_TGT_STAT_WAITING, R.EVT_TGT_STAT]; omega
  have hwait : off ≠ R.ALM_SEQ_WAIT q := by unfold R.ALM_SEQ_WAIT; omega
  rw [State.almNoWait, State.rd_putB_other _ _ _ _ hevt, State.rd_wr_other _ _ _ _ hwait]

theorem ne_almSeqStat_of_row (q : Nat) : off ≠ R.ALM_SEQ_STAT q := by unfold R.ALM_SEQ_STAT; omega

end

/-! ### START through a write of its word -/

theorem State.rd_setWaitDone (s : State) (q : Nat) (b : Bool) (off : Nat) : (s.setWaitDone q b).rd off = s.rd off := rfl

theorem almSeqCtl_row (q : Nat) : R.ALM_SEQ_CTL q % 16 = 0 := by rw [R.ALM_SEQ_CTL]; omega

theorem State.get_start_eq (s : State) (q : Nat) : s.get (F.ALM_SEQ_CTL_START q) = bitsOf (s.rd (R.ALM_SEQ_CTL q)) 16 13 := rfl

theorem State.get_start_of_rd {s t : State} {q : Nat} (h : t.rd (R.ALM_SEQ_CTL q) = s.rd (R.ALM_SEQ_CTL q)) :
    t.get (F.ALM_SEQ_CTL_START q) = s.get (F.ALM_SEQ_CTL_START q) := by
  rw [State.get_start_eq, State.get_start_eq, h]

/-- A start of a sequencer that is not stopped is refused: ALM_SEQ_CTL stays. -/
theorem State.rd_almEnable_running {s : State} {q : Nat} (hrun : s.almStopped q = false) :
    (s.almEnable q).rd (R.ALM_SEQ_CTL q) = s.rd (R.ALM_SEQ_CTL q) := by
  have hbusy : s.almState q ≠ 0 ∨ (!s.flag (F.ALM_SEQ_STAT_IDLE q)) = true := by
    rw [Bool.not_eq_true', State.almState]
    exact State.almStopped_eq_false_iff.1 hrun
  unfold State.almEnable
  by_cases hen : s.flag (F.ALM_SEQ_CTL_EN q) = true
  · rw [if_pos hen]
  · rw [if_neg hen, if_pos hbusy]
    exact s.rd_stick_other _ _ (ne_almSeqStat_of_row (almSeqCtl_row q) q)

/-- A stop writes ALM_SEQ_CTL for EN alone. -/
theorem State.get_start_almDisable (s : State) (q : Fin 4) :
    (s.almDisable q).get (F.ALM_SEQ_CTL_START q) = s.get (F.ALM_SEQ_CTL_START q) := by
  have hrow := almSeqCtl_row q
  have hstat := ne_almSeqStat_of_row hrow q
  have hevt : NotEvt (R.ALM_SEQ_CTL q) := .inr (by rw [R.ALM_SEQ_CTL]; omega)
  have hqueue : ((s.putQueue q []).evtsComplete (s.queueOf q)).get (F.ALM_SEQ_CTL_START q) = s.get (F.ALM_SEQ_CTL_START q) :=
    State.get_start_of_rd (by rw [State.rd_evtsComplete_of_row hrow, State.rd_putQueue_target_of_row hrow (by omega)])
  unfold State.almDisable
  dsimp only
  generalize (s.putQueue q []).evtsComplete (s.queueOf q) = t at hqueue ⊢
  split
  · exact hqueue
  · calc _ = (t.putB (F.ALM_SEQ_CTL_EN q) false).get (F.ALM_SEQ_CTL_START q) := State.get_start_of_rd (by
          rw [State.rd_raiseU _ 316 _ (by decide) hevt, State.rd_putB_other _ _ _ _ hstat, State.rd_put_other _ _ _ _ hstat,
            State.rd_setWaitDone, State.rd_almNoWait_of_row hrow])
      _ = t.get (F.ALM_SEQ_CTL_START q) := t.get_put_other _ _ _ (by simp [F.ALM_SEQ_CTL_EN])
          (by simp [F.ALM_SEQ_CTL_EN, F.ALM_SEQ_CTL_START])
      _ = _ := hqueue

/-- A write of ALM_SEQ_CTL that takes no new bit of START leaves START as it was, while the sequencer is not stopped. -/
theorem State.get_start_almCtlWrite {s : State} {q : Fin 4} {wm val : Nat} (hrun : s.almStopped q = false)
    (hsame : ∀ i < 13, wm.testBit (16 + i) = true → val.testBit (16 + i) = (s.rd (R.ALM_SEQ_CTL q)).testBit (16 + i)) :
    (s.almCtlWrite q wm val).get (F.ALM_SEQ_CTL_START q) = s.get (F.ALM_SEQ_CTL_START q) := by
  unfold State.almCtlWrite
  dsimp only
  generalize hx : overlay ⟨0, 0x1FFF0002, overlay ⟨R.ALM_SEQ_CTL q, wm, val⟩ (s.rd (R.ALM_SEQ_CTL q))⟩ (s.rd (R.ALM_SEQ_CTL q)) = x
  have hword : (s.wr (R.ALM_SEQ_CTL q) x).get (F.ALM_SEQ_CTL_START q) = s.get (F.ALM_SEQ_CTL_START q) := by
    have hbits : bitsOf (x % 2 ^ 32) 16 13 = bitsOf (s.rd (R.ALM_SEQ_CTL q)) 16 13 := by
      refine (bitsOf_eq_iff _ _ _ _).2 fun i hi => ?_
      have hwidth : 16 + i < 32 := by omega
      rw [Nat.testBit_mod_two_pow, ← hx, testBit_overlay, testBit_overlay]
      by_cases hm : wm.testBit (16 + i) = true
      · simp [hwidth, hm, hsame i hi hm]
      · simp [hwidth, hm]
    rw [State.get_start_eq, State.get_start_eq, State.rd_wr_same, hbits]
  have hstat : (s.wr (R.ALM_SEQ_CTL q) x).rd (R.ALM_SEQ_STAT q) = s.rd (R.ALM_SEQ_STAT q) :=
    s.rd_wr_other _ _ _ (ne_almSeqStat_of_row (almSeqCtl_row q) q).symm
  have hrun' : (s.wr (R.ALM_SEQ_CTL q) x).almStopped q = false := by
    rw [State.almStopped_of_rd hstat, hrun]
  split
  · exact hword
  · split
    · exact (State.get_start_of_rd (State.rd_almEnable_running hrun')).trans hword
    · exact (State.get_start_almDisable _ q).trans hword

/-! ### What a running sequencer takes of a write -/

theorem testBit_startBits {i : Nat} (hi : i < 13) : Nat.testBit 0x1FFF0000 (16 + i) = true := by
  have h : ∀ i : Fin 13, Nat.testBit 0x1FFF0000 (16 + i) = true := by decide
  exact h ⟨i, hi⟩

theorem and_startBits_ne_zero {mask i : Nat} (hi : i < 13) (hm : mask.testBit (16 + i) = true) : mask &&& 0x1FFF0000 ≠ 0 := by
  intro h0
  have h := Nat.testBit_and mask 0x1FFF0000 (16 + i)
  rw [h0, hm, testBit_startBits hi, Nat.zero_testBit] at h
  exact absurd h (by decide)

/-- A write of a locked parameter is refused whole. -/
theorem State.refusedFields_almParam {s : State} {q : Fin 4} {off mask : Nat} (val : Nat) (hrun : s.almStopped q = false)
    (h : AlmParam q off) (hmask : mask < 2 ^ 32) (hne : mask ≠ 0) : s.refusedFields off mask val = [(0, 0xFFFFFFFF, 0xF0)] := by
  have hall : mask &&& 0xFFFFFFFF = mask := Nat.and_two_pow_sub_one_of_lt_two_pow hmask
  unfold State.refusedFields
  dsimp only
  rw [State.rangeRefused_almParam hrun h]
  simp [hall, hne]

theorem State.fieldWrite_almParam {s : State} {q : Fin 4} {d : RegDef} {off mask : Nat} (val : Nat) (hrun : s.almStopped q = false)
    (h : AlmParam q off) (hd : d.plain = true) (hmask : mask < 2 ^ 32) (hne : mask ≠ 0) :
    s.fieldWrite d off mask val = (0xF0, s) := by
  have hr := State.refusedFields_almParam val hrun h hmask hne
  have htaken : s.takenMask d off mask val = 0 := by
    rw [State.takenMask, hr, refusedBits_singleton, clearBits_word (Nat.lt_of_le_of_lt Nat.and_le_left hmask)]
  rw [s.fieldWrite_plain hd, if_pos htaken, hr, refusedStatus_singleton _ _ (by decide)]

theorem State.refusedFields_almSeqCtl {s : State} {q : Fin 4} {mask : Nat} (val : Nat) (hrun : s.almStopped q = false)
    (hm : mask &&& 0x1FFF0000 ≠ 0) :
    s.refusedFields (R.ALM_SEQ_CTL q) mask val =
      if bitsOf (overlay ⟨R.ALM_SEQ_CTL q, mask, val⟩ (s.regNow (R.ALM_SEQ_CTL q))) 16 13 = s.get (F.ALM_SEQ_CTL_START q) then []
      else [(16, 0x1FFF0000, 0xF0)] := by
  unfold State.refusedFields
  dsimp only
  rw [State.rangeRefused_almSeqCtl hrun]
  split
  · rfl
  · simp [hm]

/-- Of START a running sequencer takes only bits that START has already. -/
theorem State.testBit_takenMask_start {s : State} {q : Fin 4} {d : RegDef} {mask val i : Nat} (hrun : s.almStopped q = false)
    (hi : i < 13) (ht : (s.takenMask d (R.ALM_SEQ_CTL q) mask val).testBit (16 + i) = true) :
    val.testBit (16 + i) = (s.rd (R.ALM_SEQ_CTL q)).testBit (16 + i) := by
  rw [State.takenMask, testBit_clearBits, Nat.testBit_and, Bool.and_eq_true, Bool.and_eq_true, Bool.not_eq_true'] at ht
  obtain ⟨⟨hm, _⟩, hnot⟩ := ht
  rw [State.refusedFields_almSeqCtl val hrun (and_startBits_ne_zero hi hm)] at hnot
  split at hnot
  case isTrue hv =>
    have hbit := (bitsOf_eq_iff _ _ _ _).1 hv i hi
    rwa [testBit_overlay, if_pos hm] at hbit
  case isFalse =>
    rw [refusedBits_singleton, testBit_startBits hi] at hnot
    exact absurd hnot (by decide)

theorem State.get_start_fieldWrite {s : State} {q : Fin 4} {d : RegDef} (mask val : Nat) (hrun : s.almStopped q = false)
    (hd : d.plain = true) :
    (s.fieldWrite d (R.ALM_SEQ_CTL q) mask val).2.get (F.ALM_SEQ_CTL_START q) = s.get (F.ALM_SEQ_CTL_START q) := by
  rw [s.fieldWrite_plain hd]
  split
  · rfl
  · rw [State.takeBits_almSeqCtl]
    exact State.get_start_almCtlWrite hrun fun i hi => State.testBit_takenMask_start hrun hi

theorem State.fieldWrite_almSeqCtl_status (s : State) (q : Fin 4) {d : RegDef} (mask val : Nat) (hd : d.plain = true) :
    (s.fieldWrite d (R.ALM_SEQ_CTL q) mask val).1 = refusedStatus (s.refusedFields (R.ALM_SEQ_CTL q) mask val) := by
  rw [s.fieldWrite_plain hd]
  split
  · rfl
  · rw [State.takeBits_almSeqCtl]

/-- A write that would change START is refused. The write is laid over the word as it reads now, which may show enables that
wait for start-up (R464); but a masked bit of START that differs from START's differs over any word. -/
theorem State.refusedFields_start_changed {s : State} {q : Fin 4} {mask val : Nat} (hrun : s.almStopped q = false)
    (hne : bitsOf (overlay ⟨R.ALM_SEQ_CTL q, mask, val⟩ (s.rd (R.ALM_SEQ_CTL q))) 16 13 ≠ s.get (F.ALM_SEQ_CTL_START q)) :
    s.refusedFields (R.ALM_SEQ_CTL q) mask val = [(16, 0x1FFF0000, 0xF0)] := by
  rw [State.get_start_eq, Ne, bitsOf_eq_iff] at hne
  obtain ⟨i, hi⟩ := Classical.not_forall.1 hne
  obtain ⟨hi, hbit⟩ := Classical.not_imp.1 hi
  have hm : mask.testBit (16 + i) = true := by
    refine Decidable.byContradiction fun hm => hbit ?_
    rw [testBit_overlay, if_neg hm]
  rw [State.refusedFields_almSeqCtl val hrun (and_startBits_ne_zero hi hm), if_neg]
  intro hv
  have hsame := (bitsOf_eq_iff _ _ _ _).1 hv i hi
  rw [testBit_overlay, if_pos hm] at hbit hsame
  exact hbit hsame

/-! ### Writes by offset -/

theorem State.regWrite_almSeq (s : State) {off : Nat} {d : RegDef} (hlo : 0xC0000 ≤ off) (hhi : off < 0xC0400)
    (hd : regFind off = some d) (mask val : Nat) :
    s.regWrite off mask val = (s.dropDue off (mask &&& d.bitsOf [.rw])).fieldWrite d off mask val := by
  unfold State.regWrite
  rw [windowAt_almSeq hhi]
  dsimp only
  rw [hd]
  dsimp only
  rw [s.portAbsentReg_almSeq hhi, if_neg Bool.false_ne_true, if_neg (by unfold R.NVM_OP_CTL R.NVM_OP_STAT; omega)]

/-- Settles O27: a locked parameter is refused whole, and of a word of ALM_SEQ_CTL its field START. -/
theorem almanacParametersLocked : Obligations.AlmanacParametersLocked := by
  unfold Obligations.AlmanacParametersLocked
  intro s q off mask val hstate hmask
  have hdrop : ∀ m o, (s.dropDue off m).rd o = s.rd o := fun m => State.rd_of_regs (s.dropDue_regs off m)
  have hrun : ∀ m, (s.dropDue off m).almStopped q = false := fun m =>
    (State.almStopped_of_rd (hdrop m _)).trans (State.almStopped_eq_false_iff.2 hstate)
  constructor
  · intro (hparam : AlmParam q off) hne
    have hb := hparam.bounds
    obtain ⟨d, hfind, hplain⟩ := regFind_almParam hparam
    rw [s.regWrite_almSeq (by omega) (by omega) hfind, State.fieldWrite_almParam val (hrun _) hparam hplain hmask hne]
    exact ⟨rfl, hdrop _⟩
  · rintro rfl
    obtain ⟨d, hfind, hplain⟩ := regFind_almSeqCtl q
    rw [s.regWrite_almSeq (by rw [R.ALM_SEQ_CTL]; omega) (by rw [R.ALM_SEQ_CTL]; omega) hfind]
    refine ⟨(State.get_start_fieldWrite mask val (hrun _) hplain).trans (State.get_start_of_rd (hdrop _ _)), fun hne => ?_⟩
    rw [← hdrop (mask &&& d.bitsOf [.rw]), ← State.get_start_of_rd (hdrop (mask &&& d.bitsOf [.rw]) _)] at hne
    rw [State.fieldWrite_almSeqCtl_status _ q mask val hplain, State.refusedFields_start_changed (hrun _) hne,
      refusedStatus_singleton _ _ (by decide)]

end Sys2Proof.Machine
end

section
/-! PROOF. What an occurrence of an event source does (R421): the destinations it reaches, and the pending record of a source
at a destination that it reaches and at one that it does not. -/

namespace Sys2Proof.Machine
open Sys2Proof

/-! ### The destinations of a route value -/

theorem mem_routeDests_iff (v d : Nat) : d ∈ routeDests v ↔ d < 24 ∧ v.testBit d = true := by
  rw [routeDests, setBitsOf, List.mem_filter, List.mem_range]

theorem nodup_routeDests (v : Nat) : (routeDests v).Nodup := List.nodup_range.filter _

/-- The sinks stand behind the eight internal targets. -/
theorem mem_sinkDests_iff (d : Nat) : d ∈ (List.range 16).map (· + 8) ↔ 8 ≤ d ∧ d < 24 := by
  simp only [List.mem_map, List.mem_range]
  constructor
  · rintro ⟨i, hi, rfl⟩
    omega
  · exact fun hd => ⟨d - 8, by omega, by omega⟩

/-! ### The destinations that an occurrence reaches -/

section
variable (s : State) (n data : Nat)

/-- Source `n` is enabled and its route register names destination `d`. -/
def State.RoutesTo (d : Nat) : Prop :=
  s.flag (F.EVT_SRC_CFG_EN n) = true ∧ (s.rd (R.EVT_SRC_ROUTE n)).testBit d = true

/-- The destinations of the route in force, of an enabled source. -/
def State.enabledDests : List Nat :=
  if s.flag (F.EVT_SRC_CFG_EN n) then routeDests (s.route n) else []

/-- The destinations whose pending records take an occurrence of source `n` (R421); event 256 goes to every sink (R335). -/
def State.occurDests : List Nat :=
  if n = 256 then (s.enabledDests n).filter (· < 8) ++ (List.range 16).map (· + 8) else s.enabledDests n

/-- Counting an occurrence changes neither the enable nor the route of its source. -/
theorem State.enabledDests_inc_count : (s.inc (F.EVT_SRC_COUNT n)).enabledDests n = s.enabledDests n := by
  have hen : (s.inc (F.EVT_SRC_COUNT n)).flag (F.EVT_SRC_CFG_EN n) = s.flag (F.EVT_SRC_CFG_EN n) := by
    rw [State.flag, State.get, s.rd_inc_other _ _ (by
      simp only [F.EVT_SRC_CFG_EN, R.EVT_SRC_CFG, F.EVT_SRC_COUNT, R.EVT_SRC_COUNT]
      omega)]
    rfl
  have hroute : (s.inc (F.EVT_SRC_COUNT n)).route n = s.route n := by
    rw [State.route, s.rd_inc_other _ _ (by simp only [R.EVT_SRC_ROUTE, F.EVT_SRC_COUNT, R.EVT_SRC_COUNT]; omega)]
    rfl
  rw [State.enabledDests, hen, hroute]
  rfl

/-- An occurrence is counted, and then added to the pending record of each destination that it reaches. -/
theorem State.occur_eq_addPends : s.occur n data =
    (s.occurDests n).foldl (fun t d => t.addPend n (data % 2 ^ 32) d) (s.inc (F.EVT_SRC_COUNT n)) := by
  rw [State.occurDests, ← s.enabledDests_inc_count, State.enabledDests, apply_ite (List.filter _), List.filter_nil]
  rfl

theorem State.nodup_enabledDests : (s.enabledDests n).Nodup := by
  unfold State.enabledDests
  split
  · exact nodup_routeDests _
  · exact List.nodup_nil

theorem State.nodup_occurDests : (s.occurDests n).Nodup := by
  unfold State.occurDests
  split
  · refine List.nodup_append.2 ⟨(s.nodup_enabledDests n).filter _, by decide, fun d htarget e hsink => ?_⟩
    have hlt : d < 8 := of_decide_eq_true (List.mem_filter.1 htarget).2
    exact Nat.ne_of_lt (Nat.lt_of_lt_of_le hlt ((mem_sinkDests_iff e).1 hsink).1)
  · exact s.nodup_enabledDests n

variable {s n} {d : Nat}

theorem State.lt_of_mem_enabledDests (h : d ∈ s.enabledDests n) : d < 24 := by
  unfold State.enabledDests at h
  split at h
  · exact ((mem_routeDests_iff _ d).1 h).1
  · exact absurd h List.not_mem_nil

theorem State.lt_of_mem_occurDests (h : d ∈ s.occurDests n) : d < 24 := by
  unfold State.occurDests at h
  split at h
  · rcases List.mem_append.1 h with htarget | hsink
    · exact State.lt_of_mem_enabledDests (List.mem_filter.1 htarget).1
    · exact ((mem_sinkDests_iff d).1 hsink).2
  · exact State.lt_of_mem_enabledDests h

/-- With no route change waiting (R422), the route in force is the route register. -/
theorem State.route_of_oldRoute_none (hold : SMap.get (fun _ => none) s.evt.oldRoute n = none) :
    s.route n = s.rd (R.EVT_SRC_ROUTE n) % 2 ^ 24 := by
  rw [State.route, hold]

theorem State.mem_enabledDests_iff (hold : SMap.get (fun _ => none) s.evt.oldRoute n = none) (hd : d < 24) :
    d ∈ s.enabledDests n ↔ s.RoutesTo n d := by
  unfold State.enabledDests State.RoutesTo
  split
  next hen =>
    rw [mem_routeDests_iff, State.route_of_oldRoute_none hold, Nat.testBit_mod_two_pow]
    simp [hd, hen]
  next hen => simp [hen]

theorem State.mem_occurDests_iff (hold : SMap.get (fun _ => none) s.evt.oldRoute n = none) (hd : d < 24) :
    d ∈ s.occurDests n ↔ if n = 256 then 8 ≤ d ∨ s.RoutesTo n d else s.RoutesTo n d := by
  rw [← State.mem_enabledDests_iff hold hd, State.occurDests]
  split
  · rw [List.mem_append, mem_sinkDests_iff, List.mem_filter, decide_eq_true_iff]
    rcases Nat.lt_or_ge d 8 with htarget | hsink
    · simp [htarget, Nat.not_le_of_lt htarget]
    · simp [hsink, hd]
  · rfl

/-! ### The pending records after an occurrence -/

theorem State.pendOf_occur_reached (h : d ∈ s.occurDests n) :
    (s.occur n data).pendOf n d = pendBump (s.pendOf n d) n (data % 2 ^ 32) s.tim.now := by
  rw [State.occur_eq_addPends, pendOf_addPends_same n _ d (State.lt_of_mem_occurDests h) _ (fun _ => State.lt_of_mem_occurDests)
    (s.nodup_occurDests n) h]
  rfl

theorem State.pendOf_occur_other {m : Nat} (hd : d < 24) (h : m ≠ n ∨ d ∉ s.occurDests n) :
    (s.occur n data).pendOf m d = s.pendOf m d := by
  rw [State.occur_eq_addPends, pendOf_addPends_other n _ m d hd _ (fun _ => State.lt_of_mem_occurDests) h]
  rfl

end

/-- Settles O15: the record of each destination that the occurrence reaches takes it once, and every other record stays. -/
theorem eventOccurrence : Obligations.EventOccurrence := by
  unfold Obligations.EventOccurrence
  intro s n data d hn hd hold u routed goes
  have hgoes : d ∈ s.occurDests n ↔ goes := State.mem_occurDests_iff hold hd
  have hreached (h : goes) : u.pendOf n d = pendBump (s.pendOf n d) n (data % 2 ^ 32) s.tim.now :=
    State.pendOf_occur_reached data (hgoes.2 h)
  refine ⟨s.count_occur n data hn, fun h r hr => ?_, fun h hr => ?_, fun h => ?_, fun m hm => ?_⟩
  · rw [hreached h, hr, pendBump]
  · rw [hreached h, hr, pendBump]
  · exact State.pendOf_occur_other data hd (.inr (mt hgoes.1 h))
  · exact State.pendOf_occur_other data hd (.inl hm)

end Sys2Proof.Machine
end

section
/-! PROOF. The queue, the resets and the answers of the commands: what a held cold reset keeps, which commands act while it is
held, when a command answers a next state, and what the levels of the reset pins leave. -/

namespace Sys2Proof.Machine
open Sys2Proof

/-! ### The front of the queue -/

/-- Settles O1: by the definition of a step. -/
theorem stepRunsFrontCommand : Obligations.StepRunsFrontCommand := by
  unfold Obligations.StepRunsFrontCommand
  exact fun _ _ _ => rfl

theorem step_of_empty {s : State} (h : s.pending = []) : step s = .next s := by
  rw [step, h]

theorem step_of_front {s : State} {c : Instr} {rest : List Instr} (h : s.pending = c :: rest) :
    step s = exec c { s with pending := rest } := by
  rw [step, h]

/-- Settles O2. -/
theorem emptyQueueIdles : Obligations.EmptyQueueIdles := by
  unfold Obligations.EmptyQueueIdles
  exact fun _ => step_of_empty

/-! ### A state in which every block is in reset -/

/-- Of a state at reset, what R462 leaves outside the blocks may be anything else. -/
theorem State.AtReset.of_outside {s t : State} (h : s.AtReset) {c0 c1 : SMap Byte} {held lost low : Bool}
    (he : t = { s with pending := t.pending, draw := t.draw, pin := t.pin,
                       nvm := { s.nvm with cs0 := c0, cs1 := c1, held := held, memClkLost := lost, sysrstLow := low } }) :
    t.AtReset := by
  rw [he]
  exact { h with nvm := by rw [h.nvm] }

theorem State.AtReset.keepOutside {t : State} (h : t.AtReset) (s : State) : (t.keepOutside s).AtReset := h.of_outside rfl

theorem State.AtReset.hold {s : State} (h : s.AtReset) (b : Bool) : State.AtReset { s with nvm := { s.nvm with held := b } } :=
  h.of_outside rfl

theorem State.AtReset.loseMemClk {s : State} (h : s.AtReset) (b : Bool) :
    State.AtReset { s with nvm := { s.nvm with memClkLost := b } } := h.of_outside rfl

/-- Device time and the start of start-up time both stand at 0. -/
theorem State.AtReset.elapsed_eq_bootAt {s : State} (h : s.AtReset) : s.tim.elapsed = s.nvm.bootAt := by
  rw [h.tim, h.nvm]
  rfl

theorem State.AtReset.sysrstRise {s : State} (h : s.AtReset) : s.sysrstRise.AtReset := by
  unfold State.sysrstRise
  split
  · exact h.of_outside (by rw [h.elapsed_eq_bootAt])
  · exact h

theorem State.AtReset.memClkBack {s : State} (h : s.AtReset) : s.memClkBack.AtReset := by
  unfold State.memClkBack
  split
  · exact h.of_outside (by rw [h.elapsed_eq_bootAt])
  · exact h

/-- The fuses of an unowned part show the reset values of their registers. -/
theorem resetWith_regs : (resetWith State.reset.fuse).regs = State.reset.regs := by decide +kernel

theorem State.reset_atReset : State.reset.AtReset where
  mem := rfl
  memEpoch := rfl
  evt := rfl
  flt := rfl
  tim := rfl
  ctl := rfl
  rng := rfl
  dma := rfl
  alm := rfl
  glb := rfl
  nvm := rfl
  sec := rfl
  gng := rfl
  net := rfl
  bpm := rfl
  ing := rfl
  dec := rfl
  enc := rfl
  cmp := rfl
  cal := rfl
  out := rfl
  memc := rfl
  regs := fun off _ => State.rd_of_regs resetWith_regs.symm off

/-- Settles O3: registers and memory list nothing at reset, so each reads its default. -/
theorem resetStateAtReset : Obligations.ResetStateAtReset := by
  unfold Obligations.ResetStateAtReset
  have hstage : State.reset.get F.NVM_BOOT_STAT_STAGE = 0 := by decide +kernel
  have hsess : ∀ i : Fin 16, State.reset.get (F.SEC_SESS_STAT_STATE i) = 0 := by decide +kernel
  have hbyte (a : Nat) : State.reset.byte a = 0 := rfl
  exact ⟨State.reset_atReset, fun _ => State.reset_atReset, rfl, rfl, rfl, hstage, hsess, fun _ => rfl, hbyte⟩

/-! ### A held cold reset (R462) -/

theorem State.timed_of_held {s : State} (h : s.nvm.held = true) (dt : Nat) : s.timed dt = s := if_pos h

/-- A change of a pin while a cold reset is held leads to a cold reset. -/
theorem State.runPin_held {s : State} (h : s.nvm.held = true) (dt r : Nat) (f : State → State) :
    s.runPin dt r f = .next ((f s).coldReset.keepOutside s) := if_pos h

theorem State.runPin_not_held {s : State} (h : s.nvm.held = false) (dt r : Nat) (f : State → State) :
    s.runPin dt r f = s.run dt r f := if_neg (by rw [h]; decide)

/-- All that a scan of the TAP can answer. -/
theorem State.tap_cases {s s' : State} {dt : Nat} {f : State → State} (h : s.tap dt f = .next s') :
    s' = (f (s.timed dt)).keepOutside s := by
  unfold State.tap at h
  split at h
  · exact nomatch h
  · split at h
    · exact nomatch h
    · exact (Host.Outcome.next.inj h).symm

/-- A command that goes on from `s` with the levels outside as they were needs the blocks at reset only where a reset is held. -/
theorem State.heldReset_keepOutside {s t : State} (h : s.nvm.held = true → t.AtReset) : (t.keepOutside s).HeldReset :=
  fun hs => (h hs).keepOutside s

theorem State.heldReset_run {s s' : State} (hs : s.HeldReset) {dt r : Nat} {f : State → State} (h : s.run dt r f = .next s') :
    s'.HeldReset := by
  rcases s.act_cases dt r _ h with ⟨_, rfl⟩ | ⟨hfree, _, _, rfl⟩
  · exact hs
  · exact State.heldReset_keepOutside fun hheld => absurd (hheld.symm.trans hfree) (by decide)

theorem State.heldReset_runPin {s s' : State} (hs : s.HeldReset) {dt r : Nat} {f : State → State}
    (h : s.runPin dt r f = .next s') : s'.HeldReset := by
  cases hheld : s.nvm.held with
  | true =>
    rw [State.runPin_held hheld] at h
    obtain rfl := Host.Outcome.next.inj h
    exact State.heldReset_keepOutside fun _ => State.coldReset_atReset _
  | false =>
    rw [State.runPin_not_held hheld] at h
    exact State.heldReset_run hs h

theorem State.heldReset_tap {s s' : State} (hs : s.HeldReset) {dt : Nat} {f : State → State} (hf : PinOnly f)
    (h : s.tap dt f = .next s') : s'.HeldReset := by
  rw [State.tap_cases h]
  refine State.heldReset_keepOutside fun hheld => ?_
  obtain ⟨p, d, hpin⟩ := hf s hheld
  rw [State.timed_of_held hheld, hpin]
  exact (hs hheld).of_outside rfl

/-- Where no reset is held after a command, there is nothing to keep. -/
theorem State.heldReset_of_not_held {s : State} (h : s.nvm.held = false) : s.HeldReset :=
  fun hs => absurd (hs.symm.trans h) (by decide)

theorem State.porstLow_atReset (s : State) : s.porstLow.AtReset := by
  unfold State.porstLow
  exact s.coldReset_atReset.hold true

theorem State.memClkLoss_atReset (s : State) : s.memClkLoss.AtReset := by
  unfold State.memClkLoss
  exact s.coldReset_atReset.loseMemClk true

/-- A release starts the device, so that no reset is held after it. -/
theorem State.porstRelease_held (s : State) : s.porstRelease.nvm.held = false := by
  unfold State.porstRelease
  split
  next hfree => simpa using hfree
  next => rfl

theorem State.coldReset_pending (s : State) : s.coldReset.pending = s.pending := by
  obtain ⟨g, k, h⟩ := s.coldReset_eq
  rw [h]

theorem State.porstRelease_pending (s : State) : s.porstRelease.pending = s.pending := by
  unfold State.porstRelease
  split
  · rfl
  · rw [s.coldReset_pending]

theorem State.porstLow_pending (s : State) : s.porstLow.pending = s.pending := by
  unfold State.porstLow
  rw [s.coldReset_pending]

/-- The end of a reset that SYSRST_N or REFCLK_MEM brought changes neither the queue nor the level of PORST_N. -/
theorem State.sysrstRise_outside (s : State) : s.sysrstRise.pending = s.pending ∧ s.sysrstRise.nvm.held = s.nvm.held := by
  unfold State.sysrstRise
  split <;> exact ⟨rfl, rfl⟩

theorem State.memClkBack_outside (s : State) : s.memClkBack.pending = s.pending ∧ s.memClkBack.nvm.held = s.nvm.held := by
  unfold State.memClkBack
  split <;> exact ⟨rfl, rfl⟩

theorem State.timed_outside (s : State) (dt : Nat) : (s.timed dt).pending = s.pending ∧ (s.timed dt).nvm = s.nvm := by
  unfold State.timed
  split <;> exact ⟨rfl, rfl⟩

/-- The levels of PORST_N, VAON, SYSRST_N and REFCLK_MEM: each is answered in every state, with the queue as it was. -/
theorem exec_raw {c : Instr} (hc : isRaw c = true) (s : State) :
    ∃ t, exec c s = .next t ∧ t.pending = s.pending ∧ (isPorst c = false → t.nvm.held = s.nvm.held) ∧
      (s.HeldReset → t.HeldReset) := by
  cases c with
  | porstNRelease dt =>
    exact ⟨_, exec_porstNRelease s dt, State.porstRelease_pending _, nofun,
      fun _ => State.heldReset_of_not_held (State.porstRelease_held _)⟩
  | vaonLow dt =>
    exact ⟨_, exec_vaonLow s dt, State.keepOutside_pending _ _, fun _ => State.keepOutside_held _ _,
      fun _ => State.heldReset_keepOutside fun _ => State.coldReset_atReset _⟩
  | refclkMemLost dt =>
    exact ⟨_, exec_refclkMemLost s dt, State.keepOutside_pending _ _, fun _ => State.keepOutside_held _ _,
      fun _ => State.heldReset_keepOutside fun _ => State.memClkLoss_atReset _⟩
  | porstNLow dt =>
    exact ⟨_, exec_porstNLow s dt, State.porstLow_pending _, nofun, fun _ _ => State.porstLow_atReset _⟩
  | sysrstNHigh dt =>
    obtain ⟨hpend, hheld⟩ := (s.timed dt).sysrstRise_outside
    obtain ⟨hpend', hnvm⟩ := s.timed_outside dt
    have hheld' := hheld.trans (congrArg NvmState.held hnvm)
    refine ⟨_, exec_sysrstNHigh s dt, hpend.trans hpend', fun _ => hheld', fun hs hnow => ?_⟩
    rw [State.timed_of_held (hheld'.symm.trans hnow)]
    exact (hs (hheld'.symm.trans hnow)).sysrstRise
  | refclkMemReturn dt =>
    obtain ⟨hpend, hheld⟩ := (s.timed dt).memClkBack_outside
    obtain ⟨hpend', hnvm⟩ := s.timed_outside dt
    have hheld' := hheld.trans (congrArg NvmState.held hnvm)
    refine ⟨_, exec_refclkMemReturn s dt, hpend.trans hpend', fun _ => hheld', fun hs hnow => ?_⟩
    rw [State.timed_of_held (hheld'.symm.trans hnow)]
    exact (hs (hheld'.symm.trans hnow)).memClkBack
  | _ => nomatch hc

theorem exec_keeps_heldReset {c : Instr} {s s' : State} (hs : s.HeldReset) (h : exec c s = .next s') : s'.HeldReset := by
  rcases exec_shape c with ⟨dt, f, r, he⟩ | ⟨dt, r, f, he⟩ | ⟨dt, f, hf, he⟩ | hraw
  · exact State.heldReset_run hs (he s ▸ h)
  · exact State.heldReset_runPin hs (he s ▸ h)
  · exact State.heldReset_tap hs hf (he s ▸ h)
  · obtain ⟨t, ht, _, _, hkeep⟩ := exec_raw hraw s
    exact Host.Outcome.next.inj (ht.symm.trans h) ▸ hkeep hs

/-- Settles O4: the queue does not matter to the blocks, and by the shape of a command either nothing happens, or no reset is
held, or the blocks are reset anew, or only the TAP and the levels change. -/
theorem stepKeepsHeldReset : Obligations.StepKeepsHeldReset := by
  unfold Obligations.StepKeepsHeldReset
  intro s s' hs h
  cases hq : s.pending with
  | nil =>
    rw [step_of_empty hq] at h
    exact Host.Outcome.next.inj h ▸ hs
  | cons c rest =>
    rw [step_of_front hq] at h
    exact exec_keeps_heldReset (s := { s with pending := rest }) (fun hheld => (hs hheld).of_outside rfl) h

/-- Settles O5: a command that does not reach a held reset runs as `State.run` does. -/
theorem heldResetStopsCommands : Obligations.HeldResetStopsCommands := by
  unfold Obligations.HeldResetStopsCommands
  intro c s hheld hc
  cases c with
  | railOutOfRange | railBackInRange | refclkEthLost | refclkEthReturn | lanternNChange | gpioEdge | extest | samplePreload
  | idcode | highz | clamp | secreg | bypass | testLogicReset | porstNRelease | vaonLow | refclkMemLost | porstNLow
  | sysrstNHigh | refclkMemReturn => nomatch hc
  | _ =>
    unfold exec
    exact s.run_held _ _ _ hheld

/-! ### The queue and the level of PORST_N -/

theorem State.run_keeps_outside {s s' : State} {dt r : Nat} {f : State → State} (h : s.run dt r f = .next s') :
    s'.pending = s.pending ∧ s'.nvm.held = s.nvm.held := by
  rcases s.act_cases dt r _ h with ⟨_, rfl⟩ | ⟨_, _, _, rfl⟩
  · exact ⟨rfl, rfl⟩
  · exact ⟨rfl, rfl⟩

theorem State.runPin_keeps_outside {s s' : State} {dt r : Nat} {f : State → State} (h : s.runPin dt r f = .next s') :
    s'.pending = s.pending ∧ s'.nvm.held = s.nvm.held := by
  cases hheld : s.nvm.held with
  | true =>
    rw [State.runPin_held hheld] at h
    obtain rfl := Host.Outcome.next.inj h
    exact ⟨rfl, hheld⟩
  | false =>
    rw [State.runPin_not_held hheld] at h
    exact hheld ▸ State.run_keeps_outside h

/-- Settles O6: whatever the shape of a command, it ends with the queue and the level as they were, but for PORST_N. -/
theorem onlyPorstHolds : Obligations.OnlyPorstHolds := by
  unfold Obligations.OnlyPorstHolds
  intro c s s' h
  rcases exec_shape c with ⟨dt, f, r, he⟩ | ⟨dt, r, f, he⟩ | ⟨dt, f, hf, he⟩ | hraw
  · exact (State.run_keeps_outside (he s ▸ h)).imp_right fun hheld _ => hheld
  · exact (State.runPin_keeps_outside (he s ▸ h)).imp_right fun hheld _ => hheld
  · rw [he s] at h
    rw [State.tap_cases h]
    exact ⟨rfl, fun _ => rfl⟩
  · obtain ⟨t, ht, hpend, hheld, _⟩ := exec_raw hraw s
    exact Host.Outcome.next.inj (ht.symm.trans h) ▸ ⟨hpend, hheld⟩

/-! ### Stops (R16, R540) -/

theorem State.railsOk_of_all {s : State} (h : s.get F.GLB_RAIL_STAT_OK = 127) (r : Nat) : s.railsOk r = true := by
  have hmask : r % 128 < 2 ^ 7 := Nat.mod_lt _ (by decide)
  rw [State.railsOk, h, Nat.and_comm]
  exact decide_eq_true (Nat.and_two_pow_sub_one_of_lt_two_pow hmask)

theorem State.tempOk_of_inRange {s : State} (h : s.outOfTemp = false) (r : Nat) : s.tempOk r = true := by
  rw [State.tempOk, h]
  exact Bool.or_true _

/-- The answer is no refusal, and a fault only where R540 or R16 leaves the behaviour undefined. -/
def State.StopsOutOfRange (s : State) (o : Answer) : Prop :=
  (∀ r, o ≠ .refused r) ∧ (o = .fault .undefinedRail → s.get F.GLB_RAIL_STAT_OK ≠ 127) ∧
    (o = .fault .undefinedTemperature → s.outOfTemp = true)

theorem State.stopsOutOfRange_next (s t : State) : s.StopsOutOfRange (.next t) := ⟨nofun, nofun, nofun⟩

theorem State.stopsOutOfRange_rail {s : State} {r : Nat} (h : (!s.railsOk r) = true) : s.StopsOutOfRange (.fault .undefinedRail) :=
  ⟨nofun, fun _ hall => by simp [State.railsOk_of_all hall] at h, nofun⟩

theorem State.stopsOutOfRange_temp {s : State} {r : Nat} (h : (!s.tempOk r) = true) :
    s.StopsOutOfRange (.fault .undefinedTemperature) := by
  refine ⟨nofun, nofun, fun _ => ?_⟩
  cases hout : s.outOfTemp with
  | true => rfl
  | false => simp [State.tempOk_of_inRange hout] at h

theorem State.run_stopsOutOfRange (s : State) (dt r : Nat) (f : State → State) : s.StopsOutOfRange (s.run dt r f) := by
  unfold State.run State.act
  split
  · exact s.stopsOutOfRange_next _
  · split
    next hrail => exact State.stopsOutOfRange_rail hrail
    next =>
      split
      next htemp => exact State.stopsOutOfRange_temp htemp
      next => exact s.stopsOutOfRange_next _

theorem State.runPin_stopsOutOfRange (s : State) (dt r : Nat) (f : State → State) : s.StopsOutOfRange (s.runPin dt r f) := by
  unfold State.runPin
  split
  · exact s.stopsOutOfRange_next _
  · exact s.run_stopsOutOfRange dt r f

theorem State.tap_stopsOutOfRange (s : State) (dt : Nat) (f : State → State) : s.StopsOutOfRange (s.tap dt f) := by
  unfold State.tap
  split
  next hrail => exact State.stopsOutOfRange_rail hrail
  next =>
    split
    next htemp => exact State.stopsOutOfRange_temp htemp
    next => exact s.stopsOutOfRange_next _

theorem exec_stopsOutOfRange (c : Instr) (s : State) : s.StopsOutOfRange (exec c s) := by
  rcases exec_shape c with ⟨dt, f, r, he⟩ | ⟨dt, r, f, he⟩ | ⟨dt, f, _, he⟩ | hraw
  · exact he s ▸ s.run_stopsOutOfRange dt (r s) f
  · exact he s ▸ s.runPin_stopsOutOfRange dt r f
  · exact he s ▸ s.tap_stopsOutOfRange dt f
  · obtain ⟨t, ht, _⟩ := exec_raw hraw s
    exact ht ▸ s.stopsOutOfRange_next t

/-- Settles O8. -/
theorem stopsOnlyOutOfRange : Obligations.StopsOnlyOutOfRange := by
  unfold Obligations.StopsOnlyOutOfRange
  exact exec_stopsOutOfRange

/-- Settles O7: a command that answered no next state would stop where nothing is out of range. -/
theorem everyCommandCompletes : Obligations.EveryCommandCompletes := by
  unfold Obligations.EveryCommandCompletes
  intro c s hrails htemp
  obtain ⟨hrefused, hrail, hjunction⟩ := exec_stopsOutOfRange c s
  cases h : exec c s with
  | next t => exact ⟨t, rfl⟩
  | refused r => exact absurd h (hrefused r)
  | fault f =>
    cases f with
    | undefinedRail => exact absurd hrails (hrail h)
    | undefinedTemperature => exact absurd (htemp.symm.trans (hjunction h)) (by decide)

theorem State.run_rail_out {s : State} {r : Nat} (hheld : s.nvm.held = false) (hr : s.railsOk r = false) (dt : Nat)
    (f : State → State) : s.run dt r f = .fault .undefinedRail := by
  simp [State.run, State.act, hheld, hr]

theorem State.railsOk_core_eq (s : State) : s.railsOk railCore = (s.get F.GLB_RAIL_STAT_OK).testBit 0 := by
  rw [State.railsOk, railCore, Nat.one_mod_eq_one.2 (by decide), Nat.and_one_is_mod, Nat.testBit_zero]

/-- Settles O9. -/
theorem coreRailStopsBlocks : Obligations.CoreRailStopsBlocks := by
  unfold Obligations.CoreRailStopsBlocks
  intro s dt q hheld hcore
  have hstop := State.run_rail_out hheld (s.railsOk_core_eq.trans hcore) dt
  rw [exec_nop, exec_leaseExpiry, exec_forecastRefresh]
  exact ⟨hstop _, hstop _, hstop _⟩

/-! ### The levels of the reset pins (R462, R541, R543) -/

/-- What no reset touches is in `t` as in `s`: the fuses, the NVM devices and the pins. -/
def State.KeepsDevices (s t : State) : Prop :=
  t.fuse = s.fuse ∧ t.nvm.cs0 = s.nvm.cs0 ∧ t.nvm.cs1 = s.nvm.cs1 ∧ t.pin = s.pin

theorem State.coldReset_keepsDevices (s : State) : s.KeepsDevices s.coldReset := by
  obtain ⟨g, k, h⟩ := s.coldReset_eq
  rw [h]
  exact ⟨rfl, rfl, rfl, rfl⟩

theorem State.KeepsDevices.hold {s t : State} (h : s.KeepsDevices t) (b : Bool) :
    s.KeepsDevices { t with nvm := { t.nvm with held := b } } := h

theorem State.KeepsDevices.loseMemClk {s t : State} (h : s.KeepsDevices t) (b : Bool) :
    s.KeepsDevices { t with nvm := { t.nvm with memClkLost := b } } := h

theorem State.KeepsDevices.keepOutside {s t : State} (h : s.KeepsDevices t) (r : State) : s.KeepsDevices (t.keepOutside r) := h

theorem State.porstLow_keepsDevices (s : State) : s.KeepsDevices s.porstLow := by
  unfold State.porstLow
  exact s.coldReset_keepsDevices.hold true

theorem State.memClkLoss_keepsDevices (s : State) : s.KeepsDevices s.memClkLoss := by
  unfold State.memClkLoss
  exact s.coldReset_keepsDevices.loseMemClk true

theorem State.porstLow_held (s : State) : s.porstLow.nvm.held = true := by
  unfold State.porstLow
  rfl

theorem State.memClkLoss_memClkLost (s : State) : s.memClkLoss.nvm.memClkLost = true := by
  unfold State.memClkLoss
  rfl

theorem State.porstRelease_of_held {s : State} (h : s.nvm.held = true) :
    s.porstRelease.AtReset ∧ s.KeepsDevices s.porstRelease := by
  unfold State.porstRelease
  rw [if_neg (by simp [h])]
  exact ⟨s.coldReset_atReset.hold false, s.coldReset_keepsDevices.hold false⟩

theorem State.porstRelease_of_not_held {s : State} (h : s.nvm.held = false) : s.porstRelease = s :=
  if_pos (by simp [h])

/-- Settles O60: each of the levels that reset goes through the cold reset. -/
theorem resetLevelsAct : Obligations.ResetLevelsAct := by
  unfold Obligations.ResetLevelsAct
  intro s dt kept
  have hkept (t : State) (hreset : t.AtReset) (hkeeps : s.KeepsDevices t) : kept t := ⟨hreset, hkeeps⟩
  refine ⟨?_, ?_, ?_, ?_, ?_, ?_⟩
  · exact ⟨exec_porstNLow s dt, hkept _ (State.porstLow_atReset _) (State.porstLow_keepsDevices _), State.porstLow_held _⟩
  · exact ⟨exec_vaonLow s dt, hkept _ ((State.coldReset_atReset _).keepOutside s)
      ((s.advance dt).coldReset_keepsDevices.keepOutside s), State.keepOutside_held _ _⟩
  · have hlost := (s.advance dt).memClkLoss_memClkLost
    exact ⟨exec_refclkMemLost s dt, hkept _ ((State.memClkLoss_atReset _).keepOutside s)
      ((s.advance dt).memClkLoss_keepsDevices.keepOutside s), State.keepOutside_held _ _, hlost⟩
  · refine ⟨exec_porstNRelease s dt, fun hheld => ?_, fun hfree => ?_⟩
    · obtain ⟨hreset, hkeeps⟩ := State.porstRelease_of_held (s := s.advance dt) hheld
      exact ⟨hkept _ hreset hkeeps, State.porstRelease_held _⟩
    · exact State.porstRelease_of_not_held (s := s.advance dt) hfree
  · rw [exec_sysrstNHigh, State.sysrstRise, (s.timed_outside dt).2]
  · rw [exec_refclkMemReturn, State.memClkBack, (s.timed_outside dt).2]

end Sys2Proof.Machine
end

section
/-! PROOF. Every command of a block that can act answers the state that its effect leads to: one line for each command, by the
equation of its meaning. -/

namespace Sys2Proof.Machine
open Sys2Proof

/-- The answer of a command that runs. -/
theorem State.settlesTo_of_run {s u : State} {c : Instr} {dt r : Nat} {f : State → State} (hc : exec c s = s.run dt r f)
    (hu : f (s.advance dt) = u) (h : s.ready r) : SettlesTo s (exec c s) u :=
  hu ▸ hc ▸ s.settlesTo_run dt r f h

/-- The answer of a change of a pin, a rail or a clock. -/
theorem State.settlesTo_of_runPin {s u : State} {c : Instr} {dt r : Nat} {f : State → State} (hc : exec c s = s.runPin dt r f)
    (hu : f (s.advance dt) = u) (h : s.ready r) : SettlesTo s (exec c s) u :=
  hu ▸ hc ▸ s.settlesTo_runPin dt r f h

/-- The answer of a scan of the TAP. -/
theorem State.next_of_tap {s u : State} {c : Instr} {dt : Nat} {f : State → State} (hc : exec c s = s.tap dt f)
    (hu : (f (s.timed dt)).keepOutside s = u) (h : s.tapReady) : exec c s = .next u :=
  hu ▸ hc ▸ s.tap_ready dt f h.1 h.2

/-- Settles O47. -/
theorem portAndIngestCommandsComplete : Obligations.PortAndIngestCommandsComplete := by
  unfold Obligations.PortAndIngestCommandsComplete
  intro s dt
  exact ⟨fun l frame fcsOk both => State.settlesTo_of_run (exec_rxFrame s dt l frame fcsOk both) rfl,
    fun l quanta => State.settlesTo_of_run (exec_pause s dt l quanta) rfl,
    fun l => State.settlesTo_of_run (exec_pauseExpiry s dt l) rfl,
    fun l src senderIp targetIp => State.settlesTo_of_run (exec_arpRequest s dt l src senderIp targetIp) rfl,
    fun l src senderIp targetIp conflict => State.settlesTo_of_run (exec_neighbourSolicitation s dt l src senderIp targetIp conflict) rfl,
    fun l src ipv6 senderIp targetIp body => State.settlesTo_of_run (exec_echoRequest s dt l src ipv6 senderIp targetIp body) rfl,
    fun l ipv6 group sources version => State.settlesTo_of_run (exec_membershipQuery s dt l ipv6 group sources version) rfl,
    State.settlesTo_of_run (exec_unsolicitedReport s dt) rfl,
    fun l up => State.settlesTo_of_run (exec_linkChange s dt l up) rfl,
    fun p lane => State.settlesTo_of_run (exec_fecUncorrectable s dt p lane) rfl,
    fun l => State.settlesTo_of_run (exec_portEnable s dt l) rfl,
    fun l => State.settlesTo_of_run (exec_portDisable s dt l) rfl,
    fun l => State.settlesTo_of_run (exec_portIdle s dt l) rfl,
    fun n stray ptr before after => State.settlesTo_of_run (exec_ingestItem s dt n stray ptr before after) rfl,
    fun n => State.settlesTo_of_run (exec_bankDrainStart s dt n) rfl,
    fun n => State.settlesTo_of_run (exec_drainResume s dt n) rfl,
    fun n => State.settlesTo_of_run (exec_bankDrained s dt n) rfl⟩

/-- Settles O48. -/
theorem decodingCommandsComplete : Obligations.DecodingCommandsComplete := by
  unfold Obligations.DecodingCommandsComplete
  intro s dt
  exact ⟨fun n pic => State.settlesTo_of_run (exec_pictureDispatch s dt n pic) rfl,
    fun n e epoch => State.settlesTo_of_run (exec_picturePartDone s dt n e epoch) rfl,
    fun n e => State.settlesTo_of_run (exec_engineFailure s dt n e) rfl,
    fun n e => State.settlesTo_of_run (exec_engineCompletionTimeout s dt n e) rfl,
    fun e => State.settlesTo_of_run (exec_decEngineReturn s dt e) rfl,
    fun store ok => State.settlesTo_of_run (exec_storeCheckDone s dt store ok) rfl,
    State.settlesTo_of_run (exec_forecastRefresh s dt) rfl,
    State.settlesTo_of_run (exec_decRateWindow s dt) rfl,
    fun n slot => State.settlesTo_of_run (exec_rewindTrigger s dt n slot) rfl,
    fun r => State.settlesTo_of_run (exec_replayPictureDone s dt r) rfl⟩

/-- Settles O49. -/
theorem encodingCommandsComplete : Obligations.EncodingCommandsComplete := by
  unfold Obligations.EncodingCommandsComplete
  intro s dt
  exact ⟨fun n => State.settlesTo_of_run (exec_encSourcePicture s dt n) rfl,
    fun n => State.settlesTo_of_run (exec_encSourceCopyDone s dt n) rfl,
    fun n leading => State.settlesTo_of_run (exec_encPictureDispatch s dt n leading) rfl,
    fun n e epoch tile code => State.settlesTo_of_run (exec_encTileDone s dt n e epoch tile code) rfl,
    fun n e => State.settlesTo_of_run (exec_encEngineFailure s dt n e) rfl,
    fun n e => State.settlesTo_of_run (exec_encEngineTimeout s dt n e) rfl,
    fun n => State.settlesTo_of_run (exec_encRtpPacket s dt n) rfl,
    fun n => State.settlesTo_of_run (exec_forceIdr s dt n) rfl,
    fun n val => State.settlesTo_of_run (exec_encBsbRdWrite s dt n val) rfl,
    fun e => State.settlesTo_of_run (exec_encEngineReturn s dt e) rfl⟩

/-- Settles O50. -/
theorem compositionCommandsComplete : Obligations.CompositionCommandsComplete := by
  unfold Obligations.CompositionCommandsComplete
  intro s dt
  exact ⟨fun c => State.settlesTo_of_run (exec_canvasLatch s dt c) rfl,
    fun c => State.settlesTo_of_run (exec_canvasFrameStart s dt c) rfl,
    fun c badBrick => State.settlesTo_of_run (exec_tilePieceComposed s dt c badBrick) rfl,
    fun g => State.settlesTo_of_run (exec_dirty s dt g) rfl,
    fun low => State.settlesTo_of_runPin (exec_lanternNChange s dt low) rfl,
    State.settlesTo_of_run (exec_lanternAlarmFilter s dt) rfl,
    State.settlesTo_of_run (exec_lanternHashCheckDone s dt) rfl,
    fun badUnits => State.settlesTo_of_run (exec_pieceCalibrated s dt badUnits) rfl,
    fun readOk => State.settlesTo_of_run (exec_curveReadsDone s dt readOk) rfl⟩

/-- Settles O51. -/
theorem timeCommandsComplete : Obligations.TimeCommandsComplete := by
  unfold Obligations.TimeCommandsComplete
  intro s dt
  exact ⟨fun g => State.settlesTo_of_run (exec_frameBoundary s dt g) rfl,
    fun l hdr origin => State.settlesTo_of_run (exec_sync s dt l hdr origin) rfl,
    fun l hdr origin => State.settlesTo_of_run (exec_followUp s dt l hdr origin) rfl,
    fun l hdr => State.settlesTo_of_run (exec_delayReq s dt l hdr) rfl,
    fun l hdr receive reqId reqPort => State.settlesTo_of_run (exec_delayResp s dt l hdr receive reqId reqPort) rfl,
    fun l hdr body => State.settlesTo_of_run (exec_announce s dt l hdr body) rfl,
    fun l => State.settlesTo_of_run (exec_announceReceiptTimeout s dt l) rfl,
    fun l => State.settlesTo_of_run (exec_syncInterval s dt l) rfl,
    fun l => State.settlesTo_of_run (exec_announceInterval s dt l) rfl,
    fun l => State.settlesTo_of_run (exec_delayReqInterval s dt l) rfl,
    State.settlesTo_of_run (exec_ppsEdge s dt) rfl,
    State.settlesTo_of_run (exec_ppsTimeout s dt) rfl,
    fun freq => State.settlesTo_of_run (exec_timeRefChange s dt freq) rfl,
    State.settlesTo_of_run (exec_holdoverExpiry s dt) rfl,
    State.settlesTo_of_run (exec_timSnap s dt) rfl,
    State.settlesTo_of_run (exec_timSet s dt) rfl,
    fun i val => State.settlesTo_of_run (exec_tpoCtlWrite s dt i val) rfl,
    fun i => State.settlesTo_of_run (exec_tpoEnableTakesEffect s dt i) rfl,
    fun i => State.settlesTo_of_run (exec_tpoEdge s dt i) rfl,
    fun i => State.settlesTo_of_run (exec_tpoPulseEnd s dt i) rfl,
    fun i rising => State.settlesTo_of_run (exec_tciEdge s dt i rising) rfl,
    fun i => State.settlesTo_of_run (exec_pop s dt i) rfl,
    fun g => State.settlesTo_of_run (exec_segmentIdle s dt g) rfl⟩

/-- Settles O52. -/
theorem outputAndMemoryCommandsComplete : Obligations.OutputAndMemoryCommandsComplete := by
  unfold Obligations.OutputAndMemoryCommandsComplete
  intro s dt
  exact ⟨fun t => State.settlesTo_of_run (exec_bufferWaitResume s dt t) rfl,
    fun t => State.settlesTo_of_run (exec_acceptWindowOpen s dt t) rfl,
    fun slot => State.settlesTo_of_run (exec_calendarWheelRelease s dt slot) rfl,
    State.settlesTo_of_run (exec_overflowListMove s dt) rfl,
    fun l badBuffer => State.settlesTo_of_run (exec_framePassesToPort s dt l badBuffer) rfl,
    fun g => State.settlesTo_of_run (exec_segmentDeadline s dt g) rfl,
    fun t => State.settlesTo_of_run (exec_tileConfigRepeat s dt t) rfl,
    fun t => State.settlesTo_of_run (exec_tileConfigResend s dt t) rfl,
    fun l packet srcMac srcIp => State.settlesTo_of_run (exec_tileStatus s dt l packet srcMac srcIp) rfl,
    fun t => State.settlesTo_of_run (exec_receiverSilent s dt t) rfl,
    fun owner addr data => State.settlesTo_of_run (exec_dramRequest s dt owner addr data) rfl,
    fun ch ready => State.settlesTo_of_run (exec_dramIssue s dt ch ready) rfl,
    fun ch error link => State.settlesTo_of_run (exec_dramReadReturn s dt ch error link) rfl,
    fun owner fill => State.settlesTo_of_run (exec_panicChange s dt owner fill) rfl,
    fun ch => State.settlesTo_of_run (exec_refreshDue s dt ch) rfl,
    fun ch temp => State.settlesTo_of_run (exec_retrainDue s dt ch temp) rfl,
    State.settlesTo_of_run (exec_retrainStepDone s dt) rfl,
    fun ch => State.settlesTo_of_run (exec_retrainOverdue s dt ch) rfl,
    fun a requests => State.settlesTo_of_run (exec_arbGrant s dt a requests) rfl,
    fun a requests => State.settlesTo_of_run (exec_arbHoldCutoff s dt a requests) rfl,
    fun a on => State.settlesTo_of_run (exec_freeze s dt a on) rfl⟩

/-- Settles O53. -/
theorem controlCommandsComplete : Obligations.ControlCommandsComplete := by
  unfold Obligations.ControlCommandsComplete
  intro s dt
  exact ⟨fun port peer nonce eph cert => State.settlesTo_of_run (exec_hello s dt port peer nonce eph cert) rfl,
    fun slot sig => State.settlesTo_of_run (exec_finish s dt slot sig) rfl,
    fun slot => State.settlesTo_of_run (exec_setupTimeout s dt slot) rfl,
    fun slot seq auth malformed => State.settlesTo_of_run (exec_close s dt slot seq auth malformed) rfl,
    fun slot => State.settlesTo_of_run (exec_sessionCloseCmd s dt slot) rfl,
    fun slot => State.settlesTo_of_run (exec_sessionIdleTimeout s dt slot) rfl,
    fun slot seq auth addr count app => State.settlesTo_of_run (exec_read s dt slot seq auth addr count app) rfl,
    fun slot seq auth addr words app => State.settlesTo_of_run (exec_write s dt slot seq auth addr words app) rfl,
    fun off mask val => State.settlesTo_of_run (exec_registerWrite s dt off mask val) rfl,
    fun slot seq auth addr mask val => State.settlesTo_of_run (exec_maskedWrite s dt slot seq auth addr mask val) rfl,
    fun slot seq auth ring index entries => State.settlesTo_of_run (exec_ringWrite s dt slot seq auth ring index entries) rfl,
    fun slot seq auth ring tail => State.settlesTo_of_run (exec_doorbell s dt slot seq auth ring tail) rfl,
    fun slot seq auth leaseMs => State.settlesTo_of_run (exec_lock s dt slot seq auth leaseMs) rfl,
    fun slot seq auth entries => State.settlesTo_of_run (exec_stage s dt slot seq auth entries) rfl,
    fun slot seq auth lantern => State.settlesTo_of_run (exec_commit s dt slot seq auth lantern) rfl,
    fun slot seq auth => State.settlesTo_of_run (exec_unlock s dt slot seq auth) rfl,
    State.settlesTo_of_run (exec_leaseExpiry s dt) rfl,
    fun slot => State.settlesTo_of_run (exec_seqGapTimer s dt slot) rfl,
    fun slot seq auth kind record data => State.settlesTo_of_run (exec_persist s dt slot seq auth kind record data) rfl,
    fun slot seq auth nonce => State.settlesTo_of_run (exec_attest s dt slot seq auth nonce) rfl,
    fun slot seq auth device msg => State.settlesTo_of_run (exec_gangRelay s dt slot seq auth device msg) rfl,
    fun sink => State.settlesTo_of_run (exec_eventMessage s dt sink) rfl⟩

/-- Settles O54. -/
theorem ringAndDmaCommandsComplete : Obligations.RingAndDmaCommandsComplete := by
  unfold Obligations.RingAndDmaCommandsComplete
  intro s dt
  exact ⟨fun r => State.settlesTo_of_run (exec_ringEnable s dt r) rfl,
    fun r => State.settlesTo_of_run (exec_ringDisable s dt r) rfl,
    fun r val => State.settlesTo_of_run (exec_ringHeadWrite s dt r val) rfl,
    fun r readOk => State.settlesTo_of_run (exec_ringNop s dt r readOk) rfl,
    fun r readOk => State.settlesTo_of_run (exec_runInline s dt r readOk) rfl,
    fun r readOk => State.settlesTo_of_run (exec_runChain s dt r readOk) rfl,
    fun n => State.settlesTo_of_run (exec_dmaEnable s dt n) rfl,
    fun n => State.settlesTo_of_run (exec_dmaDisable s dt n) rfl,
    fun n => State.settlesTo_of_run (exec_halt s dt n) rfl,
    fun n => State.settlesTo_of_run (exec_resume s dt n) rfl,
    fun n => State.settlesTo_of_run (exec_arm s dt n) rfl,
    fun n readOk bad => State.settlesTo_of_run (exec_descriptorFetched s dt n readOk bad) rfl,
    fun n => State.settlesTo_of_run (exec_descriptorRetired s dt n) rfl,
    fun line => State.settlesTo_of_run (exec_requestLine s dt line) rfl,
    fun n => State.settlesTo_of_run (exec_dmaFrameBuilt s dt n) rfl,
    fun n => State.settlesTo_of_run (exec_dmaChannelIdle s dt n) rfl,
    fun n data => State.settlesTo_of_run (exec_appTransaction s dt n data) rfl,
    fun n => State.settlesTo_of_run (exec_appTimeout s dt n) rfl,
    fun k => State.settlesTo_of_run (exec_appDreq s dt k) rfl,
    fun k => State.settlesTo_of_run (exec_appDreqFall s dt k) rfl⟩

/-- Settles O55. -/
theorem almanacCommandsComplete : Obligations.AlmanacCommandsComplete := by
  unfold Obligations.AlmanacCommandsComplete
  intro s dt
  exact ⟨fun q => State.settlesTo_of_run (exec_almEnable s dt q) rfl,
    fun q => State.settlesTo_of_run (exec_almDisable s dt q) rfl,
    fun store word i val => State.settlesTo_of_run (exec_almStoreWrite s dt store word i val) rfl,
    fun q => State.settlesTo_of_run (exec_nop s dt q) rfl,
    fun q => State.settlesTo_of_run (exec_wri s dt q) rfl,
    fun q => State.settlesTo_of_run (exec_wrg s dt q) rfl,
    fun q => State.settlesTo_of_run (exec_rdg s dt q) rfl,
    fun q => State.settlesTo_of_run (exec_ldi s dt q) rfl,
    fun q => State.settlesTo_of_run (exec_addi s dt q) rfl,
    fun q => State.settlesTo_of_run (exec_addg s dt q) rfl,
    fun q => State.settlesTo_of_run (exec_andi s dt q) rfl,
    fun q => State.settlesTo_of_run (exec_cmp s dt q) rfl,
    fun q => State.settlesTo_of_run (exec_tnow s dt q) rfl,
    fun q => State.settlesTo_of_run (exec_tset s dt q) rfl,
    fun q => State.settlesTo_of_run (exec_tadd s dt q) rfl,
    fun q => State.settlesTo_of_run (exec_tseg s dt q) rfl,
    fun q => State.settlesTo_of_run (exec_post s dt q) rfl,
    fun q => State.settlesTo_of_run (exec_cqpop s dt q) rfl,
    fun q => State.settlesTo_of_run (exec_raise s dt q) rfl,
    fun q => State.settlesTo_of_run (exec_dreq s dt q) rfl,
    fun q => State.settlesTo_of_run (exec_almTimeWaitEnd s dt q) rfl,
    fun mask => State.settlesTo_of_run (exec_almHsSet s dt mask) rfl,
    fun mask => State.settlesTo_of_run (exec_almHsClr s dt mask) rfl,
    fun store word double => State.settlesTo_of_run (exec_storeScrub s dt store word double) rfl⟩

/-- Settles O56. -/
theorem eventAndSupplyCommandsComplete : Obligations.EventAndSupplyCommandsComplete := by
  unfold Obligations.EventAndSupplyCommandsComplete
  intro s dt
  exact ⟨State.settlesTo_of_run (exec_deliveryAttempt s dt) rfl,
    fun tgt => State.settlesTo_of_run (exec_eventRingWrite s dt tgt) rfl,
    fun tgt val => State.settlesTo_of_run (exec_eventRingHeadWrite s dt tgt val) rfl,
    fun n val => State.settlesTo_of_run (exec_eventRouteWrite s dt n val) rfl,
    fun n => State.settlesTo_of_run (exec_faultStatusClear s dt n) rfl,
    fun c => State.settlesTo_of_run (exec_returnPipe s dt c) rfl,
    fun l => State.settlesTo_of_run (exec_returnPort s dt l) rfl,
    fun m => State.settlesTo_of_run (exec_returnMover s dt m) rfl,
    fun double unit => State.settlesTo_of_run (exec_sramError s dt double unit) rfl,
    fun periods => State.settlesTo_of_run (exec_paceMeasurement s dt periods) rfl,
    State.settlesTo_of_run (exec_paceMonitorStale s dt) rfl,
    State.settlesTo_of_run (exec_avsDecision s dt) rfl,
    fun ok => State.settlesTo_of_run (exec_avsFrameDone s dt ok) rfl,
    fun volts amps ok => State.settlesTo_of_run (exec_avsReadback s dt volts amps ok) rfl,
    State.settlesTo_of_run (exec_avsCeiling s dt) rfl,
    State.settlesTo_of_run (exec_paceBelowRating s dt) rfl,
    fun temps => State.settlesTo_of_run (exec_tempUpdate s dt temps) rfl,
    State.settlesTo_of_run (exec_tempSensorStale s dt) rfl⟩

/-- Settles O57. -/
theorem startupCommandsComplete : Obligations.StartupCommandsComplete := by
  unfold Obligations.StartupCommandsComplete
  intro s dt
  exact ⟨State.settlesTo_of_run (exec_sysrstNLow s dt) rfl,
    State.settlesTo_of_run (exec_warm s dt) rfl,
    State.settlesTo_of_run (exec_warmResetDelayExpiry s dt) rfl,
    fun rail => State.settlesTo_of_runPin (exec_railOutOfRange s dt rail) rfl,
    fun rail => State.settlesTo_of_runPin (exec_railBackInRange s dt rail) rfl,
    fun p => State.settlesTo_of_runPin (exec_refclkEthLost s dt p) rfl,
    fun p => State.settlesTo_of_runPin (exec_refclkEthReturn s dt p) rfl,
    State.settlesTo_of_run (exec_fusesRead s dt) rfl,
    fun cs0 cs1 => State.settlesTo_of_run (exec_selectDone s dt cs0 cs1) rfl,
    fun readOk fuseOk => State.settlesTo_of_run (exec_verifyDone s dt readOk fuseOk) rfl,
    fun readOk => State.settlesTo_of_run (exec_loadDone s dt readOk) rfl,
    fun pass => State.settlesTo_of_run (exec_dramTrainingDone s dt pass) rfl,
    fun readOk badCurves => State.settlesTo_of_run (exec_blobsDone s dt readOk badCurves) rfl,
    State.settlesTo_of_run (exec_runEntry s dt) rfl,
    State.settlesTo_of_run (exec_recordWriteStart s dt) rfl,
    fun ok => State.settlesTo_of_run (exec_recordWriteDone s dt ok) rfl,
    State.settlesTo_of_run (exec_logWriteStart s dt) rfl,
    State.settlesTo_of_run (exec_erase s dt) rfl,
    State.settlesTo_of_run (exec_program s dt) rfl,
    State.settlesTo_of_run (exec_nvmRead s dt) rfl,
    State.settlesTo_of_run (exec_nvmCommit s dt) rfl,
    fun ok => State.settlesTo_of_run (exec_nvmOpDone s dt ok) rfl,
    State.settlesTo_of_run (exec_recordRead s dt) rfl,
    fun ok => State.settlesTo_of_run (exec_recordReadDone s dt ok) rfl⟩

/-- Settles O58. -/
theorem securityAndGangCommandsComplete : Obligations.SecurityAndGangCommandsComplete := by
  unfold Obligations.SecurityAndGangCommandsComplete
  intro s dt
  exact ⟨State.settlesTo_of_run (exec_attestReportReady s dt) rfl,
    State.settlesTo_of_run (exec_keyLoad s dt) rfl,
    State.settlesTo_of_run (exec_advance s dt) rfl,
    fun ok => State.settlesTo_of_run (exec_fuseStepDone s dt ok) rfl,
    State.settlesTo_of_run (exec_openDebug s dt) rfl,
    State.settlesTo_of_run (exec_debugAccessOpened s dt) rfl,
    fun peer linkId nonce eph idPub sig => State.settlesTo_of_run (exec_gangAccept s dt peer linkId nonce eph idPub sig) rfl,
    fun peer => State.settlesTo_of_run (exec_gangAcceptSend s dt peer) rfl,
    fun peer seq reqId auth hostId slot msg => State.settlesTo_of_run (exec_relayReq s dt peer seq reqId auth hostId slot msg) rfl,
    fun peer seq reqId auth status done data => State.settlesTo_of_run (exec_relayReply s dt peer seq reqId auth status done data) rfl,
    fun peer => State.settlesTo_of_run (exec_relayRetry s dt peer) rfl,
    fun peer seq auth slot => State.settlesTo_of_run (exec_sessionEnd s dt peer seq auth slot) rfl,
    fun peer seq auth body => State.settlesTo_of_run (exec_keepalive s dt peer seq auth body) rfl,
    fun peer => State.settlesTo_of_run (exec_keepaliveSend s dt peer) rfl,
    fun peer => State.settlesTo_of_run (exec_peerLost s dt peer) rfl⟩

/-- Settles O59. -/
theorem pinCommandsComplete : Obligations.PinCommandsComplete := by
  unfold Obligations.PinCommandsComplete
  intro s dt
  exact ⟨fun shiftIn => State.next_of_tap (exec_extest s dt shiftIn) rfl,
    fun pins shiftIn => State.next_of_tap (exec_samplePreload s dt pins shiftIn) rfl,
    State.next_of_tap (exec_idcode s dt) rfl,
    State.next_of_tap (exec_highz s dt) rfl,
    State.next_of_tap (exec_clamp s dt) rfl,
    fun shiftIn => State.next_of_tap (exec_secreg s dt shiftIn) rfl,
    fun bit => State.next_of_tap (exec_bypass s dt bit) rfl,
    fun g high => State.settlesTo_of_runPin (exec_gpioEdge s dt g high) rfl,
    State.next_of_tap (exec_testLogicReset s dt) rfl⟩

end Sys2Proof.Machine
end

section
/-! PROOF. Time values (R7) and ring positions (R352). -/

namespace Sys2Proof.Machine
open Sys2Proof

/-- Settles O11: a time is cut at the second and at the nanosecond, and put together again. -/
theorem timeValueFields : Obligations.TimeValueFields := by
  unfold Obligations.TimeValueFields timeS timeNs timeSub mkTime Config.sec Config.ns
  intro t
  refine ⟨by omega, by omega, by omega, fun ht => by omega, fun sec ns sub hsec hns hsub => ?_⟩
  refine ⟨by omega, by omega, by omega, by omega⟩

/-! ### Ring positions -/

theorem posAdvance_of_lt {n k : Nat} {p : Pos} (h : p.1 + k < n) : posAdvance n p k = (p.1 + k, p.2) :=
  if_neg (Nat.not_le_of_lt h)

theorem posAdvance_of_le {n k : Nat} {p : Pos} (h : n ≤ p.1 + k) : posAdvance n p k = (p.1 + k - n, 1 - p.2) := if_pos h

theorem posUsed_same_phase {n : Nat} {h t : Pos} (e : t.2 = h.2) : posUsed n h t = (t.1 : Int) - h.1 := by
  rw [posUsed, if_pos e, Int.add_zero]

theorem posUsed_other_phase {n : Nat} {h t : Pos} (e : t.2 ≠ h.2) : posUsed n h t = (t.1 : Int) - h.1 + n := by
  rw [posUsed, if_neg e]

/-- Advancing stays within the ring, and what it adds is used: without a wrap in the same phase, with one in the other. -/
theorem posAdvance_spec {n k : Nat} {p : Pos} (hp : p.1 < n) (hphase : p.2 ≤ 1) (hk : k ≤ n) :
    (posAdvance n p k).1 < n ∧ (posAdvance n p k).2 ≤ 1 ∧ posUsed n p (posAdvance n p k) = k := by
  rcases Nat.lt_or_ge (p.1 + k) n with h | h
  · rw [posAdvance_of_lt h, posUsed_same_phase (h := p) (t := (p.1 + k, p.2)) rfl]
    exact ⟨h, hphase, by dsimp only; omega⟩
  · rw [posAdvance_of_le h, posUsed_other_phase (by dsimp only; omega)]
    exact ⟨by dsimp only; omega, by dsimp only; omega, by dsimp only; omega⟩

/-- A position that lies at most a whole ring behind another is reached from it by what is used. -/
theorem posAdvance_posUsed {n : Nat} {p q : Pos} (hp : p.1 < n) (hphase : p.2 ≤ 1) (hq : q.1 < n) (hqphase : q.2 ≤ 1)
    (h0 : 0 ≤ posUsed n p q) (_hn : posUsed n p q ≤ n) : q = posAdvance n p (posUsed n p q).toNat := by
  by_cases e : q.2 = p.2
  · rw [posUsed_same_phase e] at h0 ⊢
    have hadd : p.1 + ((q.1 : Int) - p.1).toNat = q.1 := by omega
    rw [posAdvance_of_lt (by omega), hadd, ← e]
  · rw [posUsed_other_phase e] at _hn ⊢
    have hadd : p.1 + ((q.1 : Int) - p.1 + n).toNat - n = q.1 := by omega
    have hflip : 1 - p.2 = q.2 := by omega
    rw [posAdvance_of_le (by omega), hadd, hflip]

/-- Settles O24. -/
theorem ringPositionArithmetic : Obligations.RingPositionArithmetic := by
  unfold Obligations.RingPositionArithmetic
  intro n p k hn hp hphase hk
  obtain ⟨hlt, hle, hused⟩ := posAdvance_spec hp hphase hk
  have hself : posUsed n p p = 0 := by rw [posUsed_same_phase rfl, Int.sub_self]
  have hround : posAdvance n p n = (p.1, 1 - p.2) := by
    rw [posAdvance_of_le (Nat.le_add_left n p.1), Nat.add_sub_cancel]
  exact ⟨hlt, hle, hused, hself, hround, fun q => posAdvance_posUsed hp hphase⟩

end Sys2Proof.Machine
end

section
/-! PROOF. Choices that keep the best so far: the arbiter's winner (R311), the least finish of weighted fair queueing (R280), and
the substitute of a lost reference (R104). -/

namespace Sys2Proof.Machine
open Sys2Proof

/-! ### The first best of a range -/

/-- The first number below `n` that `want` names and that none of those is `better` than. -/
def firstBest (better : Nat → Nat → Bool) (want : Nat → Bool) (n : Nat) : Option Nat :=
  (List.range n).foldl (fun b i =>
    if want i then match b with | some w => if better i w then some i else b | none => some i else b) none

theorem firstBest_zero (better : Nat → Nat → Bool) (want : Nat → Bool) : firstBest better want 0 = none := rfl

theorem firstBest_succ (better : Nat → Nat → Bool) (want : Nat → Bool) (n : Nat) :
    firstBest better want (n + 1) =
      if want n then match firstBest better want n with | some w => if better n w then some n else some w | none => some n
      else firstBest better want n := by
  unfold firstBest
  rw [List.range_succ, List.foldl_append]
  cases (List.range n).foldl _ none <;> rfl

theorem firstBest_eq_none_iff (better : Nat → Nat → Bool) (want : Nat → Bool) (n : Nat) :
    firstBest better want n = none ↔ ∀ i, i < n → want i = false := by
  induction n with
  | zero => simp [firstBest_zero]
  | succ n ih =>
    rw [firstBest_succ, Nat.forall_lt_succ_right, ← ih]
    cases want n with
    | false => simp
    | true => cases h : firstBest better want n <;> simp; split <;> simp

/-- A strict order of numbers below `n` in which being no better is transitive too. -/
structure StrictBelow (better : Nat → Nat → Bool) (n : Nat) : Prop where
  asymm : ∀ i j, i < n → j < n → better i j = true → better j i = false
  trans : ∀ i j k, i < n → j < n → k < n → better i j = true → better k j = false → better i k = true

theorem StrictBelow.mono {better : Nat → Nat → Bool} {m n : Nat} (h : StrictBelow better n) (hm : m ≤ n) : StrictBelow better m where
  asymm i j hi hj := h.asymm i j (by omega) (by omega)
  trans i j k hi hj hk := h.trans i j k (by omega) (by omega) (by omega)

/-- What is chosen is named, no one named is better, and it is better than every one named before it. -/
theorem firstBest_spec {better : Nat → Nat → Bool} {want : Nat → Bool} {n w : Nat} (ho : StrictBelow better n)
    (h : firstBest better want n = some w) : w < n ∧ want w = true ∧
      (∀ j, j < n → want j = true → better j w = false) ∧ (∀ j, j < w → want j = true → better w j = true) := by
  induction n generalizing w with
  | zero => exact nomatch h
  | succ n ih =>
    have ho' := ho.mono (Nat.le_succ n)
    rw [firstBest_succ] at h
    cases hwant : want n with
    | false =>
      rw [hwant, if_neg Bool.false_ne_true] at h
      obtain ⟨hlt, hw, hbest, hfirst⟩ := ih ho' h
      refine ⟨by omega, hw, fun j hj hwj => hbest j (Nat.lt_of_le_of_ne (by omega) fun e => ?_) hwj, hfirst⟩
      exact absurd (hwant.symm.trans (e ▸ hwj)) (by decide)
    | true =>
      rw [hwant, if_pos rfl] at h
      cases hb : firstBest better want n with
      | none =>
        rw [hb] at h
        obtain rfl := Option.some.inj h
        have hnone := (firstBest_eq_none_iff better want n).1 hb
        have hirrefl : better n n = false := Bool.eq_false_iff.2 fun e =>
          absurd (e.symm.trans (ho.asymm n n (by omega) (by omega) e)) (by decide)
        refine ⟨by omega, hwant, fun j hj hwj => ?_, fun j hj hwj => absurd ((hnone j hj).symm.trans hwj) (by decide)⟩
        rcases Nat.lt_succ_iff_lt_or_eq.1 hj with hjn | rfl
        · exact absurd ((hnone j hjn).symm.trans hwj) (by decide)
        · exact hirrefl
      | some v =>
        rw [hb] at h
        dsimp only at h
        obtain ⟨hlt, hv, hbest, hfirst⟩ := ih ho' hb
        cases hnv : better n v with
        | true =>
          rw [hnv, if_pos rfl] at h
          obtain rfl := Option.some.inj h
          have hall : ∀ j, j < n → want j = true → better n j = true := fun j hj hwj =>
            ho.trans n v j (by omega) (by omega) (by omega) hnv (hbest j hj hwj)
          refine ⟨by omega, hwant, fun j hj hwj => ?_, hall⟩
          rcases Nat.lt_succ_iff_lt_or_eq.1 hj with hjn | rfl
          · exact ho.asymm n j (by omega) (by omega) (hall j hjn hwj)
          · exact Bool.eq_false_iff.2 fun e => absurd (e.symm.trans (ho.asymm j j (by omega) (by omega) e)) (by decide)
        | false =>
          rw [hnv, if_neg Bool.false_ne_true] at h
          obtain rfl := Option.some.inj h
          refine ⟨by omega, hv, fun j hj hwj => ?_, hfirst⟩
          rcases Nat.lt_succ_iff_lt_or_eq.1 hj with hjn | rfl
          · exact hbest j hjn hwj
          · exact hnv

/-! ### The arbiter's winner (R311) -/

/-- The owner at place `k` of the order after the owner last granted. -/
def arbPlace (n last k : Nat) : Nat := (last + 1 + k) % n

theorem exists_arbPlace {n o : Nat} (last : Nat) (h : o < n) : ∃ k, k < n ∧ arbPlace n last k = o := by
  refine ⟨(o + (n - (last + 1) % n)) % n, Nat.mod_lt _ (by omega), ?_⟩
  have hr : (last + 1) % n < n := Nat.mod_lt _ (by omega)
  have hsum : (last + 1) % n + (o + (n - (last + 1) % n)) = o + n := by omega
  rw [arbPlace, Nat.add_mod, Nat.mod_mod, ← Nat.add_mod, ← Nat.mod_add_mod, hsum, Nat.add_mod_right, Nat.mod_eq_of_lt h]

/-- The winner is the first best in the order after the last owner. -/
theorem arbWinner_eq_firstBest (n last : Nat) (prio : Nat → Nat) (want : Nat → Bool) :
    arbWinner n last prio want =
      (firstBest (fun j k => decide (prio (arbPlace n last k) < prio (arbPlace n last j))) (fun k => want (arbPlace n last k)) n).map
        (arbPlace n last) := by
  unfold arbWinner firstBest
  rw [List.foldl_filter, List.foldl_map]
  refine List.foldl_hom (init := none) (Option.map (arbPlace n last)) fun b k => ?_
  simp only [arbPlace]
  by_cases hwant : want ((last + 1 + k) % n) = true
  · cases b with
    | none => simp [hwant, arbPlace]
    | some v => by_cases hp : prio ((last + 1 + v) % n) < prio ((last + 1 + k) % n) <;> simp [hwant, hp, arbPlace]
  · cases b <;> simp [hwant]

theorem strictBelow_of_key (f : Nat → Nat) (n : Nat) : StrictBelow (fun j k => decide (f k < f j)) n where
  asymm i j _ _ h := by simp only [decide_eq_true_eq, decide_eq_false_iff_not] at h ⊢; omega
  trans i j k _ _ _ h h' := by simp only [decide_eq_true_eq, decide_eq_false_iff_not] at h h' ⊢; omega

/-- Settles O21. -/
theorem arbiterPicksHighestPriority : Obligations.ArbiterPicksHighestPriority := by
  unfold Obligations.ArbiterPicksHighestPriority
  intro n last prio want hn
  rw [arbWinner_eq_firstBest]
  constructor
  · rw [Option.isSome_map, ← Option.ne_none_iff_isSome, Ne, firstBest_eq_none_iff]
    simp only [Classical.not_forall, Bool.not_eq_false]
    constructor
    · rintro ⟨o, ho, hwant⟩
      obtain ⟨k, hk, rfl⟩ := exists_arbPlace last ho
      exact ⟨k, hk, hwant⟩
    · rintro ⟨k, _, hwant⟩
      exact ⟨_, Nat.mod_lt _ hn, hwant⟩
  · intro w hw
    obtain ⟨k, hk, rfl⟩ := Option.map_eq_some_iff.1 hw
    obtain ⟨hlt, hwant, hbest, hfirst⟩ := firstBest_spec (strictBelow_of_key (fun k => prio (arbPlace n last k)) n) hk
    refine ⟨k, hlt, rfl, hwant, fun j hj hwj => ?_, fun j hj hwj => of_decide_eq_true (hfirst j hj hwj)⟩
    exact Nat.le_of_not_lt (of_decide_eq_false (hbest j hj hwj))

/-! ### Weighted fair queueing (R280) -/

/-- The finish of an entry, 0 where it has none. -/
def State.finishAt (s : State) (l i : Nat) : Q := (s.finishOf l i).getD ⟨0, 1⟩

theorem State.wfqNext_eq_firstBest (s : State) (l : Nat) :
    s.wfqNext l = (firstBest (fun i j => (s.finishAt l i).lt (s.finishAt l j)) (s.isHeaded l) 16).map (fun i => (i, s.finishAt l i)) := by
  unfold State.wfqNext firstBest
  refine List.foldl_hom (init := none) (Option.map fun i => (i, s.finishAt l i)) fun b i => ?_
  cases s.isHeaded l i with
  | false => rfl
  | true =>
    cases b with
    | none => rfl
    | some j =>
      by_cases hlt : (s.finishAt l i).lt (s.finishAt l j) = true <;> simp_all [State.finishAt]

theorem Q.lt_iff (a b : Q) : a.lt b = true ↔ a.num * b.den < b.num * a.den := by
  rw [Q.lt, decide_eq_true_eq]

/-- Cross-multiplication orders the rationals: of the denominators, only the last has to be positive. -/
theorem Q.lt_of_lt_of_not_lt {a b c : Q} (hc : 0 < c.den) (hab : a.lt b = true)
    (hcb : c.lt b = false) : a.lt c = true := by
  rw [Q.lt_iff] at hab ⊢
  have hbc : b.num * c.den ≤ c.num * b.den := by
    simpa [Q.lt] using hcb
  refine Int.lt_of_mul_lt_mul_right (a := (b.den : Int)) ?_ (Int.natCast_nonneg _)
  calc a.num * c.den * b.den = a.num * b.den * c.den := Int.mul_right_comm _ _ _
    _ < b.num * a.den * c.den := Int.mul_lt_mul_of_pos_right hab (Int.natCast_pos.2 hc)
    _ = b.num * c.den * a.den := Int.mul_right_comm _ _ _
    _ ≤ c.num * b.den * a.den := Int.mul_le_mul_of_nonneg_right hbc (Int.natCast_nonneg _)
    _ = c.num * a.den * b.den := Int.mul_right_comm _ _ _

theorem Q.lt_asymm {a b : Q} (h : a.lt b = true) : b.lt a = false := by
  rw [Q.lt_iff] at h
  exact decide_eq_false (by omega)

theorem Q.le_eq_not_lt (a b : Q) : a.le b = !b.lt a := by
  rw [Q.le, Q.lt, ← decide_not]
  exact decide_eq_decide.2 Int.not_lt.symm

/-- Settles O45. -/
theorem wfqTakesLeastFinish : Obligations.WfqTakesLeastFinish := by
  unfold Obligations.WfqTakesLeastFinish
  intro s l hden f
  have hpos (i : Nat) (hi : i < 16) : 0 < (s.finishAt l i).den := by
    unfold State.finishAt
    cases h : s.finishOf l i with
    | none => exact Nat.one_pos
    | some q => exact hden i q hi h
  have horder : StrictBelow (fun i j => (s.finishAt l i).lt (s.finishAt l j)) 16 :=
    ⟨fun i j _ _ => Q.lt_asymm, fun _ _ k _ _ hk => Q.lt_of_lt_of_not_lt (hpos k hk)⟩
  rw [s.wfqNext_eq_firstBest]
  refine ⟨by rw [Option.map_eq_none_iff, firstBest_eq_none_iff], fun i q h => ?_⟩
  obtain ⟨i', hi, he⟩ := Option.map_eq_some_iff.1 h
  obtain ⟨rfl, rfl⟩ := Prod.mk.inj he
  obtain ⟨hlt, hhead, hbest, hfirst⟩ := firstBest_spec horder hi
  refine ⟨hlt, hhead, rfl, fun j hj hwj => ?_, hfirst⟩
  rw [Q.le_eq_not_lt]
  exact congrArg not (hbest j hj hwj)

end Sys2Proof.Machine
end

section
/-! PROOF. The substitute of a lost reference (R104), the replay window (R48), and the pools (R65 to R67). -/

namespace Sys2Proof.Machine
open Sys2Proof

/-! ### The substitute (R104) -/

/-- A fold that keeps one of its own and the next element, in a transitive relation to the other, ends with one that stands in
the relation to all. -/
theorem foldl_keeps_best {α : Type} {R : α → α → Prop} (hrefl : ∀ a, R a a) (htrans : ∀ {a b c}, R a b → R b c → R a c)
    {f : Option α → α → Option α} (hf : ∀ b p, (f (some b) p = some p ∧ R p b) ∨ (f (some b) p = some b ∧ R b p)) (l : List α) :
    ∀ b, ∃ c, l.foldl f (some b) = some c ∧ (c = b ∨ c ∈ l) ∧ R c b ∧ ∀ x ∈ l, R c x := by
  induction l with
  | nil => exact fun b => ⟨b, rfl, .inl rfl, hrefl b, fun x hx => nomatch hx⟩
  | cons p l ih =>
    intro b
    rw [List.foldl_cons]
    rcases hf b p with ⟨hp, hR⟩ | ⟨hb, hR⟩
    · obtain ⟨c, hc, hmem, hcp, hall⟩ := ih p
      exact ⟨c, by rw [hp, hc], .inr (List.mem_cons.2 hmem), htrans hcp hR, List.forall_mem_cons.2 ⟨hcp, hall⟩⟩
    · obtain ⟨c, hc, hmem, hcb, hall⟩ := ih b
      exact ⟨c, by rw [hb, hc], hmem.imp_right (List.mem_cons_of_mem p), hcb, List.forall_mem_cons.2 ⟨htrans hcb hR, hall⟩⟩

/-- `b` serves the target at least as well as `q`: no farther, and in plain display order no later where both are equally near. -/
def ServesBetter (bits : Nat) (target : Int) (b q : DecPic) : Prop :=
  (posDist bits b.pos target).natAbs ≤ (posDist bits q.pos target).natAbs ∧
    (bits = 0 → (posDist 0 b.pos target).natAbs = (posDist 0 q.pos target).natAbs → b.pos ≤ q.pos)

theorem ServesBetter.refl (bits : Nat) (target : Int) (b : DecPic) : ServesBetter bits target b b :=
  ⟨Nat.le_refl _, fun _ _ => Int.le_refl _⟩

theorem ServesBetter.trans {bits : Nat} {target : Int} {a b c : DecPic} (hab : ServesBetter bits target a b)
    (hbc : ServesBetter bits target b c) : ServesBetter bits target a c := by
  obtain ⟨hab, hab'⟩ := hab
  obtain ⟨hbc, hbc'⟩ := hbc
  refine ⟨Nat.le_trans hab hbc, fun h0 hac => ?_⟩
  subst h0
  have hb : (posDist 0 a.pos target).natAbs = (posDist 0 b.pos target).natAbs := by omega
  exact Int.le_trans (hab' rfl hb) (hbc' rfl (by omega))

theorem posDist_zero (a b : Int) : posDist 0 a b = a - b := if_pos rfl

/-- The nearest of a list is one of it and serves better than each; an empty list has none. -/
theorem substitute_spec (pics : List DecPic) (bits : Nat) (target : Int) :
    (substitute pics bits target = none ↔ pics = []) ∧
    ∀ b, substitute pics bits target = some b → b ∈ pics ∧ ∀ q ∈ pics, ServesBetter bits target b q := by
  cases pics with
  | nil => exact ⟨⟨fun _ => rfl, fun _ => rfl⟩, fun b h => nomatch h⟩
  | cons p l =>
    obtain ⟨c, hc, hmem, hcp, hall⟩ := foldl_keeps_best (ServesBetter.refl bits target) ServesBetter.trans (f := fun best p =>
      match best with
      | none => some p
      | some b =>
        let dp := (posDist bits p.pos target).natAbs
        let db := (posDist bits b.pos target).natAbs
        if dp < db ∨ (dp = db ∧ posDist bits p.pos b.pos < 0) then some p else some b)
      (fun b p => by
        dsimp only
        split
        · next h =>
          refine .inl ⟨rfl, by omega, fun h0 e => ?_⟩
          subst h0
          rw [posDist_zero p.pos b.pos] at h
          omega
        · next h =>
          refine .inr ⟨rfl, by omega, fun h0 e => ?_⟩
          subst h0
          rw [posDist_zero p.pos b.pos] at h
          omega) l p
    have hsub : substitute (p :: l) bits target = some c := hc
    rw [hsub]
    refine ⟨by simp, fun b hb => ?_⟩
    obtain rfl := Option.some.inj hb
    exact ⟨List.mem_cons.2 hmem, List.forall_mem_cons.2 ⟨hcp, hall⟩⟩

theorem DecCtx.mem_candidates {c : DecCtx} {p : Pic} {slot : Nat} {q : DecPic} :
    q ∈ c.candidates p slot ↔ p.newSeq = false ∧ q ∈ c.pics ∧ q.current = true ∧ q.unreadable = false ∧ q.slot ≠ slot := by
  unfold DecCtx.candidates
  cases p.newSeq <;> simp [and_assoc]

/-- Settles O40. -/
theorem substituteIsNearest : Obligations.SubstituteIsNearest := by
  unfold Obligations.SubstituteIsNearest
  intro c p slot bits target mayServe choice
  obtain ⟨hnone, hsome⟩ := substitute_spec (c.candidates p slot) bits target
  refine ⟨hnone.trans ?_, fun b hb => ?_⟩
  · rw [List.eq_nil_iff_forall_not_mem]
    exact forall_congr' fun q => not_congr DecCtx.mem_candidates
  · obtain ⟨hmem, hbest⟩ := hsome b hb
    exact ⟨DecCtx.mem_candidates.1 hmem, fun q hq => hbest q (DecCtx.mem_candidates.2 hq)⟩

/-! ### The replay window (R48) -/

/-- The highest index once a packet of index `i` is taken. -/
def srtpRaise (top : Option Nat) (i : Nat) : Nat := match top with | some t => max t i | none => i

/-- An index says the sequence number it was made from, and the rollover count it lies in. -/
theorem srtpIndex_of_index {r q : Nat} (hr : r < 2 ^ 32) (hq : q < 65536) : srtpIndex (some (r * 65536 + q)) q = r * 65536 + q := by
  have hdiv : (r * 65536 + q) / 65536 = r := by omega
  have hmod : (r * 65536 + q) % 65536 = q := by omega
  simp only [srtpIndex, hdiv, hmod]
  split <;> rw [if_neg (by omega), Nat.mod_eq_of_lt hr]

theorem srtpIndex_form (top : Option Nat) (seq : Nat) : ∃ r, r < 2 ^ 32 ∧ srtpIndex top seq = r * 65536 + seq := by
  cases top with
  | none => exact ⟨0, by decide, by simp [srtpIndex]⟩
  | some t => exact ⟨_, Nat.mod_lt _ (by decide), rfl⟩

/-- A taken packet leaves the index of its sequence number as it was: a replay is told by its index. -/
theorem srtpIndex_raise (top : Option Nat) {seq : Nat} (h : seq < 65536) :
    srtpIndex (some (srtpRaise top (srtpIndex top seq))) seq = srtpIndex top seq := by
  obtain ⟨r, hr, hform⟩ := srtpIndex_form top seq
  have hself : srtpIndex (some (srtpIndex top seq)) seq = srtpIndex top seq := by
    rw [hform]; exact srtpIndex_of_index hr h
  cases top with
  | none => exact hself
  | some t =>
    rcases Nat.le_total (srtpIndex (some t) seq) t with hle | hle
    · rw [srtpRaise, Nat.max_eq_left hle]
    · rw [srtpRaise, Nat.max_eq_right hle, hself]

/-- The payload that a packet of index `i` opens to under the key of the context's slot. -/
def State.srtpPlain (s : State) (n i : Nat) (h : Rtp) (b : List Byte) : Option (List Byte) :=
  (SMap.get (fun _ => none) s.sec.keys (s.get (F.ING_CTX_CTL_KEY_SLOT n))).bind
    fun k => Config.srtpOpen k.key i (b.take h.len) (b.drop h.len)

/-- The packet of a header is new: inside the window, and not come yet. -/
def IngCtx.srtpFresh (c : IngCtx) (seq : Nat) : Prop :=
  srtpRaise c.srtpTop (srtpIndex c.srtpTop seq) < srtpIndex c.srtpTop seq + 128 ∧ srtpIndex c.srtpTop seq ∉ c.srtpSeen

/-- A context that has taken the packet of a sequence number. -/
def IngCtx.srtpTaken (c : IngCtx) (seq : Nat) : IngCtx :=
  let i := srtpIndex c.srtpTop seq
  let top := srtpRaise c.srtpTop i
  { c with srtpTop := some top, srtpSeen := (i :: c.srtpSeen).filter (fun j => decide (top < j + 128)) }

/-- A packet is taken as it opens where it is new, and else refused. -/
theorem State.srtpAccept_eq (s : State) (n : Nat) (h : Rtp) (b : List Byte) :
    let c := s.ingCtx n
    let i := srtpIndex c.srtpTop h.seq
    s.srtpAccept n h b = if decide (srtpRaise c.srtpTop i < i + 128) && !c.srtpSeen.contains i
      then (s.srtpPlain n i h b).elim (none, s.inc (F.ING_CTX_SRTP_FAIL n)) fun p => (some p, s.setIng n (c.srtpTaken h.seq))
      else (none, s.inc (F.ING_CTX_SRTP_FAIL n)) := by
  intro c i
  have key (fresh : Bool) (plain : Option (List Byte)) : (match fresh, plain with
      | true, some p => (some p, s.setIng n (c.srtpTaken h.seq))
      | _, _ => (none, s.inc (F.ING_CTX_SRTP_FAIL n))) =
      if fresh then plain.elim (none, s.inc (F.ING_CTX_SRTP_FAIL n)) fun p => (some p, s.setIng n (c.srtpTaken h.seq))
      else (none, s.inc (F.ING_CTX_SRTP_FAIL n)) := by cases fresh <;> cases plain <;> rfl
  refine Eq.trans ?_ (key _ _)
  unfold State.srtpAccept State.srtpPlain
  cases SMap.get (fun _ => none) s.sec.keys (s.get (F.ING_CTX_CTL_KEY_SLOT n)) <;> rfl

theorem State.srtpAccept_not_fresh (s : State) (n : Nat) (h : Rtp) (b : List Byte) (hf : ¬ (s.ingCtx n).srtpFresh h.seq) :
    s.srtpAccept n h b = (none, s.inc (F.ING_CTX_SRTP_FAIL n)) := by
  rw [State.srtpAccept_eq, if_neg]
  simpa [IngCtx.srtpFresh] using hf

theorem State.srtpAccept_fresh (s : State) (n : Nat) (h : Rtp) (b : List Byte) (hf : (s.ingCtx n).srtpFresh h.seq) :
    s.srtpAccept n h b = (s.srtpPlain n (srtpIndex (s.ingCtx n).srtpTop h.seq) h b).elim (none, s.inc (F.ING_CTX_SRTP_FAIL n))
      fun p => (some p, s.setIng n ((s.ingCtx n).srtpTaken h.seq)) := by
  rw [State.srtpAccept_eq, if_pos]
  simpa [IngCtx.srtpFresh] using hf

theorem State.ingCtx_setIng_same (s : State) (n : Nat) (v : IngCtx) : (s.setIng n v).ingCtx n = v := SMap.get_set_same _ _ _ _

theorem State.ingCtx_setIng_other (s : State) {n m : Nat} (v : IngCtx) (h : m ≠ n) : (s.setIng n v).ingCtx m = s.ingCtx m :=
  SMap.get_set_other _ _ _ _ _ h

/-- The packet just taken is not new any more. -/
theorem IngCtx.not_srtpFresh_taken (c : IngCtx) {seq : Nat} (h : seq < 65536) (hf : c.srtpFresh seq) : ¬ (c.srtpTaken seq).srtpFresh seq := by
  rintro ⟨-, hseen⟩
  refine hseen ?_
  rw [show (c.srtpTaken seq).srtpTop = some (srtpRaise c.srtpTop (srtpIndex c.srtpTop seq)) from rfl, srtpIndex_raise c.srtpTop h]
  exact List.mem_filter.2 ⟨List.mem_cons_self, decide_eq_true hf.1⟩

theorem IngCtx.srtpFresh_iff (c : IngCtx) (seq : Nat) :
    c.srtpFresh seq ↔ (∀ t, c.srtpTop = some t → t < srtpIndex c.srtpTop seq + 128) ∧ srtpIndex c.srtpTop seq ∉ c.srtpSeen := by
  refine and_congr_left fun _ => ?_
  cases h : c.srtpTop with
  | none => simp [srtpRaise]
  | some t =>
    have hmax : max t (srtpIndex (some t) seq) < srtpIndex (some t) seq + 128 ↔ t < srtpIndex (some t) seq + 128 := by omega
    exact ⟨fun hlt _ ht => Option.some.inj ht ▸ hmax.1 hlt, fun hall => hmax.2 (hall t rfl)⟩

/-- Settles O39: a packet is taken as it opens where it is new, and having taken it makes it old. -/
theorem replayedPacketRefused : Obligations.ReplayedPacketRefused := by
  unfold Obligations.ReplayedPacketRefused
  intro s n h b hseq c i r
  by_cases hf : c.srtpFresh h.seq
  · have hr : r = _ := s.srtpAccept_fresh n h b hf
    have hfresh := (c.srtpFresh_iff h.seq).1 hf
    have hold : ¬ (i ∈ c.srtpSeen ∨ ∃ t, c.srtpTop = some t ∧ i + 128 ≤ t) := by
      rintro (hmem | ⟨t, ht, hle⟩)
      · exact hfresh.2 hmem
      · exact absurd (hfresh.1 t ht) (Nat.not_lt_of_le hle)
    cases hp : s.srtpPlain n i h b with
    | none =>
      rw [show s.srtpPlain n (srtpIndex (s.ingCtx n).srtpTop h.seq) h b = none from hp] at hr
      rw [hr]
      exact ⟨fun _ _ => hp.symm, fun _ => rfl, fun _ _ _ => .inl rfl, rfl, fun _ _ => rfl⟩
    | some p =>
      rw [show s.srtpPlain n (srtpIndex (s.ingCtx n).srtpTop h.seq) h b = some p from hp] at hr
      rw [Option.elim_some] at hr
      rw [hr]
      refine ⟨fun _ _ => hp.symm, fun ho => absurd ho hold, fun h' b' he => .inr ?_, rfl, fun m hm => s.ingCtx_setIng_other _ hm⟩
      rw [State.srtpAccept_not_fresh]
      rw [s.ingCtx_setIng_same, he]
      exact c.not_srtpFresh_taken hseq hf
  · have hr : r = _ := s.srtpAccept_not_fresh n h b hf
    rw [hr]
    exact ⟨fun hnew ht => absurd ((c.srtpFresh_iff h.seq).2 ⟨ht, hnew⟩) hf, fun _ => rfl, fun _ _ _ => .inl rfl, rfl, fun _ _ => rfl⟩

/-! ### Pools (R65, R67) -/

theorem poolSize_le {k : Nat} (h : k < 8) : poolSize k ≤ 1048576 := by
  have key : ∀ k : Fin 8, poolSize k ≤ 1048576 := by decide
  exact key ⟨k, h⟩

/-- Marking a buffer sets its entry and no other of the map of buffers in use. -/
theorem State.setBuf_used (s : State) (k i o1 o : Nat) :
    (s.setBuf k i o1 o).bpm.used = SMap.set (fun _ => 0) s.bpm.used (k * 2 ^ 20 + i) o1 := by
  unfold State.setBuf
  dsimp only
  simp only [State.setCond_bpm, apply_ite State.bpm, State.raiseU_bpm, State.put_bpm, ite_self]

theorem State.setBuf_mem (s : State) (k i o1 o : Nat) : (s.setBuf k i o1 o).mem = s.mem := by
  unfold State.setBuf
  dsimp only
  simp only [State.setCond_mem, apply_ite State.mem, State.raiseU_mem, State.put_mem, ite_self]

theorem State.bufOwner_setBuf_same (s : State) (k i o1 o : Nat) : (s.setBuf k i o1 o).bufOwner k i = o1 := by
  rw [State.bufOwner, State.setBuf_used, SMap.get_set_same]

theorem State.bufOwner_setBuf_other (s : State) (k i o1 o : Nat) {k' i' : Nat} (hi : i < 2 ^ 20) (hi' : i' < 2 ^ 20)
    (h : k' ≠ k ∨ i' ≠ i) : (s.setBuf k i o1 o).bufOwner k' i' = s.bufOwner k' i' := by
  rw [State.bufOwner, State.setBuf_used, SMap.get_set_other _ _ _ _ _ (by omega)]
  rfl

/-- A request either takes a free buffer of its pool and marks it, or leaves everything but a count of failures. -/
theorem State.takeBuf_cases (s : State) (o n : Nat) :
    (∃ k i, poolFor n = some k ∧ s.bufOwner k i = 0 ∧ s.takeBuf o n = (some (k, i), s.setBuf k i (o + 1) o)) ∨
    s.takeBuf o n = (none, s) ∨ ∃ k, s.takeBuf o n = (none, s.inc (F.BPM_POOL_FAILS k)) := by
  unfold State.takeBuf
  cases poolFor n with
  | none => exact .inr (.inl rfl)
  | some k =>
    dsimp only
    split
    · next i _ hi => exact .inl ⟨k, i, rfl, by simpa using List.find?_some hi, rfl⟩
    · exact .inr (.inr ⟨k, rfl⟩)

/-- Settles O38. -/
theorem poolGivesSmallestFit : Obligations.PoolGivesSmallestFit := by
  unfold Obligations.PoolGivesSmallestFit
  refine ⟨fun n k h => ?_, fun n => ⟨fun h => ?_, fun h => ?_⟩, fun s o n k i u h hi => ?_, fun s o n u h => ?_⟩
  · obtain ⟨hfit, hk, hsmaller⟩ := List.find?_range_eq_some.1 h
    exact ⟨List.mem_range.1 hk, of_decide_eq_true hfit, fun j hj => by simpa using hsmaller j hj⟩
  · simpa [poolSize] using List.find?_eq_none.1 h 7 (by decide)
  · refine List.find?_eq_none.2 fun k hk => ?_
    have := poolSize_le (List.mem_range.1 hk)
    simp only [decide_eq_true_eq]
    omega
  · rcases s.takeBuf_cases o n with ⟨k', i', hpool, hfree, htake⟩ | htake | ⟨k', htake⟩
    · rw [htake] at h
      obtain ⟨hki, rfl⟩ := Prod.mk.inj h
      obtain ⟨rfl, rfl⟩ := Prod.mk.inj (Option.some.inj hki)
      exact ⟨hpool, hfree, s.bufOwner_setBuf_same .., fun k' i' hi' hne => s.bufOwner_setBuf_other _ _ _ _ hi hi' hne, s.setBuf_mem ..⟩
    · exact nomatch (congrArg Prod.fst (htake.symm.trans h))
    · exact nomatch (congrArg Prod.fst (htake.symm.trans h))
  · rcases s.takeBuf_cases o n with ⟨k', i', -, -, htake⟩ | htake | ⟨k', htake⟩
    · exact nomatch (congrArg Prod.fst (htake.symm.trans h))
    · obtain rfl := congrArg Prod.snd (htake.symm.trans h)
      exact ⟨rfl, rfl⟩
    · obtain rfl := congrArg Prod.snd (htake.symm.trans h)
      exact ⟨rfl, rfl⟩

end Sys2Proof.Machine
end

section
/-! PROOF. Memory (R191), and what events and faults do (R29, R431 to R435). -/

namespace Sys2Proof.Machine
open Sys2Proof

/-! ### Writes of bytes -/

theorem State.byte_setByte_protected (s : State) (a : Nat) (b : Byte) (h : s.protectedAt a = true) (q : Nat) :
    (s.setByte a b).byte q = s.byte q := by
  rw [s.setByte_protected a b h]; rfl

/-- A byte written is read back, unless it is protected. -/
theorem State.byte_setByte (s : State) (a : Nat) (b : Byte) :
    (s.setByte a b).byte a = if s.protectedAt a then s.byte a else b := by
  split
  · next h => exact s.byte_setByte_protected a b h a
  · next h => exact s.byte_setByte_same a b (Bool.eq_false_iff.2 h)

theorem State.protHit_setByte (s : State) (a : Nat) (b : Byte) : (s.setByte a b).cmp.protHit = (s.cmp.protHit || s.protectedAt a) := by
  unfold State.setByte
  split
  · next h => rw [h, Bool.or_true]; rfl
  · next h =>
    obtain ⟨w, hw⟩ := s.noteWrite_eq a
    rw [hw, Bool.eq_false_iff.2 h, Bool.or_false]

/-- Bytes written are read back, those outside the protected ranges. -/
theorem State.byte_setBytes_mem (l : List Byte) : ∀ (s : State) (a k : Nat), k < l.length →
    (s.setBytes a l).byte (a + k) = if s.protectedAt (a + k) then s.byte (a + k) else l.getD k 0 := by
  induction l with
  | nil => exact fun s a k hk => nomatch hk
  | cons b r ih =>
    intro s a k hk
    rw [State.setBytes]
    cases k with
    | zero =>
      rw [State.byte_setBytes_other r _ (a + 1) (a + 0) (.inl (by omega))]
      exact s.byte_setByte a b
    | succ k =>
      have hadd : a + (k + 1) = a + 1 + k := by omega
      rw [hadd, ih (s.setByte a b) (a + 1) k (Nat.lt_of_succ_lt_succ hk), s.protectedAt_setByte, s.byte_setByte_other a _ b (by omega), List.getD_cons_succ]

/-- The note of a protected range is made as soon as one byte meets one. -/
theorem State.protHit_setBytes (l : List Byte) : ∀ (s : State) (a : Nat),
    (s.setBytes a l).cmp.protHit = (s.cmp.protHit || (List.range l.length).any fun k => s.protectedAt (a + k)) := by
  induction l with
  | nil => exact fun s a => (Bool.or_false _).symm
  | cons b r ih =>
    intro s a
    have hrest : (fun k => s.protectedAt (a + k)) ∘ Nat.succ = fun k => s.protectedAt (a + 1 + k) := by
      funext k
      exact congrArg s.protectedAt (by omega)
    rw [State.setBytes, ih, s.protHit_setByte, List.length_cons, List.range_succ_eq_map, List.any_cons, List.any_map, hrest, Bool.or_assoc]
    simp only [State.protectedAt_setByte, Nat.add_zero]

/-- Settles O19. -/
theorem memoryWritesReadBack : Obligations.MemoryWritesReadBack := by
  unfold Obligations.MemoryWritesReadBack
  intro s a l
  obtain ⟨m, p, w, h⟩ := State.setBytes_eq l s a
  exact ⟨State.wf_setBytes l s a, State.byte_setBytes_other l s a, State.byte_setBytes_mem l s a, State.protHit_setBytes l s a,
    by rw [h]⟩

/-! ### The frame of an event and of a fault -/

/-- Settles O16. -/
theorem eventAndFaultFrame : Obligations.EventAndFaultFrame := by
  unfold Obligations.EventAndFaultFrame
  intro s n data unit off
  obtain ⟨e, g, h⟩ := s.raise_eq n data
  exact ⟨fun hn ho => s.rd_raise n data off hn ho, by rw [h], fun hn ho => s.rd_fault n unit data off hn ho,
    FaultOnly.fault s n unit data⟩

/-! ### Status and level of a fault -/

section
variable {α β : Type} {f : Nat × α → Option β}

/-- What a filter drops under every value of a key may be set without a change of what it keeps. -/
theorem SMap.filterMap_ins {k : Nat} (h : ∀ v, f (k, v) = none) (v : α) (m : SMap α) :
    (SMap.ins k v m).filterMap f = m.filterMap f := by
  induction m with
  | nil => simp [SMap.ins, h]
  | cons p r ih =>
    obtain ⟨j, w⟩ := p
    unfold SMap.ins
    split
    · next e => rw [List.filterMap_cons_none (h v), List.filterMap_cons_none (e ▸ h w)]
    · split
      · rw [List.filterMap_cons_none (h v)]
      · rw [List.filterMap_cons, List.filterMap_cons, ih]

theorem SMap.filterMap_del {k : Nat} (h : ∀ v, f (k, v) = none) (m : SMap α) : (SMap.del k m).filterMap f = m.filterMap f := by
  induction m with
  | nil => rfl
  | cons p r ih =>
    obtain ⟨j, w⟩ := p
    unfold SMap.del
    split
    · next e => rw [ih, List.filterMap_cons_none (e ▸ h w)]
    · rw [List.filterMap_cons, List.filterMap_cons, ih]

theorem SMap.filterMap_set [DecidableEq α] {k : Nat} (h : ∀ v, f (k, v) = none) (d : Nat → α) (v : α) (m : SMap α) :
    (SMap.set d m k v).filterMap f = m.filterMap f := by
  unfold SMap.set
  split
  · exact SMap.filterMap_del h m
  · exact SMap.filterMap_ins h v m
end

/-- A write beside the status registers leaves the set statuses. -/
theorem State.faultsSet_wr (s : State) (off v : Nat) (h : off % 16 ≠ 4) : (s.wr off v).faultsSet = s.faultsSet :=
  SMap.filterMap_set (fun _ => if_neg fun hc => h hc.2.2.1) _ _ _

theorem State.classLevel_count (s : State) (n cls : Nat) : (s.inc (F.FLT_SRC_COUNT n)).classLevel cls = s.classLevel cls := by
  have hset : (s.inc (F.FLT_SRC_COUNT n)).faultsSet = s.faultsSet :=
    s.faultsSet_wr _ _ (by simp only [F.FLT_SRC_COUNT, R.FLT_SRC_COUNT]; omega)
  have hcls (m : Nat) : (s.inc (F.FLT_SRC_COUNT n)).get (F.FLT_SRC_CFG_CLASS m) = s.get (F.FLT_SRC_CFG_CLASS m) :=
    congrArg (bitsOf · _ _) (s.rd_inc_other _ _ (by simp only [F.FLT_SRC_COUNT, R.FLT_SRC_COUNT, F.FLT_SRC_CFG_CLASS, R.FLT_SRC_CFG]; omega))
  have hlevel (m : Nat) : (s.inc (F.FLT_SRC_COUNT n)).get (F.FLT_SRC_STAT_LEVEL m) = s.get (F.FLT_SRC_STAT_LEVEL m) :=
    congrArg (bitsOf · _ _) (s.rd_inc_other _ _ (by simp only [F.FLT_SRC_COUNT, R.FLT_SRC_COUNT, F.FLT_SRC_STAT_LEVEL, R.FLT_SRC_STAT]; omega))
  simp only [State.classLevel, hset, hcls, hlevel]

/-- The severity that the set statuses of its class give a fault at WARN or above (R433). -/
def State.escalated (s : State) (n : Nat) : Nat :=
  match s.classLevel (s.get (F.FLT_SRC_CFG_CLASS n)) with
  | some l => max (s.get (F.FLT_SRC_CFG_SEV n)) (min (l + 1) (s.get F.FLT_GLB_CTL_ESC_MAX))
  | none => s.get (F.FLT_SRC_CFG_SEV n)

theorem inFlt_stat {n : Nat} (h : n < 256) : InFlt (R.FLT_SRC_STAT n) := by
  simp only [InFlt, R.FLT_SRC_STAT, R.FLT_GLB_STAT, R.FLT_LOG_NEXT]; omega

/-- At NOTE a fault is counted and logged, and names its unit. -/
theorem State.fault_note (s : State) (n unit data : Nat) (h : s.get (F.FLT_SRC_CFG_SEV n) = 0) :
    s.fault n unit data = ((s.inc (F.FLT_SRC_COUNT n)).faultLog n 0 unit data false false).put (F.FLT_SRC_STAT_UNIT n) unit :=
  if_pos h

theorem State.logPersist_flt (s : State) (data : List Byte) : (s.logPersist data).flt = s.flt := by
  unfold State.logPersist
  split
  · exact State.raiseU_flt _ _
  · rfl

theorem State.faultLog_flt (s : State) (n sev unit data : Nat) (esc tr : Bool) : (s.faultLog n sev unit data esc tr).flt = s.flt := rfl

/-- A fault that is counted and logged, at WARN or above. -/
def State.faultLogged (s : State) (n e unit data : Nat) : State :=
  let esc := decide (s.get (F.FLT_SRC_CFG_SEV n) < e)
  let t := (s.inc (F.FLT_SRC_COUNT n)).faultLog n e unit data esc false
  if t.flag (F.FLT_SRC_CFG_PERSIST n) || decide (n = 144) then t.logPersist (t.faultLogData n e unit data esc false) else t

/-- Status, level and unit of a fault at WARN or above. -/
def State.faultStatus (s : State) (n e unit : Nat) : State :=
  ((s.stick (F.FLT_SRC_STAT_STATUS n)).put (F.FLT_SRC_STAT_LEVEL n) e).put (F.FLT_SRC_STAT_UNIT n) unit

/-- The events of a fault at WARN or above, its reaction, and the state that the statuses make. -/
def State.faultTold (s : State) (n e unit : Nat) (esc : Bool) : State :=
  let s := s.raise 1 (n + e * 256 + unit % 65536 * 65536)
  let s := if esc then s.raiseU 2 else s
  let s := if 2 ≤ e then { s with flt := { s.flt with todo := s.flt.todo ++ [⟨n, e, unit⟩] } } else s
  s.faultState

theorem State.fault_warn (s : State) (n unit data : Nat) (h : s.get (F.FLT_SRC_CFG_SEV n) ≠ 0) :
    s.fault n unit data = ((s.faultLogged n (s.escalated n) unit data).faultStatus n (s.escalated n) unit).faultTold n
      (s.escalated n) unit (decide (s.get (F.FLT_SRC_CFG_SEV n) < s.escalated n)) := by
  have hcls : (s.inc (F.FLT_SRC_COUNT n)).get (F.FLT_SRC_CFG_CLASS n) = s.get (F.FLT_SRC_CFG_CLASS n) :=
    congrArg (bitsOf · _ _) (s.rd_inc_other _ _ (by simp only [F.FLT_SRC_COUNT, R.FLT_SRC_COUNT, F.FLT_SRC_CFG_CLASS, R.FLT_SRC_CFG]; omega))
  have hmax : (s.inc (F.FLT_SRC_COUNT n)).get F.FLT_GLB_CTL_ESC_MAX = s.get F.FLT_GLB_CTL_ESC_MAX :=
    congrArg (bitsOf · _ _) (s.rd_inc_other _ _ (by simp only [F.FLT_SRC_COUNT, R.FLT_SRC_COUNT, F.FLT_GLB_CTL_ESC_MAX, R.FLT_GLB_CTL]; omega))
  unfold State.fault
  dsimp only
  rw [if_neg h, hcls, hmax, s.classLevel_count]
  rfl

theorem State.faultLogged_flt (s : State) (n e unit data : Nat) : (s.faultLogged n e unit data).flt = s.flt := by
  unfold State.faultLogged
  dsimp only
  split
  · rw [State.logPersist_flt]; rfl
  · rfl

theorem State.rd_faultTold_flt (s : State) (n e unit : Nat) (esc : Bool) (off : Nat) (h : InFlt off) :
    (s.faultTold n e unit esc).rd off = s.rd off := by
  show SameAt off s _
  unfold State.faultTold
  dsimp only
  refine SameAt.trans ?_ (State.rd_faultState_flt _ off h)
  refine SameAt.trans ?_ (SameAt.ite _ rfl rfl)
  refine SameAt.trans ?_ (SameAt.ite _ (State.rd_raiseU _ 2 off (by omega) h.notEvt) rfl)
  exact s.rd_raise 1 _ off (by omega) h.notEvt

theorem State.todo_faultTold (s : State) (n e unit : Nat) (esc : Bool) :
    (s.faultTold n e unit esc).flt.todo = s.flt.todo ++ (if 2 ≤ e then [⟨n, e, unit⟩] else []) := by
  unfold State.faultTold
  dsimp only
  rw [State.faultState_flt]
  split <;> simp only [apply_ite State.flt, State.raiseU_flt, State.raise_flt, ite_self, List.append_nil]

theorem State.get_of_rd {s t : State} {f : Fld} (h : s.rd f.off = t.rd f.off) : s.get f = t.get f := congrArg (bitsOf · _ _) h

theorem State.flag_of_rd {s t : State} {f : Fld} (h : s.rd f.off = t.rd f.off) : s.flag f = t.flag f := by
  rw [State.flag, State.flag, State.get_of_rd h]

theorem State.faultStatus_fields (s : State) (n e unit : Nat) :
    (s.faultStatus n e unit).flag (F.FLT_SRC_STAT_STATUS n) = true ∧ (s.faultStatus n e unit).get (F.FLT_SRC_STAT_LEVEL n) = e % 8 ∧
      (s.faultStatus n e unit).get (F.FLT_SRC_STAT_UNIT n) = unit % 65536 := by
  unfold State.faultStatus
  refine ⟨?_, ?_, State.get_put_same _ _ _ (by simp [F.FLT_SRC_STAT_UNIT])⟩
  · rw [State.flag, State.get_put_other _ _ _ _ (by simp [F.FLT_SRC_STAT_UNIT]) (by simp [F.FLT_SRC_STAT_UNIT, F.FLT_SRC_STAT_STATUS]),
      State.get_put_other _ _ _ _ (by simp [F.FLT_SRC_STAT_LEVEL]) (by simp [F.FLT_SRC_STAT_LEVEL, F.FLT_SRC_STAT_STATUS])]
    exact s.flag_putB_same _ true (by simp [F.FLT_SRC_STAT_STATUS]) rfl
  · rw [State.get_put_other _ _ _ _ (by simp [F.FLT_SRC_STAT_UNIT]) (by simp [F.FLT_SRC_STAT_UNIT, F.FLT_SRC_STAT_LEVEL])]
    exact State.get_put_same _ _ _ (by simp [F.FLT_SRC_STAT_LEVEL])

/-- Settles O17. -/
theorem faultSetsStatusAndLevel : Obligations.FaultSetsStatusAndLevel := by
  unfold Obligations.FaultSetsStatusAndLevel
  intro s n unit data hn u sev e
  have hin := inFlt_stat hn
  refine ⟨s.count_fault n unit data hn, fun h => ?_, fun h => ?_⟩
  · have hstat : ((s.inc (F.FLT_SRC_COUNT n)).faultLog n 0 unit data false false).rd (R.FLT_SRC_STAT n) = s.rd (R.FLT_SRC_STAT n) :=
      ((s.inc _).rd_faultLog_flt _ _ _ _ _ _ _ hin).trans
        (s.rd_inc_other _ _ (by simp only [F.FLT_SRC_COUNT, R.FLT_SRC_COUNT, R.FLT_SRC_STAT]; omega))
    have hu : u = _ := s.fault_note n unit data h
    rw [hu]
    have hlow := State.get_put_other ((s.inc (F.FLT_SRC_COUNT n)).faultLog n 0 unit data false false) (F.FLT_SRC_STAT_UNIT n)
      ⟨R.FLT_SRC_STAT n, 0, 16⟩ unit (by simp [F.FLT_SRC_STAT_UNIT]) (by simp [F.FLT_SRC_STAT_UNIT])
    simp only [State.get, bitsOf_low, hstat] at hlow
    refine ⟨hlow, State.get_put_same _ _ _ (by simp [F.FLT_SRC_STAT_UNIT]), ?_⟩
    rw [State.put_flt, State.faultLog_flt, State.inc_flt]
  · have hu : u = _ := s.fault_warn n unit data h
    have hrd := congrArg (State.rd · (R.FLT_SRC_STAT n)) hu
    rw [State.rd_faultTold_flt _ _ _ _ _ _ hin] at hrd
    obtain ⟨hstatus, hlevel, hunit⟩ := (s.faultLogged n (s.escalated n) unit data).faultStatus_fields n (s.escalated n) unit
    refine ⟨(State.flag_of_rd hrd).trans hstatus, (State.get_of_rd hrd).trans hlevel, (State.get_of_rd hrd).trans hunit, ?_⟩
    rw [hu, State.todo_faultTold, ← s.faultLogged_flt n (s.escalated n) unit data]
    rfl

/-! ### Clearing a fault status (R435, R13) -/

/-- Settles O18. -/
theorem statusClearsOnlyWithoutCause : Obligations.StatusClearsOnlyWithoutCause := by
  unfold Obligations.StatusClearsOnlyWithoutCause
  intro s n hn hset u setNow
  have hcleared (hc : s.flag (F.FLT_SRC_STAT_CAUSE n) = false) (hs : setNow = false) :
      u = ((s.putB (F.FLT_SRC_STAT_STATUS n) false).faultState).raiseU 3 := by
    show s.clearStatus n = _
    rw [State.clearStatus, if_neg (by simp [hc]), if_neg (by simp [hset]), if_neg (Bool.eq_false_iff.1 hs)]
  have hstuck (hc : s.flag (F.FLT_SRC_STAT_CAUSE n) = false) (hs : setNow = true) : u = s := by
    show s.clearStatus n = s
    rw [State.clearStatus, if_neg (by simp [hc]), if_neg (by simp [hset]), if_pos hs]
  have hrefused (hc : s.flag (F.FLT_SRC_STAT_CAUSE n) = true) : u = s.stick (F.FLT_SRC_STAT_CLEAR_REFUSED n) := if_pos hc
  refine ⟨fun hc => ?_, hstuck, fun hc hs => ?_, ?_⟩
  · rw [hrefused hc]
    refine ⟨?_, s.flag_putB_same _ true (by simp [F.FLT_SRC_STAT_CLEAR_REFUSED]) rfl, fun off ho => s.rd_stick_other _ _ ho⟩
    rw [← hset]
    exact congrArg (fun v => decide (v = 1)) (s.get_put_other _ _ _ (by simp [F.FLT_SRC_STAT_CLEAR_REFUSED])
      (by simp [F.FLT_SRC_STAT_CLEAR_REFUSED, F.FLT_SRC_STAT_STATUS]))
  · have hrd (m : Nat) (hm : m < 256) : u.rd (R.FLT_SRC_STAT m) = (s.putB (F.FLT_SRC_STAT_STATUS n) false).rd (R.FLT_SRC_STAT m) := by
      rw [hcleared hc hs, State.rd_raiseU _ 3 _ (by omega) (inFlt_stat hm).notEvt, State.rd_faultState_flt _ _ (inFlt_stat hm)]
    refine ⟨(State.flag_of_rd (hrd n hn)).trans (s.flag_putB_same _ false (by simp [F.FLT_SRC_STAT_STATUS]) rfl), fun m hm hne => ?_⟩
    rw [hrd m hm]
    exact s.rd_putB_other _ _ _ (by simp only [F.FLT_SRC_STAT_STATUS, R.FLT_SRC_STAT]; omega)
  · cases hc : s.flag (F.FLT_SRC_STAT_CAUSE n) with
    | true => rw [hrefused hc]; exact ⟨rfl, rfl⟩
    | false =>
      cases hs : setNow with
      | true => rw [hstuck hc hs]; exact ⟨rfl, rfl⟩
      | false => rw [hcleared hc hs, State.raiseU_mem, State.raiseU_flt, State.faultState_mem, State.faultState_flt]; exact ⟨rfl, rfl⟩

end Sys2Proof.Machine
end

section
/-! PROOF. Frames of faults and events, field by field, and the time commands that raise one (R223, R239, R240). -/

namespace Sys2Proof.Machine
open Sys2Proof

/-! ### Fields outside the events and faults -/

section
variable (s : State) (f : Fld)

theorem State.get_raise {n : Nat} (hn : n < 1024) (h : NotEvt f.off) (data : Nat) : (s.raise n data).get f = s.get f :=
  State.get_of_rd (s.rd_raise n data _ hn h)
theorem State.get_raiseU {n : Nat} (hn : n < 1024) (h : NotEvt f.off) : (s.raiseU n).get f = s.get f :=
  State.get_of_rd (s.rd_raiseU n _ hn h)
theorem State.flag_raiseU {n : Nat} (hn : n < 1024) (h : NotEvt f.off) : (s.raiseU n).flag f = s.flag f :=
  State.flag_of_rd (s.rd_raiseU n _ hn h)
theorem State.get_faultU {n : Nat} (hn : n < 256) (h : NotFlt f.off) : (s.faultU n).get f = s.get f :=
  State.get_of_rd (s.rd_faultU n _ hn h)
theorem State.flag_faultU {n : Nat} (hn : n < 256) (h : NotFlt f.off) : (s.faultU n).flag f = s.flag f :=
  State.flag_of_rd (s.rd_faultU n _ hn h)
theorem State.get_inc_other (g : Fld) (h : f.off ≠ g.off) : (s.inc g).get f = s.get f := State.get_of_rd (s.rd_inc_other g _ h)
theorem State.flag_inc_other (g : Fld) (h : f.off ≠ g.off) : (s.inc g).flag f = s.flag f := State.flag_of_rd (s.rd_inc_other g _ h)
theorem State.get_putB_off (g : Fld) (b : Bool) (h : f.off ≠ g.off) : (s.putB g b).get f = s.get f :=
  State.get_of_rd (s.rd_putB_other g b _ h)
theorem State.flag_putB_off (g : Fld) (b : Bool) (h : f.off ≠ g.off) : (s.putB g b).flag f = s.flag f :=
  State.flag_of_rd (s.rd_putB_other g b _ h)
theorem State.get_put_off (g : Fld) (v : Nat) (h : f.off ≠ g.off) : (s.put g v).get f = s.get f :=
  State.get_of_rd (s.rd_put_other g v _ h)
theorem State.flag_put_off (g : Fld) (v : Nat) (h : f.off ≠ g.off) : (s.put g v).flag f = s.flag f :=
  State.flag_of_rd (s.rd_put_other g v _ h)
theorem State.get_wr_off (off v : Nat) (h : f.off ≠ off) : (s.wr off v).get f = s.get f := State.get_of_rd (s.rd_wr_other off v _ h)
theorem State.flag_wr_off (off v : Nat) (h : f.off ≠ off) : (s.wr off v).flag f = s.flag f := State.flag_of_rd (s.rd_wr_other off v _ h)
end

/-- A field of the same register beside the one set. -/
theorem State.flag_put_beside (s : State) (f g : Fld) (v : Nat) (h : f.lo + f.width ≤ 32)
    (hd : g.off ≠ f.off ∨ g.lo + g.width ≤ f.lo ∨ f.lo + f.width ≤ g.lo) : (s.put f v).flag g = s.flag g := by
  rw [State.flag, State.get_put_other s f g v h hd, State.flag]

theorem notEvt_count {n : Nat} (h : n < 256) : NotEvt (R.FLT_SRC_COUNT n) := by
  simp only [NotEvt, R.FLT_SRC_COUNT]; omega

/-- The registers of a fault beside its own. -/
theorem State.rd_faultLogged_flt (s : State) (n e unit data off : Nat) (h : InFlt off) (hc : off ≠ R.FLT_SRC_COUNT n) :
    (s.faultLogged n e unit data).rd off = s.rd off := by
  show SameAt off s _
  unfold State.faultLogged
  dsimp only
  refine SameAt.trans ?_ (SameAt.ite _ (State.rd_logPersist_flt _ _ off h) rfl)
  exact SameAt.trans (t := s.inc (F.FLT_SRC_COUNT n)) (State.rd_inc_other _ _ _ hc) (State.rd_faultLog_flt _ _ _ _ _ _ _ off h)

/-- CAUSE shows a lasting condition, which an occurrence leaves (R435). -/
theorem State.cause_fault (s : State) (n unit data : Nat) (hn : n < 256) :
    (s.fault n unit data).flag (F.FLT_SRC_STAT_CAUSE n) = s.flag (F.FLT_SRC_STAT_CAUSE n) := by
  have hin := inFlt_stat hn
  have hne : R.FLT_SRC_STAT n ≠ R.FLT_SRC_COUNT n := by simp only [R.FLT_SRC_STAT, R.FLT_SRC_COUNT]; omega
  by_cases h : s.get (F.FLT_SRC_CFG_SEV n) = 0
  · rw [s.fault_note n unit data h, State.flag_put_beside _ _ _ _ (by simp [F.FLT_SRC_STAT_UNIT])
      (by simp [F.FLT_SRC_STAT_UNIT, F.FLT_SRC_STAT_CAUSE])]
    exact State.flag_of_rd (((s.inc _).rd_faultLog_flt _ _ _ _ _ _ _ hin).trans (s.rd_inc_other _ _ hne))
  · rw [s.fault_warn n unit data h]
    refine (State.flag_of_rd (State.rd_faultTold_flt _ _ _ _ _ _ hin)).trans ?_
    rw [State.faultStatus, State.flag_put_beside _ _ _ _ (by simp [F.FLT_SRC_STAT_UNIT])
      (by simp [F.FLT_SRC_STAT_UNIT, F.FLT_SRC_STAT_CAUSE]), State.flag_put_beside _ _ _ _ (by simp [F.FLT_SRC_STAT_LEVEL])
      (by simp [F.FLT_SRC_STAT_LEVEL, F.FLT_SRC_STAT_CAUSE])]
    refine Eq.trans ?_ (State.flag_of_rd (s.rd_faultLogged_flt n (s.escalated n) unit data _ hin hne))
    exact State.flag_put_beside _ (F.FLT_SRC_STAT_STATUS n) _ _ (by simp [F.FLT_SRC_STAT_STATUS])
      (by simp [F.FLT_SRC_STAT_STATUS, F.FLT_SRC_STAT_CAUSE])

theorem State.cause_faultU (s : State) (n : Nat) (hn : n < 256) :
    (s.faultU n).flag (F.FLT_SRC_STAT_CAUSE n) = s.flag (F.FLT_SRC_STAT_CAUSE n) := s.used.cause_fault n _ _ hn

/-! ### The end of HOLDOVER (R223) -/

/-- Settles O14. -/
theorem holdoverRaisesFault : Obligations.HoldoverRaisesFault := by
  unfold Obligations.HoldoverRaisesFault
  intro s dt hready due
  have hdue : (s.advance dt).holdoverExpiry = if due then
      ({ s.advance dt with tim := { (s.advance dt).tim with holdoverRaised := true } }).faultU 73 else s.advance dt := by
    unfold State.holdoverExpiry
    refine ite_congr (propext ?_) (fun _ => rfl) (fun _ => rfl)
    rw [Bool.not_eq_true']
    rfl
  refine ⟨fun h => ?_, fun h => ?_⟩
  · exact State.settlesTo_of_run (exec_holdoverExpiry s dt) (hdue.trans (if_neg h)) hready
  · intro u
    have hu : u = _ := hdue.trans (if_pos h)
    refine ⟨State.settlesTo_of_run (exec_holdoverExpiry s dt) rfl hready, ?_⟩
    rw [hu]
    refine ⟨State.count_faultU _ 73 (by decide), fun off ho => ?_, State.faultU_mem _ 73, State.faultU_tim _ 73⟩
    exact State.rd_faultU _ 73 off (by decide) ho

/-! ### Capture edges (R239, R240) -/

section
variable (s : State) (i : Nat) (v : TciState)

/-- A capture FIFO is set with no more than the registers that show it. -/
theorem State.setTci_eq : ∃ g, s.setTci i v = { s with regs := g, tim := { s.tim with tci := SMap.set (fun _ => ⟨[], none⟩) s.tim.tci i v } } := by
  unfold State.setTci
  dsimp only
  split
  · exact ⟨_, rfl⟩
  · simp only [State.putB, State.put, State.wr]
    exact ⟨_, rfl⟩

theorem State.setTci_mem : (s.setTci i v).mem = s.mem := by
  obtain ⟨g, h⟩ := s.setTci_eq i v
  rw [h]

theorem State.tci_setTci_same : (s.setTci i v).tci i = v := by
  obtain ⟨g, h⟩ := s.setTci_eq i v
  rw [h]
  exact SMap.get_set_same _ _ _ _

theorem State.tci_setTci_other {j : Nat} (h : j ≠ i) : (s.setTci i v).tci j = s.tci j := by
  obtain ⟨g, hg⟩ := s.setTci_eq i v
  rw [hg]
  exact SMap.get_set_other _ _ _ _ _ h

theorem State.tci_of_tim {s t : State} (h : t.tim = s.tim) (j : Nat) : t.tci j = s.tci j := by rw [State.tci, State.tci, h]

/-- The count of lost edges is not among the registers that show the FIFO. -/
theorem State.lost_setTci : (s.setTci i v).get (F.TIM_TCI_LOST i) = s.get (F.TIM_TCI_LOST i) := by
  have hne : R.TIM_TCI_LOST i ≠ R.TIM_TCI_STAT i ∧ R.TIM_TCI_LOST i ≠ R.TIM_TCI_TS_S_HI i ∧ R.TIM_TCI_LOST i ≠ R.TIM_TCI_TS_S_LO i ∧
      R.TIM_TCI_LOST i ≠ R.TIM_TCI_TS_NS i ∧ R.TIM_TCI_LOST i ≠ R.TIM_TCI_TS_SUBNS i := by
    simp only [R.TIM_TCI_LOST, R.TIM_TCI_STAT, R.TIM_TCI_TS_S_HI, R.TIM_TCI_TS_S_LO, R.TIM_TCI_TS_NS, R.TIM_TCI_TS_SUBNS]; omega
  obtain ⟨hstat, hhi, hlo, hns, hsub⟩ := hne
  unfold State.setTci
  dsimp only
  split
  · rw [State.get_putB_off _ _ _ _ hhi, State.get_put_off _ _ _ _ hstat]
    rfl
  · rw [State.get_wr_off _ _ _ _ hsub, State.get_wr_off _ _ _ _ hns, State.get_wr_off _ _ _ _ hlo, State.get_putB_off _ _ _ _ hhi,
      State.get_putB_off _ _ _ _ hhi, State.get_put_off _ _ _ _ hhi, State.get_put_off _ _ _ _ hstat]
    rfl
end

/-- The edges that the input asks for. -/
def State.tciSelects (s : State) (i : Nat) (rising : Bool) : Prop :=
  s.get (F.TIM_TCI_CTL_EDGE i) = 3 ∨ s.get (F.TIM_TCI_CTL_EDGE i) = if rising then 1 else 2

/-- The input is enabled, and inside its window where it has one. -/
def State.tciInside (s : State) (i : Nat) : Prop :=
  s.flag (F.TIM_TCI_CTL_EN i) = true ∧
    (s.flag (F.TIM_TCI_CTL_WIN_EN i) = true → s.tciOpen i ≤ round16 s.tim.now ∧ round16 s.tim.now < s.tciClose i)

/-- The edge comes less than 20 ns after the one before. -/
def State.tciSoon (s : State) (i : Nat) : Bool :=
  match (s.tci i).last with | some e => decide (s.tim.elapsed < e + 20 * Config.ns) | none => false

/-- The time of an edge is noted, and its stamps become `fifo`. -/
def State.tciNote (s : State) (i : Nat) (fifo : List Stamp) : State := s.setTci i ⟨fifo, some s.tim.elapsed⟩

section
variable {s : State} {i : Nat} {rising : Bool}

theorem State.tciSelects_iff : s.tciSelects i rising ↔
    (if rising then s.get (F.TIM_TCI_CTL_EDGE i) = 1 || s.get (F.TIM_TCI_CTL_EDGE i) = 3
      else s.get (F.TIM_TCI_CTL_EDGE i) = 2 || s.get (F.TIM_TCI_CTL_EDGE i) = 3 : Bool) = true := by
  unfold State.tciSelects
  cases rising <;> simp [or_comm]

theorem State.tciInside_iff : s.tciInside i ↔
    (s.flag (F.TIM_TCI_CTL_EN i) && (!s.flag (F.TIM_TCI_CTL_WIN_EN i) ||
      (decide (s.tciOpen i ≤ round16 s.tim.now) && decide (round16 s.tim.now < s.tciClose i)))) = true := by
  unfold State.tciInside
  cases s.flag (F.TIM_TCI_CTL_WIN_EN i) <;> simp

theorem State.tciEdge_unselected (h : ¬ s.tciSelects i rising) : s.tciEdge i rising = s :=
  if_pos (by rw [Bool.not_eq_true', ← Bool.not_eq_true]; exact fun hs => h (State.tciSelects_iff.2 hs))

/-- A selected edge is noted; inside the window it is stamped, or lost where it comes too soon or finds the FIFO full. -/
theorem State.tciEdge_selected (h : s.tciSelects i rising) : s.tciEdge i rising =
    if !(s.flag (F.TIM_TCI_CTL_EN i) && (!s.flag (F.TIM_TCI_CTL_WIN_EN i) ||
      (decide (s.tciOpen i ≤ round16 s.tim.now) && decide (round16 s.tim.now < s.tciClose i)))) then s.tciNote i (s.tci i).fifo
    else if s.tciSoon i || decide (16 ≤ (s.tci i).fifo.length) then (s.tciNote i (s.tci i).fifo).inc (F.TIM_TCI_LOST i)
    else ((s.tciNote i ((s.tci i).fifo ++ [⟨round16 s.tim.now, rising⟩])).inc (F.TIM_TCI_CAPTURES i)).raiseU (200 + i) :=
  if_neg (by rw [Bool.not_eq_true', Bool.not_eq_false]; exact State.tciSelects_iff.1 h)

theorem State.tciEdge_outside (h : s.tciSelects i rising) (hin : ¬ s.tciInside i) : s.tciEdge i rising = s.tciNote i (s.tci i).fifo := by
  rw [State.tciInside_iff, Bool.not_eq_true] at hin
  rw [State.tciEdge_selected h, hin, Bool.not_false, if_pos rfl]

theorem State.tciEdge_lost (h : s.tciSelects i rising) (hin : s.tciInside i)
    (hl : s.tciSoon i = true ∨ 16 ≤ (s.tci i).fifo.length) :
    s.tciEdge i rising = (s.tciNote i (s.tci i).fifo).inc (F.TIM_TCI_LOST i) := by
  rw [State.tciEdge_selected h, State.tciInside_iff.1 hin, Bool.not_true, if_neg Bool.false_ne_true, if_pos (by simpa using hl)]

theorem State.tciEdge_stamped (h : s.tciSelects i rising) (hin : s.tciInside i) (hs : s.tciSoon i = false)
    (hl : (s.tci i).fifo.length < 16) : s.tciEdge i rising =
      ((s.tciNote i ((s.tci i).fifo ++ [⟨round16 s.tim.now, rising⟩])).inc (F.TIM_TCI_CAPTURES i)).raiseU (200 + i) := by
  rw [State.tciEdge_selected h, State.tciInside_iff.1 hin, Bool.not_true, if_neg Bool.false_ne_true, if_neg (by simp [hs, hl])]

/-- An edge writes no memory, and touches no other input. -/
theorem State.tciEdge_frame (s : State) (i : Nat) (rising : Bool) :
    (s.tciEdge i rising).mem = s.mem ∧ ∀ j, j ≠ i → (s.tciEdge i rising).tci j = s.tci j := by
  by_cases hsel : s.tciSelects i rising
  · rw [State.tciEdge_selected hsel]
    split
    · exact ⟨s.setTci_mem i _, fun j hj => s.tci_setTci_other i _ hj⟩
    · split
      · exact ⟨s.setTci_mem i _, fun j hj => (State.tci_of_tim (State.inc_tim _ _) j).trans (s.tci_setTci_other i _ hj)⟩
      · exact ⟨(State.raiseU_mem _ _).trans (s.setTci_mem i _), fun j hj =>
          (State.tci_of_tim ((State.raiseU_tim _ _).trans (State.inc_tim _ _)) j).trans (s.tci_setTci_other i _ hj)⟩
  · rw [State.tciEdge_unselected hsel]
    exact ⟨rfl, fun j _ => rfl⟩

theorem State.tciEdge_lost_spec (h : s.tciSelects i rising) (hin : s.tciInside i)
    (hl : s.tciSoon i = true ∨ 16 ≤ (s.tci i).fifo.length) : ((s.tciEdge i rising).tci i).fifo = (s.tci i).fifo ∧
      (s.tciEdge i rising).get (F.TIM_TCI_LOST i) = (s.get (F.TIM_TCI_LOST i) + 1) % 2 ^ 32 := by
  rw [State.tciEdge_lost h hin hl]
  refine ⟨by rw [State.tci_of_tim (State.inc_tim _ _), State.tciNote, State.tci_setTci_same], ?_⟩
  rw [State.get_inc_same _ _ (by simp [F.TIM_TCI_LOST]), State.tciNote, State.lost_setTci]
  rfl

theorem State.tciEdge_stamped_spec (hi : i < 8) (h : s.tciSelects i rising) (hin : s.tciInside i) (hs : s.tciSoon i = false)
    (hl : (s.tci i).fifo.length < 16) : ((s.tciEdge i rising).tci i).fifo = (s.tci i).fifo ++ [⟨round16 s.tim.now, rising⟩] ∧
      (s.tciEdge i rising).get (F.TIM_TCI_LOST i) = s.get (F.TIM_TCI_LOST i) := by
  rw [State.tciEdge_stamped h hin hs hl]
  refine ⟨by rw [State.tci_of_tim ((State.raiseU_tim _ _).trans (State.inc_tim _ _)), State.tciNote, State.tci_setTci_same], ?_⟩
  rw [State.get_raiseU _ _ (by omega) (by simp only [NotEvt, F.TIM_TCI_LOST, R.TIM_TCI_LOST]; omega),
    State.get_inc_other _ _ _ (by simp only [F.TIM_TCI_LOST, F.TIM_TCI_CAPTURES, R.TIM_TCI_LOST, R.TIM_TCI_CAPTURES]; omega),
    State.tciNote, State.lost_setTci]

theorem State.tciEdge_uncaptured_spec (h : ¬ (s.tciSelects i rising ∧ s.tciInside i)) :
    ((s.tciEdge i rising).tci i).fifo = (s.tci i).fifo ∧ (s.tciEdge i rising).get (F.TIM_TCI_LOST i) = s.get (F.TIM_TCI_LOST i) := by
  by_cases hsel : s.tciSelects i rising
  · rw [State.tciEdge_outside hsel fun hin => h ⟨hsel, hin⟩, State.tciNote, State.tci_setTci_same, State.lost_setTci]
    exact ⟨rfl, rfl⟩
  · rw [State.tciEdge_unselected hsel]
    exact ⟨rfl, rfl⟩
end

/-- Settles O13. -/
theorem captureEdgeStampsOrLoses : Obligations.CaptureEdgeStampsOrLoses := by
  unfold Obligations.CaptureEdgeStampsOrLoses
  intro s dt i rising hready u
  have hcap : ((s.get (F.TIM_TCI_CTL_EDGE i) = 3 ∨ s.get (F.TIM_TCI_CTL_EDGE i) = if rising then 1 else 2) ∧
      s.flag (F.TIM_TCI_CTL_EN i) = true ∧ (s.flag (F.TIM_TCI_CTL_WIN_EN i) = true →
        s.tciOpen i ≤ round16 (s.tim.now + dt) ∧ round16 (s.tim.now + dt) < s.tciClose i)) =
      ((s.advance dt).tciSelects i rising ∧ (s.advance dt).tciInside i) := rfl
  refine ⟨State.settlesTo_of_run (exec_tciEdge s dt i rising) rfl hready, ?_, (s.advance dt).tciEdge_frame i rising⟩
  dsimp only
  rw [hcap]
  refine ⟨fun hc hl => ?_, fun hc hs hl => ?_, fun hc => ?_⟩
  · exact (State.tciEdge_lost_spec hc.1 hc.2 hl :)
  · exact (State.tciEdge_stamped_spec i.isLt hc.1 hc.2 hs hl :)
  · exact (State.tciEdge_uncaptured_spec hc :)

end Sys2Proof.Machine
end

section
/-! PROOF. The supply, the ports and the pins (R33, R35, R192, R450, R550, R554). -/

namespace Sys2Proof.Machine
open Sys2Proof

/-! ### The AVSBus (R450) -/

/-- A second failure of a frame counts, clears BUS_OK, and raises fault 135 with its CAUSE at 1. -/
theorem State.avsError_spec (s : State) :
    s.avsError.get F.GLB_AVS_BUS_ERR = (s.get F.GLB_AVS_BUS_ERR + 1) % 2 ^ 32 ∧ s.avsError.flag F.GLB_AVS_STAT_BUS_OK = false ∧
    s.avsError.flag (F.FLT_SRC_STAT_CAUSE 135) = true ∧
    s.avsError.get (F.FLT_SRC_COUNT 135) = (s.get (F.FLT_SRC_COUNT 135) + 1) % 2 ^ 32 ∧
    s.avsError.get F.GLB_AVS_STAT_VREQ = s.get F.GLB_AVS_STAT_VREQ ∧ s.avsError.mem = s.mem ∧ s.avsError.glb = s.glb := by
  unfold State.avsError
  refine ⟨?_, ?_, ?_, ?_, ?_, ?_, ?_⟩
  · rw [State.get_faultU _ _ (by decide) (by unfold NotFlt; decide), State.setCause, State.get_putB_off _ _ _ _ (by decide),
      State.get_raiseU _ _ (by decide) (by unfold NotEvt; decide), State.get_putB_off _ _ _ _ (by decide),
      State.get_inc_same _ _ (by decide)]
    rfl
  · rw [State.flag_faultU _ _ (by decide) (by unfold NotFlt; decide), State.setCause, State.flag_putB_off _ _ _ _ (by decide),
      State.flag_raiseU _ _ (by decide) (by unfold NotEvt; decide), State.flag_putB_same _ _ _ (by decide) rfl]
  · rw [State.cause_faultU _ _ (by decide), State.setCause, State.flag_putB_same _ _ _ (by decide) rfl]
  · rw [State.count_faultU _ _ (by decide), State.setCause, State.get_putB_off _ _ _ _ (by decide),
      State.get_raiseU _ _ (by decide) (by unfold NotEvt; decide), State.get_putB_off _ _ _ _ (by decide),
      State.get_inc_other _ _ _ (by decide)]
  · rw [State.get_faultU _ _ (by decide) (by unfold NotFlt; decide), State.setCause, State.get_putB_off _ _ _ _ (by decide),
      State.get_raiseU _ _ (by decide) (by unfold NotEvt; decide), State.putB,
      State.get_put_other _ _ _ _ (by decide) (by decide), State.get_inc_other _ _ _ (by decide)]
  · rw [State.faultU_mem, State.setCause_mem, State.raiseU_mem, State.putB_mem, State.inc_mem]
  · rw [State.faultU_glb, State.setCause_glb, State.raiseU_glb, State.putB_glb, State.inc_glb]

/-- Settles O33. -/
theorem avsFrameFailsTwice : Obligations.AvsFrameFailsTwice := by
  unfold Obligations.AvsFrameFailsTwice
  intro s dt hready hbusy
  refine ⟨fun hretry => ?_, fun hretry => ?_⟩
  · have hu : (s.advance dt).avsFrameDone false = { s.advance dt with glb := { s.glb with retry := true } } := by
      unfold State.avsFrameDone
      simp [hbusy, hretry]
    intro u
    refine ⟨State.settlesTo_of_run (exec_avsFrameDone s dt false) rfl hready, ?_⟩
    rw [show u = _ from hu]
    exact ⟨rfl, rfl, rfl, rfl⟩
  · have hu : (s.advance dt).avsFrameDone false =
        ({ s.advance dt with glb := { s.glb with retry := false, busy := false } }).avsError := by
      unfold State.avsFrameDone
      simp [hbusy, hretry]
    intro u
    refine ⟨State.settlesTo_of_run (exec_avsFrameDone s dt false) rfl hready, ?_⟩
    rw [show u = _ from hu]
    obtain ⟨herr, hok, hcause, hcount, hvreq, hmem, hglb⟩ :=
      State.avsError_spec { s.advance dt with glb := { s.glb with retry := false, busy := false } }
    exact ⟨hglb, herr, hok, hcause, hcount, hvreq, hmem⟩

/-! ### Uncorrectable codewords (R33, R71) -/

/-- The report of a receiver writes two of its registers. -/
theorem State.phyReport_frame (s : State) (p : Nat) : (s.phyReport p).mem = s.mem ∧
    ∀ off, off ≠ R.NET_PHY_FEC_CORR p → off ≠ R.NET_PHY_STAT p → (s.phyReport p).rd off = s.rd off := by
  unfold State.phyReport
  split
  · refine ⟨rfl, fun off hcorr hstat => ?_⟩
    dsimp only
    rw [State.rd_used, State.rd_wr_other _ _ _ _ hcorr, State.rd_used, State.rd_put_other _ _ _ _ hstat]
  · exact ⟨rfl, fun _ _ _ => rfl⟩

/-- Settles O36. -/
theorem fecErrorCounted : Obligations.FecErrorCounted := by
  unfold Obligations.FecErrorCounted
  intro s dt p lane hready
  refine ⟨fun h => ?_, fun hen hmode => ?_⟩
  · refine State.settlesTo_of_run (exec_fecUncorrectable s dt p lane) (if_neg ?_) hready
    rw [Bool.and_eq_true, decide_eq_true_eq, State.flag_advance, State.get_advance]
    rintro ⟨hen, hmode⟩
    rcases h with h | h
    · exact absurd (hen.symm.trans h) (by decide)
    · omega
  · intro u
    have hu : u = (((s.advance dt).inc (F.NET_PHY_FEC_UNCORR p)).phyReport p).faultUnit 19
        (if s.get (F.NET_PHY_CTL_MODE p) = 0 then 4 * p else 4 * p + lane) := by
      refine if_pos ?_
      rw [State.flag_advance, State.get_advance, hen, decide_eq_true hmode]
      rfl
    refine ⟨State.settlesTo_of_run (exec_fecUncorrectable s dt p lane) rfl hready, ?_⟩
    rw [hu]
    obtain ⟨hmem, hrd⟩ := State.phyReport_frame ((s.advance dt).inc (F.NET_PHY_FEC_UNCORR p)) p
    have hcorr : R.NET_PHY_FEC_UNCORR p ≠ R.NET_PHY_FEC_CORR p := by simp only [R.NET_PHY_FEC_UNCORR, R.NET_PHY_FEC_CORR]; omega
    have hstat : R.NET_PHY_FEC_UNCORR p ≠ R.NET_PHY_STAT p := by simp only [R.NET_PHY_FEC_UNCORR, R.NET_PHY_STAT]; omega
    have hflt : NotFlt (R.NET_PHY_FEC_UNCORR p) := by simp only [NotFlt, R.NET_PHY_FEC_UNCORR, R.NVM_LOG_DROPPED]; omega
    refine ⟨?_, ?_, fun off hun hco hst hnf => ?_, (State.faultUnit_mem _ _ _).trans hmem⟩
    · have hf := State.rd_faultUnit (((s.advance dt).inc (F.NET_PHY_FEC_UNCORR p)).phyReport p) 19
        (if s.get (F.NET_PHY_CTL_MODE p) = 0 then 4 * p else 4 * p + lane) _ (by decide) hflt
      refine (State.get_of_rd (f := F.NET_PHY_FEC_UNCORR p) (hf.trans (hrd _ hcorr hstat))).trans ?_
      exact State.get_inc_same _ _ (by simp [F.NET_PHY_FEC_UNCORR])
    · rw [State.count_faultUnit _ 19 _ (by decide), State.get_of_rd (f := F.FLT_SRC_COUNT 19) (hrd _
        (by simp only [F.FLT_SRC_COUNT, R.FLT_SRC_COUNT, R.NET_PHY_FEC_CORR]; omega)
        (by simp only [F.FLT_SRC_COUNT, R.FLT_SRC_COUNT, R.NET_PHY_STAT]; omega)), State.get_inc_other _ _ _
        (by simp only [F.FLT_SRC_COUNT, R.FLT_SRC_COUNT, F.NET_PHY_FEC_UNCORR, R.NET_PHY_FEC_UNCORR]; omega), State.get_advance]
    · rw [State.rd_faultUnit _ 19 _ _ (by decide) hnf, hrd off hco hst, State.rd_inc_other _ _ _ hun, State.rd_advance]

/-! ### PAUSE (R35) -/

/-- Settles O37. -/
theorem pauseEnds : Obligations.PauseEnds := by
  unfold Obligations.PauseEnds
  intro s dt l t hready hpause
  have hpaused : (s.advance dt).portPaused l = decide (s.tim.elapsed + dt < t) := by
    unfold State.portPaused
    rw [State.advance_net, hpause]
    rfl
  refine ⟨fun h => ?_, fun h => ?_⟩
  · exact State.settlesTo_of_run (exec_pauseExpiry s dt l) (if_pos (hpaused.trans (decide_eq_true h))) hready
  · intro u
    have hu : u = ({ s.advance dt with net := { s.net with pause := SMap.set (fun _ => none) s.net.pause l none } }).putB
        (F.NET_LP_STAT_PAUSED l) false :=
      if_neg (by rw [hpaused, decide_eq_true_eq]; omega)
    refine ⟨State.settlesTo_of_run (exec_pauseExpiry s dt l) rfl hready, ?_⟩
    rw [hu]
    refine ⟨?_, State.flag_putB_same _ _ _ (by simp [F.NET_LP_STAT_PAUSED]) rfl, fun k hk => ?_, fun off ho => ?_, rfl⟩
    · unfold State.portPaused
      rw [State.putB_net]
      simp
    · exact SMap.get_set_other (fun _ => none) s.net.pause l k none hk
    · rw [State.rd_putB_other _ _ _ _ ho]
      rfl

/-! ### GPIO (R554) -/

theorem testBit_eq_bitsOf (v k : Nat) : v.testBit k = decide (bitsOf v k 1 = 1) := by
  rw [Nat.testBit_eq_decide_div_mod_eq, bitsOf, Nat.pow_one]

/-- One bit of a word set to a level: that bit, and no other. -/
theorem testBit_setBits_one (v g k : Nat) (b : Bool) :
    (setBits v g 1 (if b then 1 else 0)).testBit k = if k = g then b else v.testBit k := by
  rw [testBit_eq_bitsOf, testBit_eq_bitsOf]
  by_cases h : k = g
  · rw [if_pos h, h, bitsOf_setBits_same]
    cases b <;> rfl
  · rw [if_neg h]
    rcases Nat.lt_or_gt_of_ne h with hlt | hgt
    · rw [bitsOf_setBits_below _ _ _ _ _ _ (by omega)]
    · rw [bitsOf_setBits_above _ _ _ _ _ _ (by omega)]

/-- A bit that changes its level adds or takes its weight. -/
theorem setBits_one_of_ne {v g : Nat} {b : Bool} (h : v.testBit g ≠ b) :
    setBits v g 1 (if b then 1 else 0) = if b then v + 2 ^ g else v - 2 ^ g := by
  rw [testBit_eq_bitsOf] at h
  have hlt := bitsOf_lt v g 1
  unfold setBits
  cases b
  · have hbit : bitsOf v g 1 = 1 := by simpa using h
    simp [hbit]
  · have hbit : bitsOf v g 1 = 0 := by
      have : bitsOf v g 1 ≠ 1 := by simpa using h
      omega
    simp [hbit]

/-- The levels of the balls once ball `g` has a level. -/
def gpioAfter (v g : Nat) (high : Bool) : Nat := setBits v g 1 (if high then 1 else 0)

/-- The event of a ball whose edge is selected, and its condition, change the event controller only. -/
def State.gpioTell (s : State) (g : Nat) (high : Bool) : State :=
  let s := if (s.get (F.GLB_GPIO_CTL_EDGE g)).testBit (if high then 0 else 1) then s.raise (384 + g) (if high then 1 else 0) else s
  s.setCond (384 + g) (if high then 1 else 0) high

theorem State.gpioTell_frame (s : State) (g : Nat) (high : Bool) (hg : g < 16) :
    (s.gpioTell g high).pin = s.pin ∧ (s.gpioTell g high).mem = s.mem ∧ ∀ off, NotEvt off → (s.gpioTell g high).rd off = s.rd off := by
  unfold State.gpioTell
  dsimp only
  generalize (s.get (F.GLB_GPIO_CTL_EDGE g)).testBit (if high = true then 0 else 1) = edge
  refine ⟨?_, ?_, fun off ho => ?_⟩
  · rw [State.setCond_pin]
    cases edge
    · rfl
    · exact State.raise_pin _ _ _
  · rw [State.setCond_mem]
    cases edge
    · rfl
    · exact State.raise_mem _ _ _
  · rw [State.rd_setCond _ _ _ _ _ (by omega) ho]
    cases edge
    · rfl
    · exact s.rd_raise _ _ _ (by omega) ho

/-- Ball `g` takes a level, which GLB_GPIO_IN shows. -/
def State.gpioSet (s : State) (g : Nat) (high : Bool) : State :=
  ({ s with pin := { s.pin with gpio := BitVec.ofNat 16 (gpioAfter s.pin.gpio.toNat g high) } }).put F.GLB_GPIO_IN
    (gpioAfter s.pin.gpio.toNat g high)

theorem State.gpioSet_gpio (s : State) (g : Nat) (high : Bool) :
    (s.gpioSet g high).pin.gpio = BitVec.ofNat 16 (gpioAfter s.pin.gpio.toNat g high) := rfl

theorem State.gpioEdge_of_ne {s : State} {g : Nat} {high : Bool} (h : s.pin.gpio.toNat.testBit g ≠ high) :
    s.gpioEdge g high = (s.gpioSet g high).gpioTell g high := by
  rw [State.gpioSet, gpioAfter, setBits_one_of_ne h]
  exact if_neg h

/-- Settles O35. -/
theorem gpioEdgeShowsLevel : Obligations.GpioEdgeShowsLevel := by
  unfold Obligations.GpioEdgeShowsLevel
  intro s dt g high hready
  refine ⟨fun h => ?_, fun h => ?_⟩
  · exact State.settlesTo_of_runPin (exec_gpioEdge s dt g high) (if_pos h) hready
  · intro u
    have hu : u = _ := State.gpioEdge_of_ne (s := s.advance dt) (g := g) (high := high) h
    refine ⟨State.settlesTo_of_runPin (exec_gpioEdge s dt g high) rfl hready, ?_⟩
    rw [hu]
    obtain ⟨hpin, hmem, hrd⟩ := ((s.advance dt).gpioSet g high).gpioTell_frame g high g.isLt
    refine ⟨fun k hk => ?_, ?_, hmem, fun off hoff ho => (hrd off ho).trans (State.rd_put_other _ _ _ _ hoff)⟩
    · rw [hpin, State.gpioSet_gpio, BitVec.getLsbD_ofNat, decide_eq_true hk, Bool.true_and, gpioAfter, testBit_setBits_one]
      rfl
    · rw [hpin, State.gpioSet_gpio, BitVec.toNat_ofNat]
      exact (State.get_of_rd (f := F.GLB_GPIO_IN) (hrd _ (.inl (by decide)))).trans (State.get_put_same _ _ _ (by decide))

/-! ### The Lantern alarm (R192) -/

/-- A raised alarm latches the layers of a list that ask for it. -/
def State.ltLatch (s : State) (l : List Nat) : State :=
  l.foldl (fun s c => if s.flag (F.CMP_LT_CTL_LATCH c) then s.putB (F.CMP_LT_STAT_LATCHED c) true else s) s

theorem State.ltLatch_frame (l : List Nat) (hl : ∀ c ∈ l, c < 4) : ∀ s : State, (s.ltLatch l).mem = s.mem ∧ (s.ltLatch l).cmp = s.cmp ∧
    (∀ off, (∀ c, c < 4 → off ≠ R.CMP_LT_STAT c) → (s.ltLatch l).rd off = s.rd off) := by
  induction l with
  | nil => exact fun s => ⟨rfl, rfl, fun _ _ => rfl⟩
  | cons c l ih =>
    intro s
    obtain ⟨hmem, hcmp, hrd⟩ := ih (fun k hk => hl k (List.mem_cons_of_mem c hk))
      (if s.flag (F.CMP_LT_CTL_LATCH c) then s.putB (F.CMP_LT_STAT_LATCHED c) true else s)
    refine ⟨hmem.trans ?_, hcmp.trans ?_, fun off ho => (hrd off ho).trans ?_⟩
    · split <;> rfl
    · split <;> rfl
    · split
      · exact s.rd_putB_other _ _ _ (ho c (hl c List.mem_cons_self))
      · rfl

theorem State.flag_ltLatch (l : List Nat) (hl : ∀ c ∈ l, c < 4) (d : Nat) : ∀ s : State,
    (s.ltLatch l).flag (F.CMP_LT_STAT_LATCHED d) =
      (s.flag (F.CMP_LT_STAT_LATCHED d) || (decide (d ∈ l) && s.flag (F.CMP_LT_CTL_LATCH d))) := by
  induction l with
  | nil => simp [State.ltLatch]
  | cons c l ih =>
    intro s
    have hctl (t : State) (b : Bool) : (t.putB (F.CMP_LT_STAT_LATCHED c) b).flag (F.CMP_LT_CTL_LATCH d) = t.flag (F.CMP_LT_CTL_LATCH d) := by
      have hc := hl c List.mem_cons_self
      exact State.flag_putB_off _ _ _ _ (by simp only [F.CMP_LT_CTL_LATCH, F.CMP_LT_STAT_LATCHED, R.CMP_LT_CTL, R.CMP_LT_STAT]; omega)
    have hstep := ih (fun k hk => hl k (List.mem_cons_of_mem c hk))
      (if s.flag (F.CMP_LT_CTL_LATCH c) then s.putB (F.CMP_LT_STAT_LATCHED c) true else s)
    refine Eq.trans hstep ?_
    by_cases hdc : d = c
    · subst hdc
      cases hlatch : s.flag (F.CMP_LT_CTL_LATCH d)
      · simp [hlatch]
      · simp [hctl, hlatch, State.flag_putB_same s (F.CMP_LT_STAT_LATCHED d) true (by simp [F.CMP_LT_STAT_LATCHED]) rfl]
    · have hother : (s.putB (F.CMP_LT_STAT_LATCHED c) true).flag (F.CMP_LT_STAT_LATCHED d) = s.flag (F.CMP_LT_STAT_LATCHED d) :=
        State.flag_putB_off _ _ _ _ (by simp only [F.CMP_LT_STAT_LATCHED, R.CMP_LT_STAT]; omega)
      split <;> simp [hdc, hctl, hother]

/-- The alarm takes the level of its pin, with event 150 and its condition. -/
def State.ltAlarm (s : State) : State :=
  ((s.putB F.CMP_GLB_LT_PIN_ALARM s.cmp.ltLow).raiseU 150).setCond 150 s.unstated s.cmp.ltLow

theorem State.frame_ltAlarm (s : State) : s.ltAlarm.mem = s.mem ∧ s.ltAlarm.cmp = s.cmp ∧
    ∀ off, NotEvt off → s.ltAlarm.rd off = (s.putB F.CMP_GLB_LT_PIN_ALARM s.cmp.ltLow).rd off := by
  unfold State.ltAlarm
  refine ⟨by rw [State.setCond_mem, State.raiseU_mem, State.putB_mem], by rw [State.setCond_cmp, State.raiseU_cmp, State.putB_cmp], fun off ho => ?_⟩
  rw [State.rd_setCond _ _ _ _ _ (by decide) ho, State.rd_raiseU _ _ _ (by decide) ho]

theorem State.lanternFilter_of_due {s : State} (h : ¬ (s.cmp.ltLow = s.flag F.CMP_GLB_LT_PIN_ALARM ∨ s.tim.elapsed < s.cmp.ltEdge + Config.ms)) :
    s.lanternFilter = if s.cmp.ltLow then s.ltAlarm.ltLatch (List.range 4) else s.ltAlarm := by
  have hlow : s.ltAlarm.cmp.ltLow = s.cmp.ltLow := by rw [s.frame_ltAlarm.2.1]
  have hdue : s.lanternFilter = if s.ltAlarm.cmp.ltLow then s.ltAlarm.ltLatch (List.range 4) else s.ltAlarm := if_neg h
  rw [hdue, hlow]

/-- Settles O43. -/
theorem lanternAlarmFollowsPin : Obligations.LanternAlarmFollowsPin := by
  unfold Obligations.LanternAlarmFollowsPin
  intro s dt hready
  refine ⟨fun h => State.settlesTo_of_run (exec_lanternAlarmFilter s dt) (if_pos h) hready, fun hne hms => ?_⟩
  intro u
  have hu : u = _ := State.lanternFilter_of_due (s := s.advance dt) (not_or.2 ⟨hne, Nat.not_lt_of_le hms⟩)
  refine ⟨State.settlesTo_of_run (exec_lanternAlarmFilter s dt) rfl hready, ?_⟩
  rw [hu]
  obtain ⟨hmem, hcmp, hrd⟩ := (s.advance dt).frame_ltAlarm
  obtain ⟨hmem', hcmp', hrd'⟩ := State.ltLatch_frame (List.range 4) (fun c => List.mem_range.1) (s.advance dt).ltAlarm
  have halarm : (s.advance dt).ltAlarm.flag F.CMP_GLB_LT_PIN_ALARM = s.cmp.ltLow :=
    (State.flag_of_rd (hrd _ (.inr (by decide)))).trans (State.flag_putB_same _ _ _ (by decide) rfl)
  have hlatch (c : Nat) (hc : c < 4) : (s.advance dt).ltAlarm.flag (F.CMP_LT_CTL_LATCH c) = s.flag (F.CMP_LT_CTL_LATCH c) := by
    refine (State.flag_of_rd (hrd _ (.inr ?_))).trans (State.flag_putB_off _ _ _ _ ?_)
    · simp only [F.CMP_LT_CTL_LATCH, R.CMP_LT_CTL]; omega
    · simp only [F.CMP_LT_CTL_LATCH, R.CMP_LT_CTL, F.CMP_GLB_LT_PIN_ALARM, R.CMP_GLB_LT_PIN]; omega
  have hlatched (c : Nat) (hc : c < 4) : (s.advance dt).ltAlarm.flag (F.CMP_LT_STAT_LATCHED c) = s.flag (F.CMP_LT_STAT_LATCHED c) := by
    refine (State.flag_of_rd (hrd _ (.inr ?_))).trans (State.flag_putB_off _ _ _ _ ?_)
    · simp only [F.CMP_LT_STAT_LATCHED, R.CMP_LT_STAT]; omega
    · simp only [F.CMP_LT_STAT_LATCHED, R.CMP_LT_STAT, F.CMP_GLB_LT_PIN_ALARM, R.CMP_GLB_LT_PIN]; omega
  rw [State.advance_cmp]
  cases hlow : s.cmp.ltLow with
  | false => exact ⟨halarm.trans hlow, fun c => by simpa using hlatched c c.isLt, hmem, hcmp⟩
  | true =>
    refine ⟨?_, fun c => ?_, hmem'.trans hmem, hcmp'.trans hcmp⟩
    · refine (State.flag_of_rd (hrd' _ fun c hc => ?_)).trans (halarm.trans hlow)
      simp only [F.CMP_GLB_LT_PIN_ALARM, R.CMP_GLB_LT_PIN, R.CMP_LT_STAT]; omega
    · rw [if_pos rfl, State.flag_ltLatch _ (fun c => List.mem_range.1) c, hlatched c c.isLt, hlatch c c.isLt,
        decide_eq_true (List.mem_range.2 c.isLt)]

end Sys2Proof.Machine
end

section
/-! PROOF. The TAP (R508, R550). -/

namespace Sys2Proof.Machine
open Sys2Proof

/-- A register into which bits have been shifted holds them at its top, and above its bottom what was above them. -/
theorem testBit_shiftIn {n : Nat} (hn : 0 < n) (l : List Bool) : ∀ v : Nat, v < 2 ^ n → l.length ≤ n → ∀ k, k < n →
    (shiftIn n l v).testBit k = if k + l.length < n then v.testBit (k + l.length) else l.getD (k + l.length - n) false := by
  obtain ⟨m, rfl⟩ := Nat.exists_eq_succ_of_ne_zero (Nat.ne_of_gt hn)
  induction l with
  | nil =>
    intro v hv _ k hk
    rw [shiftIn, List.length_nil, Nat.add_zero, if_pos hk]
  | cons b r ih =>
    intro v hv hlen k hk
    rw [List.length_cons] at hlen
    have hhalf : v / 2 < 2 ^ m := by rw [Nat.pow_succ] at hv; omega
    have hnew : v / 2 + (if b then 2 ^ m else 0) = 2 ^ m * b.toNat + v / 2 := by
      cases b <;> simp [Nat.add_comm]
    have hlt : v / 2 + (if b then 2 ^ m else 0) < 2 ^ (m + 1) := by
      rw [Nat.pow_succ]
      split <;> omega
    have hbit (j : Nat) : (v / 2 + (if b then 2 ^ m else 0)).testBit j = if j < m then v.testBit (j + 1) else b.toNat.testBit (j - m) := by
      rw [hnew, Nat.testBit_two_pow_mul_add _ hhalf, ← Nat.testBit_succ]
    rw [shiftIn, Nat.succ_sub_one, ih _ hlt (by omega) k hk, hbit, List.length_cons]
    rcases Nat.lt_trichotomy (k + r.length) m with hlo | hat | hhi
    · rw [if_pos (by omega), if_pos hlo, if_pos (by omega), Nat.add_assoc]
    · have hz : k + (r.length + 1) - m.succ = 0 := by omega
      rw [if_pos (by omega), if_neg (by omega), if_neg (by omega), hat, Nat.sub_self, hz]
      cases b <;> rfl
    · have hs : k + (r.length + 1) - m.succ = (k + r.length - m.succ) + 1 := by omega
      rw [if_neg (by omega), if_neg (by omega), hs, List.getD_cons_succ]

theorem testBit_shiftIn_whole {n : Nat} {l : List Bool} (h : l.length = n) (v : Nat) {k : Nat} (hk : k < n) :
    (shiftIn n l (v % 2 ^ n)).testBit k = l.getD k false := by
  rw [testBit_shiftIn (by omega) l _ (Nat.mod_lt _ (Nat.two_pow_pos n)) (Nat.le_of_eq h) k hk, h, if_neg (by omega), Nat.add_sub_cancel]

/-- A whole scan replaces the boundary register by what is shifted in. -/
theorem State.boundary_scanBoundary (s : State) (ir cap : Nat) (drive : Bool) (bits : List Bool) (h : bits.length = 2202) (k : Nat)
    (hk : k < 2202) : (s.scanBoundary ir cap drive bits).pin.boundary.getLsbD k = bits.getD k false := by
  refine Eq.trans ?_ (testBit_shiftIn_whole h cap hk)
  rw [State.scanBoundary, BitVec.getLsbD_ofNat, decide_eq_true hk, Bool.true_and]

theorem State.timed_frame (s : State) (dt : Nat) : (s.timed dt).pin = s.pin ∧ (s.timed dt).regs = s.regs ∧ (s.timed dt).mem = s.mem := by
  unfold State.timed
  split <;> exact ⟨rfl, rfl, rfl⟩

/-- Settles O34. -/
theorem tapInstructions : Obligations.TapInstructions := by
  unfold Obligations.TapInstructions
  intro s dt bit pins bits hready
  obtain ⟨hpin, hregs, hmem⟩ := s.timed_frame dt
  refine ⟨⟨_, State.next_of_tap (exec_idcode s dt) rfl hready, ?_⟩, ⟨_, State.next_of_tap (exec_testLogicReset s dt) rfl hready, ?_⟩,
    ⟨_, State.next_of_tap (exec_highz s dt) rfl hready, ?_⟩, ⟨_, State.next_of_tap (exec_clamp s dt) rfl hready, ?_⟩,
    ⟨_, State.next_of_tap (exec_bypass s dt bit) rfl hready, ?_⟩, ⟨_, State.next_of_tap (exec_samplePreload s dt pins bits) rfl hready, ?_⟩,
    ⟨_, State.next_of_tap (exec_extest s dt bits) rfl hready, ?_⟩⟩
  · rw [← hpin, ← hregs, ← hmem]; exact ⟨rfl, rfl, rfl⟩
  · rw [← hpin, ← hregs, ← hmem]; exact ⟨rfl, rfl, rfl⟩
  · rw [← hpin, ← hregs, ← hmem]; exact ⟨rfl, rfl, rfl⟩
  · rw [← hpin, ← hregs, ← hmem]; exact ⟨rfl, rfl, rfl⟩
  · rw [← hpin, ← hregs, ← hmem]; exact ⟨rfl, rfl, rfl⟩
  · exact ⟨rfl, rfl, rfl, hregs, hmem, fun h k hk => State.boundary_scanBoundary _ _ _ _ _ h k hk⟩
  · exact ⟨rfl, rfl, hregs, hmem, fun h k hk => State.boundary_scanBoundary _ _ _ _ _ h k hk⟩

end Sys2Proof.Machine
end

section
/-! PROOF. DMA request lines (R379), the arithmetic of the Almanac (R403), sessions and the lock (R326, R335), fuse steps (R497) and
record writes (R482). -/

namespace Sys2Proof.Machine
open Sys2Proof

/-! ### Internal request lines (R379) -/

theorem State.linePend_internal (s : State) {l : Nat} (h : l < 256) : s.linePend l = SMap.get (fun _ => 0) s.dma.lines l := if_pos h

/-- The register of a line shows it, and is none of the counts. -/
theorem State.lineShow_frame (s : State) {l : Nat} (h : l < 256) : (s.lineShow l).dma = s.dma ∧ (s.lineShow l).mem = s.mem ∧
    (s.lineShow l).evt = s.evt ∧ (s.lineShow l).get F.DMA_GLB_REQ_LOST = s.get F.DMA_GLB_REQ_LOST :=
  ⟨rfl, rfl, rfl, State.get_put_off _ _ _ _ (by simp only [F.DMA_GLB_REQ_LOST, F.DMA_GLB_REQ_PEND, R.DMA_GLB_REQ_LOST, R.DMA_GLB_REQ_PEND]; omega)⟩

/-- Settles O25. -/
theorem dmaLineCountsRequests : Obligations.DmaLineCountsRequests := by
  unfold Obligations.DmaLineCountsRequests
  intro s dt line hready hline u
  have hcmd : u = (s.advance dt).lineRequest line := if_pos hline
  have hpend : (s.advance dt).linePend line = s.linePend line := by
    rw [State.linePend_internal _ hline, State.linePend_internal _ hline]; rfl
  refine ⟨State.settlesTo_of_run (exec_requestLine s dt line) rfl hready, ?_⟩
  rw [hcmd]
  rcases Nat.lt_or_ge (s.linePend line) 255 with hlt | hge
  · have hu : (s.advance dt).lineRequest line =
        ({ s.advance dt with dma := { s.dma with lines := SMap.set (fun _ => 0) s.dma.lines line (s.linePend line + 1) } }).lineShow line := by
      unfold State.lineRequest
      rw [hpend, if_neg (by omega)]
      rfl
    rw [hu]
    obtain ⟨hdma, hmem, hevt, hlost⟩ := State.lineShow_frame
      { s.advance dt with dma := { s.dma with lines := SMap.set (fun _ => 0) s.dma.lines line (s.linePend line + 1) } } hline
    refine ⟨fun _ => ⟨?_, hlost⟩, fun h => absurd h (by omega), fun k hk hne => ?_, hmem, hevt⟩
    · rw [State.linePend_internal _ hline, hdma, SMap.get_set_same]
    · rw [State.linePend_internal _ hk, State.linePend_internal _ hk, hdma]
      exact SMap.get_set_other (fun _ => 0) s.dma.lines line k (s.linePend line + 1) hne
  · have hu : (s.advance dt).lineRequest line = (s.advance dt).inc F.DMA_GLB_REQ_LOST := by
      unfold State.lineRequest
      rw [hpend, if_pos hge]
    rw [hu]
    refine ⟨fun h => absurd h (by omega), fun _ => ⟨?_, State.get_inc_same _ _ (by decide)⟩, fun k hk _ => ?_, rfl, rfl⟩
    · rw [State.linePend_internal _ hline, State.linePend_internal _ hline]; rfl
    · rw [State.linePend_internal _ hk, State.linePend_internal _ hk]; rfl

/-! ### The arithmetic of the Almanac (R403) -/

theorem almG_ne_stat (q : Fin 4) {i : Nat} (hi : i < 16) : R.ALM_SEQ_G q i ≠ R.ALM_SEQ_STAT q := by
  simp only [R.ALM_SEQ_G, R.ALM_SEQ_STAT]; omega

section
variable (s : State) (q : Fin 4)

/-- A general register is set, and Z with the other fields of the state stays. -/
theorem State.setAlmG_spec {i : Nat} (v : Nat) (hi : i < 16) : (s.setAlmG q i v).almG q i = v % 2 ^ 32 ∧
    (s.setAlmG q i v).flag (F.ALM_SEQ_STAT_Z q) = s.flag (F.ALM_SEQ_STAT_Z q) :=
  ⟨by rw [State.almG, State.setAlmG, State.rd_wr_same, Nat.mod_mod], State.flag_wr_off _ _ _ _ (almG_ne_stat q hi).symm⟩

theorem State.setZ_spec {i : Nat} (b : Bool) (hi : i < 16) : (s.setZ q b).almG q i = s.almG q i ∧
    (s.setZ q b).flag (F.ALM_SEQ_STAT_Z q) = b :=
  ⟨State.rd_putB_other _ _ _ _ (almG_ne_stat q hi), State.flag_putB_same _ _ _ (by simp [F.ALM_SEQ_STAT_Z]) rfl⟩

/-- A result goes to its register, and whether it is 0 to Z. -/
theorem State.almResult_spec {i : Nat} (v : Nat) (hi : i < 16) : (s.almResult q i v).almG q i = v % 2 ^ 32 ∧
    (s.almResult q i v).flag (F.ALM_SEQ_STAT_Z q) = decide (v % 2 ^ 32 = 0) := by
  obtain ⟨hg, hz⟩ := (s.setAlmG q i (v % 2 ^ 32)).setZ_spec q (decide (v % 2 ^ 32 = 0)) hi
  exact ⟨hg.trans (by rw [(s.setAlmG_spec q _ hi).1, Nat.mod_mod]), hz⟩

theorem State.setAlmG_frame (i v : Nat) : (∀ off, off ≠ R.ALM_SEQ_G q i → off ≠ R.ALM_SEQ_STAT q → (s.setAlmG q i v).rd off = s.rd off) ∧
    s.setAlmG q i v = { s with regs := (s.setAlmG q i v).regs } :=
  ⟨fun _ hg _ => s.rd_wr_other _ _ _ hg, rfl⟩

theorem State.setZ_frame (i : Nat) (b : Bool) : (∀ off, off ≠ R.ALM_SEQ_G q i → off ≠ R.ALM_SEQ_STAT q → (s.setZ q b).rd off = s.rd off) ∧
    s.setZ q b = { s with regs := (s.setZ q b).regs } :=
  ⟨fun _ _ hs => s.rd_putB_other _ _ _ hs, rfl⟩

theorem State.almResult_frame (i v : Nat) :
    (∀ off, off ≠ R.ALM_SEQ_G q i → off ≠ R.ALM_SEQ_STAT q → (s.almResult q i v).rd off = s.rd off) ∧
      s.almResult q i v = { s with regs := (s.almResult q i v).regs } :=
  ⟨fun _ hg hs => (State.rd_putB_other _ _ _ _ hs).trans (s.rd_wr_other _ _ _ hg), rfl⟩
end

/-- Settles O26. -/
theorem almanacArithmetic : Obligations.AlmanacArithmetic := by
  unfold Obligations.AlmanacArithmetic
  intro s q m ha hb himm go z
  have h4 : go 4 = s.setAlmG q m.ra m.imm := rfl
  have h5 : go 5 = s.almResult q m.ra (s.almG q m.ra + m.imm) := rfl
  have h6 : go 6 = s.almResult q m.ra (s.almG q m.ra + s.almG q m.rb) := rfl
  have h7 : go 7 = s.almResult q m.ra (s.almG q m.ra &&& m.imm) := rfl
  have h8 : go 8 = s.setZ q (decide (s.almG q m.ra &&& m.mask = m.imm)) := rfl
  have hand : (s.almG q m.ra &&& m.imm) % 2 ^ 32 = s.almG q m.ra &&& m.imm :=
    Nat.mod_eq_of_lt (Nat.lt_of_le_of_lt Nat.and_le_right himm)
  obtain ⟨hg4, hz4⟩ := s.setAlmG_spec q m.imm ha
  obtain ⟨hg5, hz5⟩ := s.almResult_spec q (s.almG q m.ra + m.imm) ha
  obtain ⟨hg6, hz6⟩ := s.almResult_spec q (s.almG q m.ra + s.almG q m.rb) ha
  obtain ⟨hg7, hz7⟩ := s.almResult_spec q (s.almG q m.ra &&& m.imm) ha
  obtain ⟨hg8, hz8⟩ := s.setZ_spec q (decide (s.almG q m.ra &&& m.mask = m.imm)) ha
  rw [Nat.mod_eq_of_lt himm] at hg4
  rw [hand] at hg7 hz7
  rw [h4, h5, h6, h7, h8]
  refine ⟨hg4, hz4, hg5, hz5, hg6, hz6, hg7, hz7, hg8, hz8, fun op hop => ?_⟩
  simp only [List.mem_cons, List.not_mem_nil, or_false] at hop
  rcases hop with rfl | rfl | rfl | rfl | rfl
  · exact s.setAlmG_frame q m.ra _
  · exact s.almResult_frame q m.ra _
  · exact s.almResult_frame q m.ra _
  · exact s.almResult_frame q m.ra _
  · exact s.setZ_frame q m.ra _

/-! ### The end of a lease (R335) -/

/-- The registers of the lock show who holds it. -/
theorem State.held_lockShow (s : State) : s.lockShow.flag F.SEC_CP_LOCK_HELD = s.ctl.lock.holder.isSome := by
  unfold State.lockShow
  dsimp only
  rw [State.flag_wr_off _ _ _ _ (by decide), State.flag_wr_off _ _ _ _ (by decide), State.flag_wr_off _ _ _ _ (by decide),
    State.flag_put_beside _ _ _ _ (by decide) (by decide), State.flag_put_beside _ _ _ _ (by decide) (by decide),
    State.flag_putB_same _ _ _ (by decide) rfl]

theorem State.lockShow_frame (s : State) : s.lockShow.ctl = s.ctl ∧ s.lockShow.mem = s.mem ∧ s.lockShow.tim = s.tim := by
  unfold State.lockShow
  dsimp only
  refine ⟨?_, ?_, ?_⟩
  · rw [State.wr_ctl, State.wr_ctl, State.wr_ctl, State.put_ctl, State.put_ctl, State.putB_ctl]
  · rw [State.wr_mem, State.wr_mem, State.wr_mem, State.put_mem, State.put_mem, State.putB_mem]
  · rw [State.wr_tim, State.wr_tim, State.wr_tim, State.put_tim, State.put_tim, State.putB_tim]

theorem State.count_lockShow (s : State) : s.lockShow.get (F.FLT_SRC_COUNT 96) = s.get (F.FLT_SRC_COUNT 96) := by
  unfold State.lockShow
  dsimp only
  rw [State.get_wr_off _ _ _ _ (by decide), State.get_wr_off _ _ _ _ (by decide), State.get_wr_off _ _ _ _ (by decide),
    State.get_put_off _ _ _ _ (by decide), State.get_put_off _ _ _ _ (by decide), State.get_putB_off _ _ _ _ (by decide)]

/-- With no COMMIT under check the lock is freed by itself. -/
theorem State.lockFree_of_no_checks {s : State} (h : s.cmp.checks = []) :
    s.lockFree = s.setLock { s.ctl.lock with holder := none, staged := [] } := by
  have hcmp : ({ s.cmp with checks := [] } : CmpState) = s.cmp := by
    rw [← h]
  have hdrop : s.dropChecks = s := by
    unfold State.dropChecks
    rw [h, hcmp]
    rfl
  rw [State.lockFree, hdrop]

/-- What the end of the lock leaves, with no COMMIT under check. -/
theorem State.lockBreak_spec {s : State} (h : s.cmp.checks = []) :
    s.lockBreak.ctl = { s.ctl with lock := { s.ctl.lock with holder := none, staged := [] } } ∧ s.lockBreak.mem = s.mem ∧
    s.lockBreak.tim = s.tim ∧ s.lockBreak.flag F.SEC_CP_LOCK_HELD = false ∧
    s.lockBreak.get (F.FLT_SRC_COUNT 96) = (s.get (F.FLT_SRC_COUNT 96) + 1) % 2 ^ 32 := by
  obtain ⟨hctl, hmem, htim⟩ :=
    State.lockShow_frame { s with ctl := { s.ctl with lock := { s.ctl.lock with holder := none, staged := [] } } }
  unfold State.lockBreak
  rw [State.lockFree_of_no_checks h, State.setLock]
  refine ⟨?_, ?_, ?_, ?_, ?_⟩
  · rw [State.faultU_ctl, State.raiseU_ctl, State.inc_ctl, hctl]
  · rw [State.faultU_mem, State.raiseU_mem, State.inc_mem, hmem]
  · rw [State.faultU_tim, State.raiseU_tim, State.inc_tim, htim]
  · rw [State.flag_faultU _ _ (by decide) (by unfold NotFlt; decide), State.flag_raiseU _ _ (by decide) (by unfold NotEvt; decide),
      State.flag_inc_other _ _ _ (by decide), State.held_lockShow]
    rfl
  · rw [State.count_faultU _ _ (by decide), State.get_raiseU _ _ (by decide) (by unfold NotEvt; decide),
      State.get_inc_other _ _ _ (by decide), State.count_lockShow]
    rfl

/-- Settles O29. -/
theorem leaseExpiryBreaksLock : Obligations.LeaseExpiryBreaksLock := by
  unfold Obligations.LeaseExpiryBreaksLock
  intro s dt hready
  refine ⟨fun h => ?_, fun i hholder hexp hchecks => ?_⟩
  · refine State.settlesTo_of_run (exec_leaseExpiry s dt) (if_neg ?_) hready
    rw [State.advance_ctl, State.advance_now, Bool.and_eq_true, decide_eq_true_eq]
    rintro ⟨hsome, hle⟩
    rcases h with h | h
    · rw [h] at hsome
      exact nomatch hsome
    · omega
  · intro u
    have hu : u = (s.advance dt).lockBreak := by
      refine if_pos ?_
      rw [State.advance_ctl, State.advance_now, hholder, decide_eq_true hexp]
      rfl
    refine ⟨State.settlesTo_of_run (exec_leaseExpiry s dt) rfl hready, ?_⟩
    rw [hu]
    obtain ⟨hctl, hmem, htim, hheld, hcount⟩ := State.lockBreak_spec (s := s.advance dt) hchecks
    rw [hctl]
    exact ⟨rfl, rfl, rfl, hheld, hcount, hmem, htim⟩

/-! ### Messages outside the window (R326) -/

/-- Settles O30. -/
theorem messageOutsideWindowDropped : Obligations.MessageOutsideWindowDropped := by
  unfold Obligations.MessageOutsideWindowDropped
  intro s i seq req _ hopen hrelayed hrx hseq u
  have hconsume : s.consumeRx (ownSession i) = s := by rw [State.consumeRx, hrx]; rfl
  have hu : u = (s.setSess i { s.sess i with lastAccept := s.tim.elapsed }).inc (F.SEC_SESS_DROPPED i) := by
    show s.sessMsg i seq true req = _
    unfold State.sessMsg
    dsimp only
    rw [hconsume, hopen, hrelayed, if_neg (by decide), if_neg (by decide), if_neg (by omega), if_neg (by omega)]
  rw [hu]
  refine ⟨State.get_inc_same _ _ (by simp [F.SEC_SESS_DROPPED]), fun off ho => State.rd_inc_other _ _ _ ho, rfl, ?_, rfl, rfl, rfl⟩
  rw [State.sess, State.inc_ctl, State.setSess, SMap.get_set_same]

/-! ### Fuse steps (R497) -/

theorem State.fuseEnd_spec (s : State) (status : Nat) : (s.fuseEnd status).fuse = s.fuse ∧ (s.fuseEnd status).mem = s.mem ∧
    (s.fuseEnd status).sec.advance = none ∧ (s.fuseEnd status).flag F.SEC_FUSE_STAT_BUSY = false ∧
    (s.fuseEnd status).get F.SEC_FUSE_STAT_STATUS = status % 2 ^ 16 ∧
    (s.fuseEnd status).get (F.FLT_SRC_COUNT 145) = s.get (F.FLT_SRC_COUNT 145) := by
  unfold State.fuseEnd
  refine ⟨rfl, rfl, rfl, ?_, State.get_put_same _ _ _ (by decide), ?_⟩
  · rw [State.flag_put_beside _ _ _ _ (by decide) (by decide), State.flag_putB_same _ _ _ (by decide) rfl]
  · rw [State.get_put_off _ _ _ _ (by decide), State.get_putB_off _ _ _ _ (by decide)]
    rfl

/-- The fuses after one more step, with the register that shows them. -/
def State.fuseBlown (s : State) : State := { s with fuse := { s.fuse with steps := s.fuse.steps + 1 } }.wr R.SEC_ARB_FUSE (s.fuse.steps + 1)

/-- Settles O31. -/
theorem fuseStepBlowsOrFails : Obligations.FuseStepBlowsOrFails := by
  unfold Obligations.FuseStepBlowsOrFails
  intro s dt goal hready hgoal
  refine ⟨?_, ?_⟩
  · intro u
    have hu : u = if goal ≤ s.fuse.steps + 1 then (((s.advance dt).fuseBlown).fuseEnd 0).raise 356 (s.fuse.steps + 1)
        else (s.advance dt).fuseBlown := by
      show (s.advance dt).fuseStep true = _
      unfold State.fuseStep
      rw [State.advance_sec, hgoal]
      rfl
    refine ⟨State.settlesTo_of_run (exec_fuseStepDone s dt true) rfl hready, ?_⟩
    rw [hu]
    by_cases h : goal ≤ s.fuse.steps + 1
    · obtain ⟨hfuse, hmem, hadv, hbusy, hstatus, -⟩ := (s.advance dt).fuseBlown.fuseEnd_spec 0
      rw [if_pos h, State.raise_fuse, State.raise_sec, State.raise_mem, hfuse, hmem, hadv]
      refine ⟨rfl, fun _ => ⟨rfl, ?_, ?_⟩, fun hlt => absurd h (by omega), rfl, rfl⟩
      · exact (State.flag_of_rd (State.rd_raise _ _ _ _ (by decide) (.inr (by decide)))).trans hbusy
      · exact (State.get_of_rd (State.rd_raise _ _ _ _ (by decide) (.inr (by decide)))).trans hstatus
    · rw [if_neg h]
      exact ⟨rfl, fun hle => absurd hle h, fun _ => ⟨hgoal, State.flag_wr_off _ _ _ _ (by decide)⟩, rfl, rfl⟩
  · intro u
    have hu : u = ((s.advance dt).fuseEnd 0x136).faultU 145 := by
      show (s.advance dt).fuseStep false = _
      unfold State.fuseStep
      rw [State.advance_sec, hgoal]
      rfl
    refine ⟨State.settlesTo_of_run (exec_fuseStepDone s dt false) rfl hready, ?_⟩
    rw [hu]
    obtain ⟨hfuse, hmem, hadv, hbusy, hstatus, hcount⟩ := (s.advance dt).fuseEnd_spec 0x136
    refine ⟨(State.faultU_fuse _ _).trans hfuse, ?_, ?_, ?_, ?_, (State.faultU_mem _ _).trans hmem⟩
    · rw [State.faultU_sec, hadv]
    · rw [State.flag_faultU _ _ (by decide) (by unfold NotFlt; decide), hbusy]
    · exact (State.get_faultU _ _ (by decide) (by unfold NotFlt; decide)).trans hstatus
    · rw [State.count_faultU _ _ (by decide), hcount, State.get_advance]

/-! ### Record writes (R482) -/

/-- A write to the device of chip select 1 changes its bytes only. -/
theorem State.cs1Write_eq (l : List Byte) : ∀ (s : State) (a : Nat), ∃ m, s.cs1Write a l = { s with nvm := { s.nvm with cs1 := m } } := by
  induction l with
  | nil => exact fun s _ => ⟨s.nvm.cs1, rfl⟩
  | cons b r ih =>
    intro s a
    obtain ⟨m, h⟩ := ih { s with nvm := { s.nvm with cs1 := SMap.set (fun _ => (0 : Byte)) s.nvm.cs1 a b } } (a + 1)
    exact ⟨m, by rw [State.cs1Write, h]⟩

/-- The 20 ms since the write before have passed. -/
def State.recLate (s : State) : Bool :=
  match s.nvm.lastWrite with | none => true | some t => decide (t + 20 * Config.ms ≤ s.tim.elapsed)

/-- A record of kind 4 alone does not wait for its spacing (R497). -/
theorem State.recWriteStart_early {s : State} (hkind : ∀ j ∈ s.nvm.persist, j.kind ≠ 4) (h : s.recLate = false) : s.recWriteStart = s := by
  unfold State.recWriteStart
  dsimp only
  split
  · next j _ hfind =>
    have hlate := List.find?_some hfind
    rw [decide_eq_false (hkind j (List.mem_of_find?_eq_some hfind)), Bool.false_or] at hlate
    unfold State.recLate at h
    split at h
    · exact nomatch h
    · next t ht =>
      rw [ht] at hlate
      exact absurd (h.symm.trans hlate) (by decide)
  · rfl

/-- The oldest record that waits is written once its spacing has passed. -/
theorem State.recWriteStart_late {s : State} {j : PersistJob} {rest : List PersistJob} (hw : s.nvm.writing = none)
    (hp : s.nvm.persist = j :: rest) (hkind : j.kind ≠ 4) (h : s.recLate = true) :
    ∃ a, s.recWriteStart = ({ s with nvm := { s.nvm with persist := rest, writing := some (j, a), lastWrite := some s.tim.elapsed } }).cs1Write
      (a + 252) [0, 0, 0, 0] := by
  refine ⟨recAddr j.kind j.record (s.recTarget j.kind j.record), ?_⟩
  unfold State.recLate at h
  unfold State.recWriteStart
  cases hl : s.nvm.lastWrite with
  | none => simp [hw, hp, hkind]
  | some t =>
    rw [hl] at h
    have hle : t + 20 * Config.ms ≤ s.tim.elapsed := of_decide_eq_true h
    simp [hw, hp, hkind, hle]

/-- Settles O32. -/
theorem recordWritesAreSpaced : Obligations.RecordWritesAreSpaced := by
  unfold Obligations.RecordWritesAreSpaced
  intro s dt hready hw hkind
  refine ⟨fun t ht hearly => ?_, fun j rest hp hdue => ?_⟩
  · refine State.settlesTo_of_run (exec_recordWriteStart s dt) (State.recWriteStart_early hkind ?_) hready
    unfold State.recLate
    rw [State.advance_nvm, ht]
    exact decide_eq_false (by rw [State.advance_elapsed]; omega)
  · intro u
    have hlate : (s.advance dt).recLate = true := by
      unfold State.recLate
      rw [State.advance_nvm]
      rcases hdue with h | ⟨t, h, hle⟩
      · rw [h]
      · rw [h]
        exact decide_eq_true hle
    obtain ⟨a, hu⟩ := State.recWriteStart_late (s := s.advance dt) hw hp (hkind j (hp ▸ List.mem_cons_self)) hlate
    obtain ⟨m, hcs1⟩ := State.cs1Write_eq [0, 0, 0, 0] { s.advance dt with
      nvm := { s.nvm with persist := rest, writing := some (j, a), lastWrite := some (s.tim.elapsed + dt) } } (a + 252)
    refine ⟨State.settlesTo_of_run (exec_recordWriteStart s dt) rfl hready, ?_⟩
    rw [show u = _ from hu.trans hcs1]
    exact ⟨⟨a, rfl⟩, rfl, rfl, rfl, rfl, rfl⟩

end Sys2Proof.Machine
end

section
/-! PROOF. The arbiters of the memory fabric: the cut-off (R313) and the way of a DRAM request (R293, R299, R311, R312). -/

namespace Sys2Proof.Machine
open Sys2Proof

/-! ### The operations of an arbiter -/

section
variable (s : State)

/-- The check for a drained arbiter changes its DRAINED bit and the event controller. -/
theorem State.drainCheck_frame (a : Nat) : (s.drainCheck a).memc = s.memc ∧ (s.drainCheck a).mem = s.mem ∧
    (s.drainCheck a).memEpoch = s.memEpoch ∧ (s.drainCheck a).tim = s.tim := by
  unfold State.drainCheck
  split
  · exact ⟨State.raiseU_memc _ _, State.raiseU_mem _ _, State.raiseU_memEpoch _ _, State.raiseU_tim _ _⟩
  · exact ⟨rfl, rfl, rfl, rfl⟩

theorem State.get_drainCheck (a : Nat) {f : Fld} (hevt : NotEvt f.off) (hf : f.off ≠ R.ARB_STAT a ∨ 1 ≤ f.lo) :
    (s.drainCheck a).get f = s.get f := by
  unfold State.drainCheck
  split
  · rw [State.get_raiseU _ _ (by decide) hevt]
    exact State.get_put_other _ _ _ _ (by simp [F.ARB_STAT_DRAINED]) (hf.imp_right .inr)
  · rfl

/-- A drained arbiter is frozen. -/
theorem State.drainCheck_of_unfrozen {a : Nat} (h : s.flag (F.ARB_CTL_FREEZE a) = false) : s.drainCheck a = s :=
  if_neg (by rw [h]; exact Bool.false_ne_true)

/-- A grant shows in ACTIVE only. -/
theorem State.get_setGrant (a : Nat) (g : Option (Nat × Nat)) {f : Fld} (hf : f.off ≠ R.ARB_STAT a ∨ 2 ≤ f.lo) :
    (s.setGrant a g).get f = s.get f :=
  State.get_put_other ({ s with memc := { s.memc with grant := SMap.set (fun _ => none) s.memc.grant a g } }) (F.ARB_STAT_ACTIVE a) f _
    (by simp [F.ARB_STAT_ACTIVE]) (hf.imp_right .inr)

theorem State.grantOf_setGrant_same (a : Nat) (g : Option (Nat × Nat)) : (s.setGrant a g).grantOf a = g := SMap.get_set_same _ _ _ _

theorem State.grantOf_setGrant_other {a b : Nat} (g : Option (Nat × Nat)) (h : b ≠ a) : (s.setGrant a g).grantOf b = s.grantOf b :=
  SMap.get_set_other (fun _ => none) s.memc.grant a b g h

theorem State.grantOf_of_memc {s t : State} (h : t.memc = s.memc) (a : Nat) : t.grantOf a = s.grantOf a := by
  rw [State.grantOf, State.grantOf, h]

/-- The owner granted is shown, and its grants are counted. -/
def State.grantTo (a o : Nat) : State := ((s.put (F.ARB_STAT_OWNER a) o).inc (F.ARB_GRANTS a)).setGrant a (some (0, s.tim.elapsed))

theorem State.arbTake_blocked {a : Nat} (h : s.flag (F.ARB_CTL_FREEZE a) = true ∨ 1024 ≤ (s.memQueue a).length) :
    s.arbTake a = s.drainCheck a := if_pos h

theorem State.arbTake_none {a : Nat} (h : arbWinner 29 (s.get (F.ARB_STAT_OWNER a)) (fun o => s.ownPrio a o) (fun o => s.asks a o) = none) :
    s.arbTake a = s.drainCheck a := by
  unfold State.arbTake
  rw [h]
  exact ite_self _

theorem State.arbTake_some {a w : Nat} (hfree : ¬ (s.flag (F.ARB_CTL_FREEZE a) = true ∨ 1024 ≤ (s.memQueue a).length))
    (h : arbWinner 29 (s.get (F.ARB_STAT_OWNER a)) (fun o => s.ownPrio a o) (fun o => s.asks a o) = some w) :
    s.arbTake a = s.grantTo a w := by
  unfold State.arbTake
  rw [h, if_neg hfree]
  rfl

theorem State.get_grantTo (a o : Nat) {f : Fld} (hg : f.off ≠ R.ARB_GRANTS a) (hf : f.off ≠ R.ARB_STAT a ∨ 16 ≤ f.lo) :
    (s.grantTo a o).get f = s.get f := by
  rw [State.grantTo, State.get_setGrant _ _ _ (hf.imp_right fun h => by omega), State.get_inc_other _ _ _ hg]
  exact State.get_put_other _ _ _ _ (by simp [F.ARB_STAT_OWNER]) (hf.imp_right .inr)

theorem State.owner_grantTo (a : Nat) {o : Nat} (ho : o < 4096) : (s.grantTo a o).get (F.ARB_STAT_OWNER a) = o := by
  rw [State.grantTo, State.get_setGrant _ _ _ (.inr (by simp [F.ARB_STAT_OWNER])),
    State.get_inc_other _ _ _ (by simp only [F.ARB_STAT_OWNER, F.ARB_GRANTS, R.ARB_STAT, R.ARB_GRANTS]; omega),
    State.get_put_same _ _ _ (by simp [F.ARB_STAT_OWNER])]
  exact Nat.mod_eq_of_lt ho

theorem State.grants_grantTo (a o : Nat) : (s.grantTo a o).get (F.ARB_GRANTS a) = (s.get (F.ARB_GRANTS a) + 1) % 2 ^ 32 := by
  have hne : (F.ARB_GRANTS a).off ≠ R.ARB_STAT a := by simp only [F.ARB_GRANTS, R.ARB_STAT, R.ARB_GRANTS]; omega
  rw [State.grantTo, State.get_setGrant _ _ _ (.inl hne), State.get_inc_same _ _ (by simp [F.ARB_GRANTS]), State.get_put_off _ _ _ _ hne]
  rfl

theorem State.grantTo_frame (a o : Nat) : (s.grantTo a o).memc = { s.memc with grant := SMap.set (fun _ => none) s.memc.grant a (some (0, s.tim.elapsed)) } ∧
    (s.grantTo a o).mem = s.mem ∧ (s.grantTo a o).memEpoch = s.memEpoch ∧ (s.grantTo a o).tim = s.tim := ⟨rfl, rfl, rfl, rfl⟩

/-- An arbitration phase changes its own grant, the owner and the count of grants, and DRAINED. -/
theorem State.arbTake_cases (a : Nat) : s.arbTake a = s.drainCheck a ∨ ∃ w, s.arbTake a = s.grantTo a w := by
  by_cases hb : s.flag (F.ARB_CTL_FREEZE a) = true ∨ 1024 ≤ (s.memQueue a).length
  · exact .inl (s.arbTake_blocked hb)
  · cases hw : arbWinner 29 (s.get (F.ARB_STAT_OWNER a)) (fun o => s.ownPrio a o) (fun o => s.asks a o) with
    | none => exact .inl (s.arbTake_none hw)
    | some w => exact .inr ⟨w, s.arbTake_some hb hw⟩

theorem State.get_arbTake (a : Nat) {f : Fld} (hevt : NotEvt f.off) (hg : f.off ≠ R.ARB_GRANTS a) (hf : f.off ≠ R.ARB_STAT a ∨ 16 ≤ f.lo) :
    (s.arbTake a).get f = s.get f := by
  rcases s.arbTake_cases a with h | ⟨w, h⟩
  · rw [h, s.get_drainCheck a hevt (hf.imp_right fun h => by omega)]
  · rw [h, s.get_grantTo a w hg hf]

theorem State.arbTake_frame (a : Nat) : (s.arbTake a).mem = s.mem ∧ (s.arbTake a).memc.waiting = s.memc.waiting ∧
    ∀ b, b ≠ a → (s.arbTake a).grantOf b = s.grantOf b := by
  rcases s.arbTake_cases a with h | ⟨w, h⟩
  · obtain ⟨hmemc, hmem, -, -⟩ := s.drainCheck_frame a
    rw [h]
    exact ⟨hmem, by rw [hmemc], fun b _ => State.grantOf_of_memc hmemc b⟩
  · rw [h]
    exact ⟨rfl, rfl, fun b hb => State.grantOf_setGrant_other _ _ hb⟩
end

/-! ### The cut-off (R313) -/

/-- The marks of an owner cut off. -/
def State.hogged (s : State) (a : Nat) : State :=
  ((s.stick (F.ARB_STAT_HOG a)).inc (F.ARB_HOGS a)).put (F.ARB_LAST_HOG a) (s.get (F.ARB_STAT_OWNER a))

/-- An owner cut off: HOG, HOGS and LAST_HOG, the end of its grant, event 243 and fault 91, and the requests of the next phase. -/
def State.cutOff (s : State) (a requests : Nat) : State :=
  ((((s.hogged a).setGrant a none).raiseU 243).faultU 91).setAsking a requests

section
variable (s : State) (a requests : Nat)

theorem State.stick_frame (f : Fld) : (s.stick f).mem = s.mem ∧ (s.stick f).tim = s.tim ∧ (s.stick f).memc = s.memc := ⟨rfl, rfl, rfl⟩

theorem State.hogged_frame : (s.hogged a).mem = s.mem ∧ (s.hogged a).tim = s.tim ∧ (s.hogged a).memc = s.memc := by
  obtain ⟨hmem, htim, hmemc⟩ := s.stick_frame (F.ARB_STAT_HOG a)
  unfold State.hogged
  rw [State.put_mem, State.inc_mem, State.put_tim, State.inc_tim, State.put_memc, State.inc_memc]
  exact ⟨hmem, htim, hmemc⟩

theorem State.setGrant_frame (g : Option (Nat × Nat)) : (s.setGrant a g).mem = s.mem ∧ (s.setGrant a g).tim = s.tim ∧
    (s.setGrant a g).memc = { s.memc with grant := SMap.set (fun _ => none) s.memc.grant a g } := ⟨rfl, rfl, rfl⟩

theorem State.cutOff_frame : (s.cutOff a requests).mem = s.mem ∧ (s.cutOff a requests).tim = s.tim ∧
    (s.cutOff a requests).memc.grant = SMap.set (fun _ => none) s.memc.grant a none ∧
    (s.cutOff a requests).memc.asking = SMap.set (fun _ => 0) s.memc.asking a requests ∧
    (s.cutOff a requests).memc.waiting = s.memc.waiting ∧ (s.cutOff a requests).memc.queue = s.memc.queue := by
  obtain ⟨hmem, htim, hmemc⟩ := s.hogged_frame a
  obtain ⟨hmem', htim', hmemc'⟩ := (s.hogged a).setGrant_frame a none
  unfold State.cutOff State.setAsking
  dsimp only
  rw [State.faultU_mem, State.raiseU_mem, State.faultU_tim, State.raiseU_tim, State.faultU_memc, State.raiseU_memc, hmem', htim',
    hmemc', hmem, htim, hmemc]
  exact ⟨rfl, rfl, rfl, rfl, rfl, rfl⟩

theorem State.get_setAsking (f : Fld) : (s.setAsking a requests).get f = s.get f := rfl
theorem State.flag_setAsking (f : Fld) : (s.setAsking a requests).flag f = s.flag f := rfl
theorem State.flag_stick_same (f : Fld) (h : f.lo + 1 ≤ 32) (hw : f.width = 1) : (s.stick f).flag f = true := s.flag_putB_same f true h hw
theorem State.get_stick (f g : Fld) : (s.stick f).get g = (s.putB f true).get g := rfl

/-- A field that the marks of a cut-off do not write. -/
theorem State.get_hogged {f : Fld} (hhogs : f.off ≠ R.ARB_HOGS a) (hlast : f.off ≠ R.ARB_LAST_HOG a)
    (hf : f.off ≠ R.ARB_STAT a ∨ f.lo + f.width ≤ 16) : (s.hogged a).get f = s.get f := by
  rw [State.hogged, State.get_put_off _ _ _ _ hlast, State.get_inc_other _ _ _ hhogs, State.get_stick]
  exact State.get_put_other s (F.ARB_STAT_HOG a) f 1 (by simp [F.ARB_STAT_HOG]) (hf.imp_right .inl)

theorem State.hogged_spec (hs : R.ARB_STAT a ≠ R.ARB_HOGS a) (hl : R.ARB_STAT a ≠ R.ARB_LAST_HOG a) (hh : R.ARB_HOGS a ≠ R.ARB_LAST_HOG a) :
    (s.hogged a).flag (F.ARB_STAT_HOG a) = true ∧ (s.hogged a).get (F.ARB_HOGS a) = (s.get (F.ARB_HOGS a) + 1) % 2 ^ 32 ∧
    (s.hogged a).get (F.ARB_LAST_HOG a) = s.get (F.ARB_STAT_OWNER a) := by
  have hlt : s.get (F.ARB_STAT_OWNER a) < 2 ^ 12 := s.get_lt _
  unfold State.hogged
  refine ⟨?_, ?_, ?_⟩
  · rw [State.flag_put_off _ _ _ _ hl, State.flag_inc_other _ _ _ hs]
    exact s.flag_stick_same _ (by simp [F.ARB_STAT_HOG]) rfl
  · rw [State.get_put_off _ _ _ _ hh, State.get_inc_same _ _ (by simp [F.ARB_HOGS]),
      State.get_of_rd (s.rd_stick_other (F.ARB_STAT_HOG a) _ hs.symm)]
    rfl
  · exact (State.get_put_same _ _ _ (by simp [F.ARB_LAST_HOG])).trans (Nat.mod_eq_of_lt hlt)

/-- A field that the cut-off does not write. -/
theorem State.get_cutOff {f : Fld} (hflt : NotFlt f.off) (hf : f.off ≠ R.ARB_STAT a ∨ 2 ≤ f.lo) :
    (s.cutOff a requests).get f = (s.hogged a).get f := by
  rw [State.cutOff, State.get_setAsking, State.get_faultU _ _ (by decide) hflt, State.get_raiseU _ _ (by decide) hflt.notEvt,
    State.get_setGrant _ _ _ hf]

theorem State.cutOff_spec (ha : a < 8) : (s.cutOff a requests).flag (F.ARB_STAT_HOG a) = true ∧
    (s.cutOff a requests).get (F.ARB_HOGS a) = (s.get (F.ARB_HOGS a) + 1) % 2 ^ 32 ∧
    (s.cutOff a requests).get (F.ARB_LAST_HOG a) = s.get (F.ARB_STAT_OWNER a) ∧
    (s.cutOff a requests).get (F.FLT_SRC_COUNT 91) = (s.get (F.FLT_SRC_COUNT 91) + 1) % 2 ^ 32 := by
  have hstat : NotFlt (R.ARB_STAT a) := by simp only [NotFlt, R.ARB_STAT, R.NVM_LOG_DROPPED]; omega
  have hhogs : NotFlt (R.ARB_HOGS a) := by simp only [NotFlt, R.ARB_HOGS, R.NVM_LOG_DROPPED]; omega
  have hlast : NotFlt (R.ARB_LAST_HOG a) := by simp only [NotFlt, R.ARB_LAST_HOG, R.NVM_LOG_DROPPED]; omega
  have hne : R.ARB_STAT a ≠ R.ARB_HOGS a ∧ R.ARB_STAT a ≠ R.ARB_LAST_HOG a ∧ R.ARB_HOGS a ≠ R.ARB_LAST_HOG a := by
    simp only [R.ARB_STAT, R.ARB_HOGS, R.ARB_LAST_HOG]; omega
  obtain ⟨hsh, hsl, hhl⟩ := hne
  obtain ⟨hmark, hcount, howner⟩ := s.hogged_spec a hsh hsl hhl
  refine ⟨?_, (s.get_cutOff a requests hhogs (.inl hsh.symm)).trans hcount, (s.get_cutOff a requests hlast (.inl hsl.symm)).trans howner, ?_⟩
  · rw [State.flag, s.get_cutOff a requests hstat (.inr (by simp [F.ARB_STAT_HOG]))]
    exact hmark
  · have hne (off : Nat) (h : 0x900000 ≤ off) : (F.FLT_SRC_COUNT 91).off ≠ off := by
      simp only [F.FLT_SRC_COUNT, R.FLT_SRC_COUNT]; omega
    have harb : 0x900000 ≤ R.ARB_STAT a ∧ 0x900000 ≤ R.ARB_HOGS a ∧ 0x900000 ≤ R.ARB_LAST_HOG a := by
      simp only [R.ARB_STAT, R.ARB_HOGS, R.ARB_LAST_HOG]; omega
    rw [State.cutOff, State.get_setAsking, State.count_faultU _ _ (by decide), State.get_raiseU _ _ (by decide) (notEvt_count (by decide)),
      State.get_setGrant _ _ _ (.inl (hne _ harb.1)), s.get_hogged a (hne _ harb.2.1) (hne _ harb.2.2) (.inl (hne _ harb.1))]
end

theorem State.arbRun_of_no_waiting {s : State} {a : Nat} (h : s.memWaiting a = []) : s.arbRun a = s := by
  rw [State.arbRun, h]
  rfl

/-- No cut-off: an egress arbiter, no HOLD, or no grant. -/
theorem State.holdCutoff_exempt {s : State} {a requests : Nat} (ha : a < 24)
    (h : 8 ≤ a ∨ s.get (F.ARB_CTL_HOLD a) = 0 ∨ s.grantOf a = none) : s.holdCutoff a requests = s := by
  unfold State.holdCutoff
  split
  · next k t hg =>
    rcases h with h | h | h
    · exact if_pos (.inl ⟨h, ha⟩)
    · exact if_pos (.inr (.inl h))
    · exact nomatch hg.symm.trans h
  · rfl

theorem State.holdCutoff_due {s : State} {a requests k t : Nat} (ha : a < 8) (hhold : s.get (F.ARB_CTL_HOLD a) ≠ 0)
    (hg : s.grantOf a = some (k, t)) (hdue : t + s.get (F.ARB_CTL_HOLD a) * 16 * Config.ns ≤ s.tim.elapsed) :
    s.holdCutoff a requests = (s.cutOff a requests).arbTake a := by
  unfold State.holdCutoff
  rw [hg]
  exact if_neg (by omega)

/-- Settles O23. -/
theorem holdCutoffEndsGrant : Obligations.HoldCutoffEndsGrant := by
  unfold Obligations.HoldCutoffEndsGrant
  intro s dt a req hready ha hwait
  have hcmd (h : ((s.advance dt).holdCutoff a req.toNat).memWaiting a = []) :
      (s.advance dt).cutoffCmd a req.toNat = (s.advance dt).holdCutoff a req.toNat := by
    rw [State.cutoffCmd, if_neg (by omega), State.arbRun_of_no_waiting h]
  refine ⟨fun h => ?_, fun k t ha8 hhold hg hdue => ?_⟩
  · have hsame : (s.advance dt).holdCutoff a req.toNat = s.advance dt := State.holdCutoff_exempt ha h
    exact State.settlesTo_of_run (exec_arbHoldCutoff s dt a req) ((hcmd (hsame.symm ▸ hwait)).trans hsame) hready
  · intro u blocked winner
    have hu : u = ((s.advance dt).cutOff a req.toNat).arbTake a := State.holdCutoff_due ha8 hhold hg hdue
    obtain ⟨hmem, htim, hgrants, hasking, hwaiting, hqueues⟩ := (s.advance dt).cutOff_frame a req.toNat
    obtain ⟨hhog, hhogs, hlast, hcount⟩ := (s.advance dt).cutOff_spec a req.toNat ha8
    obtain ⟨hmem', hwaiting', hgrant'⟩ := ((s.advance dt).cutOff a req.toNat).arbTake_frame a
    have hwait' : u.memWaiting a = [] := by
      rw [hu, State.memWaiting, hwaiting', hwaiting]
      exact hwait
    have hnotFlt {off : Nat} (h : 0x900000 ≤ off) : NotFlt off := by simp only [NotFlt, R.NVM_LOG_DROPPED]; omega
    have hkeep {f : Fld} (h : 0x900000 ≤ f.off) (hh : f.off ≠ R.ARB_HOGS a) (hl : f.off ≠ R.ARB_LAST_HOG a)
        (hf : f.off ≠ R.ARB_STAT a ∨ (2 ≤ f.lo ∧ f.lo + f.width ≤ 16)) : ((s.advance dt).cutOff a req.toNat).get f = s.get f :=
      (State.get_cutOff _ _ _ (hnotFlt h) (hf.imp_right And.left)).trans (State.get_hogged _ _ hh hl (hf.imp_right And.right))
    have hfreeze : ((s.advance dt).cutOff a req.toNat).flag (F.ARB_CTL_FREEZE a) = s.flag (F.ARB_CTL_FREEZE a) := by
      rw [State.flag, State.flag, hkeep (f := F.ARB_CTL_FREEZE a)]
      all_goals simp only [F.ARB_CTL_FREEZE, R.ARB_CTL, R.ARB_HOGS, R.ARB_LAST_HOG, R.ARB_STAT]; omega
    have hqueue : ((s.advance dt).cutOff a req.toNat).memQueue a = s.memQueue a := by
      rw [State.memQueue, hqueues]
      rfl
    have hblocked : (((s.advance dt).cutOff a req.toNat).flag (F.ARB_CTL_FREEZE a) = true ∨
        1024 ≤ (((s.advance dt).cutOff a req.toNat).memQueue a).length) ↔ blocked := by
      rw [hfreeze, hqueue]
    have howner : ((s.advance dt).cutOff a req.toNat).get (F.ARB_STAT_OWNER a) = s.get (F.ARB_STAT_OWNER a) := by
      apply hkeep
      all_goals simp only [F.ARB_STAT_OWNER, R.ARB_HOGS, R.ARB_LAST_HOG, R.ARB_STAT]; omega
    have hprio (o : Nat) : ((s.advance dt).cutOff a req.toNat).ownPrio a o = s.ownPrio a o := by
      have hown (f : Fld) (h : f.off = R.ARB_OWN a o) : ((s.advance dt).cutOff a req.toNat).get f = s.get f := by
        apply hkeep
        all_goals simp only [h, R.ARB_OWN, R.ARB_HOGS, R.ARB_LAST_HOG, R.ARB_STAT]; omega
      rw [State.ownPrio, State.flag, hown _ rfl, hown _ rfl]
      rfl
    have hasks (o : Nat) : ((s.advance dt).cutOff a req.toNat).asks a o = req.toNat.testBit o := by
      have hw : ((s.advance dt).cutOff a req.toNat).memWaiting a = [] := by
        rw [State.memWaiting, hwaiting]
        exact hwait
      rw [State.asks, hw, hasking, SMap.get_set_same, List.any_nil, Bool.or_false]
    have hwinner : arbWinner 29 (((s.advance dt).cutOff a req.toNat).get (F.ARB_STAT_OWNER a))
        (fun o => ((s.advance dt).cutOff a req.toNat).ownPrio a o) (fun o => ((s.advance dt).cutOff a req.toNat).asks a o) = winner := by
      simp only [howner, hprio, hasks]
      rfl
    have hgrant : ((s.advance dt).cutOff a req.toNat).grantOf a = none := by
      rw [State.grantOf, hgrants, SMap.get_set_same]
    refine ⟨State.settlesTo_of_run (exec_arbHoldCutoff s dt a req) (hcmd hwait') hready, ?_⟩
    rw [hu]
    refine ⟨?_, ?_, ?_, ?_, fun hb => ?_, fun w hb hw => ?_, hmem'.trans hmem, fun b hb => (hgrant' b hb).trans ?_⟩
    · rw [State.flag, State.get_arbTake _ _ (hnotFlt ?_).notEvt ?_ (.inr (by simp [F.ARB_STAT_HOG]))]
      · exact hhog
      all_goals simp only [F.ARB_STAT_HOG, R.ARB_STAT, R.ARB_GRANTS]; omega
    · rw [State.get_arbTake _ _ (hnotFlt ?_).notEvt ?_ (.inl ?_)]
      · exact hhogs
      all_goals simp only [F.ARB_HOGS, R.ARB_HOGS, R.ARB_STAT, R.ARB_GRANTS]; omega
    · rw [State.get_arbTake _ _ (hnotFlt ?_).notEvt ?_ (.inl ?_)]
      · exact hlast
      all_goals simp only [F.ARB_LAST_HOG, R.ARB_LAST_HOG, R.ARB_STAT, R.ARB_GRANTS]; omega
    · rw [State.get_arbTake _ _ (notEvt_count (by decide)) ?_ (.inl ?_)]
      · exact hcount
      all_goals simp only [F.FLT_SRC_COUNT, R.FLT_SRC_COUNT, R.ARB_STAT, R.ARB_GRANTS]; omega
    · have hdrain : ((s.advance dt).cutOff a req.toNat).arbTake a = ((s.advance dt).cutOff a req.toNat).drainCheck a := by
        rcases hb with hb | hb
        · exact State.arbTake_blocked _ (hblocked.2 hb)
        · exact State.arbTake_none _ (hwinner.trans hb)
      rw [hdrain, State.grantOf_of_memc (State.drainCheck_frame _ _).1, hgrant]
    · have hlt : w < 29 := by
        obtain ⟨k, -, hk, -⟩ := (arbiterPicksHighestPriority 29 (s.get (F.ARB_STAT_OWNER a)) (fun o => s.ownPrio a o)
          (fun o => req.toNat.testBit o) (by decide)).2 w hw
        rw [hk]
        exact Nat.mod_lt _ (by decide)
      rw [State.arbTake_some _ (mt hblocked.1 hb) (hwinner.trans hw)]
      refine ⟨?_, State.owner_grantTo _ _ (by omega)⟩
      rw [State.grantTo, State.grantOf_setGrant_same, htim]
      rfl
    · rw [State.grantOf, hgrants]
      exact SMap.get_set_other (fun _ => none) s.memc.grant a b none hb

end Sys2Proof.Machine
end

section
/-! PROOF. The way of a DRAM request through its arbiter into the channel queue (R293, R299, R311, R312, R315). -/

namespace Sys2Proof.Machine
open Sys2Proof

/-! ### What the steps of a request leave -/

/-- `t` holds the memory, the queues and the requests of `s`. -/
structure FabricSame (s t : State) : Prop where
  mem : t.mem = s.mem
  epoch : t.memEpoch = s.memEpoch
  queue : t.memc.queue = s.memc.queue
  waiting : t.memc.waiting = s.memc.waiting
  asking : t.memc.asking = s.memc.asking

theorem FabricSame.refl (s : State) : FabricSame s s := ⟨rfl, rfl, rfl, rfl, rfl⟩

theorem FabricSame.trans {s t u : State} (h : FabricSame s t) (k : FabricSame t u) : FabricSame s u :=
  ⟨k.mem.trans h.mem, k.epoch.trans h.epoch, k.queue.trans h.queue, k.waiting.trans h.waiting, k.asking.trans h.asking⟩

section
variable {s t : State}

theorem FabricSame.memQueue (h : FabricSame s t) (k : Nat) : t.memQueue k = s.memQueue k := by rw [State.memQueue, State.memQueue, h.queue]
theorem FabricSame.memWaiting (h : FabricSame s t) (k : Nat) : t.memWaiting k = s.memWaiting k := by
  rw [State.memWaiting, State.memWaiting, h.waiting]
theorem FabricSame.byte (h : FabricSame s t) (a : Nat) : t.byte a = s.byte a := by rw [State.byte, State.byte, h.mem, h.epoch]
theorem FabricSame.bytes (h : FabricSame s t) (n : Nat) : ∀ a : Nat, t.bytes a n = s.bytes a n := by
  induction n with
  | zero => exact fun _ => rfl
  | succ n ih => exact fun a => by rw [State.bytes, State.bytes, h.byte, ih]
end

theorem FabricSame.setGrant (s : State) (ch : Nat) (g : Option (Nat × Nat)) : FabricSame s (s.setGrant ch g) := ⟨rfl, rfl, rfl, rfl, rfl⟩

theorem FabricSame.grantTo (s : State) (ch o : Nat) : FabricSame s (s.grantTo ch o) :=
  FabricSame.trans (t := (s.put (F.ARB_STAT_OWNER ch) o).inc (F.ARB_GRANTS ch)) ⟨rfl, rfl, rfl, rfl, rfl⟩ (FabricSame.setGrant _ _ _)

theorem FabricSame.grantDropped (s : State) (ch : Nat) : FabricSame s (s.grantDropped ch) := by
  unfold State.grantDropped
  split
  · exact FabricSame.setGrant s ch none
  · exact FabricSame.refl s

/-! ### Entering the channel queue (R298, R299) -/

/-- A write completes as it enters. -/
def State.memStore (s : State) (r : MemReq) : State := if r.write then s.setBytes r.addr r.data else s

/-- A request as it stands in the queue: a read has found what has been written. -/
def State.memSeen (s : State) (r : MemReq) : MemReq :=
  { r with at_ := s.tim.elapsed, data := if r.write then r.data else s.bytes (r.addr / 64 * 64) 64 }

/-- The reads in flight that a write meets are marked. -/
def State.memMark (s : State) (ch : Nat) (r : MemReq) : State :=
  if r.write then s.setReads ch ((s.memReads ch).map (fun x => r.meet x)) else s

/-- A read behind a queued write to its bank and row puts the bank in in-order mode. -/
def State.memHold (s : State) (ch : Nat) (r : MemReq) : State :=
  let k := memKey ch r.addr
  let rows := SMap.get (fun _ => []) s.memc.inOrder k
  let hit := !r.write && (s.memQueue ch).any (fun (x : MemReq) => x.write && decide (dramBank x.addr = dramBank r.addr) && decide (dramRow x.addr = dramRow r.addr))
  if hit then
    let s := { s with memc := { s.memc with inOrder := SMap.set (fun _ => []) s.memc.inOrder k (dramRow r.addr :: rows).eraseDups } }
    if rows.isEmpty then s.inc (F.MEM_CH_INORDER ch) else s
  else s

/-- The channel queue with a request at its tail. -/
def MemReq.tail (r : MemReq) (q : List MemReq) : List MemReq := (if r.write then q.map (fun x => r.meet x) else q) ++ [r]

/-- A request enters its queue, before its unit counts towards the grant. -/
def State.memPut (s : State) (ch : Nat) (r : MemReq) : State :=
  let t := s.memStore r
  let r := t.memSeen r
  ((t.memMark ch r).memHold ch r).setMemQueue ch (r.tail ((t.memMark ch r).memQueue ch))

theorem State.memEnter_eq (s : State) (ch : Nat) (r : MemReq) : s.memEnter ch r = (s.memPut ch r).grantUnit ch r.owner := rfl

/-- `t` has the grants of `s`, and its registers from the arbiters up. -/
structure ArbSame (s t : State) : Prop where
  grant : t.memc.grant = s.memc.grant
  tim : t.tim = s.tim
  rd : ∀ off, 0x900000 ≤ off → t.rd off = s.rd off

theorem ArbSame.trans {s t u : State} (h : ArbSame s t) (k : ArbSame t u) : ArbSame s u :=
  ⟨k.grant.trans h.grant, k.tim.trans h.tim, fun off ho => (k.rd off ho).trans (h.rd off ho)⟩

theorem ArbSame.refl (s : State) : ArbSame s s := ⟨rfl, rfl, fun _ _ => rfl⟩

theorem ArbSame.get {s t : State} (h : ArbSame s t) {f : Fld} (hf : 0x900000 ≤ f.off) : t.get f = s.get f := State.get_of_rd (h.rd _ hf)
theorem ArbSame.flag {s t : State} (h : ArbSame s t) {f : Fld} (hf : 0x900000 ≤ f.off) : t.flag f = s.flag f := State.flag_of_rd (h.rd _ hf)
theorem ArbSame.grantOf {s t : State} (h : ArbSame s t) (ch : Nat) : t.grantOf ch = s.grantOf ch := by rw [State.grantOf, State.grantOf, h.grant]

section
variable (s : State) (ch : Nat) (r : MemReq)

theorem State.memStore_frame : ArbSame s (s.memStore r) ∧ (s.memStore r).memc = s.memc ∧ (s.memStore r).memEpoch = s.memEpoch := by
  unfold State.memStore
  split
  · obtain ⟨m, p, w, h⟩ := State.setBytes_eq r.data s r.addr
    rw [h]
    exact ⟨⟨rfl, rfl, fun _ _ => rfl⟩, rfl, rfl⟩
  · exact ⟨ArbSame.refl s, rfl, rfl⟩

theorem State.memMark_frame : ArbSame s (s.memMark ch r) ∧ FabricSame s (s.memMark ch r) := by
  unfold State.memMark
  split
  · exact ⟨⟨rfl, rfl, fun _ _ => rfl⟩, ⟨rfl, rfl, rfl, rfl, rfl⟩⟩
  · exact ⟨ArbSame.refl s, FabricSame.refl s⟩

theorem State.memHold_frame (hch : ch < 8) : ArbSame s (s.memHold ch r) ∧ FabricSame s (s.memHold ch r) := by
  have hne (off : Nat) (h : 0x900000 ≤ off) : off ≠ (F.MEM_CH_INORDER ch).off := by
    simp only [F.MEM_CH_INORDER, R.MEM_CH_INORDER]; omega
  unfold State.memHold
  dsimp only
  split
  · split
    · exact ⟨⟨rfl, rfl, fun off ho => State.rd_inc_other _ _ _ (hne off ho)⟩, ⟨rfl, rfl, rfl, rfl, rfl⟩⟩
    · exact ⟨⟨rfl, rfl, fun _ _ => rfl⟩, ⟨rfl, rfl, rfl, rfl, rfl⟩⟩
  · exact ⟨ArbSame.refl s, FabricSame.refl s⟩

/-- A channel queue is set with the registers of its channel. -/
theorem State.setMemQueue0_frame (q : List MemReq) (hch : ch < 8) : ArbSame s (s.setMemQueue0 ch q) ∧
    (s.setMemQueue0 ch q).memc.queue = SMap.set (fun _ => []) s.memc.queue ch q ∧ (s.setMemQueue0 ch q).memc.waiting = s.memc.waiting ∧
    (s.setMemQueue0 ch q).memc.asking = s.memc.asking ∧ (s.setMemQueue0 ch q).mem = s.mem ∧ (s.setMemQueue0 ch q).memEpoch = s.memEpoch := by
  have hne (off : Nat) (h : 0x900000 ≤ off) : off ≠ R.MEM_CH_STAT ch ∧ off ≠ R.MEM_CH_PANIC_US ch := by
    simp only [R.MEM_CH_STAT, R.MEM_CH_PANIC_US]; omega
  have hrd1 (t : State) (f : Fld) (b : Bool) (hf : f.off = R.MEM_CH_STAT ch) (off : Nat) (h : 0x900000 ≤ off) :
      (t.putB f b).rd off = t.rd off := State.rd_putB_other _ _ _ _ (hf ▸ (hne off h).1)
  have hrd2 (t : State) (f : Fld) (v : Nat) (hf : f.off = R.MEM_CH_STAT ch) (off : Nat) (h : 0x900000 ≤ off) :
      (t.put f v).rd off = t.rd off := State.rd_put_other _ _ _ _ (hf ▸ (hne off h).1)
  unfold State.setMemQueue0
  dsimp only
  split
  · split
    · exact ⟨⟨rfl, rfl, fun off ho => (hrd1 _ (F.MEM_CH_STAT_PANIC ch) _ rfl off ho).trans (hrd2 _ (F.MEM_CH_STAT_QUEUED ch) _ rfl off ho)⟩,
        rfl, rfl, rfl, rfl, rfl⟩
    · exact ⟨⟨rfl, rfl, fun off ho => (hrd1 _ (F.MEM_CH_STAT_PANIC ch) _ rfl off ho).trans (hrd2 _ (F.MEM_CH_STAT_QUEUED ch) _ rfl off ho)⟩,
        rfl, rfl, rfl, rfl, rfl⟩
  · split
    · exact ⟨⟨rfl, rfl, fun off ho => hrd2 _ (F.MEM_CH_STAT_QUEUED ch) _ rfl off ho⟩, rfl, rfl, rfl, rfl, rfl⟩
    · refine ⟨⟨?_, ?_, fun off ho => (State.rd_wr_other _ _ _ _ (hne off ho).2).trans
        ((hrd1 _ (F.MEM_CH_STAT_PANIC ch) _ rfl off ho).trans (hrd2 _ (F.MEM_CH_STAT_QUEUED ch) _ rfl off ho))⟩, ?_, ?_, ?_, ?_, ?_⟩
      · rw [State.wr_memc, State.putB_memc]
        rfl
      · rw [State.wr_tim, State.putB_tim]
        rfl
      · rw [State.wr_memc, State.putB_memc]
        rfl
      · rw [State.wr_memc, State.putB_memc]
        rfl
      · rw [State.wr_memc, State.putB_memc]
        rfl
      · rw [State.wr_mem, State.putB_mem]
        rfl
      · rw [State.wr_memEpoch, State.putB_memEpoch]
        rfl

theorem State.setMemQueue_frame (q : List MemReq) (hch : ch < 8) : ArbSame s (s.setMemQueue ch q) ∧
    (s.setMemQueue ch q).memc.queue = SMap.set (fun _ => []) s.memc.queue ch q ∧ (s.setMemQueue ch q).memc.waiting = s.memc.waiting ∧
    (s.setMemQueue ch q).memc.asking = s.memc.asking ∧ (s.setMemQueue ch q).mem = s.mem ∧ (s.setMemQueue ch q).memEpoch = s.memEpoch := by
  obtain ⟨harb, hqueue, hwaiting, hasking, hmem, hepoch⟩ := s.setMemQueue0_frame ch q hch
  unfold State.setMemQueue
  dsimp only
  rw [State.setCond_memc, State.setCond_mem, State.setCond_memEpoch]
  refine ⟨harb.trans ⟨by rw [State.setCond_memc], State.setCond_tim _ _ _ _, fun off ho => ?_⟩, hqueue, hwaiting, hasking, hmem, hepoch⟩
  exact State.rd_setCond _ _ _ _ _ (by decide) (.inr (by omega))

/-- What a request that enters leaves: its queue with it at the tail, and the memory with its bytes. -/
theorem State.memPut_spec (hch : ch < 8) : ArbSame s (s.memPut ch r) ∧
    (s.memPut ch r).memQueue ch = ((s.memStore r).memSeen r).tail (s.memQueue ch) ∧
    (∀ k, k ≠ ch → (s.memPut ch r).memQueue k = s.memQueue k) ∧ (s.memPut ch r).memc.waiting = s.memc.waiting ∧
    (s.memPut ch r).memc.asking = s.memc.asking ∧ (∀ a, (s.memPut ch r).byte a = (s.memStore r).byte a) := by
  obtain ⟨harb1, hmemc1, hepoch1⟩ := s.memStore_frame r
  obtain ⟨harb2, hfab2⟩ := (s.memStore r).memMark_frame ch ((s.memStore r).memSeen r)
  obtain ⟨harb3, hfab3⟩ := ((s.memStore r).memMark ch ((s.memStore r).memSeen r)).memHold_frame ch ((s.memStore r).memSeen r) hch
  have hfab := hfab2.trans hfab3
  have hqueue : ((s.memStore r).memMark ch ((s.memStore r).memSeen r)).memQueue ch = s.memQueue ch := by
    rw [hfab2.memQueue, State.memQueue, hmemc1]
    rfl
  obtain ⟨harb4, hset, hwaiting, hasking, hmem, hepoch⟩ := (((s.memStore r).memMark ch ((s.memStore r).memSeen r)).memHold ch
    ((s.memStore r).memSeen r)).setMemQueue_frame ch (((s.memStore r).memSeen r).tail (s.memQueue ch)) hch
  unfold State.memPut
  dsimp only
  rw [hqueue]
  refine ⟨harb1.trans (harb2.trans (harb3.trans harb4)), ?_, fun k hk => ?_, ?_, ?_, fun a => ?_⟩
  · rw [State.memQueue, hset, SMap.get_set_same]
  · rw [State.memQueue, hset, SMap.get_set_other _ _ _ _ _ hk, hfab.queue, hmemc1]
    rfl
  · rw [hwaiting, hfab.waiting, hmemc1]
  · rw [hasking, hfab.asking, hmemc1]
  · rw [State.byte, hmem, hepoch, hfab.mem, hfab.epoch]
    rfl

/-- A write puts its bytes in memory, outside the protected ranges; a read none. -/
theorem State.byte_memStore (a : Nat) (hdata : r.write = false → r.data = []) :
    (s.memStore r).byte a = if r.addr ≤ a ∧ a < r.addr + r.data.length ∧ s.protectedAt a = false then r.data.getD (a - r.addr) 0 else s.byte a := by
  unfold State.memStore
  cases hw : r.write with
  | false =>
    rw [if_neg Bool.false_ne_true, hdata hw, if_neg]
    rintro ⟨hlo, hhi, -⟩
    rw [List.length_nil] at hhi
    omega
  | true =>
    rw [if_pos rfl]
    by_cases hin : r.addr ≤ a ∧ a < r.addr + r.data.length
    · obtain ⟨hlo, hhi⟩ := hin
      obtain ⟨k, rfl⟩ := Nat.exists_eq_add_of_le hlo
      rw [State.byte_setBytes_mem r.data s r.addr k (by omega), Nat.add_sub_cancel_left]
      cases s.protectedAt (r.addr + k) with
      | false => rw [if_neg Bool.false_ne_true, if_pos ⟨hlo, hhi, rfl⟩]
      | true => rw [if_pos rfl, if_neg fun h => absurd h.2.2 (by decide)]
    · rw [State.byte_setBytes_other r.data s r.addr a (by omega), if_neg fun h => hin ⟨h.1, h.2.1⟩]
end

/-! ### The arbiter's run (R311, R312) -/

section
variable {s : State} {ch : Nat}

theorem State.arbServe_full (fuel : Nat) (h : 1024 ≤ (s.memQueue ch).length) : s.arbServe ch (fuel + 1) = s.grantDropped ch := if_pos h

theorem State.arbServe_stays (fuel : Nat) (h : (s.memQueue ch).length < 1024) (hg : s.grantOf ch = none)
    (hw : s.flag (F.ARB_CTL_FREEZE ch) = true ∨ s.memWaiting ch = []) : s.arbServe ch (fuel + 1) = s := by
  have hstop : (s.flag (F.ARB_CTL_FREEZE ch) || (s.memWaiting ch).isEmpty) = true := by
    rcases hw with hw | hw <;> rw [hw]
    · rfl
    · exact Bool.or_true _
  rw [State.arbServe, if_neg (Nat.not_le_of_lt h), hg]
  exact if_pos hstop

theorem State.arbServe_takes (fuel : Nat) (h : (s.memQueue ch).length < 1024) (hg : s.grantOf ch = none)
    (hf : s.flag (F.ARB_CTL_FREEZE ch) = false) (hw : s.memWaiting ch ≠ []) : s.arbServe ch (fuel + 1) = (s.arbTake ch).arbServe ch fuel := by
  have hgo : (s.flag (F.ARB_CTL_FREEZE ch) || (s.memWaiting ch).isEmpty) = false := by
    rw [hf, Bool.false_or]
    exact Bool.eq_false_iff.2 fun he => hw (List.isEmpty_iff.1 he)
  rw [State.arbServe, if_neg (Nat.not_le_of_lt h), hg]
  exact if_neg (by rw [hgo]; exact Bool.false_ne_true)

/-- The request of the owner granted enters. -/
theorem State.arbServe_enters (fuel : Nat) (h : (s.memQueue ch).length < 1024) {g : Nat × Nat} (hg : s.grantOf ch = some g) {r : MemReq}
    (hw : s.memWaiting ch = [r]) (ho : r.owner = s.get (F.ARB_STAT_OWNER ch)) :
    s.arbServe ch (fuel + 1) = ((s.setWaiting ch []).memEnter ch r).arbServe ch fuel := by
  have hfind : [r].find? (fun (r : MemReq) => decide (r.owner = s.get (F.ARB_STAT_OWNER ch))) = some r :=
    List.find?_cons_of_pos (p := fun (r : MemReq) => decide (r.owner = s.get (F.ARB_STAT_OWNER ch))) (decide_eq_true ho)
  rw [State.arbServe, if_neg (Nat.not_le_of_lt h), hg, hw]
  dsimp only
  rw [hfind]
  dsimp only
  rw [List.erase_cons_head]

/-- An arbiter without requests ends its grant. -/
theorem State.arbServe_empty (hw : s.memWaiting ch = []) (hask : SMap.get (fun _ => 0) s.memc.asking ch = 0)
    (hf : s.flag (F.ARB_CTL_FREEZE ch) = false) (hch : R.ARB_CTL ch ≠ R.ARB_STAT ch) :
    (s.arbServe ch 1 = s ∧ s.grantOf ch = none) ∨ s.arbServe ch 1 = s.setGrant ch none := by
  have hasks (o : Nat) : s.asks ch o = false := by
    rw [State.asks, hask, hw, Nat.zero_testBit, List.any_nil, Bool.or_false]
  by_cases hfull : 1024 ≤ (s.memQueue ch).length
  · rw [State.arbServe_full 0 hfull, State.grantDropped, hasks]
    cases hg : s.grantOf ch with
    | none => exact .inl ⟨rfl, rfl⟩
    | some g => exact .inr rfl
  · cases hg : s.grantOf ch with
    | none => exact .inl ⟨State.arbServe_stays 0 (by omega) hg (.inr hw), rfl⟩
    | some g =>
      refine .inr ?_
      have hunfrozen : (s.setGrant ch none).flag (F.ARB_CTL_FREEZE ch) = false := by
        rw [State.flag, s.get_setGrant ch none (.inl hch)]
        exact hf
      rw [State.arbServe, if_neg hfull, hg, hw, List.find?_nil]
      dsimp only
      rw [hasks, if_neg Bool.false_ne_true, State.drainCheck_of_unfrozen _ hunfrozen]
      rfl

/-- A unit used leaves no more than a change of the grant. -/
theorem State.grantUnit_cases (o : Nat) (hf : s.flag (F.ARB_CTL_FREEZE ch) = false) (hch : R.ARB_CTL ch ≠ R.ARB_STAT ch) :
    s.grantUnit ch o = s ∨ ∃ g, s.grantUnit ch o = s.setGrant ch g := by
  have hunfrozen : (s.setGrant ch none).flag (F.ARB_CTL_FREEZE ch) = false := by
    rw [State.flag, s.get_setGrant ch none (.inl hch)]
    exact hf
  unfold State.grantUnit
  split
  · split
    · exact .inl rfl
    · split
      · exact .inr ⟨none, State.drainCheck_of_unfrozen _ hunfrozen⟩
      · exact .inr ⟨_, rfl⟩
  · exact .inl rfl

/-- The only owner that asks wins. -/
theorem arbWinner_of_single {last o : Nat} {prio : Nat → Nat} {want : Nat → Bool} (ho : o < 29) (hw : ∀ k, want k = true ↔ k = o) :
    arbWinner 29 last prio want = some o := by
  obtain ⟨hsome, hwins⟩ := arbiterPicksHighestPriority 29 last prio want (by decide)
  obtain ⟨w, h⟩ := Option.isSome_iff_exists.1 (hsome.1 ⟨o, ho, (hw o).2 rfl⟩)
  obtain ⟨_, _, _, hwant, _⟩ := hwins w h
  rw [h, (hw w).1 hwant]
end

end Sys2Proof.Machine
end

section
/-! PROOF. A DRAM request as a whole (R293, R299). -/

namespace Sys2Proof.Machine
open Sys2Proof

theorem dramChannel_lt (a : Nat) : dramChannel a < 8 :=
  Nat.xor_lt_two_pow (n := 3) (Nat.xor_lt_two_pow (bitsOf_lt a 7 3) (bitsOf_lt a 15 3)) (bitsOf_lt a 23 3)

theorem arbCtl_ne_arbStat (ch : Nat) : R.ARB_CTL ch ≠ R.ARB_STAT ch := by simp only [R.ARB_CTL, R.ARB_STAT]; omega

/-- A request as it stands in the queue, from the state in which it comes. -/
def MemReq.seenIn (r : MemReq) (s : State) : MemReq :=
  { r with at_ := s.tim.elapsed, data := if r.write then r.data else s.bytes (r.addr / 64 * 64) 64 }

theorem State.memSeen_memStore (s : State) (r : MemReq) : (s.memStore r).memSeen r = r.seenIn s := by
  unfold State.memSeen MemReq.seenIn
  rw [(s.memStore_frame r).1.tim]
  cases hw : r.write with
  | true => rfl
  | false => rw [State.memStore, hw, if_neg Bool.false_ne_true, if_neg Bool.false_ne_true, if_neg Bool.false_ne_true]

theorem State.bytes_of_byte {s t : State} (h : ∀ a, t.byte a = s.byte a) (n : Nat) : ∀ a : Nat, t.bytes a n = s.bytes a n := by
  induction n with
  | zero => exact fun _ => rfl
  | succ n ih => exact fun a => by rw [State.bytes, State.bytes, h, ih]

theorem MemReq.seenIn_of_bytes {s t : State} (r : MemReq) (htim : t.tim = s.tim) (h : ∀ a, t.bytes a 64 = s.bytes a 64) :
    r.seenIn t = r.seenIn s := by
  rw [MemReq.seenIn, MemReq.seenIn, htim, h]

/-- The memory, the queues and the registers of the arbiter that a grant leaves. -/
theorem State.setGrant_same (s : State) (ch : Nat) (g : Option (Nat × Nat)) : FabricSame s (s.setGrant ch g) ∧
    (s.setGrant ch g).get (F.ARB_GRANTS ch) = s.get (F.ARB_GRANTS ch) ∧
    (s.setGrant ch g).flag (F.ARB_CTL_FREEZE ch) = s.flag (F.ARB_CTL_FREEZE ch) := by
  refine ⟨FabricSame.setGrant s ch g, s.get_setGrant ch g (.inl ?_), ?_⟩
  · simp only [F.ARB_GRANTS, R.ARB_GRANTS, R.ARB_STAT]; omega
  · rw [State.flag, s.get_setGrant ch g (.inl (arbCtl_ne_arbStat ch)), State.flag]

/-- What follows once the only request that waits has entered: its unit, and the end of the grant. -/
theorem State.grantUnit_arbServe (s : State) (ch o : Nat) (hw : s.memWaiting ch = []) (hask : SMap.get (fun _ => 0) s.memc.asking ch = 0)
    (hf : s.flag (F.ARB_CTL_FREEZE ch) = false) :
    FabricSame s ((s.grantUnit ch o).arbServe ch 1) ∧ ((s.grantUnit ch o).arbServe ch 1).grantOf ch = none ∧
    ((s.grantUnit ch o).arbServe ch 1).get (F.ARB_GRANTS ch) = s.get (F.ARB_GRANTS ch) := by
  have hunit : FabricSame s (s.grantUnit ch o) ∧ (s.grantUnit ch o).get (F.ARB_GRANTS ch) = s.get (F.ARB_GRANTS ch) ∧
      (s.grantUnit ch o).flag (F.ARB_CTL_FREEZE ch) = s.flag (F.ARB_CTL_FREEZE ch) := by
    rcases State.grantUnit_cases o hf (arbCtl_ne_arbStat ch) with h | ⟨g, h⟩
    · rw [h]
      exact ⟨FabricSame.refl s, rfl, rfl⟩
    · rw [h]
      exact s.setGrant_same ch g
  obtain ⟨hfab, hgrants, hfreeze⟩ := hunit
  rcases State.arbServe_empty ((hfab.memWaiting ch).trans hw) ((congrArg (SMap.get (fun _ => 0) · ch) hfab.asking).trans hask)
    (hfreeze.trans hf) (arbCtl_ne_arbStat ch) with ⟨hrun, hg⟩ | hrun
  · rw [hrun]
    exact ⟨hfab, hg, hgrants⟩
  · obtain ⟨hfab', hgrants', -⟩ := (s.grantUnit ch o).setGrant_same ch none
    rw [hrun]
    exact ⟨hfab.trans hfab', State.grantOf_setGrant_same _ _ _, hgrants'.trans hgrants⟩

section
variable {s : State} {ch : Nat} {r : MemReq}

theorem State.memWaiting_setWaiting (s : State) (ch : Nat) (q : List MemReq) : (s.setWaiting ch q).memWaiting ch = q :=
  SMap.get_set_same (fun _ => []) s.memc.waiting ch q

/-- The arbiter is granted to the owner of the only request that waits, which now enters. -/
def State.granted (s : State) (ch : Nat) (r : MemReq) : State := ((s.setWaiting ch [r]).grantTo ch r.owner).setWaiting ch []

theorem State.granted_same (s : State) (ch : Nat) (r : MemReq) : (s.granted ch r).mem = s.mem ∧ (s.granted ch r).memEpoch = s.memEpoch ∧
    (s.granted ch r).memc.queue = s.memc.queue ∧ (s.granted ch r).memc.asking = s.memc.asking ∧ (s.granted ch r).tim = s.tim ∧
    (∀ a, (s.granted ch r).protectedAt a = s.protectedAt a) := by
  obtain ⟨hmemc, hmem, hepoch, htim⟩ := (s.setWaiting ch [r]).grantTo_frame ch r.owner
  exact ⟨hmem, hepoch, congrArg (·.queue) hmemc, congrArg (·.asking) hmemc, htim, fun _ => rfl⟩

theorem State.granted_spec (s : State) (ch : Nat) (r : MemReq) : (s.granted ch r).memWaiting ch = [] ∧
    (s.granted ch r).get (F.ARB_GRANTS ch) = (s.get (F.ARB_GRANTS ch) + 1) % 2 ^ 32 ∧
    (s.granted ch r).flag (F.ARB_CTL_FREEZE ch) = s.flag (F.ARB_CTL_FREEZE ch) := by
  refine ⟨State.memWaiting_setWaiting _ _ _, State.grants_grantTo (s.setWaiting ch [r]) ch r.owner, ?_⟩
  have hget := State.get_grantTo (s.setWaiting ch [r]) ch r.owner (f := F.ARB_CTL_FREEZE ch)
    (by simp only [F.ARB_CTL_FREEZE, R.ARB_CTL, R.ARB_GRANTS]; omega) (.inl (arbCtl_ne_arbStat ch))
  exact congrArg (fun v => decide (v = 1)) hget

/-- A request that meets a free arbiter is granted, and enters. -/
theorem State.memAsk_enters (ho : r.owner < 29) (hq : (s.memQueue ch).length < 1024) (hg : s.grantOf ch = none)
    (hf : s.flag (F.ARB_CTL_FREEZE ch) = false) (hw : s.memWaiting ch = []) (hask : SMap.get (fun _ => 0) s.memc.asking ch = 0) :
    s.memAsk ch r = (((s.granted ch r).memPut ch r).grantUnit ch r.owner).arbServe ch 1 := by
  have hwait := s.memWaiting_setWaiting ch [r]
  have hwants (o : Nat) : (s.setWaiting ch [r]).asks ch o = true ↔ o = r.owner := by
    rw [State.asks, hwait, show SMap.get (fun _ => 0) (s.setWaiting ch [r]).memc.asking ch = 0 from hask, Nat.zero_testBit, Bool.false_or,
      List.any_cons, List.any_nil, Bool.or_false, decide_eq_true_eq]
    exact eq_comm
  have htake : (s.setWaiting ch [r]).arbTake ch = (s.setWaiting ch [r]).grantTo ch r.owner := by
    refine State.arbTake_some _ ?_ (arbWinner_of_single ho hwants)
    rintro (h | h)
    · exact absurd (h.symm.trans hf) (by decide)
    · exact absurd h (Nat.not_le_of_lt hq)
  have hrun : s.memAsk ch r = (s.setWaiting ch [r]).arbServe ch (2 + 1) := by
    rw [State.memAsk, hw, List.nil_append, State.arbRun, hwait]
    rfl
  have hfab := FabricSame.grantTo (s.setWaiting ch [r]) ch r.owner
  rw [hrun, State.arbServe_takes (s := s.setWaiting ch [r]) 2 hq hg hf (by rw [hwait]; exact List.cons_ne_nil _ _), htake,
    State.arbServe_enters (s := (s.setWaiting ch [r]).grantTo ch r.owner) 1 (by rw [hfab.memQueue]; exact hq) (State.grantOf_setGrant_same _ _ _) ((hfab.memWaiting ch).trans hwait)
      (State.owner_grantTo _ _ (by omega)).symm]
  rfl

/-- What a request that meets a free arbiter leaves. -/
theorem State.memAsk_spec (hch : ch < 8) (ho : r.owner < 29) (hq : (s.memQueue ch).length < 1024) (hg : s.grantOf ch = none)
    (hf : s.flag (F.ARB_CTL_FREEZE ch) = false) (hw : s.memWaiting ch = []) (hask : SMap.get (fun _ => 0) s.memc.asking ch = 0)
    (hdata : r.write = false → r.data = []) :
    (∀ a, (s.memAsk ch r).byte a =
      if r.addr ≤ a ∧ a < r.addr + r.data.length ∧ s.protectedAt a = false then r.data.getD (a - r.addr) 0 else s.byte a) ∧
    (s.memAsk ch r).memQueue ch = (r.seenIn s).tail (s.memQueue ch) ∧ (s.memAsk ch r).memWaiting ch = [] ∧
    (s.memAsk ch r).grantOf ch = none ∧ (s.memAsk ch r).get (F.ARB_GRANTS ch) = (s.get (F.ARB_GRANTS ch) + 1) % 2 ^ 32 ∧
    (∀ k, k ≠ ch → (s.memAsk ch r).memQueue k = s.memQueue k) := by
  obtain ⟨hmem, hepoch, hqueue0, hasking0, htim, hprot⟩ := s.granted_same ch r
  obtain ⟨hwait, hgrants, hfreeze⟩ := s.granted_spec ch r
  have hbyte0 (a : Nat) : (s.granted ch r).byte a = s.byte a := by rw [State.byte, State.byte, hmem, hepoch]
  have hmemQueue (k : Nat) : (s.granted ch r).memQueue k = s.memQueue k := by rw [State.memQueue, State.memQueue, hqueue0]
  obtain ⟨harb, hqueue, hothers, hwaiting, hasking, hbyte⟩ := (s.granted ch r).memPut_spec ch r hch
  have harbs : 0x900000 ≤ R.ARB_CTL ch ∧ 0x900000 ≤ R.ARB_GRANTS ch := by simp only [R.ARB_CTL, R.ARB_GRANTS]; omega
  obtain ⟨hfab, hg', hgrants'⟩ := State.grantUnit_arbServe ((s.granted ch r).memPut ch r) ch r.owner
    (by rw [State.memWaiting, hwaiting]; exact hwait) (by rw [hasking, hasking0]; exact hask)
    ((harb.flag harbs.1).trans (hfreeze.trans hf))
  rw [State.memAsk_enters ho hq hg hf hw hask]
  refine ⟨fun a => ?_, ?_, ?_, hg', ?_, fun k hk => ?_⟩
  · rw [hfab.byte, hbyte, State.byte_memStore _ _ _ hdata, hprot, hbyte0]
  · rw [hfab.memQueue, hqueue, State.memSeen_memStore, r.seenIn_of_bytes htim (State.bytes_of_byte hbyte0 64), hmemQueue]
  · rw [hfab.memWaiting, State.memWaiting, hwaiting]
    exact hwait
  · rw [hgrants', harb.get harbs.2, hgrants]
  · rw [hfab.memQueue, hothers k hk, hmemQueue]

/-- A request at an arbiter that gives no grant waits. -/
theorem State.memAsk_waits (h : 1024 ≤ (s.memQueue ch).length ∨ (s.grantOf ch = none ∧ s.flag (F.ARB_CTL_FREEZE ch) = true)) :
    FabricSame (s.setWaiting ch (s.memWaiting ch ++ [r])) (s.memAsk ch r) := by
  have hfuel : 3 * ((s.setWaiting ch (s.memWaiting ch ++ [r])).memWaiting ch).length = (3 * (s.memWaiting ch).length + 2) + 1 := by
    rw [State.memWaiting_setWaiting, List.length_append, List.length_singleton]
    omega
  rw [State.memAsk, State.arbRun, hfuel]
  by_cases hfull : 1024 ≤ (s.memQueue ch).length
  · rw [State.arbServe_full (s := s.setWaiting ch (s.memWaiting ch ++ [r])) _ hfull]
    exact FabricSame.grantDropped _ _
  · obtain ⟨hg, hf⟩ := h.resolve_left hfull
    rw [State.arbServe_stays (s := s.setWaiting ch (s.memWaiting ch ++ [r])) _ (Nat.lt_of_not_le hfull) hg (.inl hf)]
    exact FabricSame.refl _
end

/-- Settles O20. -/
theorem dramRequestEntersQueue : Obligations.DramRequestEntersQueue := by
  unfold Obligations.DramRequestEntersQueue
  intro s dt owner addr data hready hdram ch bs r
  have hask : (s.advance dt).dramRequest owner addr data = (s.advance dt).memAsk ch r :=
    if_neg (by rw [show (s.advance dt).inDram addr 1 = s.inDram addr 1 from rfl, hdram]; decide)
  refine ⟨fun hq hg hf hw hasking => ?_, fun h => ?_⟩
  · intro u
    have hdata : r.write = false → r.data = [] := fun hw => by
      have hnone : data = none := Option.isSome_eq_false_iff.1 hw |> Option.isNone_iff_eq_none.1
      show (data.getD []).take _ = []
      rw [hnone]
      exact List.take_nil
    obtain ⟨hbyte, hqueue, hwait, hgrant, hgrants, hothers⟩ :=
      State.memAsk_spec (s := s.advance dt) (ch := ch) (r := r) (dramChannel_lt addr) owner.isLt hq hg hf hw hasking hdata
    refine ⟨State.settlesTo_of_run (exec_dramRequest s dt owner addr data) rfl hready, ?_⟩
    rw [show u = _ from hask]
    refine ⟨hbyte, hqueue.trans ?_, hwait, hgrant, hgrants, hothers⟩
    rfl
  · intro u
    have hfab := State.memAsk_waits (s := s.advance dt) (ch := ch) (r := r) h
    refine ⟨State.settlesTo_of_run (exec_dramRequest s dt owner addr data) rfl hready, ?_⟩
    rw [show u = _ from hask]
    exact ⟨hfab.mem, (hfab.memWaiting ch).trans (State.memWaiting_setWaiting _ _ _), fun k => hfab.memQueue k⟩

end Sys2Proof.Machine
end

section
/-! PROOF. Writes of the handshake flags (R409) and of TIM_CMD.SNAP (R224). -/

namespace Sys2Proof.Machine
open Sys2Proof

/-! ### The handshake flags (R409, R13) -/

/-- Flag 0 is set, and its bit of ALM_HS_CLR is one that hardware has set in this instant. -/
def flagStuck : State :=
  { State.reset with alm := { State.reset.alm with flags := 1 }, flt := { State.reset.flt with setNow := [(R.ALM_HS_CLR, 0)] } }

/-- Refutes O28: the flags of ALM_HS_CLR are W1C, and by R13 a W1C bit that hardware has set in the same instant stays. -/
theorem not_handshakeFlagWrites : ¬ Obligations.HandshakeFlagWrites := by
  unfold Obligations.HandshakeFlagWrites
  intro h
  have hready : flagStuck.ready railCore := by unfold State.ready; decide +kernel
  have hstays : ((flagStuck.advance 0).writeReg R.ALM_HS_CLR 0xFFFFFFFF (1 : Word).toNat).alm.flags.getLsbD 0 = true := by decide +kernel
  have hcleared := (h flagStuck 0 1 hready).2.2.1 0 (by decide)
  exact absurd (hstays.symm.trans hcleared) (by decide +kernel)

/-! ### The write of TIM_CMD.SNAP (R224) -/

/-- TIM_CMD: the write-one-to-set bits SNAP and SET. -/
def timCmdReg : RegDef := ⟨"TIM_CMD", 0x080008, [], [⟨0, 1, .w1s, 0⟩, ⟨1, 1, .w1s, 0⟩]⟩

theorem regFind_timCmd : regFind R.TIM_CMD = some timCmdReg := by rfl

/-- No waiting write is dropped by one that writes no RW bit. -/
theorem State.dropDue_zero (s : State) (off : Nat) : s.dropDue off 0 = s := by simp [State.dropDue]

theorem State.rangeRefused_timCmd (s : State) (v : Nat) : s.rangeRefused R.TIM_CMD v = [] := by
  unfold State.rangeRefused
  rw [if_neg (by decide), if_neg (by decide), if_neg (by decide), if_neg (by decide), if_neg (by decide), if_neg (by decide),
    if_neg (by decide), if_neg (by decide), if_neg (by decide), if_neg (by decide), if_neg (by decide), if_neg (by decide),
    if_neg (by decide)]

theorem State.sysRegWrite_timCmd (s : State) (v w1 : Nat) : s.sysRegWrite R.TIM_CMD v w1 = none := by
  unfold State.sysRegWrite
  rw [if_neg (by decide), if_neg (by decide), if_neg (by decide), if_neg (by decide), if_neg (by decide), if_neg (by decide),
    if_neg (by decide), if_neg (by decide), regIdx_eq_none (by decide) (by decide)]

theorem State.timRegWrite_snap (s : State) (v : Nat) : s.timRegWrite R.TIM_CMD v 1 = some s.timSnap := if_pos rfl

/-- A word written to TIM_CMD has no RW field to take; its bit SNAP is set at once. -/
theorem State.fieldWrite_snap (s : State) : s.fieldWrite timCmdReg R.TIM_CMD 1 1 = (0, s.timSnap) := by
  have hrw : timCmdReg.bitsOf [.rw, .wo] = 0 := by decide
  have hw1c : timCmdReg.bitsOf [.w1c] = 0 := by decide
  have hw1s : timCmdReg.bitsOf [.w1s] = 3 := by decide
  unfold State.fieldWrite
  dsimp only
  rw [s.rangeRefused_timCmd, hrw, hw1c, hw1s]
  simp only [Nat.and_zero, zero_clearBits, Nat.zero_or]
  rw [if_neg (by decide), s.sysRegWrite_timCmd]
  dsimp only
  rw [if_neg (by decide)]
  exact congrArg (Prod.mk 0) (congrArg (fun o : Option State => ((o.orElse _).orElse _).getD _) (s.timRegWrite_snap _))

theorem State.setField_snap (s : State) : s.setField F.TIM_CMD_SNAP 1 = s.timSnap := by
  have hwrite : s.regWrite R.TIM_CMD 1 1 = (0, s.timSnap) := by
    unfold State.regWrite
    rw [windowAt_almSeq (by decide)]
    dsimp only
    rw [regFind_timCmd]
    dsimp only
    rw [s.portAbsentReg_almSeq (by decide), if_neg Bool.false_ne_true, if_neg (fun h => absurd h.2.1 (by decide)),
      show 1 &&& timCmdReg.bitsOf [.rw] = 0 by decide, s.dropDue_zero, s.fieldWrite_snap]
  exact congrArg Prod.snd hwrite

/-! ### The snapshot of device time -/

/-- The four fields of a time value make it again, up to the wrap of its 48 bits of seconds (R7). -/
theorem mkTime_fields (t : Nat) : mkTime (timeS t) (timeNs t) (timeSub t) = t % (2 ^ 48 * Config.sec) := by
  unfold mkTime timeS timeNs timeSub Config.sec Config.ns
  omega

theorem timeS_lt (t : Nat) : timeS t < 2 ^ 48 := Nat.mod_lt _ (by decide)

theorem timeNs_lt (t : Nat) : timeNs t < 2 ^ 32 := by
  unfold timeNs Config.sec Config.ns
  omega

theorem timeSub_lt (t : Nat) : timeSub t < 2 ^ 32 := by
  unfold timeSub Config.ns
  omega

section
variable (s : State)

theorem State.rd_timSnap_s_hi : s.timSnap.rd R.TIM_SNAP_S_HI = timeS s.tim.now / 2 ^ 32 := by
  have hlt := timeS_lt s.tim.now
  rw [State.timSnap, State.rd_wr_other _ _ _ _ (by decide), State.rd_wr_other _ _ _ _ (by decide),
    State.rd_wr_other _ _ _ _ (by decide), State.rd_wr_same, Nat.mod_eq_of_lt (by omega)]

theorem State.rd_timSnap_s_lo : s.timSnap.rd R.TIM_SNAP_S_LO = timeS s.tim.now % 2 ^ 32 := by
  rw [State.timSnap, State.rd_wr_other _ _ _ _ (by decide), State.rd_wr_other _ _ _ _ (by decide), State.rd_wr_same, Nat.mod_mod]

theorem State.rd_timSnap_ns : s.timSnap.rd R.TIM_SNAP_NS = timeNs s.tim.now := by
  rw [State.timSnap, State.rd_wr_other _ _ _ _ (by decide), State.rd_wr_same, Nat.mod_eq_of_lt (timeNs_lt _)]

theorem State.rd_timSnap_subns : s.timSnap.rd R.TIM_SNAP_SUBNS = timeSub s.tim.now := by
  rw [State.timSnap, State.rd_wr_same, Nat.mod_eq_of_lt (timeSub_lt _)]

theorem State.rd_timSnap_other {off : Nat} (hhi : off ≠ R.TIM_SNAP_S_HI) (hlo : off ≠ R.TIM_SNAP_S_LO) (hns : off ≠ R.TIM_SNAP_NS)
    (hsub : off ≠ R.TIM_SNAP_SUBNS) : s.timSnap.rd off = s.rd off := by
  rw [State.timSnap, State.rd_wr_other _ _ _ _ hsub, State.rd_wr_other _ _ _ _ hns, State.rd_wr_other _ _ _ _ hlo,
    State.rd_wr_other _ _ _ _ hhi]

/-- The four registers of the snapshot hold device time as one value. -/
theorem State.mkTime_timSnap :
    mkTime (s.timSnap.rd R.TIM_SNAP_S_HI * 2 ^ 32 + s.timSnap.rd R.TIM_SNAP_S_LO) (s.timSnap.rd R.TIM_SNAP_NS)
      (s.timSnap.rd R.TIM_SNAP_SUBNS) = s.tim.now % (2 ^ 48 * Config.sec) := by
  rw [s.rd_timSnap_s_hi, s.rd_timSnap_s_lo, s.rd_timSnap_ns, s.rd_timSnap_subns, Nat.mul_comm, Nat.div_add_mod, mkTime_fields]

end

/-- Settles O12: the write of SNAP is the four register writes of `State.timSnap`. -/
theorem snapshotCopiesTime : Obligations.SnapshotCopiesTime := by
  unfold Obligations.SnapshotCopiesTime
  intro s dt hready
  dsimp only
  rw [State.setField_snap]
  exact ⟨State.settlesTo_of_run (exec_timSnap s dt) (State.setField_snap _) hready, State.mkTime_timSnap _,
    fun _ hhi hlo hns hsub => State.rd_timSnap_other _ hhi hlo hns hsub, rfl, rfl, rfl⟩

end Sys2Proof.Machine
end
